-- ==== Sys2Proof/Word.lean ====
section
/-! DEFINITION. Words of the AE7D: the types everything else is written in (bytes, 32-bit register words, the two
dies, sparse tables), and nothing more. -/

namespace Sys2Proof

/-- One byte (R14: multi-byte values are little-endian in registers, SRAM, DRAM, image, Inkwell, Twill). -/
abbrev Byte := BitVec 8

/-- A register or vector lane: 32 bits (R15). -/
abbrev Word := BitVec 32

/-- A sparse table by number: pairs with strictly rising keys; a key that is not listed holds the table's default. -/
abbrev Tbl (V : Type) := List (Nat × V)

/-- The two dies of the module (R22). -/
inductive Die where
  | a | b
deriving DecidableEq, Repr, Inhabited

/-- 0 for die A, 1 for die B. -/
def Die.num (d : Die) : Nat := match d with | .a => 0 | .b => 1

/-- The other die. -/
def Die.other (d : Die) : Die := match d with | .a => .b | .b => .a

/-- The value of a floating-point or fixed-point quantity before it is rounded: not a number, an infinity, or the
exact dyadic `m * 2^e` (R67, R73, R79). -/
inductive Num where
  | nan
  | inf (neg : Bool)
  | fin (m : Int) (e : Int)
deriving DecidableEq, Repr, Inhabited

end Sys2Proof
end

