-- ==== Sys2Proof/Machine/Records.lean ====
section
/-! DEFINITION. Configuration records (spec/17 R418, R419): what the image's records state, as parsed content, by the unit that holds it (DESIGN CHOICE, log entry 5). -/

namespace Sys2Proof.Machine

/-- A position of a Memory Timetable section that carries a burst (R183, R184): frame, channel, position; STATIC: a write or a read of `line`
with tile `vtile`, `last` for the second of its two bursts; BOUND: the next burst of stream `stream` of tile `vtile`. -/
structure TEntry where
  frame  : Nat
  ch     : Nat
  pos    : Nat
  bound  : Bool
  write  : Bool
  line   : Nat
  last   : Bool
  vtile  : Nat
  stream : Nat
deriving DecidableEq, Repr, Inhabited

/-- A section of the Memory Timetable (R184): its owner (context code, for context 0 also the program set; 19 the Quill; 20 the Image Pipeline), the SHA-384
hash of the timing set it was compiled against (R178), its period, its entries. Every position of the Quill's section is a QUILL position (R183). -/
structure Section where
  owner   : Nat
  set     : Nat
  hash    : List Byte
  period  : Nat
  entries : List TEntry
deriving DecidableEq, Repr, Inhabited

/-- A DRAM region (R194), in parity groups; `copy2` for the kinds 0 to 2. -/
structure Region where
  kind   : Nat
  base   : Nat
  len    : Nat
  copy2  : Nat
  recipe : Nat
deriving DecidableEq, Repr, Inhabited

/-- The four SRAM regions whose place a program states (R94): base and size in KiB. SYNC is fixed. -/
structure Regions where
  prog : Nat × Nat
  wgt  : Nat × Nat
  act  : Nat × Nat
  pst  : Nat × Nat
deriving DecidableEq, Repr, Inhabited

/-- A sync record of a context (R216, R222, R223): the program set where the context is INSP_CUR, virtual tile and word, full or empty at load with its value,
STEP_CLEAR, and the depth of a counter pair (0: none). -/
structure SyncRec where
  ctx   : Nat
  set   : Nat
  vtile : Nat
  word  : Nat
  full  : Bool
  value : Nat
  stepClear : Bool
  depth : Nat
deriving DecidableEq, Repr, Inhabited

/-- The program of a tile of a context (R94, R98, R234): context, the program set (2 × recipe, + 1 for the regrouped set, R166) where the context
is INSP_CUR, the tile (a
virtual tile in P1, a position within the context's groups elsewhere), its regions and step-locked flag, and the DRAM byte
address at which its PROG and then its WGT bytes stand. -/
structure Prog where
  ctx     : Nat
  set     : Nat
  tile    : Nat
  regions : Regions
  locked  : Bool
  src     : Nat
deriving DecidableEq, Repr, Inhabited

/-- What the toolchain states for an ordered pair of recipes (R238): DRAIN_STEPS, T_r and WARM. -/
structure RecipePair where
  old   : Nat
  new   : Nat
  drain : Nat
  tr    : Nat
  warm  : Nat
deriving DecidableEq, Repr, Inhabited

/-- The configuration of an Inspection Lane (R127), with what the stripe record adds (R172), and its Action Table (R317). -/
structure LaneCfg where
  mode    : Nat
  encoder : Nat
  ports   : Nat
  recipe  : Nat
  x0      : Nat
  x1      : Nat
  presCh  : Nat
  presThr : Nat
  closeGap : Nat
  segLen  : Nat
  segOrigin : Int
  corruptMax : Nat
  poolBase : Nat
  poolCount : Nat
  stripLines : Nat
  stripMargin : Nat
  stripWidth : Nat
  cropMargin : Nat
  ttaViews : Nat
  ttaOps : Nat
  ttaJitter : Nat
  asmLatency : Nat
  fireBits : Nat
  rejectMask : Nat
  striped : Bool
  left : Option Nat
  right : Option Nat
  haloL : Nat
  haloR : Nat
  sendL : Nat
  sendR : Nat
  haloReach : Nat
  usesInputs : Bool
  stripeHold : Nat
deriving DecidableEq, Repr, Inhabited

/-- A Stem layer descriptor (R160). -/
structure StemLayer where
  recipe : Nat
  bytes  : List Byte
deriving DecidableEq, Repr, Inhabited

/-- What the image states of a camera (R247, R248): the model value, the settings in order, the start write, and the write
allow-list. -/
structure CamCfg where
  model  : Nat
  sets   : List (Nat × Nat)
  start  : Nat × Nat
  allow  : List Nat
deriving DecidableEq, Repr, Inhabited

/-- What the image states of a port's lines (R266 to R272, R278, R280): the 16 channel codes, SENSOR_LINES, CPER, the four LD_s;
black levels by 4 × sensor line + phase; defects as (column, sensor line); flat line by 4 × column + sensor line; the colour
matrix and offsets; a LUT for each output channel; the statistics word and the DRAM place of the record ring; the exposure record. -/
structure PortImg where
  code    : List Nat
  sens    : Nat
  cper    : Nat
  ld      : List Nat
  black   : Tbl Nat
  defects : List (Nat × Nat)
  gain    : Tbl Nat
  offs    : Tbl Int
  ccm     : List Int
  ccmO    : List Int
  luts    : Tbl (List Nat)
  statVt  : Nat
  statWord : Nat
  statAt  : Nat
  expoCtx : Nat
  expoAddr : List Nat
  estInit : Nat
deriving DecidableEq, Repr, Inhabited

/-- The outputs of a registration group (R263, R274 to R276): FRAME_LINES; the machine-vision list (port, output channel, format, FSCALE);
the display output (port, DX, DY) with the place of its view buffers; the coding output (port, buffers) with the place of its ring and
the module its pictures go to; the buffer in use, pictures begun, and lines written to each. -/
structure GroupOut where
  frameLines : Nat
  mv      : List (Nat × Nat × Nat × Int)
  disp    : Option (Nat × Nat × Nat)
  dispAt  : Nat
  coding  : Option (Nat × Nat)
  codeAt  : Nat
  bulkTo  : Option Nat
  dispLines : Nat
  lastView  : Option Nat
  even    : List (List Nat)
  missed  : Nat
deriving DecidableEq, Repr, Inhabited

/-- An actuation rule (R312). -/
structure Rule where
  lane   : Nat
  remote : Bool
  target : Nat
  action : Nat
  width  : Nat
  anchor : Nat
  offset : Nat
  col0   : Nat
  col1   : Nat
  lead   : Nat
  margin : Nat
deriving DecidableEq, Repr, Inhabited

/-- A remote target (R322). -/
structure Remote where
  dest   : Nat
  bank   : Nat
  valve  : Nat
  advance : Nat
  lateFire : Bool
deriving DecidableEq, Repr, Inhabited

/-- The tolerances of a sensor (R338), FP32 codes, with its lane. -/
structure SensorCfg where
  abs : Nat
  rel : Nat
  lane : Nat
deriving DecidableEq, Repr, Inhabited

/-- A destination (R366). -/
structure Dest where
  ip   : Nat
  mac  : Nat
  udp  : Nat
  vid  : Nat
  dscp : Nat
deriving DecidableEq, Repr, Inhabited

/-- The settings of a Twill transmitter and receiver at one rate (R391): TX FFE taps PRE, MAIN and POST, and the RX CTLE code. -/
structure EqSet where
  pre  : Int
  main : Nat
  post : Int
  ctle : Nat
deriving DecidableEq, Repr, Inhabited

/-- A port's record (R390): LINK_TIMEOUT in ms, highest and lowest rate, equalisation entry, PEER_ADDR. -/
structure TPortCfg where
  timeout : Nat
  maxRate : Nat
  minRate : Nat
  eqId    : Nat
  peer    : Nat
deriving DecidableEq, Repr, Inhabited

/-- An auxiliary context record (R228, R407): GROUPS, SAVE_BYTES, LOAD_BYTES, AUTO_RESTART, REMAP, hosts, and, for a standby reservation, the source
address, die and context code. -/
structure AuxRec where
  groups  : Nat
  save    : Nat
  load    : Nat
  restart : Bool
  remap   : Nat
  hosts   : List Nat
  standby : Option (Nat × Nat × Nat)
deriving DecidableEq, Repr, Inhabited

/-- One thing that a record states. `reg`: the value of configuration fields that a register shows, by its place; `mode`: Paired mode, and whether the link
policy lets a failed link pass (R24, R32); inspection objects by program set, 2 × recipe (+ 1: regrouped); `rule`: rule `k`; `data`: bytes of a DRAM region, by DRAM address;
`figs`: `chk_allow` and REG_WARM by 32 × recipe + lane; `saveArea`: the record in the CTX_SAVE region that matches context record `n` (R228); `recipeGroups`,
`recipeLane`: what the toolchain states of a resident recipe: the INSP_GROUPS it is compiled for (R225), and the compiled fields (T) of a lane (R127), STRIP_LINES, STRIP_MARGIN, STRIP_WIDTH and
ASM_LATENCY; `speedGrade`, `timing`: the speed-grade entry, and one timing value that an Expert record overrides (R178); `eqEntry`, `eqPort`: an entry of the board equalisation table, by rate, and
the settings of one port at one rate (R391); `ring`: the Drift Adapter's input ring (R154): its DRAM address, its places, the length of a vector; `known`: the known-answer
record: its machine-vision lines and their expected digest (R168). -/
inductive RecItem where
  | reg (off v : Nat)
  | mode (paired linkPass : Bool)
  | lane (n : Nat) (c : LaneCfg)
  | camera (p : Nat) (c : CamCfg)
  | image (p : Nat) (c : PortImg)
  | outputs (g : Nat) (c : GroupOut)
  | layer (c : StemLayer)
  | stemData (recipe addr len : Nat)
  | seed (v : Nat)
  | stt (set seg v : Nat)
  | barrier (set index : Nat) (stepRel : Bool) (masks : List Nat)
  | sync (c : SyncRec)
  | region (c : Region)
  | section_ (c : Section)
  | data (addr : Nat) (bs : List Byte)
  | tolerance (recipe sensor : Nat) (c : SensorCfg)
  | classMap (recipe : Nat) (l : List Nat)
  | rule (k : Nat) (c : Rule)
  | remote (k : Nat) (c : Remote)
  | inputTile (recipe vtile : Nat)
  | dest (k : Nat) (c : Dest)
  | address (mac ip : Nat)
  | ptp (timeout : Nat) (peer : Bool) (every : Nat)
  | twlPort (p : Nat) (c : TPortCfg)
  | group (members margin : Nat) (signDest : Option Nat)
  | aux (n : Nat) (c : AuxRec)
  | saveArea (n addr len : Nat)
  | resident (recipe : Nat)
  | pair (c : RecipePair)
  | figs (recipe lane chkAllow regWarm : Nat)
  | regGroups (recipe n : Nat)
  | program (c : Prog)
  | lineSlots (set : Nat) (l : List (Nat × Nat))
  | drift (vtile word src len dst : Nat)
  | recipeGroups (recipe insp : Nat)
  | recipeLane (recipe lane stripLines stripMargin stripWidth asmLatency : Nat)
  | speedGrade (entry : Nat)
  | timing (index v : Nat)
  | eqEntry (id : Nat) (l : List EqSet)
  | eqPort (p rate : Nat) (c : EqSet)
  | ring (addr places len : Nat)
  | known (lines : List (List Byte)) (digest : Nat)
deriving DecidableEq, Repr, Inhabited

/-- A record (R417, R418): TYPE, MAY_SKIP, the index it configures, whether its bytes have the hash of its directory entry, whether its layout, reserved
fields and codes hold (R19), and its content. (DESIGN CHOICE, log entry 5.) -/
structure Rec where
  ty     : Nat
  skip   : Bool
  index  : Nat
  hashOk : Bool
  sound  : Bool
  items  : List RecItem
deriving DecidableEq, Repr, Inhabited

/-- What the boot ROM of a die finds (R411, R412): its own CRC, the OTP, the store's blocks readable; BOARD_ID, as the straps give it. -/
structure BootIn where
  romOk  : Bool
  otpOk  : Bool
  nandOk : Bool
  board  : Nat
deriving DecidableEq, Repr, Inhabited

/-- The outcome of SELF_TEST on a die (R357): the tile groups and Stem lane groups that failed, the CRC-64 digests over trunk outputs and head results that the
known-answer lines gave in regrouped and in Stem mode (R168), and the SAFE causes of the other tests that failed, in the order of failure. -/
structure SelfIn where
  tiles   : List Nat
  stem    : List Nat
  kaRegrouped : Nat
  kaStem  : Nat
  causes  : List Nat
deriving DecidableEq, Repr, Inhabited

end Sys2Proof.Machine
end

