-- ==== Sys2Proof/Syntax.lean ====
section
/-! DEFINITION. The commands of the AE7D: what reaches the two dies of a module from outside, from their own clocks,
and from their programs, one constructor for each row of opcode_table.json. What the spec does not compute is an operand of the command that reports it
(DESIGN CHOICE, log entry 6); an image's records are operands as parsed content (DESIGN CHOICE, log entry 5). -/

namespace Sys2Proof

open Machine

/-- Which bundle a slot operation is issued in (R95 to R97): the die, the physical tile, the cycle-in-step of the issue
and the bundle's header. Slot operations of one tile with one cycle are the slots of one bundle. -/
structure Issue where
  die  : Die
  tile : Fin 272
  cyc  : Fin 20000
  hdr  : BitVec 8
deriving DecidableEq, Repr, Inhabited

/-- How the re-read of a word that failed its parity or location tag goes (R48, R50): it passes; or it fails again, and the second copy, or the reload from DRAM,
passes; or both copies fail (the channel of the primary); or the word held data of parts (lane, number) and of samples (sensor, number); or it was a sync word (physical tile,
word); or it held Checker activations of parts. (DESIGN CHOICE, log entry 6.) -/
inductive Fate where
  | passed
  | recovered
  | lost (ch : Fin 16)
  | data (parts : List (BitVec 5 × BitVec 32)) (samples : List (BitVec 16 × BitVec 32))
  | sync (p : Fin 272) (i : BitVec 8)
  | checker (parts : List (BitVec 5 × BitVec 32))
deriving DecidableEq, Repr, Inhabited

/-- A soft-sensor sample whose primary value is computed (R338, R380): sensor, number, value, position and time of its reference
line, the frame of the run it is assigned to (R64), and the outcome of R65 that applies to it, if any; the serials in its lane of its reference line and of the
first and last line it uses, and the first and last column of them that it uses. -/
structure SampleIn where
  sensor : BitVec 16
  num    : BitVec 32
  value  : BitVec 32
  pos    : BitVec 64
  time   : BitVec 64
  epoch  : BitVec 16
  lost   : Bool
  frame  : BitVec 64
  cause  : Option (Fin 10)
  ref    : BitVec 32
  first  : BitVec 32
  last   : BitVec 32
  colA   : BitVec 14
  colB   : BitVec 14
deriving DecidableEq, Repr, Inhabited

/-- A command: one constructor for each row of opcode_table.json, with the row's operands. -/
inductive Instr where
  /-- The first active cycle of a new step begins, SYS_STEP_COUNT advances and every per-boundary action of the core domain runs (R41). -/
  | stepBoundary (d : Die) (dupP : Bool) (dupC : Bool) (late : List SampleIn)
  /-- A die releases step 0 at its local release instant, clears the step counters and leaves ARMED for RUN (R396). -/
  | startBarrierRelease
  /-- A queue entry waiting more than 4 steps becomes UNADMITTED and turns into a ghost in phase 1 (R139). -/
  | unadmitted (d : Die)
  /-- Parity or location-tag failures detected in one cycle freeze the core domain for 64 or 400 cycles while the words are re-read (R48). -/
  | replayEvent (d : Die) (cyc : Fin 20000) (ws : List (Fin 54 × Fate))
  /-- In Paired mode a freeze request from the other die over the sideband freezes this die 32 cycles after detection (R51). -/
  | dieFreezeRequest (d : Die) (cyc : Fin 20000) (dram : Bool) (own : Option Bool)
  /-- An item of external data completes its crossing into the core-domain receive buffer and arrives in the current step (R42). -/
  | itemArrival (d : Die) (x : Fin 256 × Bool)
  /-- A registered camera line is admitted at arrival step + 2 and segmented into runs that open, attach to, merge or force-close parts (R43). -/
  | lineAdmission (d : Die) (g : Fin 8) (k : BitVec 64)
  /-- The step tag of boundary S is admitted at S + 2 and made available to the Nib and recipes (R43). -/
  | stepTagAdmission (d : Die) (miss : Bool)
  /-- A position-time latch pair latched in step S is admitted at S + 2 (R43). -/
  | latchPairAdmission (d : Die) (k : Fin 8)
  /-- The local and remote input frames of boundary S are admitted at S + 2 and endpoint NIB sends them to the named virtual tiles (R331). -/
  | inputFrameAdmission (d : Die) (miss : Bool)
  /-- A Checker verdict or soft-sensor value is admitted by the Comparator at arrival step + 2, or discarded if already decided or duplicated (R335). -/
  | checkerMessageAdmission (d : Die)
  /-- Rows of accumulators take operands from generator A and add their products with the active weight block (R102). -/
  | mma (b : Issue) (f : BitVec 27)
  /-- A weight block of L lines is loaded into the shadow buffer (R103). -/
  | wld (b : Issue) (f : BitVec 27)
  /-- Sets the anchor that the next clear latches (R101). -/
  | anch (b : Issue) (f : BitVec 27)
  /-- Adds one bias term to each column of a row (R102). -/
  | bias (b : Issue) (f : BitVec 27)
  /-- Writes accumulator rows back through requantisation into the output format at generator S addresses (R79). -/
  | wb (b : Issue) (f : BitVec 27)
  /-- Loads 32 requantisation entries (R102). -/
  | wpar (b : Issue) (f : BitVec 27)
  /-- Stores a row's 32 accumulator states as LAS, IAS or FP32 (R76). -/
  | asave (b : Issue) (f : BitVec 27)
  /-- Merges 32 stored accumulator states into a row (R76). -/
  | amerge (b : Issue) (f : BitVec 27)
  /-- Loads the 32-bit row mask from the first word of a line (R101). -/
  | mask (b : Issue) (f : BitVec 27)
  /-- VPU FP32 addition per lane (R104). -/
  | fadd (b : Issue) (f : BitVec 27)
  /-- VPU FP32 multiplication per lane (R104). -/
  | fmul (b : Issue) (f : BitVec 27)
  /-- VPU fused FP32 multiply-add into VD (R104). -/
  | ffma (b : Issue) (f : BitVec 27)
  /-- VPU wrapping INT32 addition (R104). -/
  | iadd (b : Issue) (f : BitVec 27)
  /-- VPU wrapping INT32 subtraction (R104). -/
  | isub (b : Issue) (f : BitVec 27)
  /-- VPU low 32 bits of the INT32 product (R104). -/
  | imul (b : Issue) (f : BitVec 27)
  /-- VPU lane-wise maximum in INT32 or FP32 (R104). -/
  | max (b : Issue) (f : BitVec 27)
  /-- VPU lane-wise minimum in INT32 or FP32 (R104). -/
  | min (b : Issue) (f : BitVec 27)
  /-- VPU table function exp2, log2, recip, rsqrt, sigmoid or tanh (R87). -/
  | func (b : Issue) (f : BitVec 27)
  /-- VPU format conversion per lane (R84). -/
  | cvt (b : Issue) (f : BitVec 27)
  /-- VPU bitwise AND, OR, XOR or AND-NOT (R104). -/
  | logic (b : Issue) (f : BitVec 27)
  /-- VPU logical or arithmetic shift (R104). -/
  | shift (b : Issue) (f : BitVec 27)
  /-- VPU lane-wise select by VD (R104). -/
  | sel (b : Issue) (f : BitVec 27)
  /-- VPU comparison writing 1 or 0 (R104). -/
  | cmp (b : Issue) (f : BitVec 27)
  /-- VPU reduction of all lanes in a fixed tree into lane 0 (R105). -/
  | red (b : Issue) (f : BitVec 27)
  /-- VPU loads a sign-extended immediate (R104). -/
  | imm (b : Issue) (f : BitVec 27)
  /-- VPU moves lane 0 to or from the SD register (R104). -/
  | movsd (b : Issue) (f : BitVec 27)
  /-- VPU broadcasts one lane to all lanes (R104). -/
  | bcast (b : Issue) (f : BitVec 27)
  /-- Loads and checks a 64-byte WAG descriptor into a generator and resets its sequence (R107). -/
  | wcfg (b : Issue) (f : BitVec 27)
  /-- Loads 256 bytes into a vector register (R106). -/
  | vld (b : Issue) (f : BitVec 27)
  /-- Stores a vector register to 256 bytes of SRAM (R106). -/
  | vst (b : Issue) (f : BitVec 27)
  /-- Loads the next line of generator V into eight lanes (R108). -/
  | vldg (b : Issue) (f : BitVec 27)
  /-- Stores eight lanes to the next address of generator S (R108). -/
  | vstg (b : Issue) (f : BitVec 27)
  /-- Sends 64 bytes to a data-network endpoint, arriving 48 active cycles later (R113). -/
  | send (b : Issue) (f : BitVec 27)
  /-- Writes the 64 bytes that arrive in this cycle from the named source, or faults NET_EMPTY (R113). -/
  | recv (b : Issue) (f : BitVec 27)
  /-- Arms a DRAM stream with the 32-byte memory command at LINE (R186). -/
  | mcmd (b : Issue) (f : BitVec 27)
  /-- Delays the next bundle by N active cycles (R110). -/
  | wait (b : Issue) (f : BitVec 19)
  /-- The N active cycles of a WAIT elapse and the next bundle issues (R110). -/
  | waitExpiry (d : Die) (p : Fin 272)
  /-- Runs the next LEN + 1 bundles CNT + 1 times, faulting on a fifth nesting level (R110). -/
  | loop (b : Issue) (f : BitVec 19)
  /-- Makes TARGET the next bundle (R110). -/
  | jump (b : Issue) (f : BitVec 19)
  /-- Sync operation writing SD into an EMPTY word and making it FULL, or advancing P of a counter pair (R209). -/
  | writeFull (b : Issue) (v : BitVec 16)
  /-- Sync operation reading a FULL word into SD and making it EMPTY, or advancing C of a counter pair (R209). -/
  | readEmpty (b : Issue) (v : BitVec 16)
  /-- Sync operation returning the word's state, or P − C of a counter pair, in SD (R209). -/
  | poll (b : Issue) (v : BitVec 16)
  /-- Owner sync operation writing SD into a word and making it FULL (R209). -/
  | fill (b : Issue) (v : BitVec 16)
  /-- Owner sync operation making a word EMPTY or resetting a counter pair (R209). -/
  | clear (b : Issue) (v : BitVec 16)
  /-- The response of a sync operation reaches the issuing tile at c + 32, stopping it on an outcome other than OK (R208). -/
  | syncResponse (d : Die) (cyc : Fin 20000)
  /-- Starts a wait until a full/empty word reaches the awaited state (R211). -/
  | swait (b : Issue) (f : BitVec 19)
  /-- A probe of an SWAIT reaches the word every 32 cycles and releases the next bundle when the state matches (R211). -/
  | swaitProbe (d : Die) (p : Fin 272)
  /-- Sets the tile's poll budget in steps (R212). -/
  | budget (b : Issue) (f : BitVec 19)
  /-- A wait not released by the B-th counted step boundary takes the outcome TIMEOUT (R212). -/
  | pollTimeout (d : Die) (p : Fin 272)
  /-- A tile arrives at a barrier (R219). -/
  | barrier (b : Issue) (f : BitVec 19)
  /-- An arrival is registered at c + 16, setting ARR or EARLY or poisoning the barrier, and a complete mask advances GEN (R219). -/
  | barrierArrival (d : Die) (n : Fin 64) (cyc : Fin 20000)
  /-- An engine's arrival is registered at the cycle its compiled schedule states (R219). -/
  | engineBarrierArrival (d : Die) (n : Fin 64) (e : Fin 10) (cyc : Fin 20000)
  /-- Starts a wait until a barrier passes its target generation (R220). -/
  | bwait (b : Issue) (f : BitVec 19)
  /-- A barrier completion or poisoning reaches a waiter 16 cycles later and releases or stops it (R220). -/
  | bwaitRelease (d : Die) (p : Fin 272)
  /-- The tile stops issuing until its context is reloaded (R110). -/
  | tileHalt (b : Issue) (f : BitVec 19)
  /-- A Stroke reaching its 64,001st active cycle faults STROKE_LEN (R99). -/
  | strokeLen (d : Die) (p : Fin 272)
  /-- A transfer reaches its receiver 48 active cycles after SEND, faulting NET_DROP if no matching RECV issues (R113). -/
  | transferArrival (d : Die) (e : Fin 266) (cyc : Fin 20000)
  /-- A context reset takes effect at a step boundary, poisoning every object it owns and restarting or stopping the context (R214). -/
  | contextReset (d : Die) (c : Fin 20)
  /-- At the first eligible boundary the next group becomes HANDOVER_OUT and the STANDBY group HANDOVER_IN, and mirroring begins (R117). -/
  | handoverBegin (d : Die)
  /-- A handover cycle copies 64 bytes of each tile of the outgoing group into the incoming group (R118). -/
  | handoverCopy (d : Die) (m : Fin 1250)
  /-- At the first boundary at or after H + 8 with every tile ready, TAR_MAP names the incoming group and the outgoing group enters TEST (R119). -/
  | handoverSwitch (d : Die)
  /-- A group in TEST passes its last segment, becomes STANDBY and resets its test age (R121). -/
  | groupTestPass (d : Die)
  /-- A group failing a test segment becomes FENCED, sets SPARE_EXHAUSTED and acts under EXH_POLICY (R123). -/
  | groupTestFail (d : Die)
  /-- A group's test age exceeds TAR_TEST_LIMIT and sets SPARE_INTERVAL (R122). -/
  | spareInterval (d : Die)
  /-- A fence request for a tile group takes effect at the next boundary, fencing it directly, by back-to-back handovers, or rejecting it (R124). -/
  | tarFenceReq (d : Die) (v : BitVec 32)
  /-- A Stem lane-group handover begins under the tile rules with Stem registers (R163). -/
  | stmHandoverBegin (d : Die)
  /-- A handover cycle copies 64 bytes of the outgoing lane group's Stem SRAM (R163). -/
  | stmHandoverCopy (d : Die) (m : Fin 1250)
  /-- The Stem lane-group switch takes place at H + 8 (R163). -/
  | stmHandoverSwitch (d : Die)
  /-- A Stem lane group passes its test and becomes STANDBY (R163). -/
  | stmGroupTestPass (d : Die)
  /-- A Stem lane group fails its test, becomes FENCED and acts under EXH_POLICY (R163). -/
  | stmGroupTestFail (d : Die)
  /-- A Stem lane group's test age exceeds STM_TEST_LIMIT (R163). -/
  | stmSpareInterval (d : Die)
  /-- A fence request for a Stem lane group takes effect under the tile fence rules (R163). -/
  | stmFenceReq (d : Die) (v : BitVec 32)
  /-- A write of FORCE_REGROUP fences the Stem at the next boundary in RUN and SAFE, or at once in CONFIG to ARMED (R169). -/
  | forceRegroup (d : Die) (v : BitVec 32)
  /-- At boundary F the Stem becomes FENCED, open parts take INCOMPLETE, lines turn blind and the regrouped set is loaded (R169). -/
  | stemFence (d : Die)
  /-- At W = F + 16 the die enters regrouped mode and lines are computed again (R169). -/
  | regroupSwitch (d : Die)
  /-- A part whose gap count reached CLOSE_GAP, or that a later segment or forced cut ends, closes at the end of the step and frees what it leaves (R131). -/
  | partClose (d : Die)
  /-- Up to 16 ready parts per die retire in phase 5 and the recipe's final head gives the primary verdict (R148). -/
  | partRetire (d : Die) (cls : Option (Fin 64)) (out : BitVec 15 × List (BitVec 8))
  /-- An assembled part batched in step B receives its primary verdict at B + ASM_LATENCY (R152). -/
  | assembledVerdict (d : Die) (cls : Option (Fin 64)) (out : BitVec 15 × List (BitVec 8))
  /-- The Diverse Checker finishes judging a part or soft-sensor sample and sends its message across the Checker crossing (R335). -/
  | checkerMessage (d : Die) (part : Bool) (a : BitVec 16) (b : BitVec 32) (v : BitVec 32)
  /-- At retirement step + chk_allow the Comparator decides the final verdict or soft-sensor validity from the primary and Checker results (R63). -/
  | comparatorDecide (d : Die) (full : Bool) (xs : List SampleIn)
  /-- At commit step + 2 the Nib evaluates an event against the final verdict and Action Table, forcing a decision or LATE, and fixes the fire position (R62). -/
  | nibCommitEvaluate (d : Die) (full : Bool)
  /-- An evaluated FIRE action is armed in the encoder sampling domain, counting MARGIN_MISS if its position is already passed (R316). -/
  | actionArm (d : Die) (lane : Fin 32) (part : BitVec 32) (rule : Fin 256) (n : BitVec 64)
  /-- An armed action executes in the first sample at its fire position with forward direction and RUN, switching its output (R319). -/
  | actionExecute (d : Die) (lane : Fin 32) (part : BitVec 32) (rule : Fin 256) (n : BitVec 64)
  /-- An output's pulse end is reached and the output switches off (R320). -/
  | pulseEnd (n : Fin 64)
  /-- A rising edge held by the 200 µs repeat interval is applied at its instant with the actions that joined it (R320). -/
  | delayedEdge (n : Fin 64)
  /-- A remote valve frame reaches its launch time and is sent from the launch-time queue (R323). -/
  | remoteFrameLaunch (d : Die)
  /-- A die's command port sends its periodic link frame to the field interface silicon (R325). -/
  | fioLinkFrame (d : Die)
  /-- An owning die's command port silent for 100 µs makes the silicon apply that die's SAFE_ACTION and set WATCHDOG (R325). -/
  | fioWatchdog (d : Die)
  /-- With no takeover within 100 µs of RELEASE the silicon applies the outputs' SAFE_ACTION (R325). -/
  | releaseTimeout
  /-- Die B's takeover command transfers all outputs to die B if the silicon accepts it, setting TAKEOVER (R325). -/
  | takeoverCommand
  /-- An output on for PULLIN_MS starts chopping at HOLD_DUTY (R327). -/
  | holdPwmStart (n : Fin 64)
  /-- An off output's pad above 4 V for 10 ms sets OPEN_LOAD (R328). -/
  | openLoad (n : Fin 64)
  /-- An output readback differing from its command for more than 50 µs sets MISMATCH (R328). -/
  | mismatch (n : Fin 64) (pad : Bool)
  /-- An output enters current limit and the event is flagged (R328). -/
  | currentLimit (n : Fin 64)
  /-- An output shuts down at 165 °C junction and restarts after cooling, counting restarts and requesting disable past RESTART_LIMIT (R328). -/
  | thermalShutdownOutput (n : Fin 64) (restart : Bool)
  /-- An L+ group below 19.2 V sets LPLUS_LOW for its outputs (R328). -/
  | lplusLow (g : Fin 8)
  /-- A 24 V input's new state is accepted after its debounce and reaches the POS and FIO (R330). -/
  | inputChange (i : Fin 32) (v : Bool) (wb : Bool)
  /-- A pulsed input opens its 20 µs sensing window every PERIOD_US (R330). -/
  | inputPulseWindow (i : Fin 32) (r : Option (Bool × Bool))
  /-- A SAFE_OK pad is read back every 10 µs and three consecutive mismatches are the cause SAFE_OK (R351). -/
  | safeOkReadback (d : Die) (pad : Bool)
  /-- At every 3,000,000th step boundary in RUN with TEST_PULSE set the die de-energises its SAFE_OK for 300 µs (R351). -/
  | testPulse (d : Die)
  /-- The 300 µs test pulse ends, and a readback that stayed high is the cause SAFE_OK (R351). -/
  | testPulseEnd (d : Die) (high : Bool)
  /-- An accepted edge of A or B in QUAD mode counts forward or back, saturating at the soft limits (R289). -/
  | encoderEdge (d : Die) (c : Fin 8) (n : BitVec 64) (a : Bool) (b : Bool)
  /-- An accepted rising edge of A in PULSE_DIR mode counts by the level of B (R290). -/
  | pulseDirEdge (d : Die) (c : Fin 8) (n : BitVec 64) (a : Bool) (b : Bool)
  /-- An accepted rising edge of Z latches the count and runs the drift check (R299). -/
  | indexEvent (d : Die) (c : Fin 8) (n : BitVec 64) (z : Bool)
  /-- An SSI channel starts a frame every PERIOD_US with the first falling clock edge (R293). -/
  | ssiFrameStart (d : Die) (c : Fin 8) (n : BitVec 64) (idle : Bool)
  /-- A completed SSI frame is checked and decoded and updates the counter, or is discarded as SSI_ERROR (R294). -/
  | ssiFrame (d : Die) (c : Fin 8) (n : BitVec 64) (data : BitVec 48) (par : Bool)
  /-- No good SSI frame for more than 4 frame periods sets UNCERTAIN (R294). -/
  | ssiStale (d : Die) (c : Fin 8) (n : BitVec 64)
  /-- A write to POS_SWCAP makes each SOFTWARE unit named latch position, time and step (R304). -/
  | posSwcap (d : Die) (v : BitVec 32)
  /-- An emulated encoder output drives one quadrature edge toward its target once 25 samples have passed (R310). -/
  | emuEdge (d : Die) (n : BitVec 64)
  /-- The 200 ns Z pulse of an emulated output ends (R310). -/
  | emuZEnd (d : Die) (n : BitVec 64)
  /-- A fired trigger is sent as a LinkTrigger packet when the uplink spacing ends, or dropped if one already waits (R251). -/
  | triggerPacket (d : Die) (p : Fin 8) (n : BitVec 64)
  /-- A line arrives on a port, is checked, replaced if bad and entered into the line FIFO or discarded on overflow (R253). -/
  | cxpLineReceive (d : Die) (p : Fin 8) (str : BitVec 8) (px : List (BitVec 16)) (crc : Bool) (gap : Bool) (other : Bool)
  /-- A camera event packet is accepted and logged to Inkwell (R245). -/
  | cxpEventPacket (d : Die) (p : Fin 8) (data : List (BitVec 8))
  /-- A line leaves the port FIFO into the delay store when an entry is free, or is discarded as LATE_MODALITY (R256). -/
  | lineToDelayStore (d : Die) (p : Fin 8)
  /-- A sent trigger with no line by the end of T + RESP_STEPS makes the port take LINK_DOWN (R254). -/
  | lineTimeout (d : Die) (p : Fin 8)
  /-- Connection 0 of a port loses lock and the port takes LINK_DOWN (R254). -/
  | cxpLockLoss (d : Die) (p : Fin 8)
  /-- A port takes LINK_DOWN at a boundary, discards its held lines and the Quill restarts discovery (R254). -/
  | portLinkDown (d : Die) (p : Fin 8)
  /-- The Quill runs discovery, model check, camera-setting writes and the start write on a port (R247). -/
  | cameraDiscovery (d : Die) (p : Fin 8) (found : Bool) (model : BitVec 256) (back : List (BitVec 32)) (start : Bool)
  /-- A rediscovered port returns to RUN at the first trigger after the next frame boundary (R254). -/
  | portReturnRun (d : Die) (p : Fin 8)
  /-- A fused line is registered once every port in RUN has delivered line k into the delay store (R258). -/
  | lineRegister (d : Die) (g : Fin 8)
  /-- At the end of D_k a fused line is registered with its missing modalities zeroed (R258). -/
  | registrationDeadline (d : Die) (g : Fin 8)
  /-- A registered fused line crosses into the core domain in k order within its group's E_g per step, waiting in the store otherwise (R261). -/
  | fusedLineCross (d : Die) (x : Fin 8 × Bool)
  /-- A HALO message tagged S is admitted at S + 2 and held for its own line, or discarded on a bad column count (R173). -/
  | haloAdmission (d : Die)
  /-- A held halo finding no own line within 8 steps is discarded (R173). -/
  | haloUnmatched (d : Die) (n : Fin 32) (left : Bool)
  /-- A striped-lane own line not registered by T + STRIPE_HOLD is missing (R173). -/
  | lineMiss (d : Die) (g : Fin 8)
  /-- A Line Slot Table entry serves its group's oldest unserved fused line through correction, outputs and the Stem layers (R262). -/
  | lineSlotEntry (d : Die) (e : Fin 64) (tapBad : Bool)
  /-- At S + 2 after a frame's last line the pipeline FILLs the statistics word with the frame ID (R279). -/
  | statsFill (d : Die)
  /-- A SEND to endpoint IPP is checked and becomes the port's pending exposure request, replacing an earlier one (R280). -/
  | exposureRequest (d : Die)
  /-- At the first line of frame F + 1 the pending exposure writes go out on the uplink and the frame is in TRANSITION (R281). -/
  | exposureWrites (d : Die) (p : Fin 8) (ok : Bool)
  /-- Exposure writes refused or not acknowledged by frame F + 2 set EXPO_FAIL and make the port take LINK_DOWN (R283). -/
  | expoFail (d : Die) (p : Fin 8)
  /-- A Memory Timetable position issues its burst of its kind on a channel (R183). -/
  | timetablePosition (d : Die) (ch : Fin 16) (k : Fin 6000) (mr4 : Fin 4)
  /-- A per-bank refresh slot is used or left idle according to the refresh rate (R189). -/
  | refreshSlot (d : Die) (ch : Fin 16) (bank : Fin 16) (slot : Fin 21)
  /-- Read data reaches endpoint MEM 180 active cycles after its last burst, with parity and tag checked and Gauze decoded (R185). -/
  | dramReadDelivery (d : Die) (err : List (BitVec 32)) (parts : List (BitVec 5 × BitVec 32))
  /-- Every 1,024 steps or periods the interval oscillators run and correct each channel's PHY delay (R179). -/
  | phaseTrack (d : Die) (ch : Fin 16) (margin : Bool) (out : Bool)
  /-- A DRAM channel becomes FENCED at the next boundary, a latched SAFE cause (R192). -/
  | channelFence (d : Die)
  /-- Outside RUN and SAFE a 20,000-cycle maintenance period runs system, refresh and QUILL positions (R190). -/
  | maintenancePeriod (d : Die)
  /-- A Quill access to the DRAM window is served in QUILL positions, rejecting writes outside permitted regions (R195). -/
  | quillDramAccess (d : Die) (off : BitVec 31) (wr : Bool) (v : BitVec 32)
  /-- An auxiliary slice ends, renewing when the queue is empty or making the context STOPPING (R231). -/
  | sliceEnd (d : Die) (n : Fin 16)
  /-- A STOPPING context is stopped at the first boundary at which every tile has stopped at a Stroke boundary (R231). -/
  | contextStop (d : Die) (n : Fin 16)
  /-- After T transfer steps and two setup steps the placed contexts issue their first bundles (R235). -/
  | contextSwitchDone (d : Die) (n : Fin 16)
  /-- A recipe-select line-state frame is checked by the relay die and delivered to the addressed dies (R370). -/
  | recipeSelect (q : List (BitVec 8))
  /-- An admitted recipe select is accepted for a changeover or discarded with CHG_REJECT (R236). -/
  | recipeSelectAdmit (d : Die)
  /-- A line-running line-state frame is checked by the relay die and delivered to the addressed dies (R370). -/
  | lineRunning (q : List (BitVec 8))
  /-- An admitted line-running change moves the die between ARMED and RUN or joins the start barrier (R32). -/
  | lineRunningAdmit (d : Die)
  /-- An operator-acknowledge line-state frame is checked by the relay die and delivered to the addressed dies (R370). -/
  | operatorAck (q : List (BitVec 8))
  /-- An admitted acknowledge takes the die from SAFE to ARMED when every cause is non-latched and clear, or is discarded (R352). -/
  | operatorAckAdmit (d : Die)
  /-- At D the old parts still open are cut, INSP_NEXT takes P1 and the reload begins (R238). -/
  | changeoverDrainEnd (d : Die) (xs : List SampleIn)
  /-- At D + T_r INSP_NEXT's sync records are initialised and the Drift update hash is logged (R238). -/
  | changeoverSetup (d : Die)
  /-- At N the new recipe runs as INSP_CUR with inspection timetable frame 0 (R238). -/
  | changeoverNewRecipe (d : Die)
  /-- The WARM-th pilot line after N is admitted and the changeover returns to IDLE (R238). -/
  | changeoverWarmEnd (d : Die)
  /-- At the boundary after a cause is detected the die enters SAFE, cancels its events and commands its outputs' SAFE_ACTION (R347). -/
  | safeEntry (d : Die)
  /-- The SAFE-STATE frame set is launched back to back, or a record-less SAFE-STATE frame for a later cause (R381). -/
  | safeStateFrame (d : Die)
  /-- A write of CHK_SAFE_REQ records the cause FORCED (R344). -/
  | chkSafeReq (d : Die) (v : BitVec 32)
  /-- The safety monitor finds a clock more than 2 % off nominal and raises CLOCK, acting directly on the field interface (R350). -/
  | clockDeviation (d : Die)
  /-- No step boundary for 1 ms in RUN or SAFE raises CLOCK (R350). -/
  | stepHeartbeatLoss (d : Die)
  /-- A frame between ports A and B is forwarded by the learning bridge with PTP residence correction (R363). -/
  | switchForward (fromB : Bool) (f : List (BitVec 8)) (res : BitVec 32) (full : Bool)
  /-- A frame addressed to the module of no accepted class, or over its bucket rate, is discarded and counted (R368). -/
  | ingressFilter (portB : Bool) (f : List (BitVec 8))
  /-- A PTP Sync measurement drives the servo, stepping or rate-adjusting the timer and moving its state (R373). -/
  | ptpSync (portB : Bool) (m : BitVec 64)
  /-- The switch sends Delay_Req or Pdelay_Req at the profile's fixed interval (R372). -/
  | ptpDelayReq
  /-- A delay or peer-delay response updates the measured link delay (R372). -/
  | ptpDelayResponse (portB : Bool) (v : BitVec 64)
  /-- No valid Sync for more than SYNC_TIMEOUT makes a LOCKED servo LOST (R373). -/
  | syncTimeout
  /-- No heartbeat on the relay die's attachment for 100 µs moves the relay to the other die (R364). -/
  | relayFailover
  /-- A result frame is launched at its launch time, or late as LAUNCH_SLIP when its content completes later (R376). -/
  | resultFrameLaunch (d : Die)
  /-- In ARMED, RECOVERY and HALTED a header-only frame is launched every P µs to each result destination (R378). -/
  | headerOnlyFrame (d : Die)
  /-- A Twill frame is checked for CRC and order, acknowledged or NAKed, and routed or delivered (R387). -/
  | twillFrameReceive (p : Fin 4) (bs : List (BitVec 8)) (crc : BitVec 32) (ratio : BitVec 64) (corr : BitVec 16) (uncorr : BitVec 16)
  /-- An ACK releases acknowledged frames and credits (R387). -/
  | lctlAck (p : Fin 4) (seq : BitVec 8) (c0 : BitVec 8) (c1 : BitVec 8)
  /-- A NAK makes the sender resend from the named frame onward (R387). -/
  | lctlNak (p : Fin 4) (seq : BitVec 8)
  /-- The receiver sends an LCTL ACK at least every 1 µs (R387). -/
  | ackTimer (p : Fin 4)
  /-- 2 µs without acknowledgement makes the sender resend from the oldest frame (R387). -/
  | retryTimeout (p : Fin 4)
  /-- A port losing codeword lock or reaching the retry limit leaves ACTIVE and retrains (R392). -/
  | retrain (p : Fin 4)
  /-- A port in DETECT sees the training pattern and enters TRAIN (R390). -/
  | detectPattern (p : Fin 4)
  /-- A port not reaching its next state within LINK_TIMEOUT becomes FAILED (R390). -/
  | linkTimeout (p : Fin 4)
  /-- The peers exchange negotiation words and agree generation, rate and equalisation or fail (R390). -/
  | negotiate (p : Fin 4) (gen : BitVec 8) (rate : Fin 4) (eq : BitVec 16) (role : BitVec 2)
  /-- Training at each higher rate completes and the link settles ACTIVE at the highest passing rate (R390). -/
  | stepUp (p : Fin 4) (rate : Fin 4) (dl : BitVec 24)
  /-- The core reference locks to the reference port's recovered clock, or sets FLOCK_FAIL after 10 ms (R393). -/
  | frequencyLock (ok : Bool)
  /-- The reference link leaves ACTIVE and the PLL holds its frequency with FLOCK_LOST (R393). -/
  | frefLoss
  /-- The root runs breadth-first discovery, assigns addresses and computes routes once every port is resolved (R401). -/
  | discovery
  /-- A source-routed PROBE reaches a module, which replies IDENT (R401). -/
  | probe (p : Fin 4) (tag : BitVec 32) (rest : List (BitVec 3))
  /-- An IDENT reply carries a module's serial, member, generation and port states, or is checked against PEER_ADDR (R401). -/
  | ident (p : Fin 4) (tag : BitVec 32) (serial : List (BitVec 8)) (member : BitVec 16) (gen : BitVec 8) (ports : List (BitVec 3)) (addr : BitVec 18)
  /-- A ROUTE_WRITE installs a die's address and route tables (R401). -/
  | routeWrite (d : Die) (addr : BitVec 18) (rs : List (BitVec 24)) (ns : List (BitVec 24))
  /-- DONE ends discovery and the module leaves LINK_TRAIN (R401). -/
  | done
  /-- An UNREACHABLE reports that a frame was discarded for lack of a route (R403). -/
  | unreachable (d : Die) (addr : BitVec 18)
  /-- A queued frame whose route still names a lost port is discarded after 10 ms and UNREACHABLE goes to its source (R403). -/
  | routeWaitTimeout (p : Fin 4)
  /-- A BULK message is written into an UPDATE_STAGING or QUILL region, or discarded with BULK_NAK (R400). -/
  | bulk (d : Die)
  /-- A BULK_NAK reports a discarded BULK message to its source (R400). -/
  | bulkNak (d : Die)
  /-- A member's ARRIVE reaches the master, which sends START once MEMBERS members stand arrived (R396). -/
  | arrive
  /-- A member leaving ARMED before release withdraws its arrival (R396). -/
  | withdraw
  /-- A START message is relayed with corrected COUNT and fixes the member's release instant, or sets START_LATE (R396). -/
  | start
  /-- An ALIGN message gives the member its offset and trims a free-running PLL or flags skew (R397). -/
  | align
  /-- No ALIGN by boundary 1,024j + 16 counts ALIGN_MISS and holds the trim (R397). -/
  | alignMiss
  /-- The peer's SIGN message of step S is compared at S + 2, and differing or missing signatures are LOCKSTEP (R405). -/
  | sign (d : Die) (miss : Bool)
  /-- A silent die-to-die link or a die-state LCTL reporting SAFE, RECOVERY or HALTED declares the peer FAILED (R406). -/
  | peerFailure (d : Die) (silent : Bool)
  /-- Takeover not accepted within 2 ms makes die B take LOCKSTEP (R406). -/
  | takeoverTimeout
  /-- A REMAP_OFFER for a failed die's context is accepted by a host holding an OFF standby reservation (R407). -/
  | remapOffer (d : Die) (addr : BitVec 18) (die : Die) (c : Fin 20)
  /-- An accepting candidate queues the re-mapped context at the tail of its ready queue (R407). -/
  | remapAccept (d : Die) (c : Fin 20)
  /-- A rejection passes the offer to the next candidate (R407). -/
  | remapReject (d : Die) (c : Fin 20)
  /-- No answer within 10 ms passes the offer on, and a context no one accepts sets REMAP_FAIL (R407). -/
  | remapTimeout (d : Die)
  /-- Die A's Quill heartbeat absent for 10 ms makes die B's Quill primary (R409). -/
  | quillHeartbeatLoss
  /-- Every 1 ms the Quill reconciles its Unit State shadow, logging disagreements and raising USW after 3 ms (R436). -/
  | reconcile (d : Die) (units : BitVec 19)
  /-- A junction sensor is sampled every 50 µs and its comparators act (R410). -/
  | tempSample (d : Die) (n : Fin 16) (t : BitVec 16)
  /-- The analogue comparator at 125 °C removes the die's rails and holds it in reset (R459). -/
  | thermalShutdown (d : Die)
  /-- After at least 10 s and a reading below 100 °C the shut-down die boots with reset cause THERMAL (R459). -/
  | thermalRelease (d : Die) (i : Option BootIn)
  /-- 12 V is applied and the module begins its power-on reset (R465). -/
  | powerOn (mv : BitVec 16)
  /-- RESET_N held low for 10 µs resets the module (R465). -/
  | resetN
  /-- The 12 V input below 9.6 V for 2 µs resets the module with cause POWER_FAIL (R452). -/
  | powerFail (mv : BitVec 16)
  /-- A rail out of its ±5 % window for more than 10 µs resets the module (R456). -/
  | railFault (d : Die) (k : BitVec 4)
  /-- The input at or above 10.8 V for 50 ms with the hold-up store charged releases reset and BOOT begins (R452). -/
  | resetRelease (mv : BitVec 16) (a : Option BootIn) (b : Option BootIn)
  /-- With no byte from die A within 2 s of reset, die B takes the xSPI bus and reads the store (R411). -/
  | nandTakeover (i : BootIn)
  /-- Records are loaded and applied and the die enters LINK_TRAIN, or self-resets on a rejected record (R413). -/
  | configComplete (d : Die) (train : BitVec 16) (rs : List Rec)
  /-- Every configured link is trained or failed under the link policy and the die enters SELF_TEST (R32). -/
  | linkTrainComplete (d : Die)
  /-- The start-up tests finish and the die enters ARMED or SAFE (R357). -/
  | selfTestComplete (d : Die) (r : SelfIn)
  /-- The input below 10.5 V for 2 µs writes a DIP record, commits lifetime blocks and sets WARN (R454). -/
  | supplyWarning (mv : BitVec 16)
  /-- The input at or above 10.7 V for 1 ms ends the supply warning (R452). -/
  | supplyWarningClear (mv : BitVec 16) (low : BitVec 16)
  /-- The writer takes the next queued record alternately from the two dies and writes it to the Event Ring (R440). -/
  | inkwellWrite (bad : Bool)
  /-- When a queue entry frees after losses the die queues one DROP record with the count (R442). -/
  | dropRecord (d : Die)
  /-- Every 1 s the writer commits the counter and histogram blocks to MRAM (R446). -/
  | lifetimeCommit (bad : Bool)
  /-- QMP request returning identity, states, boot count, digests and the attestation key (R431). -/
  | hello (q : List (BitVec 8))
  /-- QMP request reading consecutive registers under the firewall (R476). -/
  | regRead (hd : List (BitVec 8)) (pl : List (BitVec 8)) (tag : List (BitVec 8))
  /-- QMP request writing one register, restricted in RUN and SAFE (R431). -/
  | regWrite (hd : List (BitVec 8)) (pl : List (BitVec 8)) (tag : List (BitVec 8))
  /-- QMP request reading up to 1,024 bytes of a window (R431). -/
  | memRead (hd : List (BitVec 8)) (pl : List (BitVec 8)) (tag : List (BitVec 8))
  /-- QMP request submitting a Unit State request and returning its result (R475). -/
  | unitState (hd : List (BitVec 8)) (sq : List (BitVec 8)) (pl : List (BitVec 8)) (tag : List (BitVec 8))
  /-- QMP request reading a camera register (R431). -/
  | camRead (q : List (BitVec 8)) (p : Fin 8) (a : BitVec 32)
  /-- QMP request writing an allow-listed camera register in ARMED (R248). -/
  | camWrite (q : List (BitVec 8)) (p : Fin 8) (a : BitVec 32) (v : BitVec 32)
  /-- QMP request reading the last complete view buffer or statistics ring (R431). -/
  | viewRead (q : List (BitVec 8)) (stat : Bool) (i : Fin 8) (off : BitVec 32) (n : BitVec 16)
  /-- QMP acknowledge handed to each addressed die as an OPERATOR_ACK line-state item (R432). -/
  | ack (q : List (BitVec 8))
  /-- QMP request starting the maintenance context on a STANDBY out-of-rotation group (R227). -/
  | maintStart (q : List (BitVec 8))
  /-- QMP request taking the die from SAFE or RECOVERY to HALTED (R431). -/
  | halt (q : List (BitVec 8))
  /-- QMP request resetting the dies in a mask after the response is sent (R431). -/
  | reset (q : List (BitVec 8)) (mask : BitVec 2)
  /-- QMP request opening the staging area with a length and expected digest (R422). -/
  | stageBegin (q : List (BitVec 8)) (len : BitVec 64) (digest : List (BitVec 8))
  /-- QMP request writing a chunk of the staged image (R422). -/
  | stageChunk (q : List (BitVec 8))
  /-- QMP request starting verification of the staged image and locking staging (R423). -/
  | stageVerify (q : List (BitVec 8))
  /-- Verification completes with VERIFIED or FAILED (R423). -/
  | stageVerifyDone (d : Die) (rs : List Rec)
  /-- QMP request starting the commit of a verified image to the store (R424). -/
  | stageCommit (q : List (BitVec 8)) (fits_ : Bool)
  /-- The commit completes with COMMITTED or FAILED (R424). -/
  | stageCommitDone (d : Die) (ok : Bool)
  /-- QMP request returning staging to IDLE and unlocking it (R431). -/
  | stageAbort (q : List (BitVec 8))
  /-- QMP request returning a signed attestation report over a nonce (R433). -/
  | attest (q : List (BitVec 8))
  /-- QMP request blowing SVN fuses up to the running image's SVN (R426). -/
  | svnRaise (q : List (BitVec 8))
  /-- QMP request setting a key slot from a key encrypted under the KEYMASTER key (R430). -/
  | keySet (q : List (BitVec 8)) (slot : BitVec 8) (blob : List (BitVec 8))
  /-- A forwarded request unanswered by the other die within 10 ms returns NO_DIE (R429). -/
  | qmpForwardTimeout
  /-- A QLL_USW_REQ DISABLE request is checked and takes effect at the next boundary, moving the unit to DRAINING or OFF (R35). -/
  | uswDisable (d : Die) (u : BitVec 5) (i : BitVec 8)
  /-- A QLL_USW_REQ ENABLE request re-enables a unit at the next boundary (R38). -/
  | uswEnable (d : Die) (u : BitVec 5) (i : BitVec 8)
  /-- A DRAINING unit reaches its frame boundary, Stroke boundary or last retirement and becomes OFF (R36). -/
  | drainComplete (d : Die) (u : Fin 19) (i : BitVec 8)
  /-- A read of QLL_USW_EVT pops the oldest hardware Unit State transition (R435). -/
  | uswEvtPop (d : Die)
  /-- A 1 written to UNCERTAIN of POS_STATn clears it unless a new cause sets it in the same cycle (R301). -/
  | uncertainClear (d : Die) (c : Fin 8)
  /-- A write of INK_MSG_GO queues a QUILL record from the INK_MSG registers (R440). -/
  | inkMsgGo (d : Die) (v : BitVec 32)
  /-- A read of a _LO register captures the whole 64-bit value for the next _HI read (R16). -/
  | loRegisterRead (d : Die) (a : BitVec 32 × Fin 4)
  /-- A register write with no row of its own sets RW fields, clears W1C bits or is refused as misaligned (R17). -/
  | registerWrite (d : Die) (a : BitVec 32 × Fin 4) (v : BitVec 64)
  /-- A 1000BASE-T1 port gains or loses its link, changing LINK_A or LINK_B and whether frames for that port are sent or discarded as PORT_DOWN (R367). -/
  | t1LinkChange (portB : Bool) (up : Bool)
  /-- A CoaXPress ingest receiver gains or loses lock on its lane, changing its bit in CXP_LOCK (R242). -/
  | cxpLockAcquire (d : Die) (i : Fin 32) (on : Bool)
  /-- A Twill receiver declares RS codeword lock after 4 consecutive correctable codewords with valid sync headers (R385). -/
  | codewordLock (p : Fin 4)
  /-- An L+ group returns to 19.2 V or above and LPLUS_LOW and the LOW bit of FIO_LPLUS clear (R457). -/
  | lplusRestore (g : Fin 8)
  /-- The hold-up store is exhausted and the hold-up rail, the always-on domains, the INK units and the MRAM lose power (R455). -/
  | holdUpEnd
  /-- RESET_N returns high and the module leaves reset 1 ms later (R466). -/
  | resetNRelease (a : Option BootIn) (b : Option BootIn)
  /-- At each whole second of the relay die's PTP timer PPS_OUT rises for 100 ms, unless the servo is not LOCKED (R470). -/
  | ppsOutEdge
  /-- The hardware finds more than 3 ms since the last reconciliation and counts a disagreement on every unit (R436). -/
  | reconcileGap (d : Die)
  /-- A learned MAC entry of the switch reaches the 300 s ageing time and is removed (R363). -/
  | bridgeAgeing
  /-- A Quill access to the tile SRAM debug window is served in a handover cycle, accepting or discarding writes by state and returning zero with an error on parity failure (R474). -/
  | debugWindowAccess (d : Die) (off : BitVec 32) (wr : Bool) (v : BitVec 32) (bad : Bool)
  /-- A member's report of a late START reaches the master, which sends a new START with a later instant to every member that has not released (R396). -/
  | startLateReport (addr : BitVec 18)
deriving DecidableEq, Repr

end Sys2Proof
end

