-- ==== Sys2Proof/Config.lean ====
section
/-! DEFINITION. What the spec leaves open: the free values (constants without a body, so that nothing can be
proved of their value). Each is applied to the counter `State.free` and to a number that tells the uses of one
command apart. DESIGN CHOICE, log entry 8. -/

namespace Sys2Proof.Config

/-- A free natural number: the bits of a result that the spec does not state (DESIGN CHOICE, log entry 8). -/
opaque freeNat : Nat → Nat → Nat

/-- A free numeric value: an exact result that the spec does not state (DESIGN CHOICE, log entry 8). -/
opaque freeNum : Nat → Nat → Num

/-- Which of two FP32 zeros of different sign MAX (true) or MIN (false) answers: the first operand or not (R104 does not say; DESIGN CHOICE, log entry 8). -/
opaque zeroPick : Bool → Nat → Nat → Bool

/-- The result of CVT where the spec states none, by source format, destination format and the lane (R84; DESIGN CHOICE, log entry 8). -/
opaque cvtOpen : Nat → Nat → Nat → Nat

/-- The product of an infinity, negative or not, and a zero multiplier with shift `sh` (R79 does not state it; DESIGN CHOICE, log entry 8). -/
opaque infTimesZero : Bool → Nat → Num

/-- A free byte string: bytes whose layout or content the spec does not give (DESIGN CHOICE, log entry 8). -/
opaque freeBytes : Nat → Nat → List Byte

/-- The class-specific code of an Event Ring record where the spec gives none (R440), by class and the figures the record reports (DESIGN CHOICE, log entry 8). -/
opaque recCode : Nat → List Nat → Nat

/-- The payload of an Event Ring record whose layout the spec does not give (R440), by class and the figures it reports (DESIGN CHOICE, log entry 8). -/
opaque recPayload : Nat → List Nat → List Byte

/-- A word of the boot ROM, whose content the spec does not give (R471, DESIGN CHOICE, log entry 8). -/
opaque romWord : Nat → Nat

/-- The payload of a QMP response whose layout the spec does not give (R431), by operation and what it reports (DESIGN CHOICE, log entry 8). -/
opaque qmpPayload : Nat → List Nat → List Byte

/-- An ECDSA brainpoolP384r1 signature (R433), r then s: by private key, digest, and the number drawn for it (DESIGN CHOICE, log entry 7). -/
opaque ecdsaSign : List Byte → List Byte → Nat → List Byte

/-- An ECDSA brainpoolP384r1 signature verifies (R417): by public key, digest, and r then s (DESIGN CHOICE, log entry 7). -/
opaque ecdsaVerify : List Byte → List Byte → List Byte → Bool

/-- What AES-256-GCM opens under a key (R430): none where its tag does not match (DESIGN CHOICE, log entry 7). -/
opaque gcmOpen : List Byte → List Byte → Option (List Byte)

/-- How far a Stem layer's kernel reaches left of the column it is computed at, by the layer's descriptor: the spec does not say (DESIGN CHOICE, log entry 16). -/
opaque stemLeft : List Nat → Nat

/-- Where a weight of a Stem layer stands among its weights, by the layer's descriptor and the weight's number in the order output channel, row, column, input
channel: the spec does not say (DESIGN CHOICE, log entry 16). -/
opaque stemPlace : List Nat → Nat → Nat

/-- Where transfer `i` of an output row of a Stem layer goes that feeds tiles, by the layer's descriptor: the virtual tile, and the cycles after the row is
produced (R113 and R160 leave both to the compiled network schedule; DESIGN CHOICE, log entry 16). -/
opaque stemTo : List Nat → Nat → Nat × Nat

/-- What the presence channel holds at a column that tiles have not delivered, by line and column (R166 does not say; DESIGN CHOICE, log entry 16). -/
opaque presenceOpen : Nat → Nat → Nat

/-- Where a pixel of an image store slot stands in the PART_IMAGE region, by slot, line and column of the crop, and channel: the spec does not say (R150; DESIGN
CHOICE, log entry 24). -/
opaque imagePlace : Nat → Nat → Nat → Nat → Nat

/-- The positions 1 to 15 of the system section: the spec names position 0 alone (R184; DESIGN CHOICE, log entry 27). -/
opaque systemPos : Nat → Nat

/-- The timing values of a speed-grade entry (R178): the spec does not give them (DESIGN CHOICE, log entry 5). -/
opaque timingSet : Nat → List Nat

end Sys2Proof.Config
end

