-- ==== Sys2Proof/Machine/Regs.lean ====
section
/-! DEFINITION. The register map (spec/20_address_map_registers.md R471, R472 and the register tables of every
chapter): the place of every register, counted in bytes from 0x1000_0000, its reset value, and which of its bits are
RW and W1C (R17). An indexed register is named without its index; its place is the base plus the stride times the
index. -/

namespace Sys2Proof.Machine

/-- One register or indexed family: place of the first, strides and counts of up to two indices, reset value, and the
masks of its RW and W1C bits; every other defined bit is RO or WO. -/
structure RegDef where
  base : Nat
  s1 : Nat
  n1 : Nat
  s2 : Nat
  n2 : Nat
  reset : Nat
  rw : Nat
  w1c : Nat
deriving DecidableEq, Repr

/-! SYS (spec/20, spec/02, spec/19) -/

def rSYS_ID : Nat := 0x00000
def rSYS_STATE : Nat := 0x00004
def rSYS_USW : Nat := 0x00040
def rSYS_STEP_COUNT_LO : Nat := 0x00100
def rSYS_STEP_COUNT_HI : Nat := 0x00104
def rSYS_FREEZE_CYCLES_LO : Nat := 0x00108
def rSYS_FREEZE_CYCLES_HI : Nat := 0x0010C
def rSYS_CYCLE_IN_STEP : Nat := 0x00110
def rSYS_REPLAY_SRAM : Nat := 0x00114
def rSYS_REPLAY_DRAM : Nat := 0x00118
def rSYS_FREEZE_EXCESS : Nat := 0x0011C
def rSYS_FREEZE_MAX : Nat := 0x00120
def rSYS_DET_STATUS : Nat := 0x00124
def rSYS_PWR : Nat := 0x00200
def rSYS_RESET : Nat := 0x00204
/-! CXP (spec/10) -/

def rCXP_PORT : Nat := 0x10000
def rCXP_PORT_STAT : Nat := 0x10020
def rCXP_LINE : Nat := 0x10040
def rCXP_LOCK : Nat := 0x10060
def rCXP_STATUS : Nat := 0x10100
def rCXP_REPLACED : Nat := 0x10200
def rCXP_DROP : Nat := 0x10240
def rCXP_TRIG_LO : Nat := 0x10300
def rCXP_TRIG_HI : Nat := 0x10304
/-! RGN (spec/10) -/

def rRGN_GRP : Nat := 0x20000
def rRGN_PITCH : Nat := 0x20020
def rRGN_ORIGIN_LO : Nat := 0x20040
def rRGN_ORIGIN_HI : Nat := 0x20044
def rRGN_OFFSET : Nat := 0x20080
def rRGN_DEPTH : Nat := 0x200A0
def rRGN_STATUS : Nat := 0x20100
def rRGN_MISS : Nat := 0x20200
/-! IPP (spec/11) -/

def rIPP_LST : Nat := 0x30000
def rIPP_FRAME : Nat := 0x30040
def rIPP_EST : Nat := 0x30080
def rIPP_STATUS : Nat := 0x30100
def rIPP_TRUNC : Nat := 0x30200
def rIPP_EXPO : Nat := 0x30240
/-! STM (spec/06) -/

def rSTM_MAP : Nat := 0x40000
def rSTM_OUT : Nat := 0x40040
def rSTM_ROT_CFG : Nat := 0x40044
def rSTM_DWELL : Nat := 0x40048
def rSTM_TEST_LIMIT : Nat := 0x4004C
def rSTM_DIAG : Nat := 0x40050
def rSTM_MAX_INTERVAL : Nat := 0x40054
def rSTM_HANDOVERS : Nat := 0x40058
def rSTM_FENCE_REQ : Nat := 0x4005C
def rSTM_GRP : Nat := 0x40080
def rSTM_MODE : Nat := 0x40100
def rSTM_SWITCH_STEP_LO : Nat := 0x40104
def rSTM_SWITCH_STEP_HI : Nat := 0x40108
def rSTM_STRIPE_STATUS : Nat := 0x40200
def rSTM_STRIPE_MISS : Nat := 0x40280
/-! PTK (spec/05) -/

def rPTK_LANE : Nat := 0x50000
def rPTK_NEXT_PART : Nat := 0x50080
def rPTK_POOL : Nat := 0x50100
def rPTK_POOL_FREE : Nat := 0x50180
def rPTK_STATUS : Nat := 0x50200
def rPTK_QUEUE : Nat := 0x50204
def rPTK_CNT : Nat := 0x50210
def rPTK_DUP_STEP_LO : Nat := 0x50230
def rPTK_DUP_STEP_HI : Nat := 0x50234
/-! TAR (spec/03, spec/04) -/

def rTAR_MAP : Nat := 0x60000
def rTAR_OUT : Nat := 0x60040
def rTAR_ROT_CFG : Nat := 0x60044
def rTAR_DWELL : Nat := 0x60048
def rTAR_TEST_LIMIT : Nat := 0x6004C
def rTAR_DIAG : Nat := 0x60050
def rTAR_MAX_INTERVAL : Nat := 0x60054
def rTAR_HANDOVERS : Nat := 0x60058
def rTAR_FENCE_REQ : Nat := 0x6005C
def rTAR_GRP : Nat := 0x60080
def rTAR_FAULT : Nat := 0x60200
def rTAR_FAULT_PC : Nat := 0x60204
def rTAR_FAULT_STEP_LO : Nat := 0x60208
def rTAR_FAULT_STEP_HI : Nat := 0x6020C
def rTAR_FAULT_COUNT : Nat := 0x60210
def rTAR_NUM_STATUS : Nat := 0x60300
def rTAR_NUM_FIRST : Nat := 0x60304
def rTAR_NUM_FIRST_STEP_LO : Nat := 0x60308
def rTAR_NUM_FIRST_STEP_HI : Nat := 0x6030C
/-! SYN (spec/08) -/

def rSYN_STATUS : Nat := 0x70000
def rSYN_ERR : Nat := 0x70004
def rSYN_ERR_SRC : Nat := 0x70008
def rSYN_ERR_STEP_LO : Nat := 0x7000C
def rSYN_ERR_STEP_HI : Nat := 0x70010
def rSYN_CNT : Nat := 0x70020
def rSYN_RES : Nat := 0x70800
def rSYN_BAR : Nat := 0x71000
def rSYN_BAR_MASK : Nat := 0x72000
def rSYN_STT : Nat := 0x74000
/-! MEM (spec/07) -/

def rMEM_CH : Nat := 0x80000
def rMEM_REPLAY : Nat := 0x80040
def rMEM_STATUS : Nat := 0x80100
def rMEM_QWIN : Nat := 0x80200
def rMEM_QPOS : Nat := 0x80204
/-! CHK (spec/14) -/

def rCHK_CFG : Nat := 0x90000
def rCHK_STATUS : Nat := 0x90004
def rCHK_WINDOW : Nat := 0x90008
def rCHK_CNT : Nat := 0x90010
def rCHK_MAP : Nat := 0x90040
def rCHK_SAFE_CAUSE : Nat := 0x90100
def rCHK_SAFE_FIRST : Nat := 0x90104
def rCHK_SAFE_STEP_LO : Nat := 0x90108
def rCHK_SAFE_STEP_HI : Nat := 0x9010C
def rCHK_SAFE_REQ : Nat := 0x90110
/-! POS (spec/12) -/

def rPOS_CFG : Nat := 0xA0000
def rPOS_IDX : Nat := 0xA0020
def rPOS_SSI : Nat := 0xA0040
def rPOS_COUNT_LO : Nat := 0xA0100
def rPOS_COUNT_HI : Nat := 0xA0104
def rPOS_STAT : Nat := 0xA0140
def rPOS_VEL : Nat := 0xA0160
def rPOS_INDEX_LATCH_LO : Nat := 0xA0180
def rPOS_INDEX_LATCH_HI : Nat := 0xA0184
def rPOS_LIMIT_LO_LO : Nat := 0xA0200
def rPOS_LIMIT_LO_HI : Nat := 0xA0204
def rPOS_LIMIT_HI_LO : Nat := 0xA0240
def rPOS_LIMIT_HI_HI : Nat := 0xA0244
def rPOS_PRESET_LO : Nat := 0xA0280
def rPOS_PRESET_HI : Nat := 0xA0284
def rPOS_EDGE_FAULT : Nat := 0xA0300
def rPOS_EVT : Nat := 0xA0320
def rPOS_CAP_CFG : Nat := 0xA0400
def rPOS_CAP_POS_LO : Nat := 0xA0500
def rPOS_CAP_POS_HI : Nat := 0xA0504
def rPOS_CAP_TIME_LO : Nat := 0xA0508
def rPOS_CAP_TIME_HI : Nat := 0xA050C
def rPOS_CAP_STEP_LO : Nat := 0xA0510
def rPOS_CAP_STEP_HI : Nat := 0xA0514
def rPOS_CAP_INFO : Nat := 0xA0518
def rPOS_SWCAP : Nat := 0xA0600
def rPOS_EMU_CFG : Nat := 0xA0700
def rPOS_EMU_RATIO : Nat := 0xA0704
/-! NIB (spec/13) -/

def rNIB_STATUS : Nat := 0xB0000
def rNIB_PEND : Nat := 0xB0004
def rNIB_CNT : Nat := 0xB0100
def rNIB_OUT_CFG : Nat := 0xB0200
/-! FIO (spec/13) -/

def rFIO_OUT_CFG : Nat := 0xC0000
def rFIO_OUT_STAT : Nat := 0xC0100
def rFIO_IN_CFG : Nat := 0xC0200
def rFIO_IN_STAT : Nat := 0xC0300
def rFIO_IN_WB : Nat := 0xC0304
def rFIO_LPLUS : Nat := 0xC0308
/-! NET (spec/15) -/

def rNET_PORT : Nat := 0xD0000
def rNET_RES_CFG : Nat := 0xD0004
def rNET_PTP_STAT : Nat := 0xD0010
def rNET_PTP_OFFSET : Nat := 0xD0014
def rNET_PTP_RATE : Nat := 0xD0018
def rNET_TIME_LO : Nat := 0xD0020
def rNET_TIME_HI : Nat := 0xD0024
def rNET_STATUS : Nat := 0xD0100
def rNET_CNT : Nat := 0xD0200
def rNET_DEST : Nat := 0xD0300
/-! TWL (spec/16) -/

def rTWL_CFG : Nat := 0xE0000
def rTWL_SYNC : Nat := 0xE0004
def rTWL_PORT : Nat := 0xE0010
def rTWL_DELAY : Nat := 0xE0020
def rTWL_STATUS : Nat := 0xE0040
def rTWL_ALIGN : Nat := 0xE0044
def rTWL_TRIM : Nat := 0xE0048
def rTWL_PEER : Nat := 0xE004C
def rTWL_SIGN_DIFF : Nat := 0xE0050
def rTWL_SIGN_DIFF_STEP_LO : Nat := 0xE0054
def rTWL_SIGN_DIFF_STEP_HI : Nat := 0xE0058
def rTWL_ROUTE_R : Nat := 0xE0100
def rTWL_ROUTE_N : Nat := 0xE0200
def rTWL_CNT : Nat := 0xE0600
/-! QLL (spec/17) -/

def rQLL_USW_REQ : Nat := 0xF0000
def rQLL_USW_RESULT : Nat := 0xF0004
def rQLL_USW_EVT : Nat := 0xF0008
def rQLL_USW_EVT_STEP_LO : Nat := 0xF000C
def rQLL_USW_EVT_STEP_HI : Nat := 0xF0010
def rQLL_STATUS : Nat := 0xF0020
def rQLL_RECON : Nat := 0xF0024
def rQLL_QMP_REJECT : Nat := 0xF0028
def rQLL_BOOT_COUNT_LO : Nat := 0xF0030
def rQLL_BOOT_COUNT_HI : Nat := 0xF0034
def rQLL_BOOT : Nat := 0xF0038
def rQLL_STAGE : Nat := 0xF003C
def rQLL_TEMP : Nat := 0xF0100
/-! INK (spec/18) -/

def rINK_STATUS : Nat := 0x100000
def rINK_QUEUE : Nat := 0x100004
def rINK_SEQ_LO : Nat := 0x100008
def rINK_SEQ_HI : Nat := 0x10000C
def rINK_DROPS : Nat := 0x100010
def rINK_MSG : Nat := 0x100100
def rINK_MSG_GO : Nat := 0x100180
/-! FWL (spec/14) -/

def rFWL_STATUS : Nat := 0x110000
def rFWL_VIOL : Nat := 0x110004
def rFWL_VIOL_ADDR : Nat := 0x110008
def rFWL_CNT : Nat := 0x11000C
def rFWL_SAFE_CNT : Nat := 0x110010
def rFWL_WIN_BASE : Nat := 0x111000
def rFWL_WIN_LIMIT : Nat := 0x111004
def rFWL_WIN_ACC : Nat := 0x111008
/-! CTX (spec/09) -/

def rCTX_PART : Nat := 0x120000
def rCTX_SLICE : Nat := 0x120004
def rCTX_AUX : Nat := 0x120100
def rCTX_SLICES : Nat := 0x120140
def rCTX_STATUS : Nat := 0x120200
def rCTX_CHG : Nat := 0x120210
def rCTX_CHG_STEP_LO : Nat := 0x120214
def rCTX_CHG_STEP_HI : Nat := 0x120218
def rCTX_CHG_INCOMPLETE : Nat := 0x12021C

/-- The registers of SYS (spec/20, spec/02, spec/19). -/
def regsSYS : List RegDef :=
  [⟨rSYS_ID, 0, 1, 0, 1, 0x1000F00, 0x0, 0x0⟩,
   ⟨rSYS_STATE, 0, 1, 0, 1, 0x0, 0x0, 0x0⟩,
   ⟨rSYS_USW, 4, 19, 0, 1, 0x1, 0x0, 0x0⟩,
   ⟨rSYS_STEP_COUNT_LO, 0, 1, 0, 1, 0x0, 0x0, 0x0⟩,
   ⟨rSYS_STEP_COUNT_HI, 0, 1, 0, 1, 0x0, 0x0, 0x0⟩,
   ⟨rSYS_FREEZE_CYCLES_LO, 0, 1, 0, 1, 0x0, 0x0, 0x0⟩,
   ⟨rSYS_FREEZE_CYCLES_HI, 0, 1, 0, 1, 0x0, 0x0, 0x0⟩,
   ⟨rSYS_CYCLE_IN_STEP, 0, 1, 0, 1, 0x0, 0x0, 0x0⟩,
   ⟨rSYS_REPLAY_SRAM, 0, 1, 0, 1, 0x0, 0x0, 0x0⟩,
   ⟨rSYS_REPLAY_DRAM, 0, 1, 0, 1, 0x0, 0x0, 0x0⟩,
   ⟨rSYS_FREEZE_EXCESS, 0, 1, 0, 1, 0x0, 0x0, 0x0⟩,
   ⟨rSYS_FREEZE_MAX, 0, 1, 0, 1, 0x0, 0x0, 0x0⟩,
   ⟨rSYS_DET_STATUS, 0, 1, 0, 1, 0x0, 0x0, 0x3F⟩,
   ⟨rSYS_PWR, 0, 1, 0, 1, 0x0, 0x0, 0x6⟩,
   ⟨rSYS_RESET, 0, 1, 0, 1, 0x0, 0x0, 0x0⟩]

/-- The registers of CXP (spec/10). -/
def regsCXP : List RegDef :=
  [⟨rCXP_PORT, 4, 8, 0, 1, 0x0, 0x0, 0x0⟩,
   ⟨rCXP_PORT_STAT, 4, 8, 0, 1, 0x0, 0x0, 0x0⟩,
   ⟨rCXP_LINE, 4, 8, 0, 1, 0x40000, 0x0, 0x0⟩,
   ⟨rCXP_LOCK, 0, 1, 0, 1, 0x0, 0x0, 0x0⟩,
   ⟨rCXP_STATUS, 0, 1, 0, 1, 0x0, 0x0, 0x1FF⟩,
   ⟨rCXP_REPLACED, 4, 8, 0, 1, 0x0, 0x0, 0x0⟩,
   ⟨rCXP_DROP, 4, 8, 0, 1, 0x0, 0x0, 0x0⟩,
   ⟨rCXP_TRIG_LO, 8, 8, 0, 1, 0x0, 0x0, 0x0⟩,
   ⟨rCXP_TRIG_HI, 8, 8, 0, 1, 0x0, 0x0, 0x0⟩]

/-- The registers of RGN (spec/10). -/
def regsRGN : List RegDef :=
  [⟨rRGN_GRP, 4, 8, 0, 1, 0x1, 0x0, 0x0⟩,
   ⟨rRGN_PITCH, 4, 8, 0, 1, 0x10000, 0x0, 0x0⟩,
   ⟨rRGN_ORIGIN_LO, 8, 8, 0, 1, 0x0, 0x0, 0x0⟩,
   ⟨rRGN_ORIGIN_HI, 8, 8, 0, 1, 0x0, 0x0, 0x0⟩,
   ⟨rRGN_OFFSET, 4, 8, 0, 1, 0x0, 0x0, 0x0⟩,
   ⟨rRGN_DEPTH, 4, 8, 0, 1, 0x0, 0x0, 0x0⟩,
   ⟨rRGN_STATUS, 0, 1, 0, 1, 0x0, 0x0, 0x7⟩,
   ⟨rRGN_MISS, 4, 8, 0, 1, 0x0, 0x0, 0x0⟩]

/-- The registers of IPP (spec/11). -/
def regsIPP : List RegDef :=
  [⟨rIPP_LST, 0, 1, 0, 1, 0x0, 0x0, 0x0⟩,
   ⟨rIPP_FRAME, 4, 8, 0, 1, 0x0, 0x0, 0x0⟩,
   ⟨rIPP_EST, 4, 8, 0, 1, 0x0, 0x0, 0x0⟩,
   ⟨rIPP_STATUS, 0, 1, 0, 1, 0x0, 0x0, 0x1F⟩,
   ⟨rIPP_TRUNC, 4, 8, 0, 1, 0x0, 0x0, 0x0⟩,
   ⟨rIPP_EXPO, 4, 8, 0, 1, 0x0, 0x0, 0x0⟩]

/-- The registers of STM (spec/06). -/
def regsSTM : List RegDef :=
  [⟨rSTM_MAP, 4, 16, 0, 1, 0x0, 0x0, 0x0⟩,
   ⟨rSTM_OUT, 0, 1, 0, 1, 0x10, 0x0, 0x0⟩,
   ⟨rSTM_ROT_CFG, 0, 1, 0, 1, 0x1, 0x3, 0x0⟩,
   ⟨rSTM_DWELL, 0, 1, 0, 1, 0x186A0, 0xFFFFFFFF, 0x0⟩,
   ⟨rSTM_TEST_LIMIT, 0, 1, 0, 1, 0x1E8480, 0xFFFFFFFF, 0x0⟩,
   ⟨rSTM_DIAG, 0, 1, 0, 1, 0x0, 0x0, 0x1D⟩,
   ⟨rSTM_MAX_INTERVAL, 0, 1, 0, 1, 0x0, 0x0, 0x0⟩,
   ⟨rSTM_HANDOVERS, 0, 1, 0, 1, 0x0, 0x0, 0x0⟩,
   ⟨rSTM_FENCE_REQ, 0, 1, 0, 1, 0x0, 0x0, 0x0⟩,
   ⟨rSTM_GRP, 4, 17, 0, 1, 0x0, 0x0, 0x0⟩,
   ⟨rSTM_MODE, 0, 1, 0, 1, 0x0, 0x100, 0x0⟩,
   ⟨rSTM_SWITCH_STEP_LO, 0, 1, 0, 1, 0x0, 0x0, 0x0⟩,
   ⟨rSTM_SWITCH_STEP_HI, 0, 1, 0, 1, 0x0, 0x0, 0x0⟩,
   ⟨rSTM_STRIPE_STATUS, 0, 1, 0, 1, 0x0, 0x0, 0xF⟩,
   ⟨rSTM_STRIPE_MISS, 4, 32, 0, 1, 0x0, 0x0, 0x0⟩]

/-- The registers of PTK (spec/05). -/
def regsPTK : List RegDef :=
  [⟨rPTK_LANE, 4, 32, 0, 1, 0x0, 0x0, 0x0⟩,
   ⟨rPTK_NEXT_PART, 4, 32, 0, 1, 0x0, 0x0, 0x0⟩,
   ⟨rPTK_POOL, 4, 32, 0, 1, 0x0, 0x0, 0x0⟩,
   ⟨rPTK_POOL_FREE, 4, 32, 0, 1, 0x0, 0x0, 0x0⟩,
   ⟨rPTK_STATUS, 0, 1, 0, 1, 0x0, 0x0, 0x7F⟩,
   ⟨rPTK_QUEUE, 0, 1, 0, 1, 0x0, 0x0, 0x0⟩,
   ⟨rPTK_CNT, 4, 8, 0, 1, 0x0, 0x0, 0x0⟩,
   ⟨rPTK_DUP_STEP_LO, 0, 1, 0, 1, 0x0, 0x0, 0x0⟩,
   ⟨rPTK_DUP_STEP_HI, 0, 1, 0, 1, 0x0, 0x0, 0x0⟩]

/-- The registers of TAR (spec/03, spec/04). -/
def regsTAR : List RegDef :=
  [⟨rTAR_MAP, 4, 16, 0, 1, 0x0, 0x0, 0x0⟩,
   ⟨rTAR_OUT, 0, 1, 0, 1, 0x10, 0x0, 0x0⟩,
   ⟨rTAR_ROT_CFG, 0, 1, 0, 1, 0x1, 0x3, 0x0⟩,
   ⟨rTAR_DWELL, 0, 1, 0, 1, 0x186A0, 0xFFFFFFFF, 0x0⟩,
   ⟨rTAR_TEST_LIMIT, 0, 1, 0, 1, 0x1E8480, 0xFFFFFFFF, 0x0⟩,
   ⟨rTAR_DIAG, 0, 1, 0, 1, 0x0, 0x0, 0x1D⟩,
   ⟨rTAR_MAX_INTERVAL, 0, 1, 0, 1, 0x0, 0x0, 0x0⟩,
   ⟨rTAR_HANDOVERS, 0, 1, 0, 1, 0x0, 0x0, 0x0⟩,
   ⟨rTAR_FENCE_REQ, 0, 1, 0, 1, 0x0, 0x0, 0x0⟩,
   ⟨rTAR_GRP, 4, 17, 0, 1, 0x0, 0x0, 0x0⟩,
   ⟨rTAR_FAULT, 0, 1, 0, 1, 0x0, 0x0, 0x80000000⟩,
   ⟨rTAR_FAULT_PC, 0, 1, 0, 1, 0x0, 0x0, 0x0⟩,
   ⟨rTAR_FAULT_STEP_LO, 0, 1, 0, 1, 0x0, 0x0, 0x0⟩,
   ⟨rTAR_FAULT_STEP_HI, 0, 1, 0, 1, 0x0, 0x0, 0x0⟩,
   ⟨rTAR_FAULT_COUNT, 0, 1, 0, 1, 0x0, 0x0, 0x0⟩,
   ⟨rTAR_NUM_STATUS, 0, 1, 0, 1, 0x0, 0x0, 0x3F⟩,
   ⟨rTAR_NUM_FIRST, 0, 1, 0, 1, 0x0, 0x0, 0x0⟩,
   ⟨rTAR_NUM_FIRST_STEP_LO, 0, 1, 0, 1, 0x0, 0x0, 0x0⟩,
   ⟨rTAR_NUM_FIRST_STEP_HI, 0, 1, 0, 1, 0x0, 0x0, 0x0⟩]

/-- The registers of SYN (spec/08). -/
def regsSYN : List RegDef :=
  [⟨rSYN_STATUS, 0, 1, 0, 1, 0x0, 0x0, 0x1FF⟩,
   ⟨rSYN_ERR, 0, 1, 0, 1, 0x0, 0x0, 0x80000000⟩,
   ⟨rSYN_ERR_SRC, 0, 1, 0, 1, 0x0, 0x0, 0x0⟩,
   ⟨rSYN_ERR_STEP_LO, 0, 1, 0, 1, 0x0, 0x0, 0x0⟩,
   ⟨rSYN_ERR_STEP_HI, 0, 1, 0, 1, 0x0, 0x0, 0x0⟩,
   ⟨rSYN_CNT, 4, 8, 0, 1, 0x0, 0x0, 0x0⟩,
   ⟨rSYN_RES, 4, 256, 0, 1, 0xFFFFF, 0x0, 0x0⟩,
   ⟨rSYN_BAR, 4, 64, 0, 1, 0x1F00, 0x0, 0x0⟩,
   ⟨rSYN_BAR_MASK, 64, 64, 4, 16, 0x0, 0x0, 0x0⟩,
   ⟨rSYN_STT, 1024, 20, 4, 256, 0x0, 0x0, 0x0⟩]

/-- The registers of MEM (spec/07). -/
def regsMEM : List RegDef :=
  [⟨rMEM_CH, 4, 16, 0, 1, 0x0, 0x0, 0x0⟩,
   ⟨rMEM_REPLAY, 4, 16, 0, 1, 0x0, 0x0, 0x0⟩,
   ⟨rMEM_STATUS, 0, 1, 0, 1, 0x0, 0x0, 0x1E⟩,
   ⟨rMEM_QWIN, 0, 1, 0, 1, 0x0, 0xF, 0x0⟩,
   ⟨rMEM_QPOS, 0, 1, 0, 1, 0x0, 0x0, 0x0⟩]

/-- The registers of CHK (spec/14). -/
def regsCHK : List RegDef :=
  [⟨rCHK_CFG, 0, 1, 0, 1, 0x4000800, 0x0, 0x0⟩,
   ⟨rCHK_STATUS, 0, 1, 0, 1, 0x0, 0x0, 0xF⟩,
   ⟨rCHK_WINDOW, 0, 1, 0, 1, 0x0, 0x0, 0x0⟩,
   ⟨rCHK_CNT, 4, 8, 0, 1, 0x0, 0x0, 0x0⟩,
   ⟨rCHK_MAP, 4, 16, 0, 1, 0x1010101, 0x0, 0x0⟩,
   ⟨rCHK_SAFE_CAUSE, 0, 1, 0, 1, 0x0, 0x0, 0x0⟩,
   ⟨rCHK_SAFE_FIRST, 0, 1, 0, 1, 0x0, 0x0, 0x0⟩,
   ⟨rCHK_SAFE_STEP_LO, 0, 1, 0, 1, 0x0, 0x0, 0x0⟩,
   ⟨rCHK_SAFE_STEP_HI, 0, 1, 0, 1, 0x0, 0x0, 0x0⟩,
   ⟨rCHK_SAFE_REQ, 0, 1, 0, 1, 0x0, 0x0, 0x0⟩]

/-- The registers of POS (spec/12). -/
def regsPOS : List RegDef :=
  [⟨rPOS_CFG, 4, 8, 0, 1, 0x800, 0x1FFFFFFF, 0x0⟩,
   ⟨rPOS_IDX, 4, 8, 0, 1, 0x0, 0xFFFFFFFF, 0x0⟩,
   ⟨rPOS_SSI, 4, 8, 0, 1, 0xA0403F, 0x3FFFFFFF, 0x0⟩,
   ⟨rPOS_COUNT_LO, 8, 8, 0, 1, 0x0, 0x0, 0x0⟩,
   ⟨rPOS_COUNT_HI, 8, 8, 0, 1, 0x0, 0x0, 0x0⟩,
   ⟨rPOS_STAT, 4, 8, 0, 1, 0x0, 0x0, 0x3F0200⟩,
   ⟨rPOS_VEL, 4, 8, 0, 1, 0x0, 0x0, 0x0⟩,
   ⟨rPOS_INDEX_LATCH_LO, 8, 8, 0, 1, 0x0, 0x0, 0x0⟩,
   ⟨rPOS_INDEX_LATCH_HI, 8, 8, 0, 1, 0x0, 0x0, 0x0⟩,
   ⟨rPOS_LIMIT_LO_LO, 8, 8, 0, 1, 0x1, 0xFFFFFFFF, 0x0⟩,
   ⟨rPOS_LIMIT_LO_HI, 8, 8, 0, 1, 0x80000000, 0xFFFFFFFF, 0x0⟩,
   ⟨rPOS_LIMIT_HI_LO, 8, 8, 0, 1, 0xFFFFFFFF, 0xFFFFFFFF, 0x0⟩,
   ⟨rPOS_LIMIT_HI_HI, 8, 8, 0, 1, 0x7FFFFFFF, 0xFFFFFFFF, 0x0⟩,
   ⟨rPOS_PRESET_LO, 8, 8, 0, 1, 0x0, 0xFFFFFFFF, 0x0⟩,
   ⟨rPOS_PRESET_HI, 8, 8, 0, 1, 0x0, 0xFFFFFFFF, 0x0⟩,
   ⟨rPOS_EDGE_FAULT, 4, 8, 0, 1, 0x0, 0x0, 0x0⟩,
   ⟨rPOS_EVT, 4, 8, 0, 1, 0x0, 0x0, 0x0⟩,
   ⟨rPOS_CAP_CFG, 4, 8, 0, 1, 0x0, 0x7F77, 0x0⟩,
   ⟨rPOS_CAP_POS_LO, 32, 8, 0, 1, 0x0, 0x0, 0x0⟩,
   ⟨rPOS_CAP_POS_HI, 32, 8, 0, 1, 0x0, 0x0, 0x0⟩,
   ⟨rPOS_CAP_TIME_LO, 32, 8, 0, 1, 0x0, 0x0, 0x0⟩,
   ⟨rPOS_CAP_TIME_HI, 32, 8, 0, 1, 0x0, 0x0, 0x0⟩,
   ⟨rPOS_CAP_STEP_LO, 32, 8, 0, 1, 0x0, 0x0, 0x0⟩,
   ⟨rPOS_CAP_STEP_HI, 32, 8, 0, 1, 0x0, 0x0, 0x0⟩,
   ⟨rPOS_CAP_INFO, 32, 8, 0, 1, 0x0, 0x0, 0xC0000000⟩,
   ⟨rPOS_SWCAP, 0, 1, 0, 1, 0x0, 0x0, 0x0⟩,
   ⟨rPOS_EMU_CFG, 0, 1, 0, 1, 0x0, 0x3F, 0x10000⟩,
   ⟨rPOS_EMU_RATIO, 0, 1, 0, 1, 0x10001, 0xFFFFFFFF, 0x0⟩]

/-- The registers of NIB (spec/13). -/
def regsNIB : List RegDef :=
  [⟨rNIB_STATUS, 0, 1, 0, 1, 0x0, 0x0, 0xFF⟩,
   ⟨rNIB_PEND, 0, 1, 0, 1, 0x0, 0x0, 0x0⟩,
   ⟨rNIB_CNT, 4, 12, 0, 1, 0x0, 0x0, 0x0⟩,
   ⟨rNIB_OUT_CFG, 4, 64, 0, 1, 0x8, 0x0, 0x0⟩]

/-- The registers of FIO (spec/13). -/
def regsFIO : List RegDef :=
  [⟨rFIO_OUT_CFG, 4, 64, 0, 1, 0x1000000, 0x0, 0x0⟩,
   ⟨rFIO_OUT_STAT, 4, 64, 0, 1, 0x0, 0x0, 0x5C⟩,
   ⟨rFIO_IN_CFG, 4, 32, 0, 1, 0x320001, 0x0, 0x0⟩,
   ⟨rFIO_IN_STAT, 0, 1, 0, 1, 0x0, 0x0, 0x0⟩,
   ⟨rFIO_IN_WB, 0, 1, 0, 1, 0x0, 0x0, 0x0⟩,
   ⟨rFIO_LPLUS, 0, 1, 0, 1, 0x0, 0x0, 0xFF00⟩]

/-- The registers of NET (spec/15). -/
def regsNET : List RegDef :=
  [⟨rNET_PORT, 0, 1, 0, 1, 0x0, 0x0, 0x0⟩,
   ⟨rNET_RES_CFG, 0, 1, 0, 1, 0x64014, 0x0, 0x0⟩,
   ⟨rNET_PTP_STAT, 0, 1, 0, 1, 0x0, 0x0, 0x0⟩,
   ⟨rNET_PTP_OFFSET, 0, 1, 0, 1, 0x0, 0x0, 0x0⟩,
   ⟨rNET_PTP_RATE, 0, 1, 0, 1, 0x0, 0x0, 0x0⟩,
   ⟨rNET_TIME_LO, 0, 1, 0, 1, 0x0, 0x0, 0x0⟩,
   ⟨rNET_TIME_HI, 0, 1, 0, 1, 0x0, 0x0, 0x0⟩,
   ⟨rNET_STATUS, 0, 1, 0, 1, 0x0, 0x0, 0x3F⟩,
   ⟨rNET_CNT, 4, 12, 0, 1, 0x0, 0x0, 0x0⟩,
   ⟨rNET_DEST, 4, 16, 0, 1, 0x0, 0x0, 0x0⟩]

/-- The registers of TWL (spec/16). -/
def regsTWL : List RegDef :=
  [⟨rTWL_CFG, 0, 1, 0, 1, 0x38000000, 0x0, 0x0⟩,
   ⟨rTWL_SYNC, 0, 1, 0, 1, 0x0, 0x0, 0x0⟩,
   ⟨rTWL_PORT, 4, 4, 0, 1, 0x0, 0x0, 0x0⟩,
   ⟨rTWL_DELAY, 4, 4, 0, 1, 0x0, 0x0, 0x0⟩,
   ⟨rTWL_STATUS, 0, 1, 0, 1, 0x0, 0x0, 0x7FF⟩,
   ⟨rTWL_ALIGN, 0, 1, 0, 1, 0x0, 0x0, 0x0⟩,
   ⟨rTWL_TRIM, 0, 1, 0, 1, 0x0, 0x0, 0x0⟩,
   ⟨rTWL_PEER, 0, 1, 0, 1, 0x0, 0x0, 0x0⟩,
   ⟨rTWL_SIGN_DIFF, 0, 1, 0, 1, 0x0, 0x0, 0x0⟩,
   ⟨rTWL_SIGN_DIFF_STEP_LO, 0, 1, 0, 1, 0x0, 0x0, 0x0⟩,
   ⟨rTWL_SIGN_DIFF_STEP_HI, 0, 1, 0, 1, 0x0, 0x0, 0x0⟩,
   ⟨rTWL_ROUTE_R, 4, 16, 0, 1, 0xDB6DB6, 0x0, 0x0⟩,
   ⟨rTWL_ROUTE_N, 4, 256, 0, 1, 0xDB6DB6, 0x0, 0x0⟩,
   ⟨rTWL_CNT, 32, 4, 4, 6, 0x0, 0x0, 0x0⟩]

/-- The registers of QLL (spec/17). -/
def regsQLL : List RegDef :=
  [⟨rQLL_USW_REQ, 0, 1, 0, 1, 0x0, 0x0, 0x0⟩,
   ⟨rQLL_USW_RESULT, 0, 1, 0, 1, 0x0, 0x0, 0x0⟩,
   ⟨rQLL_USW_EVT, 0, 1, 0, 1, 0x0, 0x0, 0x0⟩,
   ⟨rQLL_USW_EVT_STEP_LO, 0, 1, 0, 1, 0x0, 0x0, 0x0⟩,
   ⟨rQLL_USW_EVT_STEP_HI, 0, 1, 0, 1, 0x0, 0x0, 0x0⟩,
   ⟨rQLL_STATUS, 0, 1, 0, 1, 0x0, 0x0, 0x1F⟩,
   ⟨rQLL_RECON, 0, 1, 0, 1, 0x0, 0x0, 0x0⟩,
   ⟨rQLL_QMP_REJECT, 0, 1, 0, 1, 0x0, 0x0, 0x0⟩,
   ⟨rQLL_BOOT_COUNT_LO, 0, 1, 0, 1, 0x0, 0x0, 0x0⟩,
   ⟨rQLL_BOOT_COUNT_HI, 0, 1, 0, 1, 0x0, 0x0, 0x0⟩,
   ⟨rQLL_BOOT, 0, 1, 0, 1, 0x0, 0x0, 0x0⟩,
   ⟨rQLL_STAGE, 0, 1, 0, 1, 0x0, 0x0, 0x0⟩,
   ⟨rQLL_TEMP, 4, 16, 0, 1, 0x0, 0x0, 0x0⟩]

/-- The registers of INK (spec/18). -/
def regsINK : List RegDef :=
  [⟨rINK_STATUS, 0, 1, 0, 1, 0x0, 0x0, 0xC⟩,
   ⟨rINK_QUEUE, 0, 1, 0, 1, 0x0, 0x0, 0x0⟩,
   ⟨rINK_SEQ_LO, 0, 1, 0, 1, 0x0, 0x0, 0x0⟩,
   ⟨rINK_SEQ_HI, 0, 1, 0, 1, 0x0, 0x0, 0x0⟩,
   ⟨rINK_DROPS, 0, 1, 0, 1, 0x0, 0x0, 0x0⟩,
   ⟨rINK_MSG, 4, 22, 0, 1, 0x0, 0xFFFFFFFF, 0x0⟩,
   ⟨rINK_MSG_GO, 0, 1, 0, 1, 0x0, 0x0, 0x0⟩]

/-- The registers of FWL (spec/14). -/
def regsFWL : List RegDef :=
  [⟨rFWL_STATUS, 0, 1, 0, 1, 0x0, 0x0, 0x3⟩,
   ⟨rFWL_VIOL, 0, 1, 0, 1, 0x0, 0x0, 0x80000000⟩,
   ⟨rFWL_VIOL_ADDR, 0, 1, 0, 1, 0x0, 0x0, 0x0⟩,
   ⟨rFWL_CNT, 0, 1, 0, 1, 0x0, 0x0, 0x0⟩,
   ⟨rFWL_SAFE_CNT, 0, 1, 0, 1, 0x0, 0x0, 0x0⟩,
   ⟨rFWL_WIN_BASE, 1024, 23, 16, 64, 0x0, 0x0, 0x0⟩,
   ⟨rFWL_WIN_LIMIT, 1024, 23, 16, 64, 0x0, 0x0, 0x0⟩,
   ⟨rFWL_WIN_ACC, 1024, 23, 16, 64, 0x0, 0x0, 0x0⟩]

/-- The registers of CTX (spec/09). -/
def regsCTX : List RegDef :=
  [⟨rCTX_PART, 0, 1, 0, 1, 0x10, 0x0, 0x0⟩,
   ⟨rCTX_SLICE, 0, 1, 0, 1, 0x64, 0x0, 0x0⟩,
   ⟨rCTX_AUX, 4, 16, 0, 1, 0x0, 0x0, 0x0⟩,
   ⟨rCTX_SLICES, 4, 16, 0, 1, 0x0, 0x0, 0x0⟩,
   ⟨rCTX_STATUS, 0, 1, 0, 1, 0x0, 0x0, 0x1F⟩,
   ⟨rCTX_CHG, 0, 1, 0, 1, 0x0, 0x0, 0x0⟩,
   ⟨rCTX_CHG_STEP_LO, 0, 1, 0, 1, 0x0, 0x0, 0x0⟩,
   ⟨rCTX_CHG_STEP_HI, 0, 1, 0, 1, 0x0, 0x0, 0x0⟩,
   ⟨rCTX_CHG_INCOMPLETE, 0, 1, 0, 1, 0x0, 0x0, 0x0⟩]

/-- The registers of each block, by block code (R472). -/
def regsOfBlock (k : Nat) : List RegDef :=
  match k with
  | 0 => regsSYS
  | 1 => regsCXP
  | 2 => regsRGN
  | 3 => regsIPP
  | 4 => regsSTM
  | 5 => regsPTK
  | 6 => regsTAR
  | 7 => regsSYN
  | 8 => regsMEM
  | 9 => regsCHK
  | 10 => regsPOS
  | 11 => regsNIB
  | 12 => regsFIO
  | 13 => regsNET
  | 14 => regsTWL
  | 15 => regsQLL
  | 16 => regsINK
  | 17 => regsFWL
  | 18 => regsCTX
  | _ => []

/-- The offset `off` is the place of one of the registers of `r`. -/
def RegDef.holds (r : RegDef) (off : Nat) : Bool :=
  if off < r.base then false
  else
    let x := off - r.base
    let i := if r.s1 = 0 then 0 else x / r.s1
    let y := if r.s1 = 0 then x else x % r.s1
    let j := if r.s2 = 0 then 0 else y / r.s2
    let z := if r.s2 = 0 then y else y % r.s2
    decide (i < r.n1 ∧ j < r.n2 ∧ z = 0)

/-- The definition of the register at an offset, if a register stands there (R472). -/
def regDef? (off : Nat) : Option RegDef := (regsOfBlock (off / 0x10000)).find? (·.holds off)

/-- The reset value of the plain register at an offset; TAR_MAPn and STM_MAPn reset to n (R126, R165). -/
def regReset (off : Nat) : Nat :=
  if rTAR_MAP ≤ off ∧ off < rTAR_MAP + 64 then (off - rTAR_MAP) / 4
  else if rSTM_MAP ≤ off ∧ off < rSTM_MAP + 64 then (off - rSTM_MAP) / 4
  else
    match regDef? off with
    | some r => r.reset
    | none => 0

end Sys2Proof.Machine
end

