-- ==== Sys2Proof/Machine/FuncTables.lean ====
section
/-! DEFINITION. The tables of the VPU functions, R85: entry i is the stated real value times the stated scale,
rounded to nearest with ties to even. Each table is written in eight pieces of 32 entries. -/

namespace Sys2Proof.Machine

/-- R85, exp2: `2^(i/256)` times `2^30`. -/
def tblExp2 : List Nat :=
  [1073741824, 1076653033, 1079572136, 1082499153, 1085434106, 1088377016, 1091327906, 1094286796,
   1097253708, 1100228665, 1103211687, 1106202798, 1109202018, 1112209370, 1115224875, 1118248556,
   1121280436, 1124320536, 1127368878, 1130425485, 1133490379, 1136563583, 1139645120, 1142735011,
   1145833280, 1148939949, 1152055042, 1155178580, 1158310587, 1161451085, 1164600099, 1167757650] ++
  [1170923762, 1174098458, 1177281762, 1180473697, 1183674286, 1186883552, 1190101520, 1193328213,
   1196563654, 1199807867, 1203060876, 1206322705, 1209593378, 1212872918, 1216161350, 1219458698,
   1222764986, 1226080238, 1229404479, 1232737732, 1236080024, 1239431376, 1242791816, 1246161366,
   1249540052, 1252927899, 1256324931, 1259731174, 1263146652, 1266571390, 1270005413, 1273448747] ++
  [1276901417, 1280363448, 1283834865, 1287315695, 1290805962, 1294305692, 1297814910, 1301333643,
   1304861917, 1308399756, 1311947188, 1315504238, 1319070932, 1322647296, 1326233356, 1329829140,
   1333434672, 1337049980, 1340675091, 1344310030, 1347954824, 1351609500, 1355274085, 1358948606,
   1362633090, 1366327563, 1370032052, 1373746586, 1377471191, 1381205894, 1384950723, 1388705706] ++
  [1392470869, 1396246240, 1400031848, 1403827719, 1407633882, 1411450365, 1415277195, 1419114401,
   1422962010, 1426820052, 1430688553, 1434567544, 1438457051, 1442357104, 1446267730, 1450188960,
   1454120821, 1458063343, 1462016553, 1465980482, 1469955159, 1473940611, 1477936870, 1481943963,
   1485961921, 1489990772, 1494030547, 1498081275, 1502142985, 1506215708, 1510299473, 1514394310] ++
  [1518500250, 1522617322, 1526745556, 1530884983, 1535035634, 1539197537, 1543370725, 1547555228,
   1551751076, 1555958300, 1560176931, 1564406999, 1568648537, 1572901575, 1577166143, 1581442275,
   1585730000, 1590029350, 1594340357, 1598663052, 1602997467, 1607343634, 1611701585, 1616071351,
   1620452965, 1624846459, 1629251865, 1633669214, 1638098541, 1642539877, 1646993254, 1651458706] ++
  [1655936265, 1660425963, 1664927835, 1669441912, 1673968228, 1678506817, 1683057710, 1687620943,
   1692196547, 1696784557, 1701385007, 1705997930, 1710623359, 1715261330, 1719911875, 1724575029,
   1729250827, 1733939301, 1738640488, 1743354420, 1748081133, 1752820662, 1757573041, 1762338305,
   1767116489, 1771907628, 1776711757, 1781528911, 1786359126, 1791202437, 1796058879, 1800928489] ++
  [1805811301, 1810707353, 1815616678, 1820539314, 1825475297, 1830424663, 1835387448, 1840363688,
   1845353420, 1850356681, 1855373507, 1860403934, 1865448001, 1870505744, 1875577199, 1880662405,
   1885761398, 1890874216, 1896000896, 1901141476, 1906295993, 1911464486, 1916646992, 1921843549,
   1927054196, 1932278970, 1937517909, 1942771053, 1948038440, 1953320108, 1958616096, 1963926443] ++
  [1969251188, 1974590370, 1979944027, 1985312200, 1990694927, 1996092249, 2001504204, 2006930832,
   2012372174, 2017828268, 2023299156, 2028784876, 2034285470, 2039800978, 2045331439, 2050876895,
   2056437387, 2062012954, 2067603638, 2073209480, 2078830522, 2084466803, 2090118366, 2095785251,
   2101467502, 2107165158, 2112878262, 2118606857, 2124350982, 2130110682, 2135885998, 2141676973]

/-- R85, log2: `log2(1 + i/256)` times `2^30`. -/
def tblLog2 : List Nat :=
  [0, 6039314, 12055174, 18047761, 24017256, 29963836, 35887675, 41788947,
   47667823, 53524472, 59359063, 65171760, 70962728, 76732128, 82480119, 88206862,
   93912511, 99597222, 105261148, 110904440, 116527248, 122129721, 127712004, 133274244,
   138816582, 144339162, 149842124, 155325606, 160789745, 166234679, 171660541, 177067464] ++
  [182455581, 187825021, 193175914, 198508388, 203822568, 209118580, 214396548, 219656594,
   224898839, 230123404, 235330407, 240519966, 245692198, 250847218, 255985140, 261106077,
   266210141, 271297442, 276368092, 281422197, 286459867, 291481207, 296486323, 301475319,
   306448299, 311405366, 316346620, 321272163, 326182095, 331076513, 335955515, 340819199] ++
  [345667660, 350500993, 355319292, 360122651, 364911162, 369684916, 374444004, 379188517,
   383918542, 388634168, 393335482, 398022572, 402695523, 407354420, 411999347, 416630388,
   421247625, 425851141, 430441017, 435017334, 439580170, 444129607, 448665721, 453188592,
   457698295, 462194908, 466678506, 471149164, 475606957, 480051959, 484484242, 488903880] ++
  [493310944, 497705506, 502087636, 506457405, 510814882, 515160136, 519493235, 523814248,
   528123241, 532420281, 536705435, 540978767, 545240343, 549490228, 553728485, 557955178,
   562170370, 566374123, 570566499, 574747559, 578917365, 583075977, 587223455, 591359858,
   595485245, 599599675, 603703206, 607795895, 611877800, 615948977, 620009483, 624059373] ++
  [628098702, 632127527, 636145900, 640153876, 644151509, 648138853, 652115959, 656082880,
   660039669, 663986377, 667923055, 671849754, 675766525, 679673418, 683570481, 687457766,
   691335320, 695203192, 699061430, 702910083, 706749198, 710578822, 714399001, 718209783,
   722011213, 725803337, 729586201, 733359850, 737124328, 740879680, 744625951, 748363183] ++
  [752091421, 755810707, 759521085, 763222597, 766915285, 770599192, 774274358, 777940826,
   781598637, 785247830, 788888448, 792520529, 796144114, 799759243, 803365955, 806964289,
   810554283, 814135978, 817709409, 821274617, 824831638, 828380510, 831921271, 835453956,
   838978604, 842495250, 846003931, 849504683, 852997541, 856482542, 859959719, 863429109] ++
  [866890747, 870344666, 873790901, 877229486, 880660455, 884083842, 887499680, 890908003,
   894308843, 897702233, 901088206, 904466794, 907838029, 911201944, 914558569, 917907937,
   921250079, 924585025, 927912807, 931233456, 934547002, 937853475, 941152905, 944445323,
   947730758, 951009239, 954280797, 957545460, 960803257, 964054218, 967298370, 970535742] ++
  [973766362, 976990259, 980207461, 983417995, 986621888, 989819169, 993009864, 996194001,
   999371606, 1002542707, 1005707329, 1008865499, 1012017244, 1015162589, 1018301561, 1021434185,
   1024560487, 1027680492, 1030794226, 1033901713, 1037002979, 1040098049, 1043186948, 1046269699,
   1049346328, 1052416858, 1055481314, 1058539720, 1061592099, 1064638476, 1067678873, 1070713315]

/-- R85, reciprocal: `1/(1 + i/256)` times `2^31`. -/
def tblRcp : List Nat :=
  [2147483648, 2139127680, 2130836488, 2122609320, 2114445438, 2106344115, 2098304633, 2090326289,
   2082408386, 2074550241, 2066751180, 2059010539, 2051327664, 2043701910, 2036132644, 2028619239,
   2021161080, 2013757560, 2006408080, 1999112051, 1991868891, 1984678028, 1977538899, 1970450946,
   1963413621, 1956426384, 1949488702, 1942600049, 1935759908, 1928967768, 1922223125, 1915525484] ++
  [1908874354, 1902269252, 1895709703, 1889195237, 1882725390, 1876299706, 1869917734, 1863579030,
   1857283155, 1851029676, 1844818167, 1838648207, 1832519380, 1826431275, 1820383490, 1814375623,
   1808407283, 1802478078, 1796587627, 1790735550, 1784921474, 1779145029, 1773405851, 1767703582,
   1762037865, 1756408351, 1750814694, 1745256552, 1739733588, 1734245470, 1728791868, 1723372457] ++
  [1717986918, 1712634934, 1707316192, 1702030384, 1696777203, 1691556350, 1686367527, 1681210440,
   1676084798, 1670990316, 1665926709, 1660893698, 1655891006, 1650918360, 1645975491, 1641062131,
   1636178018, 1631322890, 1626496491, 1621698566, 1616928864, 1612187138, 1607473140, 1602786629,
   1598127366, 1593495113, 1588889636, 1584310703, 1579758086, 1575231558, 1570730897, 1566255880] ++
  [1561806289, 1557381909, 1552982525, 1548607926, 1544257904, 1539932252, 1535630765, 1531353242,
   1527099483, 1522869291, 1518662469, 1514478826, 1510318170, 1506180312, 1502065065, 1497972245,
   1493901668, 1489853154, 1485826524, 1481821601, 1477838209, 1473876177, 1469935331, 1466015504,
   1462116526, 1458238233, 1454380460, 1450543045, 1446725826, 1442928645, 1439151345, 1435393770] ++
  [1431655765, 1427937179, 1424237860, 1420557659, 1416896428, 1413254020, 1409630292, 1406025099,
   1402438301, 1398869755, 1395319325, 1391786871, 1388272257, 1384775350, 1381296015, 1377834120,
   1374389535, 1370962129, 1367551776, 1364158347, 1360781718, 1357421763, 1354078359, 1350751385,
   1347440720, 1344146244, 1340867839, 1337605387, 1334358772, 1331127879, 1327912594, 1324712805] ++
  [1321528399, 1318359266, 1315205296, 1312066382, 1308942414, 1305833287, 1302738895, 1299659134,
   1296593901, 1293543092, 1290506605, 1287484342, 1284476201, 1281482084, 1278501893, 1275535531,
   1272582903, 1269643912, 1266718465, 1263806469, 1260907830, 1258022457, 1255150260, 1252291148,
   1249445032, 1246611823, 1243791434, 1240983779, 1238188770, 1235406323, 1232636354, 1229878778] ++
  [1227133513, 1224400476, 1221679586, 1218970763, 1216273925, 1213588993, 1210915890, 1208254536,
   1205604855, 1202966770, 1200340205, 1197725085, 1195121335, 1192528880, 1189947649, 1187377568,
   1184818564, 1182270568, 1179733506, 1177207310, 1174691910, 1172187236, 1169693221, 1167209796,
   1164736894, 1162274448, 1159822392, 1157380661, 1154949189, 1152527912, 1150116765, 1147715687] ++
  [1145324612, 1142943480, 1140572228, 1138210795, 1135859120, 1133517142, 1131184802, 1128862041,
   1126548799, 1124245018, 1121950641, 1119665609, 1117389866, 1115123355, 1112866020, 1110617806,
   1108378657, 1106148519, 1103927337, 1101715058, 1099511628, 1097316994, 1095131103, 1092953904,
   1090785345, 1088625374, 1086473940, 1084330994, 1082196484, 1080070361, 1077952576, 1075843080]

/-- R85, rsqrt: `1/sqrt((1 + (i mod 128)/128) * 2^(i div 128))` times `2^31`. -/
def tblRsqrt : List Nat :=
  [2147483648, 2139143874, 2130900515, 2122751726, 2114695713, 2106730729, 2098855072, 2091067086,
   2083365155, 2075747707, 2068213208, 2060760163, 2053387115, 2046092644, 2038875364, 2031733922,
   2024667000, 2017673311, 2010751598, 2003900636, 1997119227, 1990406202, 1983760420, 1977180765,
   1970666148, 1964215505, 1957827796, 1951502003, 1945237133, 1939032214, 1932886296, 1926798450] ++
  [1920767767, 1914793358, 1908874354, 1903009903, 1897199172, 1891441346, 1885735628, 1880081235,
   1874477404, 1868923385, 1863418444, 1857961863, 1852552937, 1847190978, 1841875310, 1836605270,
   1831380208, 1826199490, 1821062491, 1815968600, 1810917218, 1805907755, 1800939636, 1796012296,
   1791125178, 1786277740, 1781469447, 1776699774, 1771968208, 1767274245, 1762617387, 1757997150] ++
  [1753413056, 1748864636, 1744351429, 1739872984, 1735428857, 1731018611, 1726641819, 1722298059,
   1717986918, 1713707990, 1709460876, 1705245183, 1701060526, 1696906526, 1692782810, 1688689013,
   1684624773, 1680589738, 1676583559, 1672605894, 1668656406, 1664734763, 1660840642, 1656973720,
   1653133683, 1649320221, 1645533028, 1641771805, 1638036256, 1634326089, 1630641020, 1626980766] ++
  [1623345051, 1619733600, 1616146146, 1612582423, 1609042172, 1605525136, 1602031062, 1598559701,
   1595110809, 1591684144, 1588279468, 1584896547, 1581535151, 1578195052, 1574876026, 1571577853,
   1568300315, 1565043197, 1561806289, 1558589383, 1555392273, 1552214758, 1549056637, 1545917715,
   1542797797, 1539696693, 1536614214, 1533550174, 1530504391, 1527476684, 1524466875, 1521474788] ++
  [1518500250, 1512603139, 1506774204, 1501012140, 1495315679, 1489683584, 1484114654, 1478607716,
   1473161629, 1467775280, 1462447584, 1457177486, 1451963954, 1446805984, 1441702596, 1436652834,
   1431655765, 1426710480, 1421816090, 1416971728, 1412176548, 1407429723, 1402730445, 1398077927,
   1393471397, 1388910104, 1384393311, 1379920300, 1375490368, 1371102827, 1366757007, 1362452250] ++
  [1358187913, 1353963368, 1349778000, 1345631207, 1341522400, 1337451002, 1333416450, 1329418191,
   1325455684, 1321528399, 1317635818, 1313777432, 1309952745, 1306161267, 1302402522, 1298676040,
   1294981364, 1291318043, 1287685637, 1284083712, 1280511845, 1276969620, 1273456629, 1269972473,
   1266516759, 1263089103, 1259689126, 1256316458, 1252970736, 1249651603, 1246358707, 1243091706] ++
  [1239850262, 1236634043, 1233442724, 1230275986, 1227133513, 1224014999, 1220920139, 1217848637,
   1214800200, 1211774541, 1208771378, 1205790433, 1202831433, 1199894112, 1196978204, 1194083452,
   1191209601, 1188356400, 1185523604, 1182710970, 1179918260, 1177145240, 1174391680, 1171657354,
   1168942037, 1166245512, 1163567563, 1160907976, 1158266544, 1155643060, 1153037323, 1150449133] ++
  [1147878294, 1145324612, 1142787899, 1140267967, 1137764631, 1135277711, 1132807028, 1130352405,
   1127913670, 1125490652, 1123083182, 1120691096, 1118314230, 1115952423, 1113605518, 1111273357,
   1108955787, 1106652658, 1104363818, 1102089122, 1099828424, 1097581581, 1095348453, 1093128899,
   1090922784, 1088729972, 1086550331, 1084383727, 1082230034, 1080089122, 1077960865, 1075845140]

/-- R85, sigmoid: `1/(1 + e^(-i/16))` times `2^31`. -/
def tblSig : List Nat :=
  [1073741824, 1107285338, 1140763443, 1174111241, 1207264843, 1240161854, 1272741832, 1304946721,
   1336721235, 1368013214, 1398773921, 1428958294, 1458525151, 1487437333, 1515661806, 1543169708,
   1569936343, 1595941146, 1621167590, 1645603068, 1669238741, 1692069358, 1714093053, 1735311128,
   1755727819, 1775350059, 1794187234, 1812250933, 1829554711, 1846113847, 1861945116, 1877066570] ++
  [1891497322, 1905257357, 1918367342, 1930848455, 1942722231, 1954010417, 1964734840, 1974917298,
   1984579447, 1993742718, 2002428233, 2010656740, 2018448549, 2025823491, 2032800871, 2039399438,
   2045637361, 2051532210, 2057100941, 2062359889, 2067324768, 2072010665, 2076432050, 2080602781,
   2084536112, 2088244705, 2091740648, 2095035461, 2098140122, 2101065074, 2103820252, 2106415092] ++
  [2108858556, 2111159148, 2113324932, 2115363549, 2117282239, 2119087855, 2120786881, 2122385453,
   2123889368, 2125304109, 2126634854, 2127886491, 2129063638, 2130170653, 2131211646, 2132190496,
   2133110860, 2133976186, 2134789724, 2135554538, 2136273513, 2136949369, 2137584667, 2138181818,
   2138743094, 2139270632, 2139766445, 2140232428, 2140670363, 2141081929, 2141468703, 2141832171] ++
  [2142173730, 2142494694, 2142796300, 2143079710, 2143346017, 2143596249, 2143831374, 2144052301,
   2144259884, 2144454926, 2144638184, 2144810367, 2144972144, 2145124141, 2145266949, 2145401122,
   2145527180, 2145645615, 2145756887, 2145861427, 2145959642, 2146051916, 2146138606, 2146220050,
   2146296565, 2146368449, 2146435983, 2146499429, 2146559034, 2146615031, 2146667637, 2146717059] ++
  [2146763489, 2146807108, 2146848085, 2146886581, 2146922746, 2146956721, 2146988639, 2147018623,
   2147046792, 2147073255, 2147098115, 2147121469, 2147143409, 2147164020, 2147183382, 2147201572,
   2147218660, 2147234713, 2147249794, 2147263961, 2147277270, 2147289772, 2147301518, 2147312552,
   2147322917, 2147332654, 2147341802, 2147350396, 2147358468, 2147366052, 2147373177, 2147379869] ++
  [2147386157, 2147392063, 2147397612, 2147402824, 2147407721, 2147412321, 2147416642, 2147420702,
   2147424516, 2147428098, 2147431464, 2147434625, 2147437595, 2147440385, 2147443007, 2147445469,
   2147447782, 2147449955, 2147451996, 2147453914, 2147455715, 2147457408, 2147458998, 2147460491,
   2147461894, 2147463212, 2147464450, 2147465613, 2147466706, 2147467732, 2147468697, 2147469603] ++
  [2147470453, 2147471253, 2147472004, 2147472709, 2147473372, 2147473995, 2147474580, 2147475129,
   2147475645, 2147476130, 2147476585, 2147477013, 2147477415, 2147477793, 2147478148, 2147478481,
   2147478794, 2147479088, 2147479364, 2147479624, 2147479868, 2147480097, 2147480312, 2147480514,
   2147480704, 2147480882, 2147481050, 2147481207, 2147481355, 2147481494, 2147481625, 2147481747] ++
  [2147481862, 2147481970, 2147482072, 2147482168, 2147482257, 2147482342, 2147482421, 2147482495,
   2147482565, 2147482631, 2147482692, 2147482750, 2147482804, 2147482856, 2147482904, 2147482949,
   2147482991, 2147483031, 2147483068, 2147483103, 2147483136, 2147483167, 2147483197, 2147483224,
   2147483250, 2147483274, 2147483296, 2147483318, 2147483338, 2147483356, 2147483374, 2147483391]

/-- R85, tanh: `tanh(i/32)` times `2^31`. -/
def tblTanh : List Nat :=
  [0, 67087027, 134043238, 200738834, 267046038, 332840059, 398000016, 462409793,
   525958823, 588542781, 650064194, 710432940, 769566653, 827391017, 883839965, 938855767,
   992389039, 1044398644, 1094851532, 1143722488, 1190993835, 1236655069, 1280702458, 1323138607,
   1363971989, 1403216471, 1440890820, 1477018219, 1511625774, 1544744046, 1576406585, 1606649491] ++
  [1635510996, 1663031067, 1689251036, 1714213263, 1737960815, 1760537185, 1781986033, 1802350947,
   1821675246, 1840001788, 1857372819, 1873829831, 1889413451, 1904163334, 1918118093, 1931315227,
   1943791074, 1955580771, 1966718233, 1977236130, 1987165888, 1996537682, 2005380453, 2013721914,
   2021588576, 2029005763, 2035997648, 2042587275, 2048796596, 2054646501, 2060156855, 2065346536] ++
  [2070233464, 2074834649, 2079166216, 2083243450, 2087080830, 2090692061, 2094090114, 2097287257,
   2100295089, 2103124571, 2105786059, 2108289334, 2110643629, 2112857658, 2114939645, 2116897344,
   2118738072, 2120468724, 2122095801, 2123625428, 2125063379, 2126415091, 2127685686, 2128879988,
   2130002540, 2131057616, 2132049242, 2132981208, 2133857079, 2134680210, 2135453758, 2136180694] ++
  [2136863812, 2137505741, 2138108952, 2138675772, 2139208386, 2139708851, 2140179101, 2140620954,
   2141036119, 2141426204, 2141792720, 2142137087, 2142460640, 2142764634, 2143050249, 2143318595,
   2143570713, 2143807583, 2144030125, 2144239206, 2144435637, 2144620183, 2144793563, 2144956451,
   2145109482, 2145253251, 2145388318, 2145515209, 2145634419, 2145746413, 2145851627, 2145950471] ++
  [2146043330, 2146130567, 2146212522, 2146289514, 2146361844, 2146429794, 2146493629, 2146553598,
   2146609936, 2146662861, 2146712581, 2146759290, 2146803170, 2146844392, 2146883117, 2146919496,
   2146953672, 2146985778, 2147015939, 2147044273, 2147070891, 2147095897, 2147119387, 2147141455,
   2147162186, 2147181661, 2147199956, 2147217143, 2147233289, 2147248457, 2147262705, 2147276091] ++
  [2147288666, 2147300479, 2147311576, 2147322001, 2147331794, 2147340994, 2147349637, 2147357756,
   2147365383, 2147372548, 2147379279, 2147385602, 2147391543, 2147397123, 2147402365, 2147407290,
   2147411916, 2147416262, 2147420345, 2147424180, 2147427783, 2147431167, 2147434347, 2147437334,
   2147440140, 2147442776, 2147445252, 2147447579, 2147449764, 2147451817, 2147453745, 2147455557] ++
  [2147457259, 2147458858, 2147460360, 2147461771, 2147463096, 2147464341, 2147465511, 2147466610,
   2147467642, 2147468612, 2147469523, 2147470379, 2147471183, 2147471938, 2147472647, 2147473314,
   2147473940, 2147474528, 2147475081, 2147475600, 2147476087, 2147476545, 2147476976, 2147477380,
   2147477760, 2147478117, 2147478452, 2147478766, 2147479062, 2147479340, 2147479601, 2147479846] ++
  [2147480077, 2147480293, 2147480496, 2147480687, 2147480867, 2147481035, 2147481193, 2147481342,
   2147481482, 2147481613, 2147481736, 2147481852, 2147481961, 2147482063, 2147482159, 2147482249,
   2147482334, 2147482414, 2147482489, 2147482559, 2147482625, 2147482687, 2147482745, 2147482800,
   2147482851, 2147482899, 2147482945, 2147482987, 2147483027, 2147483065, 2147483100, 2147483133]

end Sys2Proof.Machine
end

