-- ==== Sys2Proof/Machine/Numerics.lean ====
section
/-! DEFINITION. Number formats, accumulators, write-back and the VPU's arithmetic (spec/03_numerics.md, R66 to R87),
computed exactly on dyadic numbers and rounded once where the spec rounds. -/

namespace Sys2Proof.Machine
open Sys2Proof

/-! ### Exact integers and rounding -/

/-- `m / 2^k` rounded to nearest, ties to even; for `k ≤ 0` the exact product. -/
def rneNat (m : Nat) (k : Int) : Nat :=
  if k ≤ 0 then m * 2 ^ (-k).toNat
  else
    let d := 2 ^ k.toNat
    let q := m / d
    let r := m % d
    if 2 * r < d then q else if d < 2 * r then q + 1 else q + q % 2

/-- The nearest integer to `m * 2^e`, ties to even, for a signed `m` (R80's rne). -/
def rneInt (m e : Int) : Int :=
  if m < 0 then - (rneNat m.natAbs (-e) : Int) else (rneNat m.natAbs (-e) : Int)

/-- The largest integer not above `m * 2^e`. -/
def floorShift (m e : Int) : Int :=
  if 0 ≤ e then m * (2 : Int) ^ e.toNat else m.fdiv ((2 : Int) ^ (-e).toNat)

/-- The exact sum of two dyadics, over the smaller exponent. -/
def dyAdd (m1 e1 m2 e2 : Int) : Int × Int :=
  let e := min e1 e2
  (m1 * (2 : Int) ^ (e1 - e).toNat + m2 * (2 : Int) ^ (e2 - e).toNat, e)

/-- `m1 * 2^e1 < m2 * 2^e2`. -/
def dyLt (m1 e1 m2 e2 : Int) : Bool :=
  let e := min e1 e2
  decide (m1 * (2 : Int) ^ (e1 - e).toNat < m2 * (2 : Int) ^ (e2 - e).toNat)

/-- The two's complement reading of the low `w` bits of `n`. -/
def toSigned (w n : Nat) : Int :=
  let n := n % 2 ^ w
  if n < 2 ^ (w - 1) then (n : Int) else (n : Int) - (2 : Int) ^ w

/-- The low `w` bits of the two's complement of `x`. -/
def ofSigned (w : Nat) (x : Int) : Nat := (x % (2 : Int) ^ w).toNat

/-- `x` held between `lo` and `hi`, and whether it had to be. -/
def clampI (lo hi x : Int) : Int × Bool :=
  if x < lo then (lo, true) else if hi < x then (hi, true) else (x, false)

/-! ### Floating-point formats (R67) -/

/-- A floating-point format: exponent and fraction bits, bias, the magnitude code of the largest finite value, the
code of infinity where there is one, and the code a NaN is written as. -/
structure FFmt where
  ebits : Nat
  mbits : Nat
  bias  : Int
  maxCode : Nat
  infCode : Option Nat
  nanCode : Nat
deriving DecidableEq, Repr, Inhabited

/-- E4M3 (R67, R81). -/
def fmtE4M3 : FFmt := ⟨4, 3, 7, 0x7E, none, 0x7F⟩
/-- E5M2 (R67, R81). -/
def fmtE5M2 : FFmt := ⟨5, 2, 15, 0x7B, some 0x7C, 0x7F⟩
/-- E3M2 (R67): neither infinity nor NaN. -/
def fmtE3M2 : FFmt := ⟨3, 2, 3, 0x1F, none, 0x20⟩
/-- E2M3 (R67): neither infinity nor NaN. -/
def fmtE2M3 : FFmt := ⟨2, 3, 1, 0x1F, none, 0x20⟩
/-- E2M1 (R67): neither infinity nor NaN. -/
def fmtE2M1 : FFmt := ⟨2, 1, 1, 0x7, none, 0x8⟩
/-- BF16 (R67, R81). -/
def fmtBF16 : FFmt := ⟨8, 7, 127, 0x7F7F, some 0x7F80, 0x7FC0⟩
/-- FP32, IEEE 754 binary32 (R66, R84). -/
def fmtFP32 : FFmt := ⟨8, 23, 127, 0x7F7FFFFF, some 0x7F800000, 0x7FC00000⟩

/-- The sign bit's value in a format. -/
def FFmt.signBit (f : FFmt) : Nat := 2 ^ (f.ebits + f.mbits)

/-- The value that the code `bits` has (R67). -/
def decodeF (f : FFmt) (bits : Nat) : Num :=
  let mag := bits % f.signBit
  let neg := (bits / f.signBit) % 2 = 1
  if f.infCode = some mag then .inf neg
  else if f.maxCode < mag then .nan
  else
    let ex := mag / 2 ^ f.mbits
    let fr := mag % 2 ^ f.mbits
    let m : Nat := if ex = 0 then fr else 2 ^ f.mbits + fr
    let e : Int := (if ex = 0 then 1 else (ex : Int)) - f.bias - f.mbits
    .fin (if neg then -(m : Int) else (m : Int)) e

/-- The magnitude code of `m * 2^e` rounded to nearest, ties to the even significand, subnormals kept; the exponent
is unbounded above, so a code past the largest finite one means overflow. -/
def roundMag (f : FFmt) (m : Nat) (e : Int) : Nat :=
  if m = 0 then 0
  else
    let qmin : Int := 1 - f.bias - f.mbits
    let q := max ((Nat.log2 m : Int) + e - f.mbits) qmin
    (q - qmin).toNat * 2 ^ f.mbits + rneNat m (q - e)

/-- A value written in a floating-point output format by R81, and whether OUT_SAT is set. A value that rounds to zero
is written as +0. -/
def encodeR81 (f : FFmt) (v : Num) : Nat × Bool :=
  match v with
  | .nan => (f.nanCode, false)
  | .inf neg =>
    let s := if neg then f.signBit else 0
    match f.infCode with
    | some c => (s + c, false)
    | none => (s + f.maxCode, true)
  | .fin m e =>
    let s := if m < 0 then f.signBit else 0
    match decodeF f f.maxCode with
    | .fin mm me =>
      if dyLt mm me (m.natAbs : Int) e then (s + f.maxCode, true)
      else
        let c := roundMag f m.natAbs e
        if c = 0 then (0, false) else (s + c, false)
    | _ => (0, false)

/-! ### FP32 arithmetic (R84) -/

/-- The canonical NaN of every FP32 result (R78, R84). -/
def nan32 : Nat := 0x7FC00000

/-- Sign, magnitude and exponent rounded to FP32; overflow gives infinity; a zero keeps the sign given. -/
def enc32 (neg : Bool) (m : Nat) (e : Int) : Nat :=
  let c := roundMag fmtFP32 m e
  (if neg then 0x80000000 else 0) + (if 0x7F800000 ≤ c then 0x7F800000 else c)

/-- The sign bit of an FP32 code. -/
def sign32 (x : Nat) : Bool := decide (x / 0x80000000 % 2 = 1)

/-- FP32 fused multiply-add `a * b + c`, rounded once (R84). -/
def fma32 (a b c : Nat) : Nat :=
  let sp := sign32 a != sign32 b
  let sc := sign32 c
  match decodeF fmtFP32 a, decodeF fmtFP32 b, decodeF fmtFP32 c with
  | .nan, _, _ => nan32
  | _, .nan, _ => nan32
  | _, _, .nan => nan32
  | .inf _, .fin 0 _, _ => nan32
  | .fin 0 _, .inf _, _ => nan32
  | .inf _, _, .inf t => if sp = t then (if t then 0xFF800000 else 0x7F800000) else nan32
  | _, .inf _, .inf t => if sp = t then (if t then 0xFF800000 else 0x7F800000) else nan32
  | .inf _, _, .fin _ _ => if sp then 0xFF800000 else 0x7F800000
  | _, .inf _, .fin _ _ => if sp then 0xFF800000 else 0x7F800000
  | .fin _ _, .fin _ _, .inf t => if t then 0xFF800000 else 0x7F800000
  | .fin ma ea, .fin mb eb, .fin mc ec =>
    let (m, e) := dyAdd (ma * mb) (ea + eb) mc ec
    if m = 0 then
      (if ma * mb = 0 ∧ mc = 0 ∧ sp = true ∧ sc = true then 0x80000000 else 0)
    else enc32 (decide (m < 0)) m.natAbs e

/-- FP32 addition (R84). -/
def add32 (a b : Nat) : Nat :=
  match decodeF fmtFP32 a, decodeF fmtFP32 b with
  | .nan, _ => nan32
  | _, .nan => nan32
  | .inf s, .inf t => if s = t then (if t then 0xFF800000 else 0x7F800000) else nan32
  | .inf s, .fin _ _ => if s then 0xFF800000 else 0x7F800000
  | .fin _ _, .inf t => if t then 0xFF800000 else 0x7F800000
  | .fin ma ea, .fin mb eb =>
    let (m, e) := dyAdd ma ea mb eb
    if m = 0 then
      (if ma = 0 ∧ mb = 0 ∧ sign32 a = true ∧ sign32 b = true then 0x80000000 else 0)
    else enc32 (decide (m < 0)) m.natAbs e

/-- FP32 multiplication (R84); a zero or underflowed product keeps the product's sign. -/
def mul32 (a b : Nat) : Nat :=
  let sp := sign32 a != sign32 b
  match decodeF fmtFP32 a, decodeF fmtFP32 b with
  | .nan, _ => nan32
  | _, .nan => nan32
  | .inf _, .fin 0 _ => nan32
  | .fin 0 _, .inf _ => nan32
  | .inf _, _ => if sp then 0xFF800000 else 0x7F800000
  | _, .inf _ => if sp then 0xFF800000 else 0x7F800000
  | .fin ma ea, .fin mb eb => enc32 sp (ma * mb).natAbs (ea + eb)

/-- FP32 negation of a code. -/
def neg32 (a : Nat) : Nat := if sign32 a then a - 0x80000000 else a + 0x80000000

/-- FP32 `a < b`; a NaN compares false (R104, CMP). -/
def lt32 (a b : Nat) : Bool :=
  match decodeF fmtFP32 a, decodeF fmtFP32 b with
  | .nan, _ => false
  | _, .nan => false
  | .inf s, .inf t => s && !t
  | .inf s, .fin _ _ => s
  | .fin _ _, .inf t => !t
  | .fin ma ea, .fin mb eb => dyLt ma ea mb eb

/-- FP32 equality of values; a NaN compares false, the two zeros compare equal (R104, CMP). -/
def eq32 (a b : Nat) : Bool :=
  match decodeF fmtFP32 a, decodeF fmtFP32 b with
  | .nan, _ => false
  | _, .nan => false
  | .fin ma _, .fin mb _ => if ma = 0 ∧ mb = 0 then true else decide (a = b)
  | _, _ => decide (a = b)

/-- An FP32 code is a NaN. -/
def isNan32 (a : Nat) : Bool := decide (decodeF fmtFP32 a = .nan)

/-- An FP32 code is finite. -/
def isFin32 (a : Nat) : Bool :=
  match decodeF fmtFP32 a with
  | .fin _ _ => true
  | _ => false

/-- FP32 maximum (`mx = true`) or minimum; a NaN operand gives NaN (R104). Of two zeros of different sign the spec
does not say which is returned: a free choice that depends on the operands alone (R54; DESIGN CHOICE, log entry 8). -/
def maxMin32 (mx : Bool) (a b : Nat) : Nat :=
  if isNan32 a || isNan32 b then nan32
  else if a % 0x80000000 = 0 ∧ b % 0x80000000 = 0 then
    (if a = b then a else if Config.zeroPick mx a b then a else b)
  else if lt32 a b = mx then b else a

/-! ### The six functions (R85 to R87) -/

/-- R86: `(−1)^s * m * 2^e` rounded to 24 significant bits; too small becomes a zero of sign `s`, too large an
infinity of sign `s`. -/
def rne32 (s : Bool) (m : Nat) (e : Int) : Nat :=
  let sb := if s then 0x80000000 else 0
  if m = 0 then sb
  else
    let q : Int := (Nat.log2 m : Int) - 23
    let n := rneNat m q
    let (n, ex) := if n = 2 ^ 24 then (2 ^ 23, q + e + 24) else (n, q + e + 23)
    if ex < -126 then sb
    else if 127 < ex then sb + 0x7F800000
    else sb + (ex + 127).toNat * 2 ^ 23 + (n - 2 ^ 23)

/-- R86: linear interpolation between entries `i` and `i + 1`, truncated. -/
def interp (t : List Nat) (endv i d db : Nat) : Nat :=
  let a := t.getD i 0
  let b := if i = 255 then endv else t.getD (i + 1) 0
  if a ≤ b then a + ((b - a) * d) / 2 ^ db else a - ((a - b) * d) / 2 ^ db

/-- The unbiased exponent of a normal FP32 code. -/
def exp32 (x : Nat) : Int := ((x / 2 ^ 23 % 256 : Nat) : Int) - 127
/-- The fraction field of an FP32 code. -/
def frac32 (x : Nat) : Nat := x % 2 ^ 23
/-- A zero or a subnormal of either sign, which log2, recip and rsqrt treat as a zero (R87). -/
def isZeroish32 (x : Nat) : Bool := decide (x / 2 ^ 23 % 256 = 0)

/-- R87, exp2. -/
def fExp2 (x : Nat) : Nat :=
  match decodeF fmtFP32 x with
  | .nan => nan32
  | .inf s => if s then 0 else 0x7F800000
  | .fin m e =>
    if ¬ dyLt m e 128 0 then 0x7F800000
    else if dyLt m e (-126) 0 then 0
    else
      let t := floorShift m (e + 23)
      let n := t.fdiv (2 ^ 23)
      let fr := (t % (2 ^ 23 : Int)).toNat
      rne32 false (interp tblExp2 0x80000000 (fr / 2 ^ 15) (fr % 2 ^ 15) 15) (n - 30)

/-- R87, log2. -/
def fLog2 (x : Nat) : Nat :=
  match decodeF fmtFP32 x with
  | .nan => nan32
  | .inf s => if s then nan32 else 0x7F800000
  | .fin _ _ =>
    if isZeroish32 x then 0xFF800000
    else if sign32 x then nan32
    else
      let f := frac32 x
      let g := interp tblLog2 0x40000000 (f / 2 ^ 15) (f % 2 ^ 15) 15
      let r : Int := exp32 x * (2 : Int) ^ 30 + g
      if r = 0 then 0 else rne32 (decide (r < 0)) r.natAbs (-30)

/-- R87, reciprocal. -/
def fRecip (x : Nat) : Nat :=
  let sb := if sign32 x then 0x80000000 else 0
  match decodeF fmtFP32 x with
  | .nan => nan32
  | .inf _ => sb
  | .fin _ _ =>
    if isZeroish32 x then sb + 0x7F800000
    else
      let f := frac32 x
      rne32 (sign32 x) (interp tblRcp 0x40000000 (f / 2 ^ 15) (f % 2 ^ 15) 15) (-exp32 x - 31)

/-- R87, reciprocal square root. -/
def fRsqrt (x : Nat) : Nat :=
  let sb := if sign32 x then 0x80000000 else 0
  match decodeF fmtFP32 x with
  | .nan => nan32
  | .inf s => if s then nan32 else 0
  | .fin _ _ =>
    if isZeroish32 x then sb + 0x7F800000
    else if sign32 x then nan32
    else
      let e := exp32 x
      let k := e.fdiv 2
      let p := (e % 2).toNat
      let f := frac32 x
      rne32 false (interp tblRsqrt 0x40000000 (p * 128 + f / 2 ^ 16) (f % 2 ^ 16) 16) (-k - 31)

/-- R87, sigmoid. -/
def fSigmoid (x : Nat) : Nat :=
  let fin (v : Nat) : Nat :=
    let v := if sign32 x then 0x80000000 - v else v
    if v = 0 then 0 else rne32 false v (-31)
  match decodeF fmtFP32 x with
  | .nan => nan32
  | .inf _ => fin 0x80000000
  | .fin m e =>
    if ¬ dyLt (m.natAbs : Int) e 16 0 then fin 0x80000000
    else
      let t := (floorShift (m.natAbs : Int) (e + 20)).toNat
      fin (interp tblSig 0x7FFFFF0E (t / 2 ^ 16) (t % 2 ^ 16) 16)

/-- R87, tanh; a zero result keeps the input. -/
def fTanh (x : Nat) : Nat :=
  let fin (h : Nat) : Nat := if h = 0 then x else rne32 (sign32 x) h (-31)
  match decodeF fmtFP32 x with
  | .nan => nan32
  | .inf _ => fin 0x80000000
  | .fin m e =>
    if ¬ dyLt (m.natAbs : Int) e 8 0 then fin 0x80000000
    else
      let t := (floorShift (m.natAbs : Int) (e + 21)).toNat
      fin (interp tblTanh 0x7FFFFE1D (t / 2 ^ 16) (t % 2 ^ 16) 16)

/-! ### Format codes and element values (R66 to R69) -/

/-- The value of one element of an element format, its low bits in `bits` (R67, R68). Accumulator-state and Gauze
codes have no single element: NaN stands there and no caller asks. -/
def elemValue (fmt : Nat) (bits : Nat) : Num :=
  match fmt with
  | 0x00 => .fin (toSigned 8 bits) 0
  | 0x01 => .fin (bits % 256 : Nat) 0
  | 0x02 => .fin (toSigned 4 bits) 0
  | 0x03 => .fin (toSigned 16 bits) 0
  | 0x05 => .fin (toSigned 32 bits) 0
  | 0x06 => decodeF fmtE4M3 bits
  | 0x07 => decodeF fmtE5M2 bits
  | 0x08 => decodeF fmtBF16 bits
  | 0x09 => decodeF fmtFP32 bits
  | 0x0A => decodeF fmtE4M3 bits
  | 0x0B => decodeF fmtE5M2 bits
  | 0x0C => decodeF fmtE3M2 bits
  | 0x0D => decodeF fmtE2M3 bits
  | 0x0E => decodeF fmtE2M1 bits
  | 0x0F => .fin (toSigned 8 bits) (-6)
  | _ => .nan

/-- Bits of one element (R66, R69). -/
def elemBits (fmt : Nat) : Nat :=
  match fmt with
  | 0x02 => 4 | 0x0E => 4
  | 0x0C => 6 | 0x0D => 6
  | 0x03 => 16 | 0x08 => 16
  | 0x05 => 32 | 0x09 => 32
  | _ => 8

/-- The integer `n` whose little-endian bytes are `bs`. -/
def leNat : List Byte → Nat
  | [] => 0
  | b :: bs => b.toNat + 256 * leNat bs

/-- `k` little-endian bytes of `n` (R14). -/
def leBytes : Nat → Nat → List Byte
  | 0, _ => []
  | k + 1, n => BitVec.ofNat 8 n :: leBytes k (n / 256)

/-- `k` big-endian bytes of `n` (R14: Ethernet frames). -/
def beBytes (k n : Nat) : List Byte := (leBytes k n).reverse

/-- The integer whose big-endian bytes are `bs`. -/
def beNat (bs : List Byte) : Nat := leNat bs.reverse

/-- Element `j` of a packed little-endian run of `w`-bit elements (R69). -/
def packedElem (w j : Nat) (bs : List Byte) : Nat := leNat bs / 2 ^ (w * j) % 2 ^ w

/-- The elements of `bs` (at most `k` of them) as numbers (R69). -/
def unpackElems (w k : Nat) (bs : List Byte) : List Nat :=
  let n := leNat bs
  (List.range k).map fun j => n / 2 ^ (w * j) % 2 ^ w

/-- The bytes of a packed run of `w`-bit elements, `nbytes` long (R69). -/
def packElems (w nbytes : Nat) (es : List Nat) : List Byte :=
  leBytes nbytes (es.foldr (fun x acc => x % 2 ^ w + 2 ^ w * acc) 0)

/-- A format is one of the Microscaling formats (R66). -/
def isMx (fmt : Nat) : Bool := decide (0x0A ≤ fmt ∧ fmt ≤ 0x0F)
/-- Elements of an MX block row are 4 bits wide. -/
def isMx4 (fmt : Nat) : Bool := decide (fmt = 0x0E)

/-- The kind of an accumulator (R70). -/
inductive AccKind where
  | int | long | fp32
deriving DecidableEq, Repr, Inhabited

/-- The accumulator kind of a permitted pair of operand formats; `none` for a pair outside R70. -/
def macKind (a b : Nat) : Option AccKind :=
  if a ≤ 2 ∧ (b = 0 ∨ b = 2) then some .int
  else if (a = 6 ∨ a = 7) ∧ (b = 6 ∨ b = 7) then some .long
  else if isMx a && isMx b then some .long
  else if a = 8 ∧ b = 8 then some .fp32
  else none

/-- Input channels that one MMA cycle takes (R102). -/
def macChannels (a b : Nat) : Nat :=
  if a = 2 ∧ b = 2 then 64
  else if a = 0x0E ∧ b = 0x0E then 64
  else if a = 8 then 8
  else 32

/-! ### Accumulators (R71 to R78) -/

/-- One accumulator: the exact sum, the terms added, the Long Accumulator's markers, and the FP32 code. -/
structure Acc where
  sum   : Int
  count : Nat
  nan   : Bool
  pos   : Bool
  neg   : Bool
  fp    : Nat
deriving DecidableEq, Repr, Inhabited

/-- A cleared accumulator (R71, R75; an FP32 accumulator clears to +0). -/
def accZero : Acc := ⟨0, 0, false, false, false, 0⟩

/-- Bit numbers of TAR_NUM_STATUS (R83). -/
def numIntSat : Nat := 0
/-- LA_SAT. -/
def numLaSat : Nat := 1
/-- LA_NAN. -/
def numLaNan : Nat := 2
/-- OUT_SAT. -/
def numOutSat : Nat := 3
/-- OUT_NAN_ZERO. -/
def numOutNanZero : Nat := 4
/-- ACC_LEN. -/
def numAccLen : Nat := 5

/-- The largest number of terms between a clear and a write-back (R72). -/
def accLimit : Nat := 1048576

/-- R71, `ia_add`; the flags set come second. -/
def iaAdd (a : Acc) (term : Int) : Acc × List Nat :=
  if accLimit ≤ a.count then (a, [numAccLen])
  else ({ a with count := a.count + 1, sum := a.sum + term }, [])

/-- R71, `ia_value`. -/
def iaValue (a : Acc) : Int × List Nat :=
  let (v, c) := clampI (-(2 : Int) ^ 31) (2 ^ 31 - 1) a.sum
  (v, if c then [numIntSat] else [])

/-- R75, `la_add`: one term `sig * 2^e`, or a NaN term, into a Long Accumulator with the given anchor. -/
def laAdd (a : Acc) (anchor : Int) (term : Num) : Acc × List Nat :=
  if accLimit ≤ a.count then (a, [numAccLen])
  else
    let a := { a with count := a.count + 1 }
    match term with
    | .nan => ({ a with nan := true }, [])
    | .inf _ => ({ a with nan := true }, [])
    | .fin sig e =>
      if sig = 0 then (a, [])
      else
        let sh := e - (anchor - 100)
        if 0 ≤ sh ∧ 127 ≤ (Nat.log2 sig.natAbs : Int) + sh then
          (if 0 < sig then { a with pos := true } else { a with neg := true }, [])
        else ({ a with sum := a.sum + floorShift sig sh }, [])

/-- R75, `la_value`: `none` is the state NAN. -/
def laValue (a : Acc) : Option Int × List Nat :=
  let hi : Int := 2 ^ 127 - 1
  let lo : Int := -(2 : Int) ^ 127
  if a.nan || (a.pos && a.neg) then (none, [numLaNan])
  else if a.pos then (some hi, [numLaSat])
  else if a.neg then (some lo, [numLaSat])
  else
    let (v, c) := clampI lo hi a.sum
    (some v, if c then [numLaSat] else [])

/-- R76: merging a stored state into an accumulator. -/
def accMerge (a b : Acc) : Acc × List Nat :=
  let n := a.count + b.count
  ({ a with sum := a.sum + b.sum, count := min n accLimit, nan := a.nan || b.nan, pos := a.pos || b.pos,
            neg := a.neg || b.neg }, if accLimit < n then [numAccLen] else [])

/-- R76: the 32 bytes of a Long Accumulator's state. -/
def lasBytes (a : Acc) : List Byte :=
  leBytes 24 (ofSigned 192 a.sum) ++
    leBytes 4 ((if a.nan then 1 else 0) + (if a.pos then 2 else 0) + (if a.neg then 4 else 0)) ++ leBytes 4 a.count

/-- R76: a Long Accumulator's state read from 32 bytes (reserved bits are not looked at). -/
def lasOfBytes (bs : List Byte) : Acc :=
  let f := leNat ((bs.drop 24).take 4)
  { sum := toSigned 192 (leNat (bs.take 24)), count := leNat ((bs.drop 28).take 4) % 2 ^ 21,
    nan := f % 2 = 1, pos := f / 2 % 2 = 1, neg := f / 4 % 2 = 1, fp := 0 }

/-- R76: the 16 bytes of an integer accumulator's state. -/
def iasBytes (a : Acc) : List Byte := leBytes 8 (ofSigned 64 a.sum) ++ leBytes 4 a.count ++ leBytes 4 0

/-- R76: an integer accumulator's state read from 16 bytes. -/
def iasOfBytes (bs : List Byte) : Acc :=
  { sum := toSigned 64 (leNat (bs.take 8)), count := leNat ((bs.drop 8).take 4) % 2 ^ 21,
    nan := false, pos := false, neg := false, fp := 0 }

/-! ### Write-back and requantisation (R79 to R82) -/

/-- One requantisation entry (R79, R102). -/
structure ReqPar where
  m    : Int
  sh   : Nat
  relu : Bool
  z    : Int
deriving DecidableEq, Repr, Inhabited

/-- R102: a WPAR entry of 8 bytes. -/
def reqOfBytes (bs : List Byte) : ReqPar :=
  let n := leNat (bs.take 8)
  { m := toSigned 16 n, sh := n / 2 ^ 16 % 64, relu := n / 2 ^ 22 % 2 = 1, z := toSigned 16 (n / 2 ^ 32) }

/-- The source of a write-back: the accumulator's value and the flags that reading it sets (R79). -/
def accSrc (k : AccKind) (anchor : Int) (a : Acc) : Num × List Nat :=
  match k with
  | .int => let (v, f) := iaValue a; (.fin v 0, f)
  | .long =>
    match laValue a with
    | (none, f) => (.nan, f)
    | (some v, f) => (.fin v (anchor - 100), f)
  | .fp32 => (decodeF fmtFP32 a.fp, [])

/-- R79: `V = src * m * 2^(−sh)`, then relu. The product of an infinity and a zero multiplier is not stated by the
spec: a free value of the operands alone (R54; DESIGN CHOICE, log entry 8). -/
def wbValue (p : ReqPar) (src : Num) : Num :=
  let v : Num := match src with
    | .nan => .nan
    | .inf s => if p.m = 0 then Config.infTimesZero s p.sh else .inf (s != decide (p.m < 0))
    | .fin m e => .fin (m * p.m) (e - p.sh)
  if p.relu then
    match v with
    | .inf true => .fin 0 0
    | .fin m e => if m < 0 then .fin 0 0 else .fin m e
    | w => w
  else v

/-- The range of an integer output format (R66, R80). -/
def intRange (fmt : Nat) : Int × Int :=
  match fmt with
  | 0x00 => (-128, 127)
  | 0x01 => (0, 255)
  | 0x02 => (-8, 7)
  | 0x03 => (-32768, 32767)
  | _ => (-(2 : Int) ^ 31, 2 ^ 31 - 1)

/-- R80: an integer output with its flags. -/
def wbInt (fmt : Nat) (z : Int) (v : Num) : Nat × List Nat :=
  let (lo, hi) := intRange fmt
  let w := elemBits fmt
  match v with
  | .nan => (0, [numOutNanZero])
  | .inf s => (ofSigned w (if s then lo else hi), [numOutSat])
  | .fin m e =>
    let (q, c) := clampI lo hi (rneInt m e + z)
    (ofSigned w q, if c then [numOutSat] else [])

/-- The floating-point format of a scalar floating-point code, or of an MX element. -/
def floatOf (fmt : Nat) : FFmt :=
  match fmt with
  | 0x06 => fmtE4M3 | 0x0A => fmtE4M3
  | 0x07 => fmtE5M2 | 0x0B => fmtE5M2
  | 0x0C => fmtE3M2
  | 0x0D => fmtE2M3
  | 0x0E => fmtE2M1
  | 0x09 => fmtFP32
  | _ => fmtBF16

/-- R82: `emax` of an MX format. -/
def mxEmax (fmt : Nat) : Int :=
  match fmt with
  | 0x0A => 8 | 0x0B => 15 | 0x0C => 4 | 0x0D => 2 | 0x0E => 2
  | _ => 0

/-- R82, `encode`: one element of an MX block, rounded by R81 and clamped at the largest finite value without OUT_SAT; an
infinity is clamped there too. -/
def mxEncode (fmt : Nat) (v : Num) : Nat :=
  if fmt = 0x0F then
    match v with
    | .nan => 0
    | .inf s => ofSigned 8 (if s then -128 else 127)
    | .fin m e => ofSigned 8 (clampI (-128) 127 (rneInt m (e + 6))).1
  else
    let f := floatOf fmt
    match v with
    | .inf s => (if s then f.signBit else 0) + f.maxCode
    | w => (encodeR81 f w).1

/-- floor(log2 |m * 2^e|) for m ≠ 0. -/
def floorLog2 (m e : Int) : Int := (Nat.log2 m.natAbs : Int) + e

/-- The greatest magnitude of a list of finite or infinite values, as a dyadic; `none` for an infinity. -/
def maxMag : List Num → Option (Int × Int)
  | [] => some (0, 0)
  | .fin m e :: vs =>
    match maxMag vs with
    | none => none
    | some (m', e') => if dyLt m' e' (m.natAbs : Int) e then some ((m.natAbs : Int), e) else some (m', e')
  | _ :: _ => none

/-- R82: a block of 32 values as its scale byte and its elements, with the flags set. Where the greatest |V| is an infinity the
spec states no floor_log2 of it: X is taken above 127, so it becomes 127 with OUT_SAT (DESIGN CHOICE, log entry 39). -/
def mxBlock (fmt : Nat) (vs : List Num) : Nat × List Nat × List Nat :=
  if vs.any (· = .nan) then (0xFF, vs.map (fun _ => 0), [])
  else
    let put (x : Int) (fl : List Nat) : Nat × List Nat × List Nat :=
      ((x + 127).toNat, vs.map (fun v => match v with
        | .fin m e => mxEncode fmt (.fin m (e - x))
        | w => mxEncode fmt w), fl)
    match maxMag vs with
    | none => put 127 [numOutSat]
    | some (mx, me) =>
      if mx = 0 then (0, vs.map (fun _ => 0), [])
      else
        let x := floorLog2 mx me - mxEmax fmt
        if 127 < x then put 127 [numOutSat] else if x < -127 then put (-127) [] else put x []

/-! ### VPU lanes (R84, R104) -/

/-- R104, IMUL and the wrapping integer operations, on 32-bit codes. -/
def addW (a b : Nat) : Nat := (a + b) % 2 ^ 32
/-- Wrapping subtraction. -/
def subW (a b : Nat) : Nat := (a + 2 ^ 32 - b % 2 ^ 32) % 2 ^ 32
/-- Low 32 bits of the product. -/
def mulW (a b : Nat) : Nat := (a * b) % 2 ^ 32

/-- INT32 maximum or minimum. -/
def maxMinI (mx : Bool) (a b : Nat) : Nat := if decide (toSigned 32 a < toSigned 32 b) = mx then b else a

/-- A format whose elements have a value of their own (R66 to R68): every code but the accumulator states, the scale array and
the Gauze codes. -/
def elemFormat (f : Nat) : Bool := decide (f ≤ 0x0F ∧ f ≠ 4)

/-- A value rounded to an integer format whose element is the integer times 2^−sh, where it fits. -/
def cvtInt (lo hi : Int) (w sh : Nat) (v : Num) : Option Nat :=
  match v with
  | .fin m e =>
    let q := rneInt m (e + sh)
    if lo ≤ q ∧ q ≤ hi then some (ofSigned w q) else none
  | _ => none

/-- R84: conversion to INT32 rounds to nearest even, saturates, and sends NaN to 0. -/
def cvtInt32 (v : Num) : Nat :=
  match v with
  | .nan => 0
  | .inf s => if s then 0x80000000 else 0x7FFFFFFF
  | .fin m e => ofSigned 32 (clampI (-(2 : Int) ^ 31) (2 ^ 31 - 1) (rneInt m e)).1

/-- A value as an FP32 code by R84's rounding; `sz` is the sign that a zero of the source format carries. -/
def cvtFp32 (sz : Bool) (v : Num) : Nat :=
  match v with
  | .nan => nan32
  | .inf s => if s then 0xFF800000 else 0x7F800000
  | .fin m e => if m = 0 then (if sz then 0x80000000 else 0) else enc32 (decide (m < 0)) m.natAbs e

/-- R84, CVT: one element of format `src` in the low bits of a lane becomes an element of format `dst`; the second part says
that R81 clamped (OUT_SAT). A floating-point destination follows R81 without relu or scaling; an integer destination other
than INT32 takes the rounded value where it fits (DEDUCED, log entry 12). Where the spec states no result (a value that does
not fit such a format, a NaN in a format without one, a code without elements) the lane is a free value of the operands alone
(R54; DESIGN CHOICE, log entry 8). -/
def cvtLane (src dst x : Nat) : Nat × Bool :=
  let free := Config.cvtOpen src dst x
  if !(elemFormat src) || !(elemFormat dst) then (free % 2 ^ 32, false)
  else
    let code := x % 2 ^ elemBits src
    let v := elemValue src code
    let free := free % 2 ^ elemBits dst
    if dst = 5 then (cvtInt32 v, false)
    else if dst = 9 then
      (if src = 9 then (if isNan32 code then nan32 else code)
       else cvtFp32 (decide (6 ≤ src ∧ src ≠ 0x0F) && code / (floatOf src).signBit % 2 == 1) v, false)
    else if dst = 0x0F then ((cvtInt (-128) 127 8 6 v).getD free, false)
    else if dst < 6 then ((cvtInt (intRange dst).1 (intRange dst).2 (elemBits dst) 0 v).getD free, false)
    else if v = .nan ∧ 0x0C ≤ dst then (free, false)
    else encodeR81 (floatOf dst) v

/-- The function that FUNC's MOD names (R104); `none` for the reserved codes. -/
def vpuFunc (k : Nat) : Option (Nat → Nat) :=
  match k with
  | 0 => some fExp2 | 1 => some fLog2 | 2 => some fRecip | 3 => some fRsqrt | 4 => some fSigmoid | 5 => some fTanh
  | _ => none

/-- R105: one level of the reduction tree. -/
def redLevel (op : Nat → Nat → Nat) : List Nat → List Nat
  | a :: b :: rest => op a b :: redLevel op rest
  | rest => rest

/-- R105: six levels bring 64 lanes to one. -/
def redTree (op : Nat → Nat → Nat) : Nat → List Nat → List Nat
  | 0, xs => xs
  | k + 1, xs => redTree op k (redLevel op xs)

end Sys2Proof.Machine
end

