-- ==== Sys2Proof/Machine/State.lean ====
section
/-! DEFINITION. The state of the AE7D as plain data: every register, FIFO, buffer, counter, mode and pin the spec gives
the two dies and the module, and the queue of waiting commands. -/

namespace Sys2Proof.Machine

/-! ### What a die sends -/

/-- The kinds of what a die sends to the world outside the model (DESIGN CHOICE, log entry 4). -/
inductive SentKind where
  | cxpTrigger | cxpControl
  | fieldFrame | fieldCommand
  | netFrame | resultFrame | valveFrame | safeFrame | ptpRequest
  | twlMessage | twlControl
  | toDie
  | qmpResponse
  | dataNet
  | checker
  | dram
  | irq
  | quill
  | pin
deriving DecidableEq, Repr, Inhabited

/-- One thing sent: its kind, its numeric fields, and its bytes (DESIGN CHOICE, log entry 4). -/
structure Sent where
  kind : SentKind
  args : List Nat
  data : List Byte
deriving DecidableEq, Repr, Inhabited

/-! ### Device, steps and records (spec/01, spec/02, spec/18) -/

/-- Device states (R31). -/
inductive DevState where
  | boot | config | linkTrain | selfTest | armed | run | safe | recovery | halted
deriving DecidableEq, Repr, Inhabited

/-- The step sequencer (R39 to R41, R48, R49): `on`: a run has begun and not ended; step and cycle; `stepAt` is the instant of the last boundary; the
freeze cycles of the run and of this step, the replay events of this step, whether it was counted as FREEZE_EXCESS, and the most events and freeze cycles of a
step so far (R49); `misses`: the step-tagged items that missed their admission since step 0 (R44); `owed` the freezes that are still to come, which failures of the last
32 cycles have asked for in Paired mode (R51): cycle of the step (from 20,000 on, of the next one), length. -/
structure Seq where
  on       : Bool
  step     : Nat
  cycle    : Nat
  stepAt   : Nat
  freeze   : Nat
  frzStep  : Nat
  events   : Nat
  excess   : Bool
  maxEv    : Nat
  maxCyc   : Nat
  misses   : Nat
  owed     : List (Nat × Nat)
deriving DecidableEq, Repr, Inhabited

/-- One queued Event Ring record (R440) before the writer gives it SEQ and CRC; `fault` is the fault class of the
First-Fault Record it belongs to (R444). -/
structure InkRec where
  step    : Nat
  time    : Nat
  epoch   : Nat
  die     : Die
  lost    : Bool
  noStep  : Bool
  dev     : Nat
  fault   : Option Nat
  cls     : Nat
  unit    : Nat
  code    : Nat
  payload : List Byte
deriving DecidableEq, Repr, Inhabited

/-- The record queue of a die (R442): the queued records, and the count lost since the last DROP record; `life` and `hist` tally
what this die adds to the lifetime counters (by index) and histograms (by 64 × histogram + bin) until the writer's next
commit takes it over (R446 to R448). -/
structure Ink where
  queue : List InkRec
  lost  : Nat
  life  : Tbl Nat
  hist  : Tbl Nat
deriving DecidableEq, Repr, Inhabited

/-! ### Memory System (spec/07) -/

/-- A stream armed by a memory command (R186): its fields, how many of its 64-byte transfers have moved (R187), and whether the first burst of its
next line has been issued (R180, R185). -/
structure Stream where
  dir    : Nat
  tfmt   : Nat
  codec  : Nat
  laddr  : Nat
  lines  : Nat
  taddr  : Nat
  lscale : Nat
  scaleT : Nat
  moved  : Nat
  half   : Bool
deriving DecidableEq, Repr, Inhabited

/-- A line on its way to endpoint MEM (R185): the active cycle at which it gets there, the line, the receiving virtual tile, the data of its two
bursts as read (120 bytes; R180), how it is converted (R186), and the scale bytes that go to the tile with it, as (tile address, byte). -/
structure DramRead where
  due    : Nat
  line   : Nat
  vtile  : Nat
  raw    : List Byte
  codec  : Nat
  tfmt   : Nat
  scales : List (Nat × Byte)
deriving DecidableEq, Repr, Inhabited

/-- An access of the Quill that waits for QUILL positions (R195): the logical byte address it goes on at, the bytes still to be read, whether it writes, the bytes it writes, or has read so
far, whether the first of a write's two positions, which reads the burst, has been; the MEM_READ that it serves, role and SEQ. -/
structure QAcc where
  addr  : Nat
  left  : Nat
  write : Bool
  data  : List Byte
  begun : Bool
  req   : Option (Nat × Nat)
deriving DecidableEq, Repr, Inhabited

/-- The Memory System. Streams are numbered 64 × virtual tile + stream (tiles of MAINT count from 512). `frames` counts by section owner the steps in which it ran
(R184); `reads` the lines under way; `rates` the refresh rate in use by channel (R189); `fences` the channels to be fenced, with the cause;
`errs` the steps of each channel's persistent errors (R192); `period`, `periodAt` the maintenance periods since the last step, and the instant the present one began; `held`: what the first burst of a line has brought, or what its second burst has still to write, by 2 × line (STATIC) or
2 × stream + 1 (BOUND) (R185); `quill` the accesses of the Quill that wait, oldest first (R195); `timing` the timing set in use (R178); `refs` the instant of each bank's latest refresh, by 16 × channel + bank (R188). -/
structure Mem where
  streams : Tbl Stream
  sects   : List Section
  frames  : Tbl Nat
  regions : List Region
  reads   : List DramRead
  rates   : Tbl Nat
  fences  : Tbl Nat
  errs    : Tbl (List Nat)
  period  : Nat
  periodAt : Nat
  held    : Tbl (List Byte)
  quill   : List QAcc
  timing  : List Nat
  refs    : Tbl Nat
deriving DecidableEq, Repr, Inhabited


/-! ### Tiles (spec/04) -/

/-- One row of accumulators (R91, R102): its kind, the anchor latched at the last clear, and the 32 columns. -/
structure Row where
  kind   : AccKind
  anchor : Int
  cols   : Tbl Acc
deriving DecidableEq, Repr, Inhabited

/-- A weight buffer: the format it was loaded for and its lines (R103). -/
structure WBlock where
  fmt   : Nat
  lines : List (List Byte)
deriving DecidableEq, Repr, Inhabited

/-- A Window Address Generator descriptor (R107), counts not stored less one. -/
structure Wag where
  base : Nat
  fmt  : Nat
  pad  : Nat
  rowPitch : Nat
  pixPitch : Nat
  h : Nat
  ring : Nat
  w : Nat
  yOrigin : Nat
  kh : Nat
  kw : Nat
  sy : Nat
  sx : Nat
  dy : Nat
  dx : Nat
  pt : Nat
  pl : Nat
  nOx : Nat
  nOy : Nat
  nCb : Nat
  nG  : Nat
  groupPitch : Nat
  order : List Nat
  scaleBase : Nat
deriving DecidableEq, Repr, Inhabited

/-- A generator: its descriptor and how many tuples it has emitted (R108). -/
structure Gen where
  cfg : Option Wag
  idx : Nat
deriving DecidableEq, Repr, Inhabited

/-- A loop being run: first and last bundle, and the repeats left (R110). -/
structure LoopFrame where
  first : Nat
  last  : Nat
  left  : Nat
deriving DecidableEq, Repr, Inhabited

/-- A result on its way to a vector register (0 to 31) or to SD (32): when it is written, and the lanes it writes. -/
structure PendW where
  due   : Nat
  reg   : Nat
  lanes : Tbl Nat
deriving DecidableEq, Repr, Inhabited

/-- What an operation of several cycles does in each of them (R101, R103, R106): an MMA takes one row a cycle, a WB writes its rows' lines, an ASAVE
writes its lines, and WLD, BIAS, WPAR, AMERGE and WCFG read theirs; the generator of a WCFG is 0 A, 1 V, 2 S. -/
inductive JobKind where
  | mma (af bf : Nat) (kind : AccKind) (clr : Bool)
  | wb (fmt : Nat)
  | asave
  | wld (fmt : Nat)
  | bias
  | wpar
  | amerge
  | wcfg (gen : Nat)
deriving DecidableEq, Repr, Inhabited

/-- An operation of several cycles under way in a tile (R97, R101, R106): the bundle it came with and the cycle in which that issued; the cycle of
its next access; the rows (MMA, WB) or lines it has still to begin; the row it is at; the number of that row in the instruction; the address of its
next line; the lines it has read; what it writes in its next cycles (`none`: a cycle without an access); the S address that two rows of 4-bit MX
elements share (R109); the rows as they stood before it; and the bytes it has overwritten, newest first. -/
structure Job where
  kind   : JobKind
  pc     : Nat
  born   : Nat
  next   : Nat
  left   : Nat
  row    : Nat
  inst   : Nat
  addr   : Nat
  got    : List (List Byte)
  outs   : List (Option (Nat × List Byte))
  shared : Option (Wag × Option Nat)
  rows0  : Tbl Row
  undo   : List Host.Cell
deriving DecidableEq, Repr, Inhabited

/-- A numeric event, or an UNARMED one, that is not yet in its register (R83, R111, R187): the active cycle of it, the physical tile, the cycle in which
its bundle issued, and the numeric flag it sets (none: UNARMED). -/
structure TarEv where
  at_  : Nat
  tile : Nat
  born : Nat
  flag : Option Nat
deriving DecidableEq, Repr, Inhabited

/-- What holds back a tile's next bundle (R98, R110, R211, R220): nothing; a cycle (`ready`); the next step boundary; a
full/empty word, with the cycle of the next probe; a barrier, with the generation to pass, once it is known. `rel` is the cycle in which the next bundle
issues, once the word's state was met or the barrier was passed. -/
inductive TWait where
  | none
  | timer
  | step
  | sync (vsid want next startStep budget : Nat) (between : Bool) (rel : Option Nat)
  | bar (index target startStep budget : Nat) (reached : Bool) (between : Bool) (rel : Option Nat)
deriving DecidableEq, Repr, Inhabited

/-- Whether a tile issues (R110, R111, R210, R231). -/
inductive TStat where
  | running | halted | stopped | switched
deriving DecidableEq, Repr, Inhabited

/-- A tile (R91): regions, control state, MAC array, VPU, generators; its SRAM stands in `State.mem`. Cycles are
counted in active cycles, 20,000 a step; `crc` is the CRC-64 of its writes of this step (R404). -/
structure Tile where
  regions : Regions
  locked  : Bool
  pc      : Nat
  ready   : Nat
  wait    : TWait
  loops   : List LoopFrame
  hdr     : Nat
  stroke  : Option Nat
  sd      : Nat
  budget  : Nat
  mask    : Nat
  rows    : Tbl Row
  wAct    : WBlock
  wSh     : WBlock
  anch    : Int
  wpar    : List ReqPar
  v       : Tbl (Tbl Nat)
  pend    : List PendW
  genA    : Gen
  genV    : Gen
  genS    : Gen
  macBusy : Nat
  wldBusy : Nat
  wagBusy : Nat
  jobs    : List Job
  banks   : List (Nat × Nat)
  crc     : Nat
  stat    : TStat
deriving DecidableEq, Repr, Inhabited

/-- A tile before any program is loaded: poll budget 1, every row enabled (DESIGN CHOICE, log entry 1). -/
def tile0 : Tile := { (default : Tile) with budget := 1, mask := 0xFFFFFFFF }

/-- A tile with what is needed to undo the bundle it is issuing (R111: no slot of a faulting bundle takes effect):
the cycle and index of that bundle, the tile before it, the bytes it has overwritten, newest first, and the stream
that its MCMD replaced. -/
structure TileSlot where
  cur  : Tile
  at_  : Option Nat
  pcAt : Nat
  pre  : Tile
  undo : List Host.Cell
  undoS : Option (Nat × Stream)
deriving DecidableEq, Repr, Inhabited

/-- A tile slot before any program is loaded. (DESIGN CHOICE, log entry 1.) -/
def slot0 : TileSlot := { cur := tile0, at_ := none, pcAt := 0, pre := tile0, undo := [], undoS := none }

/-- A transfer on the data network (R113): source and destination endpoint codes, arrival cycle, 64 bytes. -/
structure Xfer where
  src  : Nat
  dst  : Nat
  due  : Nat
  data : List Byte
  got  : Bool
deriving DecidableEq, Repr, Inhabited

/-- A copy under way to the incoming group (R118): when it was read and when it is written, its place in the byte memory, its bytes, and the words of it
that a mirrored write has reached since. -/
structure CopyW where
  read  : Nat
  due   : Nat
  addr  : Nat
  data  : List Byte
  since : List Nat
deriving DecidableEq, Repr, Inhabited

/-- A handover in progress (R117): outgoing group, incoming group, step H. -/
structure Handover where
  outg : Nat
  inc  : Nat
  step : Nat
deriving DecidableEq, Repr, Inhabited

/-- The rotating spare of the tile groups, or of the Stem lane groups (R115 to R124, R163). Group states and the map
stand in the registers; this holds what no register shows: the handover in progress, the step of the last switch, the
step at which each group's last passed test ended, the group being brought out of rotation to be fenced (R124), and what is on its way to the incoming
group (R118): copies, mirrored writes of bytes and mirrored word states, each with the cycle it is written in. -/
structure Rotation where
  hand     : Option Handover
  copies   : List CopyW
  mirror   : List (Nat × Host.Cell)
  mirrorW  : List (Nat × Nat × Nat)
  lastSw   : Nat
  tested   : Tbl Int
  fencing  : Option Nat
deriving DecidableEq, Repr, Inhabited

/-- The Tile Array (spec/04). `events` are the events of operations that are not yet in their registers, by cycle, then tile. -/
structure Tar where
  tiles  : Tbl TileSlot
  net    : List Xfer
  inbox  : List Xfer
  events : List TarEv
  rot    : Rotation
deriving DecidableEq, Repr, Inhabited

/-! ### Sync (spec/08) -/

/-- A sync operation on its way to its word (R208, R209): 0 WRITE_FULL, 1 READ_EMPTY, 2 POLL, 3 FILL, 4 CLEAR,
5 a BWAIT on its way to its barrier (R220), whose index stands in `vsid`. -/
structure SyncOp where
  reach  : Nat
  issuer : Nat
  ptile  : Nat
  ctx    : Nat
  op     : Nat
  vsid   : Nat
  sd     : Nat
deriving DecidableEq, Repr, Inhabited

/-- A response on its way back (R208): outcome code (R210), the new SD where it changes, and whether it answers a wait. -/
structure SyncResp where
  due     : Nat
  issuer  : Nat
  ptile   : Nat
  ctx     : Nat
  target  : Nat
  outcome : Nat
  sd      : Option Nat
  wait    : Bool
deriving DecidableEq, Repr, Inhabited

/-- What no register shows of a barrier (R219): arrival and early bits as participant lists, last_gen, and the cycle of its last completion. -/
structure Bar where
  arr     : List Nat
  early   : List Nat
  lastGen : Tbl Nat
  doneAt  : Option Nat
deriving DecidableEq, Repr, Inhabited

/-- A barrier arrival on its way (R219). -/
structure BarArr where
  reach  : Nat
  index  : Nat
  part   : Nat
  ptile  : Nat
  ctx    : Nat
deriving DecidableEq, Repr, Inhabited

/-- The Sync unit. `words` holds the state code of each full/empty word by 256 × physical tile + word (EMPTY where
not listed); the data bits stand in tile SRAM. `stts` and `barSets` hold the inspection context's STT entries by segment, and its barriers (index, STEP_REL, mask words), of
each program set (R205, R218, R221). -/
structure Syn where
  words : Tbl Nat
  ops   : List SyncOp
  resps : List SyncResp
  bars  : Tbl Bar
  arrs  : List BarArr
  recs  : List SyncRec
  stts  : Tbl (Tbl Nat)
  barSets : Tbl (List (Nat × Bool × List Nat))
deriving DecidableEq, Repr, Inhabited

/-! ### Contexts and changeover (spec/09) -/

/-- A tile's saved part of a context (R234): its position in the context, its control state with its between-Stroke wait, the states of its private
words, and where in DRAM its ACT bytes, its PST bytes and the data of its private words stand, in this order (DESIGN CHOICE, log entry 25). -/
structure SavedTile where
  pos   : Nat
  tile  : Tile
  words : Tbl Nat
  at_   : Nat
deriving DecidableEq, Repr, Inhabited

/-- What no register shows of an auxiliary context (R228 to R235): defined by a record; disabled; SAVE_BYTES, LOAD_BYTES,
AUTO_RESTART; the boundary at which its slice ends and the length of its next slice; its saved state, if it has any; the
boundary of its last stop or placement and the boundary at which that switch is done; the place and length of its save area in DRAM; REMAP, its host addresses, and, for a standby
reservation, the address, die and context it stands for (R407). -/
structure Aux where
  defined   : Bool
  disabled  : Bool
  saveBytes : Nat
  loadBytes : Nat
  restart   : Bool
  sliceEnd  : Nat
  nextLen   : Nat
  saved     : Option (List SavedTile)
  swX       : Nat
  doneAt    : Nat
  saveAt    : Nat
  saveLen   : Nat
  remap     : Nat
  hosts     : List Nat
  standby   : Option (Nat × Nat × Nat)
deriving DecidableEq, Repr, Inhabited

/-- A changeover (R236 to R238): C, K, D, N, the pair's figures; `drift`: the sealed Drift update taken at D + T_r, source, length and destination (R155); `reached`: K fell within a Stem fence and waits for W; `stopPend`: a
cleared line-running flag waits for N (R240). Phase, pilot, NEXT and CUR stand in CTX_CHG. -/
structure Chg where
  pos   : Int
  k     : Nat
  d     : Nat
  n     : Nat
  pair  : RecipePair
  drift : Option (Nat × Nat × Nat)
  setup : Bool
  reached : Bool
  stopPend : Bool
deriving DecidableEq, Repr, Inhabited

/-- Context control. `queue` is the ready queue (R229); `resets` the contexts whose reset takes effect at the next boundary
(R111, R210, R214); `swX`, `swBytes`, `swStart` the switch being gathered and `xferEnd` the last step of its transfers
(R235); `maint` MAINT runs (R227). `pairs`, `resident`, `figs` (chk_allow and REG_WARM by 32 × recipe + lane) and `regGroups` (by recipe) hold what the
image states of the resident recipes (R238, R63, R169); `discards` counts the recipe selects discarded since step 0 (R236). -/
structure Ctx where
  aux     : Tbl Aux
  queue   : List Nat
  resets  : List Nat
  swX     : Nat
  swBytes : Nat
  swStart : Nat
  xferEnd : Nat
  maint   : Bool
  chg     : Chg
  pairs   : List RecipePair
  resident : List Nat
  figs    : Tbl (Nat × Nat)
  regGroups : Tbl Nat
  progs   : List Prog
  discards : Nat
deriving DecidableEq, Repr, Inhabited

/-! ### Lines, parts and batches (spec/05, spec/06, spec/10) -/

/-- The PTP time, epoch and TIME_LOST of a step tag (R307). -/
structure TagTime where
  time  : Nat
  epoch : Nat
  lost  : Bool
deriving DecidableEq, Repr, Inhabited

/-- The exposure status flags that travel with a line (R281): EST, EST_PREV, TRANSITION. -/
structure LineEst where
  est   : Nat
  prev  : Nat
  trans : Bool
deriving DecidableEq, Repr, Inhabited

/-- A line of a port after its checks (R253): its k, samples, REPLACED, exposure flags. -/
structure HeldLine where
  k   : Nat
  px  : List Nat
  replaced : Bool
  est : LineEst
deriving DecidableEq, Repr, Inhabited

/-- One port's part of a fused line (R258): the port, its line, and whether the port is a missing modality. -/
structure PortLine where
  port     : Nat
  line     : HeldLine
  missing  : Bool
deriving DecidableEq, Repr, Inhabited

/-- A fused line of a registration group (R258): index k, trigger position r_k, the largest T_{p,k} of its ports, the trigger
step on the reference line (R250) and the tag of the boundary that began it, its ports in increasing number, and its arrival step in the core domain (R42) once it has crossed. `gone`: the line of a striped lane
that was not registered in time (R173), or one whose arrival step came to die B too late (R47): it is missing. -/
structure FLine where
  group   : Nat
  k       : Nat
  pos     : Int
  trig    : Nat
  ref     : Nat
  time    : TagTime
  ports   : List PortLine
  arrival : Nat
  gone    : Bool
deriving DecidableEq, Repr, Inhabited

/-- What a descriptor stands for (R136, R143, R135). -/
inductive PartKind where
  | slotted | waiting | ghost | tail
deriving DecidableEq, Repr, Inhabited

/-- A line between a part's last attached line and the present one (R133, R145, R149): its serial in the lane, and whether it is
replaced, has a missing modality, or failed its tap CRC (R336), with the columns of its strip, as the part's extent stood after it; `served`: an absorbed part has consumed its strip, or it is lost (R147). -/
structure GapLine where
  serial : Nat
  colA   : Nat
  colB   : Nat
  repl   : Bool
  miss   : Bool
  tap    : Bool
  served : Bool
deriving DecidableEq, Repr, Inhabited

/-- The strip of a line for a part (R145): the line's serial in the lane, and the columns of trunk output row k, the part's extent after line k
widened by STRIP_MARGIN and clipped to the window. -/
structure Strip where
  serial : Nat
  colA   : Nat
  colB   : Nat
deriving DecidableEq, Repr, Inhabited

/-- An absorbed part's state that is still to be merged (R147): its slot, its first and last line, its column extent, and what its image store slot holds (R150). -/
structure Absorbed where
  slot  : Nat
  first : Nat
  last  : Nat
  colA  : Nat
  colB  : Nat
  crop  : List Strip
deriving DecidableEq, Repr, Inhabited

/-- An entry of the head batch (R146): the part, the strips it consumes (none: a merge entry), the absorbed state it merges, and whether its inputs are masked to
zero (R149). -/
structure BatchEntry where
  pseq   : Nat
  strips : List Strip
  merge  : Option Absorbed
  masked : Bool
deriving DecidableEq, Repr, Inhabited

/-- A part (R136). `seq` orders parts by opening (R132); `change`: a change ghost (R237); `recipe`: the recipe that judges it;
`first`, `last` are line serials of the lane, `runs` the last run set, `cmp` and `now` the sets while a line is handled (R130, R131);
`pend` the strips that the head has not consumed (R145), in an assembled lane the lines not yet written to the image store (R150), with their columns; `lines` the serials of the lines in which a run attached to it; `merges`
the absorbed parts whose state is still to be
merged (R147); `crop` the lines, with their columns, that an assembled part's image store slot holds (R150); `outs` the codes of R65's outcomes that apply; `held`: it holds its descriptor (R136, R144); `primary`: none inside: PASS, a
number: REJECT of that class; `feat` its compiled feature vector (R154); `noCheck`: a persistent error struck its Checker activations (R50). -/
structure Part where
  lane   : Nat
  num    : Nat
  seq    : Nat
  kind   : PartKind
  isOpen : Bool
  closing : Bool
  closedAt : Option Nat
  change : Bool
  recipe : Nat
  slot   : Option Nat
  queued : Nat
  ghostAt : Nat
  first  : Nat
  last   : Nat
  leadPos : Int
  trailPos : Int
  time   : TagTime
  colA   : Nat
  colB   : Nat
  runs   : List (Nat × Nat)
  cmp    : List (Nat × Nat)
  now    : List (Nat × Nat)
  gap    : Nat
  repl   : Nat
  gaps   : List GapLine
  pend   : List Strip
  lines  : List Nat
  crop   : List Strip
  merges : List Absorbed
  carried : Bool
  seg    : Int
  final  : Option Nat
  readyAt : Option Nat
  batchAt : Option Nat
  retired : Option Nat
  primary : Option (Option Nat)
  conf   : Nat
  feat   : List Byte
  checker : Option Nat
  noCheck : Bool
  tap    : Bool
  outs   : List Nat
  held   : Bool
  leaving : Bool
deriving DecidableEq, Repr, Inhabited

/-- A line kept in the Part Tracker line store (R142): lane, serial, admission step; of an assembled lane its pixels, column by column. -/
structure StoreLine where
  lane   : Nat
  serial : Nat
  step   : Nat
  px     : List (List Nat)
deriving DecidableEq, Repr, Inhabited

/-- A halo row held for a striped lane (R173): its side (true: left), trigger position, admission step, and its bytes. -/
structure Halo where
  left : Bool
  pos  : Int
  step : Nat
  data : List Byte
deriving DecidableEq, Repr, Inhabited

/-- What a lane keeps between lines: the next line serial; the lines still to be admitted of the first REG_WARM at or after W and of the
first WARM at or after N (R169, R238); the highest trigger position admitted (R237); the segment of the last line of which a part opened, none after its part closed (R134); halos held (R173); lines with masked
halo columns, by side (true: left), as far as a receptive field still reaches back (R174); `spoiled`: lines whose samples are INVALID, with the cause and the columns (R44, R50, R169, R258);
`chgFrom`, `chgTo`: the first line admitted at or after K, and the first one after the WARM lines at or after N, once they are known (R480). -/
structure LaneDyn where
  serial  : Nat
  warmW   : Nat
  warmN   : Nat
  top     : Option Int
  tried   : Option Int
  halos   : List Halo
  masked  : List (Nat × Bool)
  spoiled : List (Nat × Nat × Nat × Nat)
  chgFrom : Option Nat
  chgTo   : Option Nat
deriving DecidableEq, Repr, Inhabited

/-- The Part Tracker and Batch Former. `queue` lists the admission queue by part (R140); `retiredNow` the retirements of this step
(R148); `freeing` descriptors given up in this step and free at its end (R144); `drift` the place of the Drift Adapter's sync object and staging area: virtual tile, word, DRAM address, length, and the
DRAM place of the statistics and coreset that it replaces (R155); `seed` the
image's tta_seed; `batch` the entries of the latest head batch (R146); `overs` the lines with more than 256 runs (R129), `lateVerdicts` the verdicts computed for LATE parts and discarded (R65), since step 0; `ring` the Drift
Adapter's input ring: DRAM address, places, length of a vector; `ringW` the vectors appended to it (R154). -/
structure Ptk where
  cfg    : Tbl LaneCfg
  dyn    : Tbl LaneDyn
  parts  : List Part
  seq    : Nat
  queue  : List Nat
  store  : List StoreLine
  retiredNow : Nat
  freeing : Nat
  drift  : Option (Nat × Nat × Nat × Nat × Nat)
  seed   : Nat
  batch  : List BatchEntry
  overs  : Nat
  lateVerdicts : Nat
  ring   : Option (Nat × Nat × Nat)
  ringW  : Nat
deriving DecidableEq, Repr, Inhabited

/-! ### Stem Engine (spec/06): the regrouped switch; the layer table; the rotation of lane groups -/

/-- The input rows of a Stem layer in the lines of a group (R159): how many it has taken, and the last 25, newest first, each by column and channel. -/
structure StemRows where
  seen : Nat
  rows : List (List (List Nat))
deriving DecidableEq, Repr, Inhabited

/-- The Stem Engine. `layers` is the layer table of every recipe (R160); `loads` the DRAM place and length of the content of a lane group's SRAM, by recipe;
`rows` is kept by 16 × group + layer; `fenceAt` is step F of a switch in progress, `fenceFrom` the active cycle from which a fence that is asked for may take effect (R169);
`known` the known-answer record: machine-vision lines and the expected digest (R168). -/
structure Stm where
  rot     : Rotation
  layers  : List StemLayer
  loads   : Tbl (Nat × Nat)
  rows    : Tbl StemRows
  fenced  : Bool
  fenceReq : Bool
  fenceAt : Option Nat
  fenceFrom : Nat
  known   : Option (List (List Byte) × Nat)
  persist : List Nat
deriving DecidableEq, Repr, Inhabited

/-! ### Camera ingest and registration (spec/10) -/

/-- A trigger of a port that a line has still to answer (R253): k, its trigger step, and whether its packet was sent. -/
structure Trig where
  k    : Nat
  step : Nat
  sent : Bool
deriving DecidableEq, Repr, Inhabited

/-- A camera port's working state (R250 to R256, R264): the next k to fire; the trigger that waits for its packet, with its firing
sample (R251); the instant of the last packet; triggers still to be answered; T_{p,k} and the tag of its boundary, of lines not yet registered; line FIFO and
delay store; the last good line; lines replaced in a row; LINK_DOWN due at the next boundary; rediscovered since; the first k a
disable no longer sends (R36); the truncated frames, newest first. Its configuration, state and counters stand in CXP and RGN
registers. -/
structure Port where
  nextK    : Nat
  waiting  : Option (Nat × Nat)
  lastPkt  : Option Nat
  open_    : List Trig
  fired    : Tbl (Nat × TagTime)
  fifo     : List HeldLine
  store    : List HeldLine
  good     : Option (List Nat)
  badRun   : Nat
  downReq  : Bool
  rediscovered : Bool
  offAt    : Option Nat
  truncs   : List Nat
deriving DecidableEq, Repr, Inhabited

/-- A registration group's working state (R249, R257 to R261): k0, the next k to register, registered lines that have not
crossed, and how many crossed in which step. -/
structure Group where
  k0       : Option Nat
  nextReg  : Nat
  regd     : List FLine
  crossed  : Nat
  crossStep : Nat
deriving DecidableEq, Repr, Inhabited

/-- What die A decides about a line (R47): its arrival step, and its status flags: port, missing, replaced. -/
structure LineDec where
  group : Nat
  k     : Nat
  step  : Nat
  flags : List (Nat × Bool × Bool)
deriving DecidableEq, Repr, Inhabited

/-- Camera Ingest and the Registration Unit. `arrived` holds fused lines in the core-domain receive buffer, oldest
first; `decided` what die A has decided about lines of die B (R47); `camRegs` the camera registers
the device has written; `driving`: this die's transmitters drive the uplinks (R244). -/
structure Cxp where
  ports   : Tbl Port
  groups  : Tbl Group
  cams    : Tbl CamCfg
  camRegs : Tbl (Tbl Nat)
  arrived : List FLine
  decided : List LineDec
  driving : Bool
deriving DecidableEq, Repr, Inhabited

/-! ### Image pipeline (spec/11) -/

/-- A pending exposure request (R281): the frame at whose first line it takes effect (F + 1; 0 if no line has fired), its EST, and its writes
(address index, value). -/
structure ExpoReq where
  frame  : Nat
  est    : Nat
  writes : List (Nat × Nat)
deriving DecidableEq, Repr, Inhabited

/-- A port's exposure state (R281 to R283): the EST set, the one before, the frame in TRANSITION, the pending request, and the
writes still to be acknowledged. -/
structure PortExp where
  est    : Nat
  prev   : Nat
  trans  : Option Nat
  pend   : Option ExpoReq
  unacked : Nat
deriving DecidableEq, Repr, Inhabited

/-- The statistics record a port is forming (R277, R278): its frame and k of the frame's first line, settings, flags, missing lines, lines, the
histograms by 256 × channel + bin and the zone sums and counts by 256 × channel + 16 × row + column. -/
structure PortStat where
  frame : Option Nat
  k     : Nat
  est   : Nat
  prev  : Nat
  mixed : Bool
  miss  : Nat
  repl  : Bool
  lines : Nat
  hist  : Tbl Nat
  zsum  : Tbl Nat
  zcnt  : Tbl Nat
deriving DecidableEq, Repr, Inhabited

/-- The Image Pipeline: ports, exposure, statistics, groups; the Line Slot Table in use and those of the resident program sets, by
2 × recipe (Stem) or 2 × recipe + 1 (regrouped); the lines admitted and not yet served, with
each lane's serial of them; the pipeline line store by port, newest first; the
statistics words still to be filled: step, virtual tile, word, frame. -/
structure Ipp where
  imgs  : Tbl PortImg
  exps  : Tbl PortExp
  stats : Tbl PortStat
  grps  : Tbl GroupOut
  lst   : List (Nat × Nat)
  lsts  : Tbl (List (Nat × Nat))
  toServe : List (FLine × List (Nat × Nat))
  store : Tbl (List PortLine)
  fills : List (Nat × Nat × Nat × Nat)
deriving DecidableEq, Repr, Inhabited

/-! ### Position Timebase (spec/12) -/

/-- The edge filter of one signal (R291). -/
structure Filt where
  level : Bool
  prev  : Bool
  last  : Nat
deriving DecidableEq, Repr, Inhabited

/-- What a channel held at a boundary (R297): C, E and the boundary's sample. -/
structure BMark where
  c : Int
  e : Nat
  n : Nat
deriving DecidableEq, Repr, Inhabited

/-- An encoder channel (R285 to R303): counter, E and C of R297, the last boundary's mark, velocity, the three filters,
declared direction with X, index latch, freeze, SSI state (`stale`, `staleOnly`: staleness alone set UNCERTAIN; `u`: last value;
`goodAt`: sample of the last good frame; `start`: frame sample of the frame in progress), a re-enable due at this boundary, and
the limit it rests at (0 none, 1 low, 2 high). -/
structure Chan where
  count   : Int
  e       : Nat
  ce      : Int
  mark    : Option BMark
  v       : Int
  fa      : Filt
  fb      : Filt
  fz      : Filt
  rev     : Bool
  x       : Int
  latched : Bool
  latch   : Int
  frozen  : Bool
  stale   : Bool
  staleOnly : Bool
  u       : Option Nat
  goodAt  : Nat
  start   : Option Nat
  reenable : Bool
  level   : Nat
deriving DecidableEq, Repr, Inhabited

/-- One channel's entry of a step tag (R307). -/
structure TagEnt where
  valid  : Bool
  count  : Int
  sub    : Nat
  uncertain : Bool
  limit  : Bool
  frozen : Bool
  dir    : Bool
  remote : Bool
  v      : Int
deriving DecidableEq, Repr, Inhabited

/-- A step tag (R307). -/
structure StepTag where
  step  : Nat
  time  : Nat
  epoch : Nat
  lost  : Bool
  ents  : Tbl TagEnt
deriving DecidableEq, Repr, Inhabited

/-- A latch pair of a capture unit (R304). -/
structure Latch where
  unit  : Nat
  pos   : Int
  sub   : Nat
  time  : Nat
  epoch : Nat
  step  : Nat
  cycle : Nat
  lost  : Bool
  uncertain : Bool
  limit : Bool
  frozen : Bool
deriving DecidableEq, Repr, Inhabited

/-- The emulated output (R309, R310): O, Σ, the levels, the end of Z, the last edge, the samples at which the edges still owed fell due, and the source count last seen. -/
structure Emu where
  o     : Int
  sum   : Int
  a     : Bool
  b     : Bool
  z     : Option Nat
  last  : Option Nat
  due   : List Nat
  src   : Int
deriving DecidableEq, Repr, Inhabited

/-- The Position Timebase. `base` is the instant of sample 0 (entry to CONFIG, R285); `tags` holds the latest step tags, newest last
(the other die reads its remote entries here, R308); `cur` the time of the latest; `last` the last admitted tag, remote entries
included; `capStep` the last step each capture unit recorded; `latches` the latch pairs not yet admitted. -/
structure Pos where
  base  : Nat
  chans : Tbl Chan
  tags  : List StepTag
  cur   : TagTime
  last  : Option StepTag
  times : List (Nat × TagTime)
  capStep : Tbl Nat
  latches : List Latch
  admitted : List Latch
  emu   : Emu
deriving DecidableEq, Repr, Inhabited

/-! ### Nib (spec/13) -/

/-- The stages of a Nib event (R314 to R319). -/
inductive EvState where
  | pending | fire | armed
deriving DecidableEq, Repr, Inhabited

/-- A Nib event (R313): `f256` is the fire position once committed (R315); `final` the
part's final verdict code and class, once decided. -/
structure NibEvent where
  lane  : Nat
  part  : Nat
  pseq  : Nat
  rule  : Nat
  t256  : Int
  f256  : Int
  state : EvState
  final : Option (Nat × Nat)
deriving DecidableEq, Repr, Inhabited

/-- An entry of a remote valve frame (R323). -/
structure ValveEntry where
  bank  : Nat
  valve : Nat
  action : Nat
  width : Nat
  time  : Nat
deriving DecidableEq, Repr, Inhabited

/-- A remote event evaluated with FIRE in the present step (R323): destination, fire time, lane, part order, rule, its entry, the
epoch of the tag that committed it, and its ADVANCE_US. -/
structure RemoteFire where
  dest  : Nat
  lane  : Nat
  pseq  : Nat
  rule  : Nat
  entry : ValveEntry
  epoch : Nat
  advance : Nat
deriving DecidableEq, Repr, Inhabited

/-- The Nib. `outOff` lists the disabled outputs (R36); `inTiles` the virtual tiles of the input record by recipe (R331); `frames` the own input frames not yet admitted, as (step,
state bits, wire-break bits). -/
structure Nib where
  rules   : List Rule
  remotes : Tbl Remote
  events  : List NibEvent
  vseq    : Tbl Nat
  outOff  : List Nat
  inTiles : List (Nat × Nat)
  frames  : List (Nat × Nat × Nat)
deriving DecidableEq, Repr, Inhabited

/-- An action on an output: 0 ON, 1 OFF, 2 PULSE, with its width in µs. -/
abbrev OutAct := Nat × Nat

/-- A 24 V output as the field interface silicon holds it (R320, R327, R328): level, pulse end, last rising edge, the edge
held by the 200 µs interval with the actions waiting for it; `smp` the instant of the sample being applied with its actions, the level, pulse end,
rise and held edge before it, and the MERGED and REPEAT_DELAY it has counted; whether it chops; the level at which the pad is stuck, if it is;
the instants of its thermal restarts; whether the silicon holds it shut down. -/
structure OutSt where
  level   : Bool
  pend    : Option Nat
  rise    : Option Nat
  delayed : Option (Nat × List OutAct)
  smp     : Option Nat
  smpActs : List OutAct
  smpLevel : Bool
  smpPend : Option Nat
  smpRise : Option Nat
  smpDelayed : Option (Nat × List OutAct)
  smpMerged : Nat
  smpDelays : Nat
  chop    : Bool
  stuck   : Option Bool
  trips   : List Nat
  shut    : Bool
deriving DecidableEq, Repr, Inhabited

/-- A 24 V input (R329, R330): debounced state and wire-break flag, the state and flag of the last window, and how many windows in a row
agreed. -/
structure InSt where
  level  : Bool
  wb     : Bool
  seen   : Bool
  seenWb : Bool
  wins   : Nat
deriving DecidableEq, Repr, Inhabited

/-- The field interface silicon (R325 to R332), shared by the dies: outputs, what die B's Nib computes for them in Paired mode while die A
owns them (R324), inputs, when each die's port was last heard, whether the watchdog has acted on it, the instant of a RELEASE whose 100 µs
still run, whether RELEASE came since reset, and whether the outputs have passed to die B. -/
structure FieldIf where
  outs    : Tbl OutSt
  shadow  : Tbl OutSt
  ins     : Tbl InSt
  lastA   : Nat
  lastB   : Nat
  deadA   : Bool
  deadB   : Bool
  release : Option Nat
  relSent : Bool
  taken   : Bool
deriving DecidableEq, Repr, Inhabited

/-! ### Checker, Comparator, SAFE and firewalls (spec/14) -/

/-- A Checker message (R335): a part's class (lane, number) or a sample's FP32 value (sensor, number). -/
structure ChkMsg where
  part   : Bool
  a      : Nat
  b      : Nat
  value  : Nat
deriving DecidableEq, Repr, Inhabited

/-- The Comparator, the Checker's side of it and the SAFE causes. `msgs` the messages received for parts and samples not yet decided;
`done` the samples decided or published, newest first; `window` the disagreement window, newest last (R342); `stepDec` the entries of this
step: 0 part or 1 sample, then lane or sensor, then order, then the entry; `decs` what this step decided, `lastDecs` what the last did
(R341); `tols` the tolerances of each recipe by 65,536 × recipe + sensor, and `maps` its class map (R339); `pending`: a SAFE cause detected
and not yet acted on (R344); `firstStep`: the step, if one ran, of the cause of this SAFE stay; `okCmd`, `okMiss`, `pulse`: SAFE_OK's command, its mismatching readbacks and the end
of its test pulse (R351); `newAt` the step of the latest SAFE cause recorded (R32); `lateVals` the values computed for LATE samples and discarded since step 0 (R64); `spoiled` the
samples that a persistent error struck, with their cause (R50); `temps` by sensor: 1 above the warning threshold and not re-armed; by 64 + sensor: it has been read since BOOT (R410, R458). -/
structure Chk where
  msgs    : List ChkMsg
  done    : List (Nat × Nat)
  sensors : Tbl SensorCfg
  tols    : Tbl SensorCfg
  maps    : Tbl (List Nat)
  window  : List Bool
  stepDec : List (Nat × Nat × Nat × Bool)
  decs    : List (Nat × Nat × Nat × Nat)
  lastDecs : List (Nat × Nat × Nat × Nat)
  pending : Bool
  firstStep : Option (Bool × Nat)
  rearmed : List Nat
  viols   : List Nat
  fwlLoaded : Bool
  okCmd   : Bool
  okMiss  : Nat
  pulse   : Option Nat
  mr4Over : Bool
  newAt   : Option Nat
  lateVals : Nat
  spoiled : List (Nat × Nat × Nat)
  temps   : Tbl Int
deriving DecidableEq, Repr, Inhabited

/-! ### Network and Time (spec/15) -/

/-- A die's PTP timer (R373): the time it showed at local instant `at_`, its rate adjustment in parts per 10^9, the offsets of at most
1 µs seen in a row, the instant of the last valid Sync, SYNC_TIMEOUT in s, the delay mechanism, the measured link delay (R372), the last Sync (master time, local time), the local time at which the last request for a delay left, and
the profile's request interval in ns. State and
epoch stand in NET_PTP_STAT. -/
structure Ptp where
  time : Int
  at_  : Nat
  rate : Int
  good : Nat
  lastSync : Nat
  timeout : Nat
  peer : Bool
  delay : Int
  sync : Option (Int × Int)
  reqAt : Option Int
  every : Nat
deriving DecidableEq, Repr, Inhabited

/-- A decided verdict not yet published (R375, R379). -/
structure VRec where
  step   : Nat
  lane   : Nat
  num    : Nat
  seq    : Nat
  verdict : Nat
  agree  : Nat
  cls    : Nat
  recipe : Nat
  conf   : Nat
  lead   : Int
  span   : Nat
  time   : TagTime
deriving DecidableEq, Repr, Inhabited

/-- A decided soft-sensor sample not yet published (R375, R380), with the frame of the run it is assigned to (R64). -/
structure SRec where
  sensor : Nat
  num    : Nat
  cause  : Nat
  lane   : Nat
  value  : Nat
  pos    : Int
  time   : TagTime
  frame  : Nat
deriving DecidableEq, Repr, Inhabited

/-- A frame in the launch-time queue (R365): 0 valve, 1 result, 2 SAFE-STATE; its destination and port (0 A, 1 B); launch time and the epoch it was computed
in; its UDP payload and sequence number; `now`: to start as soon as the MDI is free (R381). -/
structure QFrame where
  kind  : Nat
  dest  : Nat
  port  : Nat
  at_   : Nat
  epoch : Nat
  seq   : Nat
  now   : Bool
  data  : List Byte
deriving DecidableEq, Repr, Inhabited

/-- A token bucket (R368): the tokens missing × 10^9 at the instant of its last use; it is full at first. -/
structure Bucket where
  used  : Nat
  at_   : Nat
deriving DecidableEq, Repr, Inhabited

/-- Network and Time. `recs` and `srecs` hold unpublished records; `seals` counts the regular seals of the run; `dropped` the records
dropped since the previous frame; `seq` the frame number (R377); `safeSent`: the SAFE-STATE set of this stay in SAFE has been sealed;
`safeDue`: a record-less SAFE-STATE frame is due, with its step and INVALID (R381); `queue` the launch-time queue; `hiSeq` the highest line-state
SEQ accepted since CONFIG (R370); `mac`, `ip` the module's addresses. -/
structure Net where
  recs   : List VRec
  srecs  : List SRec
  seals  : Nat
  dropped : Nat
  seq    : Nat
  safeSent : Bool
  safeDue : Option (Nat × Bool)
  queue  : List QFrame
  dests  : Tbl Dest
  hiSeq  : Option Nat
  mac    : Nat
  ip     : Nat
deriving DecidableEq, Repr, Inhabited

/-! ### Twill (spec/16) -/

/-- A Twill frame (R386) without its link sequence number. `ref`: for a BARRIER frame, COUNT less the delay of the link it came over, ρ,
and the instant it came (or was made), from which COUNT is inserted at each transmission (R395). -/
structure TFrame where
  dest   : Nat
  dstDie : Nat
  vc     : Nat
  cls    : Nat
  src    : Nat
  srcDie : Nat
  hops   : Nat
  first  : Bool
  last   : Bool
  msg    : Nat
  frag   : Nat
  data   : List Byte
  ref    : Option (Int × Nat × Nat)
deriving DecidableEq, Repr, Inhabited

/-- An external port's working state (R385 to R392): its record; the next SEQ to send, the frames sent and not acknowledged with their SEQ and how often
they were resent, oldest first; the SEQ expected; the receiver's free buffers as last told, for VC0 and VC1; frames waiting; frames that wait for
the tables to change, with the instant (R403); codeword lock; the instant it entered DETECT, or left ACTIVE; the rate
the peers agreed, and whether the peer offers a frequency reference (R390); the settings that an Expert record gives the port, by rate (R391); the precoder's last transmitted level and
last received one (R384). -/
structure TPort where
  cfg     : TPortCfg
  txSeq   : Nat
  out     : List (Nat × TFrame × Nat)
  rxSeq   : Nat
  cr0     : Nat
  cr1     : Nat
  queue   : List TFrame
  parked  : List (TFrame × Nat)
  lock    : Bool
  since   : Nat
  agreed  : Nat
  fref    : Bool
  eqOver  : Tbl EqSet
  txLevel : Nat
  rxLevel : Nat
deriving DecidableEq, Repr, Inhabited

/-- A message delivered to the die and not yet acted on (R399): class, source, payload, the port it came over (none: it was made here), the instant its first
fragment came, and for a BARRIER message COUNT less the link's delay, and ρ. -/
structure TMsg where
  cls    : Nat
  src    : Nat
  srcDie : Nat
  data   : List Byte
  port   : Option Nat
  at_    : Nat
  count  : Int
  rho    : Nat
deriving DecidableEq, Repr, Inhabited

/-- What a SIGN message carries (R404): step, step signature, the 17 group signatures, TAR_MAP and TAR_OUT. -/
structure Sign where
  step   : Nat
  sig    : Nat
  groups : List Nat
  map    : List Nat
  outg   : Nat
deriving DecidableEq, Repr, Inhabited

/-- A module that the root has found (R401): serial number, member, generation, port states, the path of port codes to it, and which found module
each of its ports leads to. -/
structure DiscMod where
  serial : List Byte
  member : Nat
  gen    : Nat
  ports  : List Nat
  path   : List Nat
  links  : Tbl Nat
deriving DecidableEq, Repr, Inhabited

/-- A context of the failed die that is offered (R407): the context, the candidates left (none: the survivor itself), and the instant of the
offer under way. -/
structure Remap where
  ctx   : Nat
  cands : List (Option Nat)
  at_   : Nat
deriving DecidableEq, Repr, Inhabited

/-- The Twill unit of a die: ports by number; messages delivered; messages being received, by source, die, class and tag, with what has come; the
next message tag; its SIGN messages, newest last; the root's findings and the probes not
yet answered, 4 × module found + port, the first of them sent (R401); the contexts being offered (R407);
`outbox` messages made and not yet handed to the link: destination, its die, class, payload; `done`: DONE has come; `failAt` the instant at which the
peer was declared FAILED (R406); ALIGN messages received: the last boundary number j; `mark` the
instant of this die's last boundary 1,024j; `linkPass`: the link policy lets a failed link pass (R32); `eqs` the board equalisation table: an entry's settings by rate, by its ID (R391). -/
structure Twl where
  ports   : Tbl TPort
  inbox   : List TMsg
  rx      : List (TFrame × TMsg)
  tag     : Nat
  signs   : List Sign
  found   : List DiscMod
  probes  : List Nat
  done    : Bool
  remaps  : List Remap
  outbox  : List (Nat × Nat × Nat × List Byte)
  failAt  : Option Nat
  aligned : Nat
  mark    : Nat
  linkPass : Bool
  eqs     : Tbl (List EqSet)
deriving DecidableEq, Repr, Inhabited

/-- The module's synchronisation group (R394 to R397): MEMBERS, START_MARGIN in µs, SIGN_DEST; the modules that stand arrived, where this module is
the master; whether this module has sent ARRIVE; its release instant; the members that the master last started. The rest stands in TWL_SYNC. -/
structure SyncGroup where
  members : Nat
  margin  : Nat
  signDest : Option Nat
  addrs   : List Nat
  arrived : Bool
  release : Option Nat
  running : List Nat
deriving DecidableEq, Repr, Inhabited


/-! ### Quill (spec/17) -/

/-- An image header as R415 lays it out; `rsv` is the value of its reserved bytes. (DESIGN CHOICE, log entry 5.) -/
structure ImgHead where
  magic    : Nat
  fmtMajor : Nat
  genMin   : Nat
  genMax   : Nat
  member   : Nat
  flags    : Nat
  records  : Nat
  length   : Nat
  svn      : Nat
  keySlot  : Nat
  rsv      : Nat
deriving DecidableEq, Repr, Inhabited

/-- An image: its header, its digest (R417), and whether its signature verifies with the key of its slot (R417). -/
structure StoreImage where
  head   : ImgHead
  digest : List Byte
  sigOk  : Bool
deriving DecidableEq, Repr, Inhabited

/-- A QMP request passed to the other die and not answered (R429): its OP, ROLE, SEQ and the instant it was passed on. -/
structure QmpFwd where
  op   : Nat
  role : Nat
  seq  : Nat
  at_  : Nat
deriving DecidableEq, Repr, Inhabited

/-- The Quill. `evts` is the FIFO behind QLL_USW_EVT, oldest first: register value and step (R435); `qseq` the highest SEQ [31:0] accepted for
each role since BOOT, by role, of the relay die (R429); `fwd` requests passed to the other die; `req` the Unit State request that is PENDING and the
instant it was written (R434, R436), `ans` the QMP request (role, SEQ) that its result answers; `reconAt` the last reconciliation, `gapped` that the gap since then is counted, and `differ` the units on which a disagreement stands, with the
instant it was first found (R436, R437); `stLen`, `stDigest` what STAGE_BEGIN declared, `staged` the image verified (R422, R423); `run` the
running image, none in RECOVERY; `skipped` its skipped records (R418); `bootAt` the instant of BOOT; `primary`: this Quill is the primary one (R409); `snap` the
Unit State Words as they stood at the last boundary (R478). -/
structure Qll where
  evts   : List (Nat × Nat)
  qseq   : Tbl Nat
  fwd    : List QmpFwd
  req    : Option (Nat × Nat)
  ans    : Option (Nat × Nat)
  reconAt : Nat
  gapped : Bool
  differ : Tbl Nat
  stLen  : Nat
  stDigest : List Byte
  staged : Option StoreImage
  run    : Option StoreImage
  skipped : Nat
  bootAt : Nat
  primary : Bool
  snap   : Tbl Nat
deriving DecidableEq, Repr, Inhabited


/-! ### External data on its way into the core domain (spec/02 R42 to R45) -/

/-- What an item of external data says: a line-state frame (R370), a Checker message (R335), or a HALO message (R173). -/
inductive Payload where
  | recipeSelect (lane recipe : Nat) (pos : Int)
  | lineRunning (on : Bool)
  | operatorAck
  | checker (m : ChkMsg)
  | halo (lane : Nat) (left : Bool) (pos : Int) (cols : Nat) (data : List Byte)
deriving DecidableEq, Repr, Inhabited

/-- An item: the production step it is tagged with, if it is step-tagged; the step in which it arrived, once it has. -/
structure Item where
  tag     : Option Nat
  arrival : Option Nat
  body    : Payload
deriving DecidableEq, Repr, Inhabited

/-! ### The module's own parts: Inkwell writer, supply, switch, store (spec/15, spec/17 to spec/19) -/

/-- The Inkwell writer (R439 to R448): the die that writes, the die whose queue is taken next, the next SEQ, the lifetime boot count, the
counters and histogram bins in the writer's SRAM (by index; by 64 × histogram + bin), how many commits have been made, how many of the
Boot Log header, and the bytes written that no KiB counts yet. -/
structure InkMod where
  writer  : Die
  turn    : Die
  seq     : Nat
  boots   : Nat
  cnt     : Tbl Nat
  hist    : Tbl Nat
  commits : Nat
  heads   : Nat
  part    : Nat
deriving DecidableEq, Repr, Inhabited

/-- The 12 V supply (R452 to R456): the warning in progress since when, the lowest voltage of it in mV, whether it has its DIP record, and
the hold-up rail. -/
structure Power where
  warnAt  : Option Nat
  warnMin : Nat
  rail    : Bool
deriving DecidableEq, Repr, Inhabited

/-- The switch (R363, R364, R368, R372, R470): the relay die, the learned entries (MAC address, port, instant of learning), the token buckets of the internal
port by class (0, 1 PTP of port A, B; 2 QMP; 3 line state), the last request for a delay, and the end of the PPS_OUT pulse. -/
structure Switch where
  relay   : Die
  macs    : List (Nat × Nat × Nat)
  buckets : Tbl Bucket
  reqAt   : Option Nat
  pps     : Option Nat
deriving DecidableEq, Repr, Inhabited

/-- The network fallback entry of the Boot Log (R427): address, port roles, result destinations with their NET_DEST values, frame period. -/
structure Fallback where
  ip     : Nat
  roles  : Nat
  dests  : Tbl (Dest × Nat)
  period : Nat
deriving DecidableEq, Repr, Inhabited

/-- A Boot Log entry (R449): boot count, reset cause, rejection cause, image digest, highest state reached, ms from reset to ARMED. -/
structure BootEnt where
  boots  : Nat
  cause  : Nat
  reject : Nat
  digest : List Byte
  top    : Nat
  ms     : Nat
deriving DecidableEq, Repr, Inhabited

/-- The store and what else outlives a reset (R421, R424, R426, R430, R449): the stored image, if a valid marker stands; key slots, and whether
the key store passes its check; OTP: SVN floor, key slots that are unprogrammed or revoked, initial KEYMASTER key, serial number,
attestation key pair, sealing key, public keys of the key slots; Boot Log: digest and cause of the last rejected image, fallback entry, entries by index. -/
structure Store where
  image    : Option StoreImage
  keys     : Tbl (List Byte)
  keysBad  : Bool
  svnFloor : Nat
  badSlots : List Nat
  initKey  : List Byte
  serial   : List Byte
  attPriv  : List Byte
  attPub   : List Byte
  sealKey  : List Byte
  slotKeys : Tbl (List Byte)
  rejected : Option (List Byte × Nat)
  fallback : Option Fallback
  bootLog  : Tbl BootEnt
deriving DecidableEq, Repr, Inhabited


/-! ### A die, the module, and the state -/

/-- One die. `held`: it is in reset, with the reset cause (R465, R466); `line`: line running has been received since ARMED (R32);
`rejoin`: it booted while its peer ran on, and has not been released since (R467); `clk` is its copy of the wall clock in ns; `regs` holds every register that is not computed when it is read,
by its place (Regs.lean), the reset value where not listed; `cap` for each `_LO` register read, the initiator and the upper half it left
(R16); `reqs` the run-time requests that wait for a step boundary, by register, value, and the first boundary that may be (R35, R57); `items` the external data on its way in
(R42); `wire` what the
die has sent, oldest first (DESIGN CHOICE, log entry 4). -/
structure DieState where
  die  : Die
  dev  : DevState
  held : Option Nat
  line : Bool
  rejoin : Bool
  paired : Bool
  clk  : Nat
  seq  : Seq
  regs : Tbl Nat
  cap  : Tbl (Nat × Nat)
  ink  : Ink
  reqs : List (Nat × Nat × Nat)
  items : List Item
  wire : List Sent
  tar  : Tar
  syn  : Syn
  ctx  : Ctx
  ptk  : Ptk
  stm  : Stm
  cxp  : Cxp
  ipp  : Ipp
  pos  : Pos
  nib  : Nib
  chk  : Chk
  mem  : Mem
  ptp  : Ptp
  net  : Net
  twl  : Twl
  qll  : Qll
deriving DecidableEq, Repr, Inhabited

/-- What both dies share: the field interface silicon, the Inkwell writer, the supply, the switch, the store, the synchronisation group. -/
structure ModState where
  field : FieldIf
  ink   : InkMod
  pwr   : Power
  sw    : Switch
  store : Store
  grp   : SyncGroup
deriving DecidableEq, Repr, Inhabited

/-- The module. `now` is the wall clock in ns (DESIGN CHOICE, log entry 3); `pending` the waiting commands, oldest first; `free` counts
the free values used (DESIGN CHOICE, log entry 8); `mem` every byte memory of the module in one list (DESIGN CHOICE, log entry 1, Ops.lean). -/
structure State where
  now : Nat
  pending : List Instr
  free : Nat
  a : DieState
  b : DieState
  mod : ModState
  mem : List Host.Cell
deriving DecidableEq, Repr, Inhabited

/-- Why the model stops. No command of the AE7D stops it (NOTES.md, '## Stops'). -/
inductive Fault where
  /-- Never raised: the spec gives every command an effect. Safe. -/
  | none
deriving DecidableEq, Repr

/-- Why the model refuses a command. -/
inductive Refusal where
  /-- A command without a meaning yet; raised by its arm of `exec` alone. Safe. -/
  | notModelled (mnemonic : String)
deriving DecidableEq, Repr

/-- A die after reset (R452, spec/20 R477): BOOT, registers at their reset values, everything else empty (DESIGN CHOICE, log entry 1); held in reset
until the supply is up (R452). -/
def DieState.reset (d : Die) : DieState := { (default : DieState) with die := d, held := some 0 }

/-- The module after reset. (DESIGN CHOICE, log entry 1.) -/
def State.reset : State :=
  { (default : State) with a := DieState.reset .a, b := DieState.reset .b }

end Sys2Proof.Machine
end

