-- ==== Sys2Proof/Machine/Ops.lean ====
section
/-! DEFINITION. The shared operations: tables, bit fields, the one byte memory, registers, sticky flags and Inkwell
records, SAFE causes, hardware Unit State Words, time, and the ways a command reaches one die, both dies or the module. -/

namespace Sys2Proof.Machine

/-! ### Tables -/

/-- The entry of a sparse table at `k`, `d` where it is not listed. -/
def tget {V : Type} (t : Tbl V) (k : Nat) (d : V) : V :=
  match t with
  | [] => d
  | (k', v) :: r => if k' = k then v else tget r k d

/-- The entry at `k`, if listed. -/
def tget? {V : Type} (t : Tbl V) (k : Nat) : Option V :=
  match t with
  | [] => none
  | (k', v) :: r => if k' = k then some v else tget? r k

/-- The table with `v` at `k`, keys kept rising. -/
def tset {V : Type} (t : Tbl V) (k : Nat) (v : V) : Tbl V :=
  match t with
  | [] => [(k, v)]
  | (k', w) :: r => if k' = k then (k, v) :: r else if k < k' then (k, v) :: (k', w) :: r else (k', w) :: tset r k v

/-- The table without `k`. -/
def tdel {V : Type} (t : Tbl V) (k : Nat) : Tbl V := t.filter (fun p => p.1 ≠ k)

/-- The table with the entry at `k` changed by `f`, from `d` where it is not listed. -/
def tmod {V : Type} (t : Tbl V) (k : Nat) (d : V) (f : V → V) : Tbl V := tset t k (f (tget t k d))

/-! ### Bits -/

/-- Bits [hi:lo] of `n` (R13). -/
def bits (hi lo n : Nat) : Nat := n / 2 ^ lo % 2 ^ (hi + 1 - lo)

/-- Bit `b` of `n`. -/
def bit (b n : Nat) : Bool := decide (n / 2 ^ b % 2 = 1)

/-- A Bool as a bit. -/
def b2n (b : Bool) : Nat := if b then 1 else 0

/-- `n` with bits [hi:lo] replaced by `v`. -/
def setBits (hi lo v n : Nat) : Nat :=
  n / 2 ^ (hi + 1) * 2 ^ (hi + 1) + v % 2 ^ (hi + 1 - lo) * 2 ^ lo + n % 2 ^ lo

/-- `n` with bit `b` set or cleared. -/
def setBit (b : Nat) (v : Bool) (n : Nat) : Nat := setBits b b (b2n v) n

/-- `n + k` held at `m`. -/
def satAdd (m n k : Nat) : Nat := min m (n + k)

/-- The greatest value of a 32-bit counter. -/
def max32 : Nat := 0xFFFFFFFF

/-! ### The byte memory: one canonical list (DESIGN CHOICE, log entry 1) -/

/-- The byte memories of the module, each with its place in the one list: tile SRAM (R92), DRAM (R175, the staging area in it), Stem SRAM (R158)
and Quill SRAM (R471) of a die; the MRAM (R438). What the NAND store and OTP hold stands in `Store`. (DESIGN CHOICE, log entry 1.) -/
inductive Space where
  | sram (d : Die) | dram (d : Die) | stem (d : Die) | quill (d : Die) | mram
deriving DecidableEq, Repr, Inhabited

/-- Where a space begins in the one list: 2^40 addresses apart. -/
def Space.base (k : Space) : Nat :=
  2 ^ 40 * (match k with
    | .sram d => d.num
    | .dram d => 2 + d.num
    | .stem d => 4 + d.num
    | .quill d => 6 + d.num
    | .mram => 8)

/-- A byte of memory; a byte that nothing has written reads 0 (DESIGN CHOICE, log entry 1). -/
def memGet (m : List Host.Cell) (a : Nat) : Byte :=
  match m with
  | [] => 0
  | (a', v) :: r => if a' = a then v else if a < a' then 0 else memGet r a

/-- The memory with byte `v` at `a`, in canonical form: addresses strictly rising, no zero byte listed. (DESIGN CHOICE, log entry 1.) -/
def memSet (m : List Host.Cell) (a : Nat) (v : Byte) : List Host.Cell :=
  match m with
  | [] => if v = 0 then [] else [(a, v)]
  | (a', w) :: r =>
    if a' = a then (if v = 0 then r else (a, v) :: r)
    else if a < a' then (if v = 0 then (a', w) :: r else (a, v) :: (a', w) :: r)
    else (a', w) :: memSet r a v

/-- The canonical form from a lower bound on. -/
def memWfFrom (lo : Nat) (m : List Host.Cell) : Bool :=
  match m with
  | [] => true
  | (a, v) :: r => decide (lo ≤ a) && decide (v ≠ 0) && memWfFrom (a + 1) r

/-- The canonical form: addresses strictly rising, and no entry equal to what an unlisted address reads as. (DESIGN CHOICE, log entry 1.) -/
def Memory.wf (m : List Host.Cell) : Bool := memWfFrom 0 m

/-- The memory after the stores `ws`, first to last. -/
def memApply (m : List Host.Cell) (ws : List Host.Cell) : List Host.Cell :=
  match ws with
  | [] => m
  | (a, v) :: r => memApply (memSet m a v) r

/-- `n` bytes from `a`. -/
def memRead (m : List Host.Cell) (a n : Nat) : List Byte := (List.range n).map (fun i => memGet m (a + i))

/-- The stores that put `bs` at `a`. -/
def cellsAt (a : Nat) (bs : List Byte) : List Host.Cell :=
  match bs with
  | [] => []
  | b :: r => (a, b) :: cellsAt (a + 1) r

/-- The bytes listed from `lo` (inclusive) to `hi` (exclusive). -/
def memRange (m : List Host.Cell) (lo hi : Nat) : List Host.Cell := m.filter (fun c => decide (lo ≤ c.1 ∧ c.1 < hi))

/-- The stores that make [dst, dst + n) a copy of [src, src + n). Only listed bytes are touched. -/
def copyCells (m : List Host.Cell) (src dst n : Nat) : List Host.Cell :=
  (memRange m dst (dst + n)).map (fun c => (c.1, 0)) ++ (memRange m src (src + n)).map (fun c => (c.1 - src + dst, c.2))

/-- The stores that make [a, a + n) zero. -/
def zeroCells (m : List Host.Cell) (a n : Nat) : List Host.Cell := (memRange m a (a + n)).map (fun c => (c.1, 0))

/-! ### Registers -/

/-- The plain content of the register at `off`. -/
def DieState.rd (d : DieState) (off : Nat) : Nat := tget d.regs off (regReset off)

/-- The die with `v` in the register at `off`. -/
def DieState.wr (d : DieState) (off v : Nat) : DieState := { d with regs := tset d.regs off (v % 2 ^ 32) }

/-- A field of a register. -/
def DieState.fld (d : DieState) (off hi lo : Nat) : Nat := bits hi lo (d.rd off)

/-- A bit of a register. -/
def DieState.flag (d : DieState) (off b : Nat) : Bool := bit b (d.rd off)

/-- The die with a field of a register set. -/
def DieState.setFld (d : DieState) (off hi lo v : Nat) : DieState := d.wr off (setBits hi lo v (d.rd off))

/-- The die with a bit of a register set or cleared. -/
def DieState.setFlag (d : DieState) (off b : Nat) (v : Bool) : DieState := d.wr off (setBit b v (d.rd off))

/-- A saturating 32-bit counter counts `k` more. -/
def DieState.count (d : DieState) (off k : Nat) : DieState := d.wr off (satAdd max32 (d.rd off) k)

/-- A saturating counter in a field counts `k` more. -/
def DieState.countFld (d : DieState) (off hi lo k : Nat) : DieState :=
  d.setFld off hi lo (satAdd (2 ^ (hi + 1 - lo) - 1) (d.fld off hi lo) k)

/-- A field keeps the greater of itself and `v`. -/
def DieState.peakFld (d : DieState) (off hi lo v : Nat) : DieState :=
  d.setFld off hi lo (max (d.fld off hi lo) (min v (2 ^ (hi + 1 - lo) - 1)))

/-- A 64-bit quantity in a `_LO` register and the register after it (R16). -/
def DieState.rd64 (d : DieState) (lo : Nat) : Nat := d.rd lo + 2 ^ 32 * d.rd (lo + 4)

/-- The die with a 64-bit quantity in `_LO` and `_HI`. -/
def DieState.wr64 (d : DieState) (lo v : Nat) : DieState := (d.wr lo (v % 2 ^ 32)).wr (lo + 4) (v / 2 ^ 32)

/-- A signed 64-bit quantity. -/
def DieState.rdS64 (d : DieState) (lo : Nat) : Int := toSigned 64 (d.rd64 lo)

/-- The die with a signed 64-bit quantity. -/
def DieState.wrS64 (d : DieState) (lo : Nat) (v : Int) : DieState := d.wr64 lo (ofSigned 64 v)

/-! ### Device state and time -/

/-- The code of a device state (R31). -/
def DevState.code (s : DevState) : Nat :=
  match s with
  | .boot => 0 | .config => 1 | .linkTrain => 2 | .selfTest => 3 | .armed => 4
  | .run => 5 | .safe => 6 | .recovery => 7 | .halted => 8

/-- The step sequencer runs (R40): in RUN, and in SAFE if a run was on when the die entered it. -/
def DieState.stepping (d : DieState) : Bool := d.dev == .run || (d.dev == .safe && d.seq.on)

/-- The PTP time the die's timer shows, in ns (R373). -/
def DieState.ptpNow (d : DieState) : Int :=
  d.ptp.time + ((d.clk : Int) - d.ptp.at_) * (1000000000 + d.ptp.rate) / 1000000000

/-- The time epoch (R373). -/
def DieState.epoch (d : DieState) : Nat := d.fld rNET_PTP_STAT 31 16

/-- TIME_LOST: 1 in every servo state except LOCKED (R373). -/
def DieState.timeLost (d : DieState) : Bool := decide (d.fld rNET_PTP_STAT 2 0 ≠ 2)

/-- The die's wall clock no earlier than `t`. -/
def DieState.at (d : DieState) (t : Nat) : DieState := { d with clk := max d.clk t }

/-- The freezes that fall due before cycle `c`, asked for 32 cycles ahead in Paired mode (R51), lengthen the step. -/
def Seq.owe (q : Seq) (c : Nat) : Seq :=
  let n := ((q.owed.filter (fun o => decide (o.1 < c))).map (·.2)).foldl (· + ·) 0
  { q with freeze := q.freeze + n, frzStep := q.frzStep + n, owed := q.owed.filter (fun o => decide (c ≤ o.1)) }

/-- Core-domain time: the die at cycle-in-step `c` of the current step, freeze cycles of the step included (R39). -/
def DieState.toCycle (d : DieState) (c : Nat) : DieState :=
  let q := d.seq.owe c
  ({ d with seq := { q with cycle := max q.cycle c } }).at (q.stepAt + c + q.frzStep)

/-- A die sends something (DESIGN CHOICE, log entry 4). -/
def DieState.send (d : DieState) (k : SentKind) (args : List Nat) (data : List Byte) : DieState :=
  { d with wire := d.wire ++ [⟨k, args, data⟩] }

/-! ### Lifetime tallies and Inkwell records (spec/18) -/

/-- Lifetime counter `i` of the die counts `k` (R447). -/
def DieState.life (d : DieState) (i k : Nat) : DieState :=
  { d with ink := { d.ink with life := tmod d.ink.life i 0 (· + k) } }

/-- Bin `b` of lifetime histogram `h` counts one (R448). -/
def DieState.hist (d : DieState) (h b : Nat) : DieState :=
  { d with ink := { d.ink with hist := tmod d.ink.hist (64 * h + b) 0 (· + 1) } }

/-- Classes that may use the 16 reserved queue entries: SAFE_CAUSE, DIP, POWER_FAIL (R442). -/
def inkReserved (cls : Nat) : Bool := decide (cls = 1 ∨ cls = 4 ∨ cls = 10)

/-- The record a die would queue now (R440). -/
def DieState.inkRec (d : DieState) (cls unit code : Nat) (fault : Option Nat) (payload : List Byte) : InkRec :=
  { step := if d.stepping then d.seq.step else 0
    time := d.ptpNow.toNat
    epoch := d.epoch
    die := d.die
    lost := d.timeLost
    noStep := !d.stepping
    dev := d.dev.code
    fault := fault
    cls := cls
    unit := unit
    code := code
    payload := (payload ++ List.replicate 88 (0 : Byte)).take 88 }

/-- The queue has an entry for a record of this class (R442). -/
def DieState.inkFits (d : DieState) (cls : Nat) : Bool := decide (d.ink.queue.length < if inkReserved cls then 256 else 240)

/-- A record takes a queue entry (R442). -/
def DieState.inkEnter (d : DieState) (r : InkRec) : DieState :=
  ((({ d with ink := { d.ink with queue := d.ink.queue ++ [r] } } : DieState).setFld rINK_QUEUE 8 0 (d.ink.queue.length + 1)).peakFld
    rINK_QUEUE 24 16 (d.ink.queue.length + 1))

/-- A record finds no queue entry and is counted (R442). -/
def DieState.inkLose (d : DieState) : DieState :=
  (({ d with ink := { d.ink with lost := d.ink.lost + 1 } } : DieState).count rINK_DROPS 1).life (34 + d.die.num) 1

/-- A record takes a queue entry if there is one for its class; a record that finds none is counted (R442). -/
def DieState.inkQueue (d : DieState) (r : InkRec) : DieState × Bool :=
  if d.inkFits r.cls then (d.inkEnter r, true) else (d.inkLose, false)

/-- Queue a record whose code and payload layout the spec does not give (R440): both are free, functions of what it reports (DESIGN CHOICE, log entry 8). -/
def recNote (cls : Nat) (facts : List Nat) : Nat × List Byte := (Config.recCode cls facts % 65536, (Config.recPayload cls facts).take 88)

/-- The payload of a FLAG record: the bit, then the register's value (R440); what first-event record follows is free
(DESIGN CHOICE, log entry 8 names it: the unit's registers are given). -/
def flagPayload (b value : Nat) (firstRec : List Byte) : List Byte :=
  [BitVec.ofNat 8 b, 0, 0, 0] ++ leBytes 4 value ++ firstRec.take 20

/-- Queue a record; where it is lost, DROP of INK_STATUS is set, which writes a record of its own if it was 0. -/
def DieState.inkPut (d : DieState) (cls unit code : Nat) (fault : Option Nat) (payload : List Byte) : DieState :=
  let r := d.inkQueue (d.inkRec cls unit code fault payload)
  if r.2 then r.1
  else if r.1.flag rINK_STATUS 2 then r.1
  else
    let e := r.1.setFlag rINK_STATUS 2 true
    (e.inkQueue (e.inkRec 0 16 (rINK_STATUS % 0x10000 / 4) none (flagPayload 2 (e.rd rINK_STATUS) []))).1

/-- A record whose code and payload layout the spec does not give. -/
def DieState.inkNote (d : DieState) (cls unit : Nat) (fault : Option Nat) (facts : List Nat) : DieState :=
  d.inkPut cls unit (recNote cls facts).1 fault (recNote cls facts).2

/-- A hardware event sets bit `b` of a sticky register; a bit that goes from 0 to 1 writes a FLAG record (R443), with the
unit's first-event record and the fault class it stands for. -/
def DieState.raiseWith (d : DieState) (off b : Nat) (fault : Option Nat) (firstRec : List Byte) : DieState :=
  if d.flag off b then d
  else
    let d := d.setFlag off b true
    d.inkPut 0 (off / 0x10000) (off % 0x10000 / 4) fault (flagPayload b (d.rd off) firstRec)

/-- A sticky flag is set. -/
def DieState.raise (d : DieState) (off b : Nat) : DieState := d.raiseWith off b none []

/-- A step-tagged item misses its admission step: ADMIT_MISS, and counted (R44). -/
def DieState.admitMiss (d : DieState) : DieState := { d.raise rSYS_DET_STATUS 4 with seq := { (d.raise rSYS_DET_STATUS 4).seq with misses := d.seq.misses + 1 } }

/-! ### SAFE causes (R344, R345) -/

/-- The non-latched causes: RATE, TEMP_CRIT, FIREWALL, SPARE_INTERVAL, FORCED. -/
def causeNonLatched (k : Nat) : Bool := decide (k = 0 ∨ k = 4 ∨ k = 6 ∨ k = 16 ∨ k = 18)

/-- The mask of the non-latched causes. -/
def nonLatchedMask : Nat := 2 ^ 0 + 2 ^ 4 + 2 ^ 6 + 2 ^ 16 + 2 ^ 18

/-- A held cause is recorded again only if its clear condition held since: always for RATE and FORCED, else once a
command has noted it in `rearmed` (R345). -/
def DieState.causeAgain (d : DieState) (k : Nat) : Bool :=
  decide (d.dev = .safe) && (decide (k = 0 ∨ k = 18) || d.chk.rearmed.contains k)

/-- The step a SAFE cause detected now is recorded with: 0 where no step runs (R345). -/
def DieState.causeStep (d : DieState) : Nat := if d.stepping then d.seq.step else 0

/-- CHK_SAFE_FIRST and its step: the first cause, the lowest-numbered of those of one step (R345). -/
def DieState.causeFirst (d : DieState) (k : Nat) : DieState :=
  if d.flag rCHK_SAFE_FIRST 31 then
    if d.chk.firstStep = some (d.stepping, d.causeStep) ∧ k < d.fld rCHK_SAFE_FIRST 4 0 then d.setFld rCHK_SAFE_FIRST 4 0 k else d
  else
    (({ d with chk := { d.chk with firstStep := some (d.stepping, d.causeStep) } } : DieState).wr rCHK_SAFE_FIRST (0x80000000 + k)).wr64
      rCHK_SAFE_STEP_LO d.causeStep

/-- CHK_SAFE_CAUSE holds a cause, with the step that detected it (R32); its clear condition has not held since. -/
def DieState.causeHold (d : DieState) (k : Nat) : DieState :=
  { d.setFlag rCHK_SAFE_CAUSE k true with
    chk := { d.chk with rearmed := d.chk.rearmed.filter (· ≠ k), newAt := if d.stepping then some d.seq.step else none } }

/-- The Inkwell record of a SAFE cause, and its histogram (R440, R448). -/
def DieState.causeRecord (d : DieState) (k : Nat) : DieState :=
  (d.inkPut 1 9 k (some k) (leBytes 4 (d.rd rCHK_SAFE_CAUSE))).hist 11 k

/-- What a SAFE cause brings about, by the device state (R32, R344, R381): SAFE entry is due; in BOOT nothing; else a SAFE-STATE frame. -/
def DieState.causeAct (d : DieState) : DieState :=
  if d.dev = .config ∨ d.dev = .linkTrain ∨ d.dev = .selfTest ∨ d.dev = .armed ∨ d.dev = .run then
    { d with chk := { d.chk with pending := true } }
  else if d.dev = .boot then d
  else { d with net := { d.net with safeDue := some (d.causeStep, true) } }

/-- A SAFE cause is detected: recorded in CHK_SAFE_CAUSE, CHK_SAFE_FIRST and Inkwell; where the device state lets it act,
SAFE entry is due (R32, R344, R345). -/
def DieState.detect (d : DieState) (k : Nat) : DieState :=
  if d.flag rCHK_SAFE_CAUSE k && !d.causeAgain k then d
  else (((d.causeHold k).causeFirst k).causeRecord k).causeAct

/-! ### Hardware Unit State Words (R477) and hardware transitions (R435) -/

/-- Push a transition of the hardware's own into QLL_USW_EVT: unit, instance (0xFF: the unit), new state. -/
def DieState.uswEvent (d : DieState) (unit inst st : Nat) : DieState :=
  if d.qll.evts.length < 64 then
    { d with qll := { d.qll with
        evts := d.qll.evts ++ [(0x80000000 + unit * 0x10000 + inst * 0x100 + st, if d.stepping then d.seq.step else 0)] } }
  else d.raise rQLL_STATUS 3

/-- The Unit State Word of unit `u` becomes `st`: counted in CHANGES, recorded as USW (kind 0, whole unit). -/
def DieState.setUsw (d : DieState) (u st : Nat) : DieState :=
  if d.fld (rSYS_USW + 4 * u) 2 0 = st then d
  else
    ((d.setFld (rSYS_USW + 4 * u) 2 0 st).countFld (rSYS_USW + 4 * u) 31 16 1).inkNote 3 u none [0, 0xFF, st]

/-- The die takes a device state: SYS_STATE changes, a STATE record is queued, and R446's commit is due (DESIGN CHOICE, log entry 3). -/
def DieState.setDev (d : DieState) (st : DevState) : DieState :=
  if d.dev = st then d
  else (({ d with dev := st }).setFld rSYS_STATE 3 0 st.code).inkPut 2 0 st.code none []

/-! ### Run-time requests -/

/-- A run-time request waits for the next step boundary; where no step runs, it acts at once (R35, R57). (DEDUCED, log entry 15.) -/
def DieState.request (d : DieState) (off v : Nat) (f : DieState → DieState) : DieState :=
  if d.stepping then { d with reqs := d.reqs ++ [(off, v, d.seq.step + 1)] } else f d

/-! ### Reaching the dies -/

/-- One die of the module. -/
def State.dieOf (s : State) (d : Die) : DieState := match d with | .a => s.a | .b => s.b

/-- The module with one die replaced. -/
def State.setDie (s : State) (d : Die) (x : DieState) : State := match d with | .a => { s with a := x } | .b => { s with b := x }

/-- A die with the module's wall clock. (DEDUCED, log entry 26.) -/
def DieState.sync (x : DieState) (t : Nat) : DieState := { x with clk := t }

/-- A command of one die: its effect `f`, at the module's time; time never goes back; the other die, the module's own
parts, memory and the queue stay as they are. (DEDUCED, log entry 26.) -/
def State.onDie (d : Die) (f : DieState → DieState) (s : State) : State :=
  let x := f ((s.dieOf d).sync s.now)
  { s.setDie d x with now := max s.now x.clk }

/-- A command of one die that uses free values: `f` is given the counter, which then moves on. -/
def State.onDieFree (d : Die) (f : Nat → DieState → DieState) (s : State) : State :=
  let x := f s.free ((s.dieOf d).sync s.now)
  { s.setDie d x with now := max s.now x.clk, free := s.free + 1 }

/-- A command of one die that reads memory and stores to it: `f` answers the die and its stores. -/
def State.onDieMem (d : Die) (f : Nat → List Host.Cell → DieState → DieState × List Host.Cell) (s : State) : State :=
  let r := f s.free s.mem ((s.dieOf d).sync s.now)
  { s.setDie d r.1 with now := max s.now r.1.clk, free := s.free + 1, mem := memApply s.mem r.2 }

/-- A die with memory and the stores made so far, for commands that read what they have stored. -/
structure DM where
  d : DieState
  mem : List Host.Cell
  stores : List Host.Cell

/-- Store bytes. -/
def DM.put (x : DM) (a : Nat) (bs : List Byte) : DM :=
  let ws := cellsAt a bs
  { x with mem := memApply x.mem ws, stores := x.stores ++ ws }

/-- Apply stores. -/
def DM.store (x : DM) (ws : List Host.Cell) : DM := { x with mem := memApply x.mem ws, stores := x.stores ++ ws }

/-- Change the die. -/
def DM.onD (x : DM) (f : DieState → DieState) : DM := { x with d := f x.d }

/-- A command of one die over `DM`. -/
def State.onDM (d : Die) (f : Nat → DM → DM) (s : State) : State :=
  s.onDieMem d fun fv mem x => let r := f fv ⟨x, mem, []⟩; (r.d, r.stores)

/-- What a command of the module as a whole acts on: both dies, the shared parts, memory and its stores. -/
structure Whole where
  now : Nat
  free : Nat
  a : DieState
  b : DieState
  mod : ModState
  mem : List Host.Cell
  stores : List Host.Cell

/-- The die of a whole. -/
def Whole.die (w : Whole) (d : Die) : DieState := match d with | .a => w.a | .b => w.b

/-- A whole with one die changed, the wall clock carried along. -/
def Whole.onDie (w : Whole) (d : Die) (f : DieState → DieState) : Whole :=
  let x := f ((w.die d).sync w.now)
  match d with
  | .a => { w with a := x, now := max w.now x.clk }
  | .b => { w with b := x, now := max w.now x.clk }

/-- A whole with its shared parts changed. -/
def Whole.onMod (w : Whole) (f : ModState → ModState) : Whole := { w with mod := f w.mod }

/-- A whole after stores; later reads of the same command see them. -/
def Whole.store (w : Whole) (ws : List Host.Cell) : Whole := { w with mem := memApply w.mem ws, stores := w.stores ++ ws }

/-- A command of the module: its effect on dies, shared parts and memory; the queue stays. (DEDUCED, log entry 26.) -/
def State.onWhole (f : Whole → Whole) (s : State) : State :=
  let w := f ⟨s.now, s.free, s.a.sync s.now, s.b.sync s.now, s.mod, s.mem, []⟩
  { s with now := max s.now w.now, free := s.free + 1, a := w.a, b := w.b, mod := w.mod, mem := memApply s.mem w.stores }

/-! ### Small list helpers -/

/-- Fold `f` over a list. -/
def foldOver {A B : Type} (l : List A) (x : B) (f : B → A → B) : B := l.foldl f x

/-- Keep a die as it is unless a condition holds. -/
def DieState.when (d : DieState) (c : Bool) (f : DieState → DieState) : DieState := if c then f d else d

end Sys2Proof.Machine
end

