-- ==== Sys2Proof/Machine/Digest.lean ====
section
/-! DEFINITION. Check codes and hashes: CRC-32 of IEEE 802.3 (R386, R440), CRC-64/ECMA-182 (R404), SHA-256 and SHA-384 (R417) and
HMAC-SHA-256 (R369, R428). -/

namespace Sys2Proof.Machine

/-- `f` applied `n` times. -/
def iter {A : Type} (n : Nat) (f : A → A) (x : A) : A := match n with | 0 => x | k + 1 => iter k f (f x)

/-- One bit of the reflected CRC-32. -/
def crc32Bit (c : Nat) : Nat := if c % 2 = 1 then (c / 2) ^^^ 0xEDB88320 else c / 2

/-- CRC-32 of a byte string. -/
def crc32 (bs : List Byte) : Nat := (bs.foldl (fun c b => iter 8 crc32Bit (c ^^^ b.toNat)) 0xFFFFFFFF) ^^^ 0xFFFFFFFF

/-- One bit of CRC-64/ECMA-182. -/
def crc64Bit (c : Nat) : Nat := if 2 ^ 63 ≤ c then (2 * c % 2 ^ 64) ^^^ 0x42F0E1EBA9EA3693 else 2 * c

/-- CRC-64/ECMA-182, continued from `c` over more bytes; 0 begins it. -/
def crc64 (c : Nat) (bs : List Byte) : Nat := bs.foldl (fun c b => iter 8 crc64Bit (c ^^^ (b.toNat * 2 ^ 56))) c

/-! ### SHA-2 -/

/-- What tells SHA-256 and SHA-384 apart: the word's width in bits, rounds, the rotations, the round constants, the starting state,
and the words of the result. -/
structure Sha where
  w : Nat
  rounds : Nat
  big0 : Nat × Nat × Nat
  big1 : Nat × Nat × Nat
  sm0 : Nat × Nat × Nat
  sm1 : Nat × Nat × Nat
  k : List Nat
  iv : List Nat
  out : Nat

/-- Rotation right by `n` of a word of `w` bits. -/
def ror (w n x : Nat) : Nat := x / 2 ^ n + x % 2 ^ n * 2 ^ (w - n)

/-- The exclusive or of two rotations and a third rotation or shift. -/
def shaMix (w : Nat) (r : Nat × Nat × Nat) (shift : Bool) (x : Nat) : Nat :=
  ror w r.1 x ^^^ ror w r.2.1 x ^^^ (if shift then x / 2 ^ r.2.2 else ror w r.2.2 x)

/-- The message schedule: `n` further words. -/
def shaExpand (h : Sha) (n : Nat) (ws : List Nat) : List Nat :=
  match n with
  | 0 => ws
  | k + 1 =>
    let t := ws.length
    let g (i : Nat) : Nat := ws.getD (t - i) 0
    shaExpand h k (ws ++ [(shaMix h.w h.sm1 true (g 2) + g 7 + shaMix h.w h.sm0 true (g 15) + g 16) % 2 ^ h.w])

/-- One round. -/
def shaRound (h : Sha) (st : List Nat) (kw : Nat × Nat) : List Nat :=
  match st with
  | [a, b, c, d, e, f, g, x] =>
    let ones := 2 ^ h.w - 1
    let t1 := x + shaMix h.w h.big1 false e + ((e &&& f) ^^^ ((e ^^^ ones) &&& g)) + kw.1 + kw.2
    let t2 := shaMix h.w h.big0 false a + ((a &&& b) ^^^ (a &&& c) ^^^ (b &&& c))
    [(t1 + t2) % 2 ^ h.w, a, b, c, (d + t1) % 2 ^ h.w, e, f, g]
  | _ => st

/-- One block of 16 words. -/
def shaBlock (h : Sha) (st : List Nat) (blk : List Byte) : List Nat :=
  let n := h.w / 8
  let ws := (List.range 16).map (fun i => beNat ((blk.drop (n * i)).take n))
  let r := (h.k.zip (shaExpand h (h.rounds - 16) ws)).foldl (shaRound h) st
  (st.zip r).map (fun p => (p.1 + p.2) % 2 ^ h.w)

/-- The blocks of a padded message. -/
def shaBlocks (h : Sha) (fuel : Nat) (bs : List Byte) (st : List Nat) : List Nat :=
  match fuel with
  | 0 => st
  | k + 1 => if bs.isEmpty then st else shaBlocks h k (bs.drop (2 * h.w)) (shaBlock h st (bs.take (2 * h.w)))

/-- The hash of a byte string. -/
def sha (h : Sha) (bs : List Byte) : List Byte :=
  let blk := 2 * h.w
  let n := bs.length
  let zeros := (2 * blk - (n + 1 + h.w / 4) % blk) % blk
  let m := bs ++ [0x80] ++ List.replicate zeros (0 : Byte) ++ beBytes (h.w / 4) (8 * n)
  ((shaBlocks h (m.length / blk + 1) m h.iv).take h.out).flatMap (beBytes (h.w / 8))

/-- The primes below 410: the first 80. -/
def primes80 : List Nat := (List.range 410).filter (fun n => decide (2 ≤ n) && (List.range 21).all (fun q => decide (q < 2 ∨ n ≤ q) || n % q != 0))

/-- `x` with its low `n` bits chosen so that its `e`-th power is the greatest that does not exceed `t`. -/
def rootBits (e t n x : Nat) : Nat :=
  match n with
  | 0 => x
  | j + 1 => rootBits e t j (if (x + 2 ^ j) ^ e ≤ t then x + 2 ^ j else x)

/-- The first `w` bits of the fraction of the `e`-th root of `p`, below 8: what SHA-2 takes its constants from. -/
def rootFrac (e w p : Nat) : Nat := rootBits e (p * 2 ^ (e * w)) (w + 3) 0 % 2 ^ w

/-- SHA-384: 80 rounds, their constants from the cube roots of the first 80 primes, the start from the square roots of the ninth to the sixteenth. -/
def sha384 (bs : List Byte) : List Byte :=
  sha { w := 64, rounds := 80, big0 := (28, 34, 39), big1 := (14, 18, 41), sm0 := (1, 8, 7), sm1 := (19, 61, 6), k := primes80.map (rootFrac 3 64),
        iv := ((primes80.drop 8).take 8).map (rootFrac 2 64), out := 6 } bs

/-- SHA-256: 64 rounds, their constants from the cube roots of the first 64 primes, the start from the square roots of the first eight. -/
def sha256 (bs : List Byte) : List Byte :=
  sha { w := 32, rounds := 64, big0 := (2, 13, 22), big1 := (6, 11, 25), sm0 := (7, 18, 3), sm1 := (17, 19, 10), k := (primes80.take 64).map (rootFrac 3 32),
        iv := (List.range 8).map (fun i => rootFrac 2 32 (primes80.getD i 0)), out := 8 } bs

/-- HMAC-SHA-256 with a key of at most 64 bytes. -/
def hmac256 (key bs : List Byte) : List Byte :=
  let k := key ++ List.replicate (64 - key.length) (0 : Byte)
  sha256 (k.map (· ^^^ 0x5C) ++ sha256 (k.map (· ^^^ 0x36) ++ bs))

end Sys2Proof.Machine
end

