-- ==== Sys2Proof/Machine/Firewall.lean ====
section
/-! DEFINITION. Firewalls (spec/14 R353 to R356): windows, denials, and the cause FIREWALL. -/

namespace Sys2Proof.Machine

/-- A violation against this target counts toward FIREWALL (R353). -/
def safetyTarget (t : Nat) : Bool := decide (t ≤ 20 ∨ t = 22) && !(t == 0 || t == 15 || t == 16)

/-- The IID that a transaction from physical tile `p` carries (R90). -/
def tileIid (p : Nat) : Nat := 0x10 + p / 16

/-- The IID that windows are matched with (R90, R353): a tile group is matched by the virtual group that TAR_MAP gives it, the out-of-rotation group as 0x20. -/
def DieState.matchIid (d : DieState) (iid : Nat) : Nat :=
  if 0x10 ≤ iid ∧ iid ≤ 0x20 then
    match (List.range 16).find? (fun v => d.rd (rTAR_MAP + 4 * v) == iid - 0x10) with | some v => 0x10 + v | none => 0x20
  else iid

/-- Window `w` of target `t` permits a transaction at offset `off` by `iid`, `pid` (R354). -/
def DieState.windowPermits (d : DieState) (t w off iid pid : Nat) (write : Bool) : Bool :=
  let at_ := 1024 * t + 16 * w
  let acc := d.rd (rFWL_WIN_ACC + at_)
  let mask := bits 23 16 acc
  bit 31 acc && decide (bits 31 6 (d.rd (rFWL_WIN_BASE + at_)) ≤ off / 64 ∧ off / 64 ≤ bits 31 6 (d.rd (rFWL_WIN_LIMIT + at_))) &&
    bit pid (bits 7 0 acc) && decide (d.matchIid iid &&& mask = bits 15 8 acc &&& mask) && (if write then bit 25 acc else bit 24 acc)

/-- The firewall permits a transaction (R354); before the windows are loaded, the Quills alone, everywhere (R355); a write to Inkwell never (R473). (DEDUCED, log entry 10.) -/
def DieState.permits (d : DieState) (t off iid pid : Nat) (write : Bool) : Bool :=
  if write && t == 21 then false
  else if d.chk.fwlLoaded then (List.range 64).any (fun w => d.windowPermits t w off iid pid write)
  else pid == 0 && decide (iid ≤ 1)

/-- A second in the always-on domain: 32,768 periods (R356). -/
def secondNs : Nat := 1000000000

/-- No safety violation for 1 s: the clear condition of FIREWALL (R344). -/
def DieState.fwlQuiet (d : DieState) : Bool :=
  match d.chk.viols.getLast? with | none => true | some t => decide (t + secondNs ≤ d.clk)

/-- A violation: counted, flagged, its first recorded; the 17th against safety targets within 1 s is FIREWALL (R353 to R356). -/
def DieState.violate (d : DieState) (t off iid pid : Nat) (write : Bool) : DieState :=
  let d := d.count rFWL_CNT 1
  let d := if d.flag rFWL_VIOL 31 then d
    else (d.wr rFWL_VIOL (0x80000000 + 0x200000 * b2n write + 0x10000 * t + 256 * pid + iid)).wr rFWL_VIOL_ADDR off
  let first := leBytes 4 (d.rd rFWL_VIOL) ++ leBytes 4 (d.rd rFWL_VIOL_ADDR)
  let d := d.raiseWith rFWL_STATUS 0 none first
  if safetyTarget t then
    let d := (d.count rFWL_SAFE_CNT 1).raiseWith rFWL_STATUS 1 none first
    let again := if d.fwlQuiet && d.flag rCHK_SAFE_CAUSE 6 && !d.chk.rearmed.contains 6 then d.chk.rearmed ++ [6] else d.chk.rearmed
    let vs := d.chk.viols.drop (d.chk.viols.length - 16) ++ [d.clk]
    let d := { d with chk := { d.chk with viols := vs, rearmed := again } }
    if vs.length = 17 && decide (d.clk ≤ vs.getD 0 0 + secondNs) then d.detect 6 else d
  else d

/-- A checked transaction: whether it is permitted, and the die after it (R354). (DEDUCED, log entry 10.) -/
def DieState.fwl (d : DieState) (t off iid pid : Nat) (write : Bool) : DieState × Bool :=
  if d.permits t off iid pid write then (d, true) else (d.violate t off iid pid write, false)

end Sys2Proof.Machine
end

