-- ==== Sys2Proof/Machine/Image.lean ====
section
/-! DEFINITION. The correction stages and output conversions of the Image Pipeline (spec/11), as functions of a port's
configuration and its stored lines. -/

namespace Sys2Proof.Machine

/-- FRAME_LINES of a group, 1,024 by default (R263). -/
def GroupOut.lines (g : GroupOut) : Nat := if g.frameLines = 0 then 1024 else g.frameLines

/-- The samples a pixel carries: SENSOR_LINES in raw formats (codes 0 to 2), 3 in RGB8 and BGR8 (R265). -/
def samplesOf (fmt sens : Nat) : Nat := if fmt ≤ 2 then sens else 3

/-- Bits of a sample in a pixel format (R245). -/
def sampleBits (fmt : Nat) : Nat := if fmt = 1 then 10 else if fmt = 2 then 12 else 8

/-- Bytes that `n` columns of a port take in its pixel format, `s` samples to a column. -/
def colBytes (fmt n s : Nat) : Nat := (n * s * sampleBits fmt + 7) / 8

/-- A sample scaled to the working value; BGR8 is read in the order R, G, B (R265). -/
def workSample (fmt n : Nat) (px : List Nat) (x s : Nat) : Nat :=
  let i := if fmt = 4 then 2 - s else s
  let v := px.getD (x * n + i) 0
  match fmt with
  | 1 => v * 64 % 65536
  | 2 => v * 16 % 65536
  | _ => v * 256 % 65536

/-- CPER as a number of columns. -/
def PortImg.period (g : PortImg) : Nat := if g.cper = 1 then 2 else if g.cper = 2 then 4 else 1

/-- The channel code of sensor line `s` at column `x` (R268). -/
def PortImg.codeAt (g : PortImg) (s x : Nat) : Nat := g.code.getD (4 * s + x % g.period) 0

/-- Black level (R266). -/
def PortImg.black1 (g : PortImg) (s x v : Nat) : Nat := v - tget g.black (4 * s + x % g.period) 0

/-- Defect correction at (s, x) of a line of width `w` whose black-corrected samples are `b` (R266). -/
def PortImg.defect (g : PortImg) (w : Nat) (b : Nat → Nat) (s x : Nat) : Nat :=
  if g.defects.contains (x, s) then
    if x < g.period then b (x + g.period)
    else if w ≤ x + g.period then b (x - g.period)
    else (b (x - g.period) + b (x + g.period)) / 2
  else b x

/-- Flat-field correction at (s, x) (R267). A column without an entry has gain 1.0 and offset 0. -/
def PortImg.flat (g : PortImg) (s x v : Nat) : Nat :=
  let t := ((v : Int) + tget g.offs (4 * x + s) 0).toNat
  min 65535 ((t * tget g.gain (4 * x + s) 0x4000 + 8192) / 16384)

/-- Sample `s` of a port line after black level, defect and flat-field correction, column by column. -/
def PortImg.corrected (g : PortImg) (fmt w : Nat) (px : List Nat) (s : Nat) : List Nat :=
  let n := samplesOf fmt g.sens
  let b (x : Nat) : Nat := g.black1 s x (workSample fmt n px x s)
  (List.range w).map (fun x => g.flat s x (g.defect w b s x))

/-- LDMAX (R269). -/
def PortImg.ldMax (g : PortImg) : Nat := ((List.range g.sens).map (fun s => g.ld.getD s 0)).foldl max 0

/-- The camera lines that output line `k` takes its samples from, by sensor line; none where it lies before k0 (R269). -/
def PortImg.sources (g : PortImg) (k0 k : Nat) : List (Option Nat) :=
  (List.range g.sens).map (fun s => let back := g.ldMax - g.ld.getD s 0; if k < k0 + back then none else some (k - back))

/-- The output channels of a port, ordered R, G, B, C, I (R270). -/
def PortImg.channels (g : PortImg) : List Nat :=
  ([1, 2, 3, 4, 5] : List Nat).filter (fun c =>
    (List.range g.sens).any (fun s => (List.range g.period).any (fun x => g.codeAt s x == c)))

/-- The lowest sensor line that carries code `c` at column `x`. -/
def PortImg.lineOf (g : PortImg) (c x : Nat) : Option Nat := (List.range g.sens).find? (fun s => g.codeAt s x == c)

/-- Mosaic reconstruction of channel `c` at column `x` (R270). -/
def PortImg.recon (g : PortImg) (w : Nat) (v : Nat → Nat → Nat) (c x : Nat) : Nat :=
  match g.lineOf c x with
  | some s => v s x
  | none =>
    let ds := (List.range g.period).map (· + 1)
    let l := (ds.filter (fun d => decide (d ≤ x))).findSome? (fun d => (g.lineOf c (x - d)).map (fun s => v s (x - d)))
    let r := (ds.filter (fun d => decide (x + d < w))).findSome? (fun d => (g.lineOf c (x + d)).map (fun s => v s (x + d)))
    match l, r with
    | some a, some b => (a + b + 1) / 2
    | some a, none => a
    | none, some b => b
    | none, none => 0

/-- Colour correction of a channel vector (R271). -/
def PortImg.colour (g : PortImg) (xs : List Nat) : List Nat :=
  (List.range xs.length).map (fun i =>
    let s := ((List.range 4).map (fun j => g.ccm.getD (4 * i + j) (if i = j then 4096 else 0) * ((xs.getD j 0 : Nat) : Int))).foldl (· + ·) 0
    let y := (s + 2048) / 4096 + g.ccmO.getD i 0
    if y < 0 then 0 else min 65535 y.toNat)

/-- The LUT of an output channel (R272); a channel without a LUT passes its value. -/
def PortImg.lut (g : PortImg) (c y : Nat) : Nat :=
  match tget? g.luts c with
  | none => y
  | some t =>
    let i := y / 64
    let a := t.getD i 0
    let b := t.getD (min (i + 1) 1023) 0
    ((a : Int) + (((b : Int) - a) * ((y % 64 : Nat) : Int)) / 64).toNat % 65536

/-- A port's output line: its channels between colour correction and LUT, one list of columns for each; and whether it is a missing
modality or REPLACED (R269). -/
structure OutLine where
  port : Nat
  w    : Nat
  y    : List (List Nat)
  miss : Bool
  repl : Bool
  est  : LineEst
deriving DecidableEq, Repr, Inhabited

/-- The output line of port line `l` of index `k`, from the lines the store holds, `l` included (R265 to R271). -/
def outLine (g : PortImg) (fmt w k0 : Nat) (store : List PortLine) (l : PortLine) : OutLine :=
  let src := (g.sources k0 l.line.k).map (fun o => o.bind (fun j => store.find? (fun q => q.line.k == j)))
  let miss := l.missing || src.any (fun o => match o with | none => true | some q => q.missing)
  let repl := src.any (fun o => match o with | none => false | some q => q.line.replaced)
  let smp := (List.range g.sens).map (fun s =>
    match src.getD s none with
    | some q => g.corrected fmt w q.line.px s
    | none => List.replicate w 0)
  let v (s x : Nat) : Nat := (smp.getD s []).getD x 0
  let cols := (List.range w).map (fun x => g.colour (g.channels.map (fun c => g.recon w v c x)))
  { port := l.port
    w := w
    y := if miss then g.channels.map (fun _ => List.replicate w 0)
         else (List.range g.channels.length).map (fun i => cols.map (fun c => c.getD i 0))
    miss := miss
    repl := repl
    est := l.line.est }

/-- A LUT output as a machine-vision byte in a format: 0 UINT8, 1 INT8, 2 FP8_E4M3, 3 FP8_E5M2 (R274). -/
def mvByte (fmt : Nat) (fscale : Int) (u : Nat) : Nat :=
  let u8 := min 255 ((u + 128) / 256)
  match fmt with
  | 0 => u8
  | 1 => u8 ^^^ 0x80
  | 2 => (encodeR81 fmtE4M3 (.fin u (fscale - 16))).1
  | _ => (encodeR81 fmtE5M2 (.fin u (fscale - 16))).1

/-- The machine-vision line of a group: its bytes by column and list entry (R274). A missing modality is zero. -/
def mvLine (imgs : Tbl PortImg) (list : List (Nat × Nat × Nat × Int)) (outs : List OutLine) : List (List Nat) :=
  let w := (outs.map (·.w)).foldl max 0
  (List.range w).map (fun x => list.map (fun e =>
    match outs.find? (fun o => o.port == e.1) with
    | none => 0
    | some o =>
      if o.miss then 0
      else mvByte e.2.2.1 e.2.2.2 ((tget imgs e.1 default).lut e.2.1 ((o.y.getD e.2.1 []).getD x 0))))

/-- Round `x / 2^n` to nearest, ties to even (R276). -/
def rneShift (x : Int) (n : Nat) : Int := rneInt x (-(n : Int))

/-- Y of the coding output (R276). -/
def codeY (r g b : Nat) : Nat :=
  let s : Int := 13933 * r + 46871 * g + 4732 * b
  (clampI 0 1023 (64 + rneShift (876 * s) 32)).1.toNat

/-- Cb and Cr of averages (R276). -/
def codeC (r g b : Nat) : Nat × Nat :=
  let yb : Int := 13933 * r + 46871 * g + 4732 * b
  ((clampI 0 1023 (512 + rneShift ((65536 * (b : Int) - yb) * 123613) 40)).1.toNat,
   (clampI 0 1023 (512 + rneShift ((65536 * (r : Int) - yb) * 145654) 40)).1.toNat)

end Sys2Proof.Machine
end

