-- ==== Sys2Proof/Machine/Sample.lean ====
section
/-! DEFINITION. The encoder sampling domain's view of a channel: its place, its position at a sample (R298), and the count at a
sample that triggers and the Nib compare. -/

namespace Sys2Proof.Machine

/-- The instant of sample `n` in ns (R285: 4 ns samples numbered from entry to CONFIG). -/
def DieState.sampleAt (d : DieState) (n : Nat) : Nat := d.pos.base + 4 * n

/-- The sample of the present instant. -/
def DieState.sampleNow (d : DieState) : Nat := (d.clk - d.pos.base) / 4

/-- The die samples channel `c` (R8). -/
def DieState.samples (d : DieState) (c : Nat) : Bool := decide (c / 4 = d.die.num ∧ c < 8)

/-- The channel that encoder `e` of a record names on this die; die B of a pair substitutes channel e + 4 (R286). -/
def DieState.chanOf (d : DieState) (e : Nat) : Nat := if d.paired && d.die == .b && decide (e < 4) then e + 4 else e

/-- Channel `c`. -/
def DieState.chan (d : DieState) (c : Nat) : Chan := tget d.pos.chans c default

/-- Replace it. -/
def DieState.setChan (d : DieState) (c : Nat) (x : Chan) : DieState := { d with pos := { d.pos with chans := tset d.pos.chans c x } }

/-- The encoder channel that a POS register at `x` in its block belongs to (R311). -/
def posChan (x : Nat) : Option Nat :=
  if x < 0x60 then some (x % 0x20 / 4)
  else if 0x100 ≤ x ∧ x < 0x140 then some ((x - 0x100) / 8)
  else if 0x140 ≤ x ∧ x < 0x180 then some (x % 0x20 / 4)
  else if 0x180 ≤ x ∧ x < 0x1C0 then some ((x - 0x180) / 8)
  else if 0x200 ≤ x ∧ x < 0x2C0 then some (x % 0x40 / 8)
  else if 0x300 ≤ x ∧ x < 0x340 then some (x % 0x20 / 4)
  else none

/-- The register that a record's register is on this die (R286): a channel of the other die takes nothing here, and of a pair die B takes a channel's record for
its own, four channels on. -/
def DieState.recPlace (d : DieState) (off : Nat) : Option Nat :=
  if off / 0x10000 ≠ 10 then some off
  else
    match posChan (off % 0x10000) with
    | none => some off
    | some c =>
      if d.paired then some (if d.die == .b then off + (if off % 0x10000 < 0x60 then 16 else 32) else off)
      else if d.samples c then some off
      else none

/-- MODE of channel `c` (R288). -/
def DieState.chMode (d : DieState) (c : Nat) : Nat := d.fld (rPOS_CFG + 4 * c) 2 0

/-- The soft limits (R300). -/
def DieState.limitLo (d : DieState) (c : Nat) : Int := d.rdS64 (rPOS_LIMIT_LO_LO + 8 * c)

/-- The high limit. -/
def DieState.limitHi (d : DieState) (c : Nat) : Int := d.rdS64 (rPOS_LIMIT_HI_LO + 8 * c)

/-- PERIOD_US of an SSI channel (R293). -/
def DieState.ssiPeriod (d : DieState) (c : Nat) : Nat := d.fld (rPOS_SSI + 4 * c) 29 20

/-- `x` held between two integers. -/
def clampZ (lo hi x : Int) : Int := if x < lo then lo else if hi < x then hi else x

/-- The extrapolation e of R298 at sample `n`. -/
def DieState.extrap (d : DieState) (c n : Nat) : Int :=
  let ch := d.chan c
  if d.chMode c = 3 then (256 * ch.v * ((min (n - ch.e) (500 * d.ssiPeriod c) : Nat) : Int)).fdiv 327680000
  else clampZ (-255) 255 ((256 * ch.v * ((n - ch.e : Nat) : Int)).fdiv 327680000)

/-- Count and extrapolation at sample `n` in 1/256 count: what an armed action waits for (R319). -/
def DieState.raw256 (d : DieState) (c n : Nat) : Int := 256 * (d.chan c).count + d.extrap c n

/-- The position at sample `n` in 1/256 count (R298). -/
def DieState.p256 (d : DieState) (c n : Nat) : Int :=
  clampZ (256 * d.limitLo c) (256 * d.limitHi c) (d.raw256 c n)

/-- The count at sample `n` (R298). -/
def DieState.countAt (d : DieState) (c n : Nat) : Int :=
  if d.chMode c = 3 then (d.p256 c n).fdiv 256 else (d.chan c).count

end Sys2Proof.Machine
end

