-- ==== Sys2Proof/Machine/Gauze.lean ====
section
/-! DEFINITION. The Gauze codec (spec/07 R197 to R200), the layout of MX tensors in DRAM (R68, R109), and the parity word and location tag of a
DRAM burst (R181, R182). -/

namespace Sys2Proof.Machine

/-! ### GZ8 (R198, R200) -/

/-- The smallest shift that brings `range` to at most 7. -/
def gzShift (fuel range : Nat) : Nat :=
  match fuel with
  | 0 => 0
  | k + 1 => if 7 < range then gzShift k (range / 2) + 1 else 0

/-- A GZ8 block of 16 elements, as a number. -/
def gz8Encode (v : List Nat) : Nat :=
  let mn := v.foldl min 255
  let s := gzShift 8 (v.foldl max 0 - mn)
  (List.range 16).foldl (fun w j => w + min 7 ((v.getD j 0 - mn + 2 ^ s / 2) / 2 ^ s) * 2 ^ (16 + 3 * j)) (mn + s * 256)

/-- The 16 elements of a GZ8 block, and whether its shift is one of 9 to 15. -/
def gz8Decode (w : Nat) : List Nat × Bool :=
  let base := bits 7 0 w
  let s := bits 11 8 w
  ((List.range 16).map (fun j => min 255 (if s ≤ 8 then base + bits (18 + 3 * j) (16 + 3 * j) w * 2 ^ s else base)), decide (8 < s))

/-! ### GZ16 (R199, R200) -/

/-- The biased exponent of a BF16 code. -/
def bfExp (x : Nat) : Nat := bits 14 7 x

/-- A GZ16 block of 16 BF16 codes, as a number. -/
def gz16Encode (x : List Nat) : Nat :=
  if x.any (fun v => bfExp v == 255) then 255
  else
    let emax := (x.map bfExp).foldl max 0
    (List.range 16).foldl (fun w j =>
      let v := x.getD j 0
      let e := bfExp v
      let sh := emax - e + 2
      let mag := if e = 0 ∨ 8 ≤ sh then 0 else (0x80 + v % 0x80) / 2 ^ sh
      w + (if bit 15 v then (128 - mag) % 128 else mag) * 2 ^ (16 + 7 * j)) emax

/-- The BF16 code of m × 2^(E − 132). -/
def gz16Value (m : Int) (e : Nat) : Nat := (encodeR81 fmtBF16 (.fin m ((e : Int) - 132))).1

/-- The 16 BF16 codes of a GZ16 block. -/
def gz16Decode (w : Nat) : List Nat :=
  let e := bits 7 0 w
  (List.range 16).map (fun j =>
    let m := toSigned 7 (bits (22 + 7 * j) (16 + 7 * j) w)
    if e = 255 then 0x7FC0 else if e = 0 ∨ m = 0 then 0 else gz16Value m e)

/-! ### Transfers (R186, R197) -/

/-- The DRAM line of two 64-byte transfers under CODEC 1. -/
def gauzeLine (tfmt : Nat) (bs : List Byte) : List Byte :=
  if tfmt = 8 then
    (List.range 4).flatMap (fun k => leBytes 16 (gz16Encode (unpackElems 16 16 ((bs.drop (32 * k)).take 32))))
  else
    let flip (x : Nat) : Nat := if tfmt = 0 then x ^^^ 0x80 else x
    (List.range 8).flatMap (fun k => leBytes 8 (gz8Encode ((unpackElems 8 16 ((bs.drop (16 * k)).take 16)).map flip)))

/-- The two transfers of a DRAM line under CODEC 1, and whether a block has a shift of 9 to 15. -/
def gauzeXfers (tfmt : Nat) (l : List Byte) : List (List Byte) × Bool :=
  if tfmt = 8 then
    let bs := (List.range 4).flatMap (fun k => packElems 16 32 (gz16Decode (leNat ((l.drop (16 * k)).take 16))))
    ([bs.take 64, bs.drop 64], false)
  else
    let flip (x : Nat) : Nat := if tfmt = 0 then x ^^^ 0x80 else x
    let r := (List.range 8).map (fun k => gz8Decode (leNat ((l.drop (8 * k)).take 8)))
    let bs := r.flatMap (fun x => packElems 8 16 (x.1.map flip))
    ([bs.take 64, bs.drop 64], r.any (·.2))

/-- The dense bytes of a transfer of MX blocks (R68, R109): six-bit blocks lose the 8 zero bytes that follow them in the tile; the line's end is zero
(DEDUCED, log entry 21). -/
def mxLine (tfmt : Nat) (bs : List Byte) : List Byte :=
  if elemBits tfmt = 6 then (bs.take 24 ++ (bs.drop 32).take 24) ++ List.replicate 16 0 else bs

/-- The transfer of a DRAM line of MX blocks. (DEDUCED, log entry 21.) -/
def mxXfer (tfmt : Nat) (l : List Byte) : List Byte :=
  if elemBits tfmt = 6 then l.take 24 ++ List.replicate 8 0 ++ (l.drop 24).take 24 ++ List.replicate 8 0 else l

/-- The transfers of a DRAM line. -/
def lineXfers (codec tfmt : Nat) (l : List Byte) : List (List Byte) × Bool :=
  match codec with
  | 1 => gauzeXfers tfmt l
  | 2 => ([mxXfer tfmt l], false)
  | _ => ([l], false)

/-- The DRAM line of transfers. -/
def xfersLine (codec tfmt : Nat) (bs : List Byte) : List Byte :=
  match codec with
  | 1 => gauzeLine tfmt bs
  | 2 => mxLine tfmt (bs.take 64)
  | _ => bs.take 64

/-- The scale bytes of a transfer of MX blocks: one for each block (R109). -/
def mxScales (tfmt : Nat) : Nat := if isMx4 tfmt then 4 else 2

/-! ### Places, parity and tags (R180 to R182) -/

/-- Lines that exist. -/
def dramLines : Nat := 503316480

/-- The channel of a line. -/
def lineChan (l : Nat) : Nat := l / 15 % 16

/-- The line within its parity group. -/
def lineInGroup (l : Nat) : Nat := l % 15

/-- The channel-local index of a line's first burst. -/
def lineBurst (l : Nat) : Nat := 16 * (l / 15 / 16) + 16 * (l % 15) / 15

/-- The column of burst `a`: its place in the 2 KiB page. -/
def burstCol (a : Nat) : Nat := a % 32

/-- The bank of burst `a`: bank group in bits [1:0], bank in the group in bits [3:2]. -/
def burstBank (a : Nat) : Nat := a / 32 % 16

/-- The row of burst `a`. -/
def burstRow (a : Nat) : Nat := a / 512

/-- Bytes of a line that lie in its first burst; the rest lies in the burst after it. -/
def firstBytes (l : Nat) : Nat := let w := 16 * (l % 15); 4 * (15 * (w / 15 + 1) - w)

/-- The logical byte address of the data of burst `b` of a line's parity group: 60 bytes a burst. -/
def burstAt (l b : Nat) : Nat := 960 * (l / 15) + 60 * b

/-- The location tag of burst `a` on channel `ch`. -/
def locationTag (a ch : Nat) : Nat := (a % 2 ^ 17) ^^^ (a / 2 ^ 17 * 2 ^ 9) ^^^ (ch * 32)

/-- The number of ones in the low `n` bits. -/
def popCount (n x : Nat) : Nat := ((List.range n).filter (fun i => bit i x)).length

/-- The parity word of a burst's 15 data words (R181). -/
def parityWord (a ch : Nat) (ws : List Nat) : Nat :=
  (List.range 15).foldl (fun p j => p + popCount 32 (ws.getD j 0) % 2 * 2 ^ j) (locationTag a ch * 2 ^ 15)

/-- A burst as it stands in DRAM: 15 data words and the parity word. -/
def burstWords (a ch : Nat) (bs : List Byte) : List Nat :=
  let ws := (List.range 15).map (fun j => leNat ((bs.drop (4 * j)).take 4))
  ws ++ [parityWord a ch ws]

/-- A burst as read passes its check (R181, R182). -/
def burstOk (a ch : Nat) (ws : List Nat) : Bool := ws.getD 15 0 == parityWord a ch ws

/-- Channel `ch` is FENCED (R192). -/
def DieState.chFenced (d : DieState) (ch : Nat) : Bool := d.fld (rMEM_CH + 4 * ch) 2 0 == 3

/-! ### Regions (R191, R194) -/

/-- The region that holds a line's parity group, first copies alone. -/
def DieState.regionOf (d : DieState) (line : Nat) : Option Region :=
  d.mem.regions.find? (fun r => decide (r.base ≤ line / 15 ∧ line / 15 < r.base + r.len))

/-- The same line in the second copy of a dual-copy region. -/
def DieState.copyOf (d : DieState) (line : Nat) : Option Nat :=
  match d.regionOf line with
  | some r => if r.kind ≤ 2 then some (line - 15 * r.base + 15 * r.copy2) else none
  | none => none

/-- The stores that write bytes from byte `off` of a line on: the second copy first, then the primary; a copy on a FENCED channel is not written (R191, R193). -/
def DieState.lineCells (d : DieState) (line off : Nat) (bs : List Byte) : List Host.Cell :=
  let at_ (l : Nat) : List Host.Cell :=
    if dramLines ≤ l ∨ d.chFenced (lineChan l) then [] else cellsAt ((Space.dram d.die).base + 64 * l + off) bs
  (match d.copyOf line with | some l => at_ l | none => []) ++ at_ line

/-- The stores that write bytes at a logical byte address, line by line. -/
def DieState.dramStore (d : DieState) (a : Nat) (bs : List Byte) : List Host.Cell :=
  let first := a / 64
  (List.range ((a + bs.length + 63) / 64 - first)).flatMap (fun i =>
    let l := first + i
    let lo := max a (64 * l)
    d.lineCells l (lo - 64 * l) ((bs.drop (lo - a)).take (64 * (l + 1) - lo)))

/-- Bytes go into DRAM at a logical byte address (R191, R193). -/
def DM.writeDram (x : DM) (a : Nat) (bs : List Byte) : DM := x.store (x.d.dramStore a bs)

/-- The data of the two bursts of a line: from the primary, from the second copy where the primary's channel is FENCED, else zeros (R193). -/
def DM.lineRaw (x : DM) (line : Nat) : List Byte :=
  let get (l : Nat) : List Byte := memRead x.mem ((Space.dram x.d.die).base + burstAt l (lineInGroup l)) 120
  if !x.d.chFenced (lineChan line) then get line
  else
    match x.d.copyOf line with
    | some l => if x.d.chFenced (lineChan l) then List.replicate 120 0 else get l
    | none => List.replicate 120 0

/-- The bytes of [a, a + n) of a die's DRAM as they read, each with its place from `a` on: those of the primary, those of the second copy of a dual-copy region
where the primary's channel is FENCED, and zeros (not listed) where neither can be read (R191, R193). -/
def DieState.dramCells (d : DieState) (mem : List Host.Cell) (a n : Nat) : List Host.Cell :=
  let base := (Space.dram d.die).base
  let fenced (x : Nat) : Bool := d.chFenced (lineChan (x / 64))
  let own := ((memRange mem (base + a) (base + a + n)).map (fun c => (c.1 - base, c.2))).filter (fun c => !fenced c.1)
  let two := match d.regionOf (a / 64) with
    | some r =>
      if r.kind ≤ 2 ∧ (List.range 16).any d.chFenced then
        let off := 960 * r.copy2
        ((memRange mem (base + off + (a - 960 * r.base)) (base + off + (a - 960 * r.base) + n)).map
          (fun c => (c.1 - base - off + 960 * r.base, fenced (c.1 - base), c.2))).filterMap
          (fun c => if fenced c.1 && !c.2.1 then some (c.1, c.2.2) else none)
      else []
    | none => []
  (own ++ two).map (fun c => (c.1 - a, c.2))

/-- The `n` bytes from byte `a` of a die's DRAM on, as they read. -/
def DieState.dramRead (d : DieState) (mem : List Host.Cell) (a n : Nat) : List Byte :=
  let cs := d.dramCells mem a n
  (List.range n).map (fun i => match cs.find? (fun c => c.1 == i) with | some c => c.2 | none => 0)

/-- The stores that make [dst, dst + n) of memory what [a, a + n) of a die's DRAM reads as. -/
def DieState.dramCopy (d : DieState) (mem : List Host.Cell) (a dst n : Nat) : List Host.Cell :=
  zeroCells mem dst n ++ (d.dramCells mem a n).map (fun c => (dst + c.1, c.2))

/-- The stores that put cells, numbered from `a` on, into a die's DRAM, [a, a + n) zero elsewhere: into a dual-copy region the second copy first (R191); a FENCED
channel is not written (R193). -/
def DieState.dramPut (d : DieState) (mem : List Host.Cell) (a n : Nat) (cs : List Host.Cell) : List Host.Cell :=
  let base := (Space.dram d.die).base
  let put (a : Nat) : List Host.Cell :=
    (zeroCells mem (base + a) n ++ cs.map (fun c => (base + a + c.1, c.2))).filter (fun c => !d.chFenced (lineChan ((c.1 - base) / 64)))
  (match d.regionOf (a / 64) with
   | some r => if r.kind ≤ 2 then put (a - 960 * r.base + 960 * r.copy2) else []
   | none => []) ++ put a

end Sys2Proof.Machine
end

