-- ==== Sys2Proof/Machine/Operands.lean ====
section
/-! DEFINITION. Operand forms of tile programs: the map from physical to virtual tiles and contexts, SRAM regions,
generator descriptors and their addresses, weight blocks and operand lines (spec/04). -/

namespace Sys2Proof.Machine

/-! ### Groups, tiles and contexts (R88, R89, R204, R224) -/

/-- The physical group that carries virtual group `vg` (R88). -/
def DieState.physGroup (d : DieState) (vg : Nat) : Nat := d.fld (rTAR_MAP + 4 * vg) 4 0

/-- The out-of-rotation group (R88). -/
def DieState.outGroup (d : DieState) : Nat := d.fld rTAR_OUT 4 0

/-- The virtual group that physical group `g` carries, if any. -/
def DieState.virtGroup (d : DieState) (g : Nat) : Option Nat := (List.range 16).find? (fun vg => d.physGroup vg == g)

/-- The virtual number of a physical tile: 0 to 255; a tile of the out-of-rotation group counts from 512. -/
def DieState.vtileOf (d : DieState) (p : Nat) : Nat :=
  match d.virtGroup (p / 16) with
  | some vg => 16 * vg + p % 16
  | none => 512 + p % 16

/-- The physical tile of virtual tile `v`, through TAR_MAP as it stands (R89). -/
def DieState.ptileOf (d : DieState) (v : Nat) : Nat :=
  if v < 256 then 16 * d.physGroup (v / 16) + v % 16 else 16 * d.outGroup + v % 16

/-- The virtual groups of P1: INSP_GROUPS (R225), and those that a Stem fence has withdrawn from P2 (R233). -/
def DieState.inspGroups (d : DieState) : Nat := max (d.fld rCTX_PART 4 0) (16 - d.fld rCTX_PART 20 16)

/-- The placed auxiliary context that holds virtual group `vg`, if any (R229, R230: LOADING to STOPPING; a
SAVING context's groups are free for the context placed on them, R235). -/
def DieState.auxOf (d : DieState) (vg : Nat) : Option Nat :=
  (List.range 16).find? fun n =>
    let r := d.rd (rCTX_AUX + 4 * n)
    let st := bits 2 0 r
    decide (2 ≤ st ∧ st ≤ 4 ∧ bits 7 4 r ≤ vg ∧ vg < bits 7 4 r + bits 12 8 r)

/-- The inspection context on the P1 tiles: INSP_NEXT while a changeover reloads (R238), else INSP_CUR. -/
def DieState.inspCtx (d : DieState) : Nat := if d.fld rCTX_CHG 10 8 = 3 then 1 else 0

/-- The context that holds a physical tile (R204, R206): 31 for a P2 tile that no context holds. -/
def DieState.ctxOf (d : DieState) (p : Nat) : Nat :=
  match d.virtGroup (p / 16) with
  | none => 18
  | some vg =>
    if vg < d.inspGroups then d.inspCtx
    else match d.auxOf vg with
      | some n => 2 + n
      | none => 31

/-- The partition of a physical tile as its PID (R224). -/
def DieState.pidOf (d : DieState) (p : Nat) : Nat :=
  match d.virtGroup (p / 16) with
  | none => 3
  | some vg => if vg < d.inspGroups then 1 else 2

/-- The active cycle since step 0 of cycle-in-step `c`. -/
def DieState.acyc (d : DieState) (c : Nat) : Nat := d.seq.step * 20000 + c

/-- The place of a physical tile's SRAM in the one memory. -/
def sramBase (d : Die) (p : Nat) : Nat := (Space.sram d).base + 0x80000 * p

/-- Bytes stored in the outgoing group's memory are on their way to the incoming group's, which they reach 2 active cycles later (R118): `place` says
where a group's memory begins, `size` how long it is. -/
def Rotation.mirrorCells (r : Rotation) (place : Nat → Nat) (size now : Nat) (ws : List Host.Cell) : Rotation :=
  match r.hand with
  | none => r
  | some h =>
    let here := ws.filter (fun c => decide (place h.outg ≤ c.1 ∧ c.1 < place h.outg + size))
    { r with mirror := r.mirror ++ here.map (fun c => (now + 2, (c.1 - place h.outg + place h.inc, c.2))) }

/-- Stores to tile SRAM in active cycle `now` are mirrored (R118). -/
def DieState.mirrorSram (d : DieState) (now : Nat) (ws : List Host.Cell) : DieState :=
  { d with tar := { d.tar with rot := d.tar.rot.mirrorCells (fun g => sramBase d.die (16 * g)) (16 * 0x80000) now ws } }

/-- Stores to Stem SRAM in active cycle `now` are mirrored (R118, R163). -/
def DieState.mirrorStem (d : DieState) (now : Nat) (ws : List Host.Cell) : DieState :=
  { d with stm := { d.stm with rot := d.stm.rot.mirrorCells (fun g => (Space.stem d.die).base + 491520 * g) 491520 now ws } }

/-- The new state of word `i` of physical tile `p` is mirrored (R118, R203). -/
def DieState.mirrorWord (d : DieState) (p i st now : Nat) : DieState :=
  match d.tar.rot.hand with
  | none => d
  | some h =>
    if p / 16 = h.outg then
      let w := (now + 2, 256 * (16 * h.inc + p % 16) + i, st)
      { d with tar := { d.tar with rot := { d.tar.rot with mirrorW := d.tar.rot.mirrorW ++ [w] } } }
    else d

/-! ### SRAM regions (R94) -/

/-- Who accesses tile SRAM (R94). `recv` says whether the transfer comes from endpoint MEM or CTX. -/
inductive Access where
  | fetch | wld | bias | wpar | wcfg | vld | vldg | vst | vstg | send | recv (memCtx : Bool) | mcmd | mask
  | genA | genS | asave | amerge
deriving DecidableEq, Repr

/-- Whether a region (0 PROG, 1 WGT, 2 ACT, 3 PST) permits an access (R94). -/
def permits (r : Nat) (k : Access) : Bool :=
  match r, k with
  | 0, .fetch => true
  | 0, .recv m => m
  | 1, .wld => true
  | 1, .bias => true
  | 1, .wpar => true
  | 1, .wcfg => true
  | 1, .vld => true
  | 1, .vldg => true
  | 1, .send => true
  | 1, .recv m => m
  | 2, .fetch => false
  | 2, _ => true
  | 3, .vld => true
  | 3, .vldg => true
  | 3, .vst => true
  | 3, .vstg => true
  | 3, .wcfg => true
  | 3, .mcmd => true
  | 3, .send => true
  | 3, .mask => true
  | 3, .recv _ => true
  | 3, .genS => true
  | 3, .asave => true
  | _, _ => false

/-- The bytes [a, a + n) lie within a region of base and size in KiB, below the SYNC region. -/
def inRegion (r : Nat × Nat) (a n : Nat) : Bool := decide (1024 * r.1 ≤ a ∧ a + n ≤ 1024 * (r.1 + r.2) ∧ a + n ≤ 0x7FC00)

/-- The region holding [a, a + n): 0 PROG, 1 WGT, 2 ACT, 3 PST (R94). -/
def Regions.find (r : Regions) (a n : Nat) : Option Nat :=
  if inRegion r.prog a n then some 0
  else if inRegion r.wgt a n then some 1
  else if inRegion r.act a n then some 2
  else if inRegion r.pst a n then some 3
  else none

/-- The access is permitted by R94. -/
def Regions.allows (r : Regions) (k : Access) (a n : Nat) : Bool :=
  match r.find a n with
  | some x => permits x k
  | none => false

/-! ### Generators (R107 to R109) -/

/-- The six dimension codes of ORDER, innermost first. -/
def orderOf (w : Nat) : List Nat := (List.range 6).map (fun i => w / 8 ^ i % 8)

/-- R107: a descriptor of 64 bytes, or `none` where a field is out of range. Mirror padding with PT above H − 1 or PL above W − 1, which R108 says a descriptor must not have, counts as a field out of range (DESIGN
CHOICE, log entry 39). -/
def wagOf (bs : List Byte) : Option Wag :=
  let w (i : Nat) : Nat := leNat ((bs.drop (4 * i)).take 4)
  let g : Wag :=
    { base := bits 18 0 (w 0), fmt := bits 24 19 (w 0), pad := bits 26 25 (w 0), rowPitch := bits 18 0 (w 1)
      pixPitch := bits 15 0 (w 2), h := bits 13 0 (w 3) + 1, ring := bits 27 14 (w 3), w := bits 13 0 (w 4) + 1
      yOrigin := bits 27 14 (w 4), kh := bits 3 0 (w 5), kw := bits 7 4 (w 5), sy := bits 11 8 (w 5)
      sx := bits 15 12 (w 5), dy := bits 19 16 (w 5), dx := bits 23 20 (w 5), pt := bits 27 24 (w 5)
      pl := bits 31 28 (w 5), nOx := bits 13 0 (w 6) + 1, nOy := bits 27 14 (w 6) + 1, nCb := bits 9 0 (w 7) + 1
      nG := bits 19 10 (w 7) + 1, groupPitch := bits 15 0 (w 8), order := orderOf (bits 17 0 (w 9))
      scaleBase := bits 18 0 (w 10) }
  let reserved := bits 31 27 (w 0) + bits 31 19 (w 1) + bits 31 16 (w 2) + bits 31 28 (w 3) + bits 31 28 (w 4) +
    bits 31 28 (w 6) + bits 31 20 (w 7) + bits 31 16 (w 8) + bits 31 18 (w 9) + bits 31 19 (w 10) +
    leNat ((bs.drop 44).take 20)
  let one8 (x : Nat) : Bool := decide (1 ≤ x ∧ x ≤ 8)
  if reserved = 0 ∧ g.pad ≠ 3 ∧ g.fmt ≤ 0x13 ∧
      g.base % 32 = 0 ∧ g.rowPitch % 32 = 0 ∧ g.pixPitch % 32 = 0 ∧ g.groupPitch % 32 = 0 ∧
      1 ≤ g.kh ∧ 1 ≤ g.kw ∧ one8 g.sy ∧ one8 g.sx ∧ one8 g.dy ∧ one8 g.dx ∧ g.pt ≤ 14 ∧ g.pl ≤ 14 ∧
      (List.range 6).all (g.order.contains ·) ∧ (g.pad = 2 → g.pt ≤ g.h - 1 ∧ g.pl ≤ g.w - 1)
  then some g else none

/-- The count of a dimension: 0 OX, 1 OY, 2 KX, 3 KY, 4 CB, 5 G (R108). -/
def Wag.dim (g : Wag) (c : Nat) : Nat :=
  match c with
  | 0 => g.nOx | 1 => g.nOy | 2 => g.kw | 3 => g.kh | 4 => g.nCb | _ => g.nG

/-- The tuples a generator emits in all. -/
def Wag.total (g : Wag) : Nat := g.order.foldl (fun n c => n * g.dim c) 1

/-- The index of dimension `c` in tuple number `i`, the innermost dimension of `order` fastest. -/
def wagIndex (g : Wag) (order : List Nat) (i c : Nat) : Nat :=
  match order with
  | [] => 0
  | x :: r => if x = c then i % g.dim x else wagIndex g r (i / g.dim x) c

/-- `x` held between `lo` and `hi`. -/
def clampInt (lo hi x : Int) : Int := if x < lo then lo else if hi < x then hi else x

/-- R108: the line address of tuple `i` in the 32-bit arithmetic of its pseudocode, or `none` for a zero operand. -/
def wagAddr (g : Wag) (i : Nat) : Option Nat :=
  let ix (c : Nat) : Nat := wagIndex g g.order i c
  let y0 : Int := (ix 1 * g.sy + ix 3 * g.dy : Nat) - (g.pt : Int)
  let x0 : Int := (ix 0 * g.sx + ix 2 * g.dx : Nat) - (g.pl : Int)
  let out : Bool := decide (y0 < 0 ∨ (g.h : Int) ≤ y0 ∨ x0 < 0 ∨ (g.w : Int) ≤ x0)
  if out && g.pad == 0 then none
  else
    let mir (v : Int) (n : Nat) : Int := if v < 0 then -v else if (n : Int) ≤ v then 2 * ((n : Int) - 1) - v else v
    let y := if !out then y0 else if g.pad = 1 then clampInt 0 ((g.h : Int) - 1) y0 else mir y0 g.h
    let x := if !out then x0 else if g.pad = 1 then clampInt 0 ((g.w : Int) - 1) x0 else mir x0 g.w
    let u (v : Int) : Nat := ofSigned 32 v
    let r : Nat := if g.ring ≠ 0 then u (y + g.yOrigin) % g.ring else u y
    some ((g.base + r * g.rowPitch + u x * g.pixPitch + ix 5 * g.groupPitch + ix 4 * 32) % 2 ^ 32)

/-- Blocks per line of an MX tensor in tile SRAM (R109). -/
def mxPerLine (fmt : Nat) : Nat := if isMx4 fmt then 2 else 1

/-- R109: the address of the scale byte of block `j` of the line at `a`. -/
def scaleAddr (g : Wag) (a j : Nat) : Nat := g.scaleBase + (a - g.base) / 32 * mxPerLine g.fmt + j

/-! ### Weight blocks and operand lines (R103) -/

/-- Element lines and scale lines of a weight block; `none` for a format that has none. -/
def wldLines (fmt : Nat) : Option (Nat × Nat) :=
  match fmt with
  | 0x00 => some (32, 0) | 0x06 => some (32, 0) | 0x07 => some (32, 0)
  | 0x0A => some (32, 1) | 0x0B => some (32, 1) | 0x0F => some (32, 1)
  | 0x02 => some (32, 0) | 0x0E => some (32, 2)
  | 0x0C => some (24, 1) | 0x0D => some (24, 1)
  | 0x08 => some (16, 0)
  | _ => none

/-- A byte of a line, 0 past its end. -/
def lineByte (l : List Byte) (i : Nat) : Nat := (l.getD i 0).toNat

/-- The element of input channel `i` for output channel `j` in the lines of a weight block (R103). -/
def wElem (fmt : Nat) (ls : List (List Byte)) (i j : Nat) : Nat :=
  match elemBits fmt with
  | 4 => lineByte (ls.getD (i / 2) []) j / 16 ^ (i % 2) % 16
  | 6 =>
    let at_ (k : Nat) : Nat := lineByte (ls.getD (k / 32) []) (k % 32)
    let b := 24 * i + 6 * j / 8
    (at_ b + 256 * at_ (b + 1)) / 2 ^ (6 * j % 8) % 64
  | 16 =>
    let l := ls.getD (2 * i + j / 16) []
    lineByte l (2 * (j % 16)) + 256 * lineByte l (2 * (j % 16) + 1)
  | _ => lineByte (ls.getD i []) j

/-- The E8M0 scale byte of block `b` (0 or 1) for output channel `j`. -/
def wScale (fmt : Nat) (ls : List (List Byte)) (b j : Nat) : Nat :=
  match wldLines fmt with
  | some (n, _) => lineByte (ls.getD (n + b) []) j
  | none => 0x7F

/-- An operand of one MMA row: its elements, and its scale bytes (R102, R109). -/
structure AOperand where
  elems : List Nat
  scales : List Nat

/-- The product of two finite dyadics. A factor that is not finite, an infinite E5M2 element among them, makes the term a NaN term: so R74 says of FP8 terms;
that an infinite E5M2 element of an MX block does the same, of which the MX bullet says nothing, is the model's (DESIGN CHOICE, log entry 39). -/
def numMul (a b : Num) : Num :=
  match a, b with
  | .fin m e, .fin m' e' => .fin (m * m') (e + e')
  | _, _ => .nan

/-- The sum of two finite dyadics. -/
def numAdd (a b : Num) : Num :=
  match a, b with
  | .fin m e, .fin m' e' => let s := dyAdd m e m' e'; .fin s.1 s.2
  | _, _ => .nan

/-- The terms that one MMA row cycle adds to the accumulator of output channel `j` (R70, R71, R74, R102): integer and FP8
products one by one, one term for each MX block, BF16 products in increasing input channel. The spec does not say which half of a 64-element 4-bit line (INT4
with an 8-bit format, MXFP4 with another MX format) or of a 16-element BF16 line a cycle uses: the first 32 or 8 elements. R74 sums a block exactly and gives the
sum 64 bits; where an MXFP8_E5M2 block needs more, the exact sum stands (both DESIGN CHOICE, log entry 39). -/
def mmaTerms (af bf : Nat) (a : AOperand) (ls : List (List Byte)) (j : Nat) : List Num :=
  let prod (i : Nat) : Num := numMul (elemValue af (a.elems.getD i 0)) (elemValue bf (wElem bf ls i j))
  if isMx af then
    (List.range (macChannels af bf / 32)).map fun b =>
      let xa := a.scales.getD b 0x7F
      let xb := wScale bf ls b j
      if xa = 0xFF ∨ xb = 0xFF then .nan
      else numMul (((List.range 32).map (fun i => prod (32 * b + i))).foldl numAdd (.fin 0 0)) (.fin 1 ((xa : Int) + xb - 254))
  else (List.range (macChannels af bf)).map prod

/-- The FP32 codes of the two factors of BF16 products, in increasing input channel (R78). -/
def bf16Pairs (a : AOperand) (ls : List (List Byte)) (j : Nat) : List (Nat × Nat) :=
  (List.range 8).map fun i => (a.elems.getD i 0 * 65536, wElem 8 ls i j * 65536)

end Sys2Proof.Machine
end

