-- ==== Sys2Proof/Machine/StemEngine.lean ====
section
/-! DEFINITION. The Stem Engine (spec/06 R157 to R162): its layer descriptors, the rows that its layers compute of a machine-vision line, the presence channel,
and the load of its SRAM. Where the weights of a layer stand among its weight bytes, and how far a kernel reaches left of its column, the spec does not say:
both are free (DESIGN CHOICE, log entry 16). -/

namespace Sys2Proof.Machine

/-! ### Layer descriptors (R160) -/

/-- Bits [hi:lo] of word `w` of a descriptor. -/
def StemLayer.f (l : StemLayer) (w hi lo : Nat) : Nat := bits hi lo (leNat ((l.bytes.drop (4 * w)).take 4))

/-- SRC: 0 machine-vision line, 1 earlier layer, 2 data network. -/
def StemLayer.src (l : StemLayer) : Nat := l.f 0 1 0
/-- SRC_LAYER. -/
def StemLayer.srcLayer (l : StemLayer) : Nat := l.f 0 5 2
/-- SRC_EP: the tile that sends the rows, where SRC is the data network. -/
def StemLayer.srcEp (l : StemLayer) : Nat := l.f 0 14 6
/-- DST names tiles. -/
def StemLayer.toTiles (l : StemLayer) : Bool := l.f 0 16 16 == 1
/-- DST names the Part Tracker's presence. -/
def StemLayer.toPtk (l : StemLayer) : Bool := l.f 0 17 17 == 1
/-- CIN. -/
def StemLayer.cin (l : StemLayer) : Nat := l.f 1 6 0
/-- COUT. -/
def StemLayer.cout (l : StemLayer) : Nat := l.f 1 13 7
/-- KH. -/
def StemLayer.kh (l : StemLayer) : Nat := l.f 2 2 0
/-- KW. -/
def StemLayer.kw (l : StemLayer) : Nat := l.f 2 5 3
/-- SY. -/
def StemLayer.sy (l : StemLayer) : Nat := l.f 2 7 6 + 1
/-- SX. -/
def StemLayer.sx (l : StemLayer) : Nat := l.f 2 9 8 + 1
/-- DY. -/
def StemLayer.dy (l : StemLayer) : Nat := l.f 2 11 10 + 1
/-- DX. -/
def StemLayer.dx (l : StemLayer) : Nat := l.f 2 13 12 + 1
/-- PAD. -/
def StemLayer.pad (l : StemLayer) : Nat := l.f 2 15 14
/-- AFMT. -/
def StemLayer.afmt (l : StemLayer) : Nat := l.f 3 5 0
/-- BFMT. -/
def StemLayer.bfmt (l : StemLayer) : Nat := l.f 3 11 6
/-- OFMT. -/
def StemLayer.ofmt (l : StemLayer) : Nat := l.f 3 17 12
/-- ANCHOR. -/
def StemLayer.anchor (l : StemLayer) : Int := toSigned 8 (l.f 3 25 18)
/-- WGT_OFF. -/
def StemLayer.wgt (l : StemLayer) : Nat := l.f 4 22 0
/-- WPAR_OFF. -/
def StemLayer.wpar (l : StemLayer) : Nat := l.f 5 22 0

/-- A line of these ports runs the layer (PORTS). -/
def StemLayer.runs (l : StemLayer) (ports : List Nat) : Bool := ports.any (fun p => bit p (l.f 6 7 0))

/-- The descriptor keeps R158 and R160. -/
def StemLayer.ok (l : StemLayer) : Bool :=
  decide (l.bytes.length = 32 ∧ l.f 0 31 18 = 0 ∧ l.f 1 31 14 = 0 ∧ l.f 2 31 16 = 0 ∧ l.f 3 31 26 = 0 ∧ l.f 4 31 23 = 0 ∧ l.f 5 31 23 = 0 ∧
    l.f 6 31 8 = 0 ∧ l.f 7 31 0 = 0) &&
    decide (l.src ≠ 3 ∧ l.f 0 14 6 ≤ 255 ∧ l.pad ≠ 3 ∧ 1 ≤ l.cin ∧ l.cin ≤ 64 ∧ 1 ≤ l.cout ∧ l.cout ≤ 64 ∧ min l.cin l.cout ≤ 16 ∧ 1 ≤ l.kh ∧ 1 ≤ l.kw) &&
    decide ((l.afmt ≤ 1 ∧ (l.bfmt = 0 ∨ l.bfmt = 2)) ∨ ((l.afmt = 6 ∨ l.afmt = 7) ∧ (l.bfmt = 6 ∨ l.bfmt = 7))) &&
    [0, 1, 2, 6, 7].contains l.ofmt && decide (-126 ≤ l.anchor) && (!l.toPtk || l.cout == 1)

/-- The layers of one recipe: at most 16, each fed by an earlier one where it is fed by a layer. -/
def stemTableOk (ls : List StemLayer) : Bool :=
  decide (ls.length ≤ 16) && ((List.range ls.length).zip ls).all (fun e => e.2.src != 1 || decide (e.2.srcLayer < e.1))

/-! ### One row (R157 to R159, R71 to R81) -/

/-- The input column that column `x` of a line of `w` columns stands for; none for a zero operand (R108, R159). -/
def padCol (pad w : Nat) (x : Int) : Option Nat :=
  if 0 ≤ x ∧ x < w then some x.toNat
  else if pad = 0 then none
  else if pad = 1 then some (clampI 0 ((w : Int) - 1) x).1.toNat
  else some (if x < 0 then -x else 2 * ((w : Int) - 1) - x).toNat

/-- Where the SRAM of physical lane group `g` begins (R157). -/
def stemBase (d : Die) (g : Nat) : Nat := (Space.stem d).base + 491520 * g

/-- The code of weight `i` of a layer, of those that begin at `a`. -/
def stemWeight (mem : List Host.Cell) (l : StemLayer) (a i : Nat) : Nat :=
  let n := elemBits l.bfmt
  leNat (memRead mem (a + n * i / 8) 1) / 2 ^ (n * i % 8) % 2 ^ n

/-- One term of the accumulator at output column `x`, channel `o`: tap (ky, kx), input channel `c`; `rows` the input rows, newest first. -/
def stemTerm (mem : List Host.Cell) (l : StemLayer) (base w : Nat) (rows : List (List (List Nat))) (x o ky kx c : Nat) : Num :=
  let v := match padCol l.pad w (((x * l.sx + kx * l.dx : Nat) : Int) - ((Config.stemLeft (l.bytes.map (·.toNat)) : Nat) : Int)) with
    | none => 0
    | some j => ((rows.getD ((l.kh - 1 - ky) * l.dy) []).getD j []).getD c 0
  let place := Config.stemPlace (l.bytes.map (·.toNat)) (((o * l.kh + ky) * l.kw + kx) * l.cin + c) % max 1 (l.cout * l.kh * l.kw * l.cin)
  numMul (elemValue l.afmt v) (elemValue l.bfmt (stemWeight mem l (base + l.wgt) place))

/-- The accumulator of output column `x`, channel `o` (R71, R75). -/
def stemAcc (mem : List Host.Cell) (l : StemLayer) (base w : Nat) (rows : List (List (List Nat))) (x o : Nat) : Acc :=
  let ts := (List.range l.kh).flatMap (fun ky => (List.range l.kw).flatMap (fun kx => (List.range l.cin).map (stemTerm mem l base w rows x o ky kx)))
  ts.foldl (fun a t => if l.afmt ≤ 1 then (iaAdd a (match t with | .fin m e => floorShift m e | _ => 0)).1 else (laAdd a l.anchor t).1) accZero

/-- What is written of it, by its channel's requantisation entry (R79 to R81, R102). No infinity reaches it. -/
def stemCode (mem : List Host.Cell) (l : StemLayer) (base : Nat) (o : Nat) (a : Acc) : Nat :=
  let p := reqOfBytes (memRead mem (base + l.wpar + 8 * o) 8)
  let v := wbValue p (accSrc (if l.afmt ≤ 1 then .int else .long) l.anchor a).1
  if l.ofmt = 6 ∨ l.ofmt = 7 then (encodeR81 (floatOf l.ofmt) v).1 else (wbInt l.ofmt p.z v).1

/-- The output row of a layer, column by column: each block of columns by the lane group that serves it (R157). -/
def DieState.stemRow (d : DieState) (mem : List Host.Cell) (l : StemLayer) (rows : List (List (List Nat))) : List (List Nat) :=
  let w := (rows.getD 0 []).length
  let wo := (w + l.sx - 1) / l.sx
  let b := 4 * ((wo + 63) / 64)
  (List.range wo).map (fun x =>
    let base := stemBase d.die (d.fld (rSTM_MAP + 4 * (x / b)) 4 0)
    (List.range l.cout).map (fun o => stemCode mem l base o (stemAcc mem l base w rows x o)))

/-! ### A line (R159, R161, R162) -/

/-- What the layers have computed of a line so far: the die, and their output rows. -/
abbrev StemRun := DieState × Tbl (List (List Nat))

/-- The oldest `n` transfers that endpoint `dst` has received from the senders that `from_` selects; none where there are fewer. -/
def DieState.takeInbox (d : DieState) (dst n : Nat) (from_ : Nat → Bool) : Option (List Byte × DieState) :=
  let l := (d.tar.inbox.filter (fun t => t.dst == dst && from_ t.src)).take n
  if l.length < n then none
  else some (l.flatMap (·.data), { d with tar := { d.tar with inbox := l.foldl (fun q t => q.erase t) d.tar.inbox } })

/-- A row of `w` columns of `cin` channels, as it stands in transfers: column by column, packed by its format (R69). -/
def rowOf (fmt w cin : Nat) (bs : List Byte) : List (List Nat) :=
  let es := unpackElems (elemBits fmt) (w * cin) bs
  (List.range w).map (fun x => (es.drop (x * cin)).take cin)

/-- Transfers that a row takes. -/
def rowXfers (fmt w cin : Nat) : Nat := (w * cin * elemBits fmt + 511) / 512

/-- The input row of layer `l` of a line of `w` columns: the machine-vision line, an earlier layer's output, or what tiles have sent to endpoint 256 (R160). A row that
tiles send is as wide as the machine-vision line. (DESIGN CHOICE, log entry 16.) -/
def stemInput (mv : List (List Nat)) (l : StemLayer) (x : StemRun) : Option (List (List Nat) × DieState) :=
  if l.src = 0 then some (mv, x.1)
  else if l.src = 1 then (tget? x.2 l.srcLayer).map (fun r => (r, x.1))
  else (x.1.takeInbox 256 (rowXfers l.afmt mv.length l.cin) (· == l.srcEp)).map (fun t => (rowOf l.afmt mv.length l.cin t.1, t.2))

/-- An output row whose layer feeds tiles goes out in transfers of 64 bytes (R113, R160). (DESIGN CHOICE, log entry 16.) -/
def DieState.stemSend (d : DieState) (l : StemLayer) (row : List (List Nat)) : DieState :=
  if !l.toTiles then d
  else
    let n := rowXfers l.ofmt row.length l.cout
    let bs := packElems (elemBits l.ofmt) (64 * n) row.flatten
    let xs : List Xfer := (List.range n).map (fun i =>
      let to_ := Config.stemTo (l.bytes.map (·.toNat)) i
      { src := 256, dst := to_.1 % 256, due := d.acyc d.seq.cycle + to_.2 + 48, data := (bs.drop (64 * i)).take 64, got := false })
    { d with tar := { d.tar with net := d.tar.net ++ xs } }

/-- Layer `j` takes its input row of a line of group `g`, if it has one, and computes its output row (R159): with a stride along the transport, of every SY-th
row. -/
def stemLayer (mem : List Host.Cell) (g : Nat) (mv : List (List Nat)) (x : StemRun) (e : Nat × StemLayer) : StemRun :=
  let j := e.1
  let l := e.2
  match stemInput mv l x with
  | none => x
  | some (r, d) =>
    let q := tget d.stm.rows (16 * g + j) default
    let rows := (r :: q.rows).take 25
    let d := { d with stm := { d.stm with rows := tset d.stm.rows (16 * g + j) ⟨q.seen + 1, rows⟩ } }
    if q.seen % l.sy = 0 then
      let row := d.stemRow mem l rows
      (d.stemSend l row, tset x.2 j row)
    else (d, x.2)

/-- The layers of the active recipe that a line of these ports runs, with their numbers. -/
def DieState.stemLayers (d : DieState) (ports : List Nat) : List (Nat × StemLayer) :=
  let ls := d.stm.layers.filter (fun l => l.recipe == d.fld rCTX_CHG 3 0)
  ((List.range ls.length).zip ls).filter (fun e => e.2.runs ports)

/-- The presence channel of line `k` as tiles have sent it to endpoint 257, a byte for each of its `w` columns (R166); what has not come is free. (DESIGN CHOICE, log
entry 16.) -/
def DieState.tilePresence (d : DieState) (k w : Nat) : DieState × List Nat :=
  match d.takeInbox 257 ((w + 63) / 64) (fun _ => true) with
  | some (bs, d) => (d, (bs.take w).map (·.toNat))
  | none => (d, (List.range w).map (fun x => Config.presenceOpen k x % 256))

/-- The Stem takes machine-vision line `k` of group `g`; the presence channel that replaces PRES_CH, if the recipe has a layer for it (R162). In regrouped mode
the channel is what tiles deliver (R166). -/
def DieState.stemLine (d : DieState) (mem : List Host.Cell) (g k : Nat) (ports : List Nat) (mv : List (List Nat)) : DieState × Option (List Nat) :=
  let ls := d.stemLayers ports
  let stem := decide (d.fld rSTM_MODE 1 0 = 0)
  let r := if stem then ls.foldl (stemLayer mem g mv) (d, []) else (d, [])
  match ls.find? (fun e => e.2.toPtk) with
  | none => (r.1, none)
  | some e =>
    if stem then (r.1, some ((tget r.2 e.1 []).map (fun c => c.getD 0 0)))
    else let p := d.tilePresence k mv.length; (p.1, some p.2)

/-! ### The load of the Stem SRAM (R157, R166) -/

/-- The lane groups that carry work take the SRAM content of program set `k` from DRAM; a regrouped set has none. (DESIGN CHOICE, log entry 16.) -/
def loadStem (k : Nat) (x : DM) : DM :=
  if k % 2 = 1 then x
  else
    match tget? x.d.stm.loads (k / 2) with
    | none => x
    | some (src, len) =>
      (List.range 16).foldl (fun x vl =>
        let ws := x.d.dramCopy x.mem src (stemBase x.d.die (x.d.fld (rSTM_MAP + 4 * vl) 4 0)) (min len 491520)
        (x.onD (fun d => d.mirrorStem (d.acyc d.seq.cycle) ws)).store ws) x

end Sys2Proof.Machine
end

