-- ==== Sys2Proof/Machine/Coding.lean ====
section
/-! DEFINITION. The line coding of a Twill port (spec/16 R385): blocks, scrambler, and the Reed-Solomon code. -/

namespace Sys2Proof.Machine

/-! ### Blocks -/

/-- A block: whether it is a control block, and its eight bytes. -/
abbrev Block := Bool × List Byte

/-- A control block of a type, with the bytes after it; the rest is zero. -/
def ctlBlock (ty : Byte) (bs : List Byte) : Block := (true, ty :: bs ++ List.replicate (7 - bs.length) 0)

/-- IDLE. -/
def idleBlock : Block := ctlBlock 0x1E []

/-- LCTL: kind, sequence number, free buffers on VC0 and VC1. -/
def lctlBlock (kind seq c0 c1 : Byte) : Block := ctlBlock 0x4B [kind, seq, c0, c1]

/-- Data blocks, the last padded with zeros; `fuel`: at least the number of bytes. -/
def dataBlocks (fuel : Nat) (bs : List Byte) : List Block :=
  match fuel, bs with
  | 0, _ => []
  | _, [] => []
  | k + 1, bs => (false, bs.take 8 ++ List.replicate (8 - bs.length) 0) :: dataBlocks k (bs.drop 8)

/-- The blocks of a frame: START, its header and payload `bs`, END with their CRC-32 (R386). -/
def frameBlocks (bs : List Byte) : List Block := ctlBlock 0x78 [] :: dataBlocks bs.length bs ++ [ctlBlock 0x87 (leBytes 4 (crc32 bs))]

/-- Bits of a byte, the least significant first. (DEDUCED, log entry 34.) -/
def byteBits (b : Byte) : List Bool := (List.range 8).map (fun i => b.getLsbD i)

/-- The sync header of a block, as transmitted: 01 of a data block, 10 of a control block. -/
def Block.sync (b : Block) : List Bool := if b.1 then [true, false] else [false, true]

/-- The scrambler, 1 + x^39 + x^58, over bits, from its last 58 output bits, the newest in bit 0; the bits and its state after them. -/
def scramble (s : Nat) (bs : List Bool) : List Bool × Nat :=
  match bs with
  | [] => ([], s)
  | b :: r =>
    let y := b ^^ (s.testBit 38 ^^ s.testBit 57)
    let t := scramble ((2 * s + y.toNat) % 2 ^ 58) r
    (y :: t.1, t.2)

/-- The descrambler, from the last 58 bits received. -/
def descramble (s : Nat) (ys : List Bool) : List Bool × Nat :=
  match ys with
  | [] => ([], s)
  | y :: r =>
    let t := descramble ((2 * s + y.toNat) % 2 ^ 58) r
    ((y ^^ (s.testBit 38 ^^ s.testBit 57)) :: t.1, t.2)

/-- The block stream of blocks: each one's sync header as it is, its bytes scrambled. -/
def blockStream (s : Nat) (bs : List Block) : List Bool × Nat :=
  bs.foldl (fun a b => let t := scramble a.2 (b.2.flatMap byteBits); (a.1 ++ b.sync ++ t.1, t.2)) ([], s)

/-! ### RS(136,128) -/

/-- The product in GF(2^8) of the field polynomial x^8 + x^4 + x^3 + x^2 + 1. -/
def gfMul (a b : Nat) : Nat :=
  (iter 8 (fun (x : Nat × Nat × Nat) =>
    let d := 2 * x.2.1
    ((if x.2.2 % 2 = 1 then x.1 ^^^ x.2.1 else x.1), (if 256 ≤ d then d ^^^ 0x11D else d), x.2.2 / 2)) (0, a, b)).1

/-- A power of α. -/
def gfPow (n : Nat) : Nat := iter (n % 255) (gfMul 2) 1

/-- The inverse. -/
def gfInv (a : Nat) : Nat := iter 254 (gfMul a) 1

/-- A polynomial, the lowest coefficient first, at a point. -/
def gfEval (p : List Nat) (x : Nat) : Nat := p.foldr (fun c a => gfMul a x ^^^ c) 0

/-- The coefficients of the generator below x^8, the highest first: its roots are α^0 to α^7. -/
def rsGen : List Nat :=
  ((List.range 8).foldl (fun g i => List.zipWith (· ^^^ ·) (g ++ [0]) (0 :: g.map (gfMul (gfPow i)))) [1]).drop 1

/-- The eight parity symbols of symbols, the first of them the highest coefficient. (DEDUCED, log entry 34.) -/
def rsParity (ms : List Nat) : List Nat :=
  ms.foldl (fun r m => let f := r.headD 0 ^^^ m; List.zipWith (fun x g => x ^^^ gfMul f g) (r.drop 1 ++ [0]) rsGen) (List.replicate 8 0)

/-- The codeword of 128 symbols: parity last. -/
def rsEncode (ms : List Nat) : List Nat := ms ++ rsParity ms

/-- The syndromes of a received word. -/
def rsSyndromes (ws : List Nat) : List Nat := (List.range 8).map (fun j => gfEval ws.reverse (gfPow j))

/-- The sum of two polynomials. -/
def gfAdd : List Nat → List Nat → List Nat
  | [], q => q
  | p, [] => p
  | a :: p, b :: q => (a ^^^ b) :: gfAdd p q

/-- The search for the locator polynomial of the errors: the locator and the one before it, its length, the steps since, and the last discrepancy. -/
structure Locator where
  loc  : List Nat
  prev : List Nat
  len  : Nat
  gap  : Nat
  last : Nat
  deriving DecidableEq, Repr

/-- One syndrome more. -/
def Locator.step (ss : List Nat) (x : Locator) (n : Nat) : Locator :=
  let d := (List.range (x.len + 1)).foldl (fun a i => a ^^^ gfMul (x.loc.getD i 0) (ss.getD (n - i) 0)) 0
  if d = 0 then { x with gap := x.gap + 1 }
  else
    let next := gfAdd x.loc (List.replicate x.gap 0 ++ x.prev.map (gfMul (gfMul d (gfInv x.last))))
    if 2 * x.len ≤ n then { loc := next, prev := x.loc, len := n + 1 - x.len, gap := 1, last := d }
    else { x with loc := next, gap := x.gap + 1 }

/-- A received word of 136 symbols corrected, with the number of symbols corrected, at most 4; none where it is uncorrectable. -/
def rsDecode (ws : List Nat) : Option (List Nat × Nat) :=
  let ss := rsSyndromes ws
  if ss.all (· == 0) then some (ws, 0)
  else
    let x := (List.range 8).foldl (Locator.step ss) ⟨[1], [1], 0, 1, 1⟩
    let ω := (List.range 8).map (fun k => (List.range (k + 1)).foldl (fun a i => a ^^^ gfMul (x.loc.getD i 0) (ss.getD (k - i) 0)) 0)
    let odd (z : Nat) : Nat := (List.range 4).foldl (fun a i => a ^^^ gfMul (x.loc.getD (2 * i + 1) 0) (iter (2 * i) (gfMul z) 1)) 0
    let fix (i s : Nat) : Nat :=
      let e := 135 - i
      let z := gfPow (255 - e)
      if gfEval x.loc z = 0 then s ^^^ gfMul (gfPow e) (gfMul (gfEval ω z) (gfInv (odd z))) else s
    let out := List.zipWith fix (List.range ws.length) ws
    if x.len ≤ 4 ∧ (rsSyndromes out).all (· == 0) then some (out, x.len) else none

/-- The symbols of bits: eight bits each, the first transmitted least significant; `n` symbols. -/
def symbolsOf (n : Nat) (bs : List Bool) : List Nat :=
  (List.range n).map (fun i => ((bs.drop (8 * i)).take 8).foldr (fun b a => 2 * a + b.toNat) 0)

/-- A superframe of 512 blocks: 33 codewords, each of the next 1,024 bits of the block stream. -/
def superframe (s : Nat) (bs : List Block) : List (List Nat) :=
  let stream := (blockStream s bs).1
  (List.range 33).map (fun k => rsEncode (symbolsOf 128 (stream.drop (1024 * k))))

end Sys2Proof.Machine
end

