-- ==== Sys2Proof/Machine/Twill.lean ====
section
/-! DEFINITION. The Twill links (spec/16 R383, R386, R387, R395, R398, R399, R403): frames, sending and resending, routing, delivery. -/

namespace Sys2Proof.Machine

/-! ### Ports -/

/-- The die to which module port `p` is wired (R383). -/
def portDie (p : Nat) : Die := if p < 2 then .a else .b

/-- Working state of port `p`. -/
def DieState.tport (d : DieState) (p : Nat) : TPort := tget d.twl.ports p default

/-- Replace it. -/
def DieState.setTport (d : DieState) (p : Nat) (x : TPort) : DieState := { d with twl := { d.twl with ports := tset d.twl.ports p x } }

/-- Change it. -/
def DieState.modTport (d : DieState) (p : Nat) (f : TPort → TPort) : DieState := d.setTport p (f (d.tport p))

/-- State of port `p` (R389). -/
def DieState.tpState (d : DieState) (p : Nat) : Nat := d.fld (rTWL_PORT + 4 * p) 2 0

/-- Set it. -/
def DieState.setTpState (d : DieState) (p st : Nat) : DieState := d.setFld (rTWL_PORT + 4 * p) 2 0 st

/-- Counter `c` of port `p` counts. -/
def DieState.twlCount (d : DieState) (p c k : Nat) : DieState := d.count (rTWL_CNT + 32 * p + 4 * c) k

/-! ### Levels of the lane (R384) and equalisation (R391) -/

/-- The PAM4 level of a pair of bits, the first transmitted first (R384). -/
def grayLevel (b : Bool × Bool) : Nat := match b with | (false, false) => 0 | (false, true) => 1 | (true, true) => 2 | (true, false) => 3

/-- The pair of bits of a level. -/
def grayBits (x : Nat) : Bool × Bool := match x with | 0 => (false, false) | 1 => (false, true) | 2 => (true, true) | _ => (true, false)

/-- The levels transmitted for the levels `xs` by a precoder whose last level is `y` (R384). -/
def precode (y : Nat) (xs : List Nat) : List Nat :=
  match xs with
  | [] => []
  | x :: r => let z := (x + 4 - y % 4) % 4; z :: precode z r

/-- The levels recovered from the received levels `ys` after the last level `y` (R384). -/
def recover (y : Nat) (ys : List Nat) : List Nat := match ys with | [] => [] | z :: r => ((z + y) % 4) :: recover z r

/-- The bits that leave port `p` as levels, while it carries frames; its precoder goes on from the last of them (R384). -/
def TPort.levels (x : TPort) (bs : List (Bool × Bool)) : TPort × List Nat :=
  let ys := precode x.txLevel (bs.map grayLevel)
  ({ x with txLevel := ys.getLastD x.txLevel }, ys)

/-- The bits that the levels received on port `p` carry (R384). -/
def TPort.pairs (x : TPort) (ys : List Nat) : TPort × List (Bool × Bool) :=
  ({ x with rxLevel := ys.getLastD x.rxLevel }, (recover x.rxLevel ys).map grayBits)

/-- The settings of port `p` at a rate: an Expert record's, or those of the entry that the port names (R391). -/
def DieState.eqOf (d : DieState) (p rate : Nat) : EqSet :=
  let x := d.tport p
  match tget? x.eqOver rate with
  | some e => e
  | none => (tget d.twl.eqs x.cfg.eqId []).getD rate default

/-- The settings of a rate are those of the lane; they never adapt (R391). -/
def DieState.equalise (d : DieState) (p rate : Nat) : DieState :=
  let e := d.eqOf p rate
  d.send .twlControl [2, p, rate, ofSigned 8 e.pre, e.main, ofSigned 8 e.post, e.ctle] []

/-- Training at a rate begins, with its settings: the precoder's state is 0 (R384, R390). -/
def DieState.train (d : DieState) (p rate : Nat) : DieState := (d.equalise p rate).modTport p (fun x => { x with txLevel := 0, rxLevel := 0 })

/-! ### Frames (R386) -/

/-- A frame's header with its SEQ. -/
def TFrame.head (f : TFrame) (seq : Nat) : List Byte :=
  leBytes 4 (f.dest + 2 ^ 24 * f.dstDie + 2 ^ 25 * f.vc + 2 ^ 26 * f.cls) ++ leBytes 4 (f.src + 2 ^ 24 * f.srcDie + 2 ^ 25 * f.hops) ++
    leBytes 2 f.data.length ++ leBytes 1 seq ++ leBytes 1 (b2n f.first + 2 * b2n f.last) ++ leBytes 2 f.msg ++ leBytes 2 f.frag

/-- COUNT at instant `t`, in 1/16 master cycles (R395). (DEDUCED, log entry 34.) -/
def countAt (count : Int) (rho at_ t : Nat) : Int := count - ((16 * (t - at_) * rho / 2 ^ 40 : Nat) : Int)

/-- The payload as it is transmitted at `t`: in a BARRIER frame COUNT and RHO are inserted (R395, R399). -/
def TFrame.payload (f : TFrame) (t : Nat) : List Byte :=
  match f.ref with
  | none => f.data
  | some (c, rho, at_) => f.data.take 8 ++ leBytes 8 (ofSigned 64 (countAt c rho at_ t)) ++ leBytes 8 rho ++ f.data.drop 24

/-- A received header and payload: the SEQ and the frame; none where a reserved field is not zero or the length does not fit. -/
def frameOf? (bs : List Byte) : Option (Nat × TFrame) :=
  let a := leNat (bs.take 4)
  let b := leNat ((bs.drop 4).take 4)
  let len := leNat ((bs.drop 8).take 2)
  let fl := (bs.getD 11 0).toNat
  if bs.length < 16 ∨ bs.length ≠ 16 + len ∨ 256 < len ∨ bits 23 18 a ≠ 0 ∨ bits 31 29 a ≠ 0 ∨ bits 23 18 b ≠ 0 ∨ 4 ≤ fl then none
  else
    some ((bs.getD 10 0).toNat,
      { dest := bits 17 0 a, dstDie := bits 24 24 a, vc := bits 25 25 a, cls := bits 28 26 a, src := bits 17 0 b, srcDie := bits 24 24 b,
        hops := bits 31 25 b, first := bit 0 fl, last := bit 1 fl, msg := leNat ((bs.drop 12).take 2), frag := leNat ((bs.drop 14).take 2),
        data := bs.drop 16, ref := none })

/-! ### Sending (R387, R399) -/

/-- A frame is transmitted on port `p` with its CRC. -/
def DieState.txFrame (d : DieState) (p seq : Nat) (f : TFrame) : DieState :=
  let bs := f.head seq ++ f.payload d.clk
  d.send .twlMessage [p] (bs ++ leBytes 4 (crc32 bs))

/-- The receiver of port `p` has a buffer for virtual channel `v`: the free ones last told, less the frames not acknowledged. -/
def TPort.credit (x : TPort) (v : Nat) : Bool :=
  decide ((x.out.filter (fun o => o.2.1.vc == v)).length < (if v = 1 then x.cr1 else x.cr0))

/-- The next frame that may be sent: VC1 before VC0. -/
def TPort.next (x : TPort) : Option TFrame :=
  match (if x.credit 1 then x.queue.find? (·.vc == 1) else none) with
  | some f => some f
  | none => if x.credit 0 then x.queue.find? (·.vc == 0) else none

/-- Frames leave while the port is ACTIVE, at most 8 are unacknowledged, and there is a credit. -/
def pumpPort (fuel p : Nat) (d : DieState) : DieState :=
  match fuel with
  | 0 => d
  | k + 1 =>
    let x := d.tport p
    if d.tpState p ≠ 5 ∨ 8 ≤ x.out.length then d
    else
      match x.next with
      | none => d
      | some f =>
        let d := d.setTport p { x with queue := x.queue.erase f, out := x.out ++ [(x.txSeq, f, 0)], txSeq := (x.txSeq + 1) % 256 }
        pumpPort k p (d.txFrame p x.txSeq f)

/-- Frames of port `p` leave as far as they may. -/
def DieState.pump (d : DieState) (p : Nat) : DieState := pumpPort (d.tport p).queue.length p d

/-- A step-tagged class (R399): SIGN, HALO. -/
def stepTagged (cls : Nat) : Bool := decide (cls = 2 ∨ cls = 4)

/-! ### Routing (R398, R403) -/

/-- The code of a destination in the die's tables: the region table for another region, else the node table. -/
def DieState.route (d : DieState) (dest : Nat) : Nat :=
  let own := d.fld rTWL_CFG 17 0
  let e (base i : Nat) : Nat := bits (3 * (i % 8) + 2) (3 * (i % 8)) (d.rd (base + 4 * (i / 8)))
  if dest / 2048 = own / 2048 then e rTWL_ROUTE_N (dest % 2048) else e rTWL_ROUTE_R (dest / 2048)

/-- The die sends CTRL messages of opcode UNREACHABLE under this first byte (R399). -/
def ctrlUnreachable : Byte := 5

/-- A frame is discarded at port `p` for lack of a route (R403). -/
def DieState.discardFrame (d : DieState) (p : Nat) : DieState := (d.twlCount p 5 1).raise rTWL_STATUS 3

/-- A frame is put on port `p`: discarded above 64 hops; sent, or, where the port is not ACTIVE, kept for a change of the tables, a step-tagged one
discarded. (DEDUCED, log entry 34.) -/
def DieState.toPort (d : DieState) (p : Nat) (f : TFrame) : DieState :=
  if 64 < f.hops + 1 then d.twlCount p 5 1
  else
    let f := { f with hops := f.hops + 1 }
    if d.tpState p = 5 then (d.modTport p (fun x => { x with queue := x.queue ++ [f] })).pump p
    else if stepTagged f.cls then d.discardFrame p
    else d.modTport p (fun x => { x with parked := x.parked ++ [(f, d.clk)] })

/-- HALO: bytes 0 to 23 of the message, then the columns (R399). -/
def haloPayload (bs : List Byte) : Option (Nat × Payload) :=
  let at_ (i n : Nat) : Nat := leNat ((bs.drop i).take n)
  if bs.length < 24 ∨ 31 < at_ 16 1 ∨ 1 < at_ 17 1 ∨ at_ 20 4 ≠ 0 then none
  else some (at_ 0 8, .halo (at_ 16 1) (at_ 17 1 == 0) (toSigned 64 (at_ 8 8)) (at_ 18 2) (bs.drop 24))

/-- A whole message reaches its unit (R399): CTRL and SIGN from afar go to the Quill, HALO to the Registration Unit as an item tagged with its
step, BULK and BARRIER wait for their own commands. -/
def DieState.message (d : DieState) (m : TMsg) : DieState :=
  match m.cls with
  | 1 => { d with twl := { d.twl with inbox := d.twl.inbox ++ [m] } }
  | 3 => { d with twl := { d.twl with inbox := d.twl.inbox ++ [m] } }
  | 4 =>
    match haloPayload m.data with
    | some (s, p) => { d with items := d.items ++ [⟨some s, none, p⟩] }
    | none => d
  | c => if c = 0 ∨ c = 2 then d.send .irq [c, m.src, m.srcDie] m.data else d

/-- A frame reaches the die it is for, over port `p`: its message is collected from FIRST to LAST. -/
def DieState.deliverFrame (d : DieState) (p : Option Nat) (f : TFrame) : DieState :=
  let same (x : TFrame × TMsg) : Bool := x.1.src == f.src && x.1.srcDie == f.srcDie && x.1.cls == f.cls && x.1.msg == f.msg
  let r : Int × Nat × Nat := f.ref.getD (0, 0, d.clk)
  let m : TMsg :=
    match (if f.first then none else d.twl.rx.find? same) with
    | some x => { x.2 with data := x.2.data ++ f.data }
    | none => { cls := f.cls, src := f.src, srcDie := f.srcDie, data := f.data, port := p, at_ := r.2.2, count := r.1, rho := r.2.1 }
  let rest := d.twl.rx.filter (fun x => !same x)
  if f.last then ({ d with twl := { d.twl with rx := rest } }).message m
  else { d with twl := { d.twl with rx := rest ++ [(f, m)] } }

/-- A CTRL frame of this die for `dest`. -/
def DieState.ctrlFrame (d : DieState) (dest dstDie : Nat) (data : List Byte) : TFrame :=
  { dest := dest, dstDie := dstDie, vc := 1, cls := 0, src := d.fld rTWL_CFG 17 0, srcDie := d.die.num, hops := 0, first := true, last := true,
    msg := d.twl.tag, frag := 0, data := data, ref := none }

/-- A frame is forwarded from die `die` (R398), which it reached over port `p`; one that meets DROP waits there, or at the die's first port, for the tables to change
(R403), a step-tagged one is discarded. `fuel` bounds the passes over the die-to-die link. (DEDUCED, log entry 34.) -/
def Whole.forward (fuel : Nat) (die : Die) (p : Option Nat) (f : TFrame) (w : Whole) : Whole :=
  match fuel with
  | 0 => w.onDie die (fun d => d.discardFrame (p.getD 0))
  | k + 1 =>
    let cross (w : Whole) : Whole := w.forward k die.other p { f with hops := f.hops + 1 }
    match (w.die die).route f.dest with
    | 4 => cross w
    | 5 => if f.dstDie = die.num then w.onDie die (fun d => d.deliverFrame p f) else w.onDie die.other (fun d => d.deliverFrame p f)
    | c =>
      if c ≤ 3 then w.onDie die (fun d => d.toPort c f)
      else
        let q := match p with | some q => if portDie q = die then q else 2 * die.num | none => 2 * die.num
        w.onDie die (fun d =>
          if stepTagged f.cls then d.discardFrame q
          else d.modTport q (fun x => { x with parked := x.parked ++ [({ f with hops := f.hops + 1 }, d.clk)] }))

/-- The fragments of a message: 256 bytes each. -/
def fragments (fuel : Nat) (i : Nat) (data : List Byte) : List (Nat × List Byte) :=
  match fuel with
  | 0 => []
  | k + 1 => if data.length ≤ 256 then [(i, data)] else (i, data.take 256) :: fragments k (i + 1) (data.drop 256)

/-- The virtual channel of a class (R399). -/
def classVc (cls : Nat) : Nat := if cls = 1 then 0 else 1

/-- A die sends a message (R399); `ref` for a BARRIER message. -/
def Whole.twlSend (w : Whole) (die : Die) (dest dstDie cls : Nat) (data : List Byte) (ref : Option (Int × Nat × Nat)) : Whole :=
  let d := w.die die
  let fs := fragments (data.length / 256 + 1) 0 data
  let w := w.onDie die (fun d => { d with twl := { d.twl with tag := (d.twl.tag + 1) % 65536 } })
  fs.foldl (fun w x => w.forward 4 die none
    { dest := dest, dstDie := dstDie, vc := classVc cls, cls := cls, src := d.fld rTWL_CFG 17 0, srcDie := die.num, hops := 0, first := x.1 == 0,
      last := x.1 + 1 == fs.length, msg := d.twl.tag, frag := x.1, data := x.2, ref := ref }) w

/-- The messages that a die has made go to the link. -/
def Whole.flushTwl (w : Whole) (die : Die) : Whole :=
  let l := (w.die die).twl.outbox
  if l.isEmpty then w
  else
    l.foldl (fun w m => w.twlSend die m.1 m.2.1 m.2.2.1 m.2.2.2 none) (w.onDie die (fun d => { d with twl := { d.twl with outbox := [] } }))

/-! ### The start barrier of the module (R394, R396) -/

/-- Change the synchronisation group. -/
def Whole.onGrp (w : Whole) (f : SyncGroup → SyncGroup) : Whole := w.onMod (fun m => { m with grp := f m.grp })

/-- The die that carries the group's messages: die A, or die B where die A is in reset. -/
def Whole.carrier (w : Whole) : Die := if w.a.held.isSome then .b else .a

/-- The module's address. -/
def Whole.addr (w : Whole) : Nat := (w.die w.carrier).fld rTWL_CFG 17 0

/-- This module is the master of its group; without a group record it forms a group of its own (R394). -/
def Whole.isMaster (w : Whole) : Bool := let d := w.die w.carrier; !d.flag rTWL_SYNC 31 || d.flag rTWL_SYNC 30

/-- MEMBERS: 1 without a record. -/
def Whole.members (w : Whole) : Nat := if (w.die w.carrier).flag rTWL_SYNC 31 then w.mod.grp.members else 1

/-- START_MARGIN in ns: 200 µs by default. -/
def Whole.margin (w : Whole) : Nat := if w.mod.grp.margin = 0 then 200000 else 1000 * w.mod.grp.margin

/-- A BARRIER message of 32 bytes: the kind, then COUNT, RHO and the master step (R399). -/
def barrierBytes (kind step : Nat) : List Byte := leBytes 8 kind ++ leBytes 8 0 ++ leBytes 8 0 ++ leBytes 8 step

/-- ρ = 1. -/
def rhoOne : Nat := 2 ^ 40

/-- A die stands ready for the barrier: in ARMED with line running. -/
def DieState.atBarrier (d : DieState) : Bool := d.dev == .armed && d.line

/-- The master starts the group `extra` ns later than START_MARGIN once MEMBERS distinct modules stand arrived: START to each in address order, every one
naming the same instant. -/
def Whole.startGroup (w : Whole) (extra : Nat) : Whole :=
  let g := w.mod.grp
  if !w.isMaster ∨ g.addrs.length < w.members ∨ g.release.isSome then w
  else
    let at_ := w.now + w.margin + extra
    let own := w.addr
    let c := w.carrier
    let others := (g.addrs.filter (· ≠ own)).mergeSort (· ≤ ·)
    let w := others.foldl (fun w a => w.twlSend c a 0 3 (barrierBytes 2 0) (some (((16 * (at_ - w.now) : Nat) : Int), rhoOne, w.now))) w
    w.onGrp (fun g => { g with release := some at_, running := others })

/-- The module stands arrived once a die of it is in ARMED with line running: at the master itself, or by ARRIVE. (DEDUCED, log entry 34.) -/
def Whole.joinBarrier (w : Whole) : Whole :=
  if w.mod.grp.arrived ∨ !(w.a.atBarrier || w.b.atBarrier) then w
  else
    let w := w.onGrp (fun g => { g with arrived := true })
    if w.isMaster then
      (w.onGrp (fun g => { g with addrs := if g.addrs.contains w.addr then g.addrs else g.addrs ++ [w.addr] })).startGroup 0
    else w.twlSend w.carrier ((w.die w.carrier).fld rTWL_SYNC 17 0) 0 3 (barrierBytes 1 0) none

/-- A module that leaves ARMED before release withdraws (R396). -/
def Whole.withdraw (w : Whole) : Whole :=
  if !w.mod.grp.arrived ∨ w.a.atBarrier ∨ w.b.atBarrier then w
  else
    let own := w.addr
    let w := w.onGrp (fun g => { g with arrived := false, release := none })
    if w.isMaster then w.onGrp (fun g => { g with addrs := g.addrs.filter (· ≠ own) })
    else w.twlSend w.carrier ((w.die w.carrier).fld rTWL_SYNC 17 0) 0 3 (barrierBytes 4 0) none

end Sys2Proof.Machine
end

