-- ==== Sys2Proof/Machine/Accept.lean ====
section
/-! DEFINITION. What makes the records of a configuration image acceptable (spec/00 R19 and the rules of every chapter that reject an image): codes, reserved
fields and ranges of each record by itself, and the rules that hold over the whole image. (DEDUCED, log entry 35.) -/

namespace Sys2Proof.Machine

/-! ### Fields that records state (R19) -/

/-- The registers that show what records state, as place of the first, stride, count, and the mask of the fields that come from a record. -/
def cfgRegs : List (Nat × Nat × Nat × Nat) :=
  [(rCXP_PORT, 4, 8, 0x803F31FF), (rCXP_LINE, 4, 8, 0x7F7FFF), (rRGN_GRP, 4, 8, 0x87FF007F), (rRGN_PITCH, 4, 8, 0xFFFFFFFF),
   (rRGN_ORIGIN_LO, 4, 16, 0xFFFFFFFF), (rRGN_OFFSET, 4, 8, 0x7FFFFFFF), (rRGN_DEPTH, 4, 8, 0xFFF),
   (rSTM_ROT_CFG, 4, 1, 0x3), (rSTM_DWELL, 4, 1, 0xFFFFFFFF), (rSTM_TEST_LIMIT, 4, 1, 0xFFFFFFFF), (rSTM_MODE, 4, 1, 0x100),
   (rTAR_ROT_CFG, 4, 1, 0x3), (rTAR_DWELL, 4, 1, 0xFFFFFFFF), (rTAR_TEST_LIMIT, 4, 1, 0xFFFFFFFF),
   (rSYN_RES, 4, 256, 0xFFFFF), (rSYN_BAR, 4, 64, 0x7F00), (rSYN_BAR_MASK, 4, 1024, 0xFFFFFFFF), (rSYN_STT, 4, 5120, 0xC00000FF),
   (rMEM_QPOS, 4, 1, 0x1FF), (rCHK_CFG, 4, 1, 0xFFFFFF03), (rCHK_MAP, 4, 16, 0x3F3F3F3F)] ++
  [(rPOS_CFG, 4, 8, 0x1FFFFFFF), (rPOS_IDX, 4, 8, 0xFFFFFFFF), (rPOS_SSI, 4, 8, 0x3FFFFFFF), (rPOS_LIMIT_LO_LO, 4, 16, 0xFFFFFFFF),
   (rPOS_LIMIT_HI_LO, 4, 16, 0xFFFFFFFF), (rPOS_PRESET_LO, 4, 16, 0xFFFFFFFF), (rPOS_CAP_CFG, 4, 8, 0x7F77), (rPOS_EMU_CFG, 4, 1, 0x3F),
   (rPOS_EMU_RATIO, 4, 1, 0xFFFFFFFF), (rNIB_OUT_CFG, 4, 64, 0x1F), (rFIO_OUT_CFG, 4, 64, 0xFFFFF001), (rFIO_IN_CFG, 4, 32, 0xFFFFFFFF),
   (rNET_PORT, 4, 1, 0x1C), (rNET_RES_CFG, 4, 1, 0x7FFFFFF), (rNET_DEST, 4, 16, 0x800000FB), (rTWL_CFG, 4, 1, 0xF803FFFF),
   (rTWL_SYNC, 4, 1, 0xC3FFFFFF), (rTWL_ROUTE_R, 4, 16, 0xFFFFFF), (rTWL_ROUTE_N, 4, 256, 0xFFFFFF),
   (rCTX_PART, 4, 1, 0x1F), (rCTX_SLICE, 4, 1, 0xFFFFFFF)]

/-- A place of an indexed register. -/
def inRegs (base stride n off : Nat) : Bool := decide (base ≤ off ∧ off < base + stride * n)

/-- The fields of the register at `off` that a record states: none where no record does. -/
def cfgMask (off : Nat) : Nat :=
  if rFWL_WIN_BASE ≤ off ∧ off < rFWL_WIN_BASE + 1024 * 23 then
    (match off % 16 with | 0 => 0xFFFFFFC0 | 4 => 0xFFFFFFC0 | 8 => 0x83FFFFFF | _ => 0)
  else
    match cfgRegs.find? (fun r => inRegs r.1 r.2.1 r.2.2.1 off) with
    | some r => r.2.2.2
    | none => 0

/-- A number in its stated range. -/
def inRange (a b v : Nat) : Bool := decide (a ≤ v ∧ v ≤ b)

/-- A context code that is not reserved (R204). -/
def ctxCode (c : Nat) : Bool := decide (c ≤ 19 ∨ c = 31)

/-- The codes and ranges of the fields of a register's record: none of them reserved (R19). -/
def cfgCodes (off v : Nat) : Bool :=
  let f (hi lo : Nat) : Nat := bits hi lo v
  if inRegs rCXP_PORT 4 8 off then decide (f 13 12 ≠ 3 ∧ f 8 6 ≠ 7 ∧ f 2 0 ≤ 4)
  else if inRegs rCXP_LINE 4 8 off then inRange 1 64 (f 22 16)
  else if inRegs rRGN_GRP 4 8 off then inRange 1 64 (f 6 0)
  else if inRegs rRGN_PITCH 4 8 off then decide (1 ≤ f 31 16)
  else if inRegs rRGN_DEPTH 4 8 off then inRange 1 2112 v
  else if inRegs rSYN_RES 4 256 off then (List.range 4).all (fun i => ctxCode (f (5 * i + 4) (5 * i)))
  else if inRegs rSYN_BAR 4 64 off then ctxCode (f 12 8) && (!bit 14 v || decide (f 12 8 ≤ 1))
  else if inRegs rSYN_BAR_MASK 4 1024 off then
    (match (off - rSYN_BAR_MASK) / 4 % 16 with | 8 => decide (v < 1024) | w => decide (w < 8) || v == 0)
  else if off = rMEM_QPOS then inRange 32 256 v
  else if off = rCHK_CFG then inRange 64 65535 (f 31 16) && inRange 1 255 (f 15 8) && decide (f 15 8 < f 31 16)
  else if inRegs rCHK_MAP 4 16 off then (List.range 4).all (fun i => f (8 * i + 5) (8 * i) != 0)
  else if inRegs rPOS_CFG 4 8 off then decide (f 2 0 ≤ 3 ∧ f 4 3 ≠ 3) && inRange 1 1000 (f 20 11)
  else if inRegs rPOS_SSI 4 8 off then inRange 10 1000 (f 29 20) && decide (f 19 18 ≠ 3) && inRange 8 48 (f 16 11) && inRange 63 1250 (f 10 0)
  else if inRegs rPOS_CAP_CFG 4 8 off then decide (f 14 13 ≠ 3 ∧ f 6 4 ≤ 4)
  else if off = rPOS_EMU_RATIO then decide (1 ≤ f 31 16 ∧ 1 ≤ f 15 0)
  else if inRegs rNIB_OUT_CFG 4 64 off then decide (f 3 2 ≠ 3)
  else if inRegs rFIO_OUT_CFG 4 64 off then decide (1 ≤ f 31 24) && (f 15 12 == 0 || decide (4 ≤ f 15 12))
  else if inRegs rFIO_IN_CFG 4 32 off then inRange 50 10000 (f 29 16) && decide ((if bit 31 v then 2 else 1) ≤ f 15 0)
  else if off = rNET_RES_CFG then inRange 50 1000 (f 21 12) && inRange 10 400 (f 11 0)
  else if inRegs rNET_DEST 4 16 off then decide (f 4 3 ≠ 3 ∧ f 1 0 ≠ 3)
  else if off = rTWL_CFG then decide (f 29 27 ≤ 3 ∨ f 29 27 = 7)
  else if inRegs rTWL_ROUTE_R 4 16 off || inRegs rTWL_ROUTE_N 4 256 off then (List.range 8).all (fun j => f (3 * j + 2) (3 * j) != 7)
  else if off = rCTX_PART then inRange 1 16 v
  else if off = rCTX_SLICE then decide (5 ≤ f 15 0)
  else true

/-- A window grants no write to FWL and no PID 2 write to a safety target (R355). -/
def windowOk (off v : Nat) : Bool :=
  let t := (off - rFWL_WIN_ACC) / 1024
  if rFWL_WIN_ACC ≤ off ∧ off % 16 = 8 then !(bit 31 v && bit 25 v && decide (t = 17)) && !(bit 31 v && bit 25 v && bit 2 v && safetyTarget t) else true

/-- A value that a record gives to fields that a register shows: of a register that a record states, in its fields alone, without a reserved code (R17, R18, R19). -/
def regItemOk (off v : Nat) : Bool :=
  cfgMask off != 0 && decide (v < 2 ^ 32) && (v &&& cfgMask off) == v && cfgCodes off v && windowOk off v

/-! ### Single records -/

/-- The fields of a lane record by its MODE (R127), and of its stripe-set record (R172). -/
def LaneCfg.ok (c : LaneCfg) : Bool :=
  decide (c.mode ≤ 2 ∧ c.encoder ≤ 7 ∧ c.ports ≤ 255 ∧ c.recipe ≤ 15 ∧ c.x0 ≤ c.x1 ∧ c.x1 ≤ 16383 ∧ c.presCh ≤ 7 ∧ c.presThr ≤ 255 ∧ c.corruptMax ≤ 255 ∧
      1 ≤ c.poolCount ∧ c.poolBase + c.poolCount ≤ 4096 ∧ c.stripMargin ≤ 64) &&
    inRange 1 64 c.stripLines && inRange 1 16384 c.stripWidth && inRange 1 64 c.asmLatency &&
    (if c.mode = 1 then inRange 1 0xFFFFFFFF c.segLen else inRange 1 64 c.closeGap) &&
    (c.mode != 2 || decide (c.cropMargin ≤ 64 ∧ c.ttaOps ≤ 15 ∧ c.ttaJitter ≤ 6553) && inRange 1 8 c.ttaViews) &&
    (!c.striped || decide (c.haloL ≤ 256 ∧ c.haloR ≤ 256) && inRange 2 8 c.stripeHold && (c.left.getD 0 < 2 ^ 18 && c.right.getD 0 < 2 ^ 18))

/-- The distinct values of a list. -/
def distinct (l : List Nat) : List Nat := l.eraseDups

/-- The colour-filter descriptor of a port with pixel format `fmt` (R268): field ranges; the used positions hold codes 1 to 5, the others 0; at most four codes; an
RGB8 or BGR8 port has its one descriptor. -/
def PortImg.cfaOk (g : PortImg) (fmt : Nat) : Bool :=
  let used := (List.range g.sens).flatMap (fun s => (List.range (2 ^ g.cper)).map (fun c => g.code.getD (4 * s + c) 0))
  let other := (List.range 16).filter (fun i => !(decide (i / 4 < g.sens ∧ i % 4 < 2 ^ g.cper)))
  inRange 1 4 g.sens && decide (g.cper ≤ 2) && used.all (inRange 1 5) && other.all (fun i => g.code.getD i 0 == 0) && g.ld.all (fun l => decide (l ≤ 15)) &&
    decide ((distinct used).length ≤ 4) && (decide (fmt < 3) || (used == [1, 2, 3] && g.ld.all (· == 0)))

/-- A list that never falls. -/
def rising (l : List Nat) : Bool := match l with | a :: b :: r => decide (a ≤ b) && rising (b :: r) | _ => true

/-- The ranges of the corrections (R266, R267, R271, R272), and the restrictions that a Basic record keeps and an Expert record lifts (R273). -/
def PortImg.corrOk (g : PortImg) (expert : Bool) : Bool :=
  decide (g.defects.length ≤ 256) && g.defects.all (fun x => decide (x.1 < 2 ^ 14 ∧ x.2 ≤ 3)) && g.black.all (fun x => decide (x.2 < 2 ^ 16)) &&
    g.gain.all (fun x => decide (x.2 ≤ if expert then 0xFFFF else 0x8000)) && g.offs.all (fun x => decide (-32768 ≤ x.2 ∧ x.2 ≤ 32767)) &&
    g.ccm.all (fun m => decide (m.natAbs ≤ if expert then 32768 else 16384)) && g.ccmO.all (fun m => decide (-32768 ≤ m ∧ m ≤ 32767)) &&
    g.luts.all (fun x => x.2.all (fun v => decide (v < 2 ^ 16)) && (expert || rising x.2)) && decide (g.expoAddr.length ≤ 4)

/-- The outputs of a group (R263, R274, R275, R276). -/
def GroupOut.ok (c : GroupOut) : Bool :=
  inRange 256 8192 c.frameLines && c.frameLines % 2 == 0 &&
    decide (c.mv.length ≤ 8) && c.mv.all (fun e => decide (e.1 ≤ 7 ∧ e.2.1 ≤ 3 ∧ e.2.2.1 ≤ 3 ∧ (e.2.2.1 < 2 ∨ (-8 ≤ e.2.2.2 ∧ e.2.2.2 ≤ 8)))) &&
    (match c.disp with | some (_, dx, dy) => ([1, 2, 4, 8, 16] : List Nat).contains dx && inRange 1 64 dy | none => true) &&
    (match c.coding with | some (_, n) => inRange 2 8 n | none => true)

/-- The settings of an entry of the board equalisation table at one rate (R391). -/
def EqSet.ok (e : EqSet) : Bool :=
  decide (e.pre.natAbs ≤ 15 ∧ e.post.natAbs ≤ 15 ∧ e.main ≤ 63 ∧ e.pre.natAbs + e.main + e.post.natAbs ≤ 63 ∧ e.ctle ≤ 15)

/-- The rules of a content by itself (R19): of registers, lanes (R127, R172), pipelines (R268, R273 to R276), class maps and tolerances (R339), rules (R312), regions (R191, R194),
sections (R184), barriers (R218), contexts (R228), the equalisation table (R391), groups (R394). -/
def itemOk (expert : Bool) (c : RecItem) : Bool :=
  match c with
  | .reg off v => regItemOk off v
  | .lane n c => decide (n ≤ 31) && c.ok
  | .image p c => decide (p ≤ 7) && c.corrOk expert
  | .outputs g c => decide (g ≤ 7) && c.ok
  | .tolerance r s c =>
    decide (r ≤ 15 ∧ s < 65536 ∧ c.lane ≤ 31) && isFin32 c.abs && (decide (c.abs < 2 ^ 31) || c.abs == 2 ^ 31) && (decide (c.rel ≤ 0x3F800000) || c.rel == 2 ^ 31)
  | .classMap r l => decide (r ≤ 15) && l.all (fun v => (List.range 4).all (fun i => bits (8 * i + 5) (8 * i) v != 0))
  | .rule k r =>
    decide (k ≤ 255 ∧ r.lane ≤ 31 ∧ r.target ≤ 63 ∧ r.action ≤ 2 ∧ r.anchor ≤ 2 ∧ r.offset < 2 ^ 40 ∧ r.col0 ≤ r.col1 ∧ r.col1 ≤ 16383 ∧ r.lead ≤ 50000 ∧
      (if expert then 80 else 100) ≤ r.margin ∧ r.margin ≤ 50000) && (r.action != 2 || decide (100 ≤ r.width ∧ r.width ≤ 1000000))
  | .remote k c => decide (k ≤ 63 ∧ c.dest ≤ 15 ∧ c.bank < 2 ^ 16 ∧ c.valve ≤ 255) && inRange 100 10000 c.advance
  | .layer l => decide (l.recipe ≤ 15) && l.ok
  | .stemData r _ len => decide (r ≤ 15 ∧ len ≤ 491520)
  | .region r => decide (r.kind ≤ 10 ∧ r.recipe ≤ 15) && (decide (2 < r.kind) || decide (r.copy2 % 16 = (r.base + 8) % 16))
  | .section_ c => inRange 1 4096 c.period && decide (c.owner ≤ 20)
  | .barrier _ i _ _ => decide (i ≤ 63)
  | .aux n a => decide (n ≤ 15 ∧ 1 ≤ a.groups ∧ a.save ≤ 33554432 ∧ a.load ≤ 33554432 ∧ a.remap ≤ 2 ∧ a.hosts.length ≤ 4)
  | .regGroups r n => decide (r ≤ 15 ∧ n ≤ 8)
  | .twlPort p c => decide (p ≤ 3 ∧ c.maxRate ≤ 3 ∧ c.minRate ≤ 3) && (c.timeout == 0 || decide (10 ≤ c.timeout ∧ c.timeout ≤ 5000))
  | .eqEntry i l => decide (i < 2 ^ 16) && l.all EqSet.ok
  | .eqPort p rate e => expert && decide (p ≤ 3 ∧ rate ≤ 3 ∧ e.pre.natAbs ≤ 15 ∧ e.post.natAbs ≤ 15 ∧ e.main ≤ 63 ∧ e.ctle ≤ 15)
  | .timing _ _ => expert
  | .known ls _ => decide (ls.length ≤ 64)
  | .group m g _ => decide (1 ≤ m) && (g == 0 || decide (100 ≤ g ∧ g ≤ 1000))
  | _ => true

/-! ### The parsed content of an image -/

/-- Two ranges do not meet. -/
def apart (a b : Nat × Nat) : Bool := decide (a.1 + a.2 ≤ b.1 ∨ b.1 + b.2 ≤ a.1)

/-- Every pair of a list. -/
def pairsAll {A : Type} (p : A → A → Bool) (l : List A) : Bool :=
  match l with | [] => true | x :: r => r.all (p x) && pairsAll p r

/-- The last value that the records state for a register. -/
def regIn (items : List RecItem) (off dflt : Nat) : Nat :=
  items.foldl (fun a c => match c with | .reg o v => if o = off then v else a | _ => a) dflt

/-- The lanes. -/
def laneRecs (items : List RecItem) : List (Nat × LaneCfg) := items.filterMap (fun c => match c with | .lane n l => some (n, l) | _ => none)

/-- The configured ports. -/
def portRecs (items : List RecItem) : List (Nat × Nat) :=
  (List.range 8).filterMap (fun p => let v := regIn items (rCXP_PORT + 4 * p) 0; if bit 31 v then some (p, v) else none)

/-- The defined registration groups. -/
def groupRecs (items : List RecItem) : List (Nat × Nat) :=
  (List.range 8).filterMap (fun g => let v := regIn items (rRGN_GRP + 4 * g) 0; if bit 31 v then some (g, v) else none)

/-- INSP_GROUPS. -/
def inspRec (items : List RecItem) : Nat := regIn items rCTX_PART 16 % 32

/-- The first lane of a port and how many it uses. -/
def portLanes (v : Nat) : Nat × Nat := (bits 21 16 v, 2 ^ bits 13 12 v)

/-- R243: a port's first lane is a multiple of its connections, its lanes are ingest channels of the die (R242), and ports share none. -/
def portsOk (die : Die) (paired : Bool) (items : List RecItem) : Bool :=
  let ps := (portRecs items).map (fun p => portLanes p.2)
  let base := if !paired && die == .b then 16 else 0
  ps.all (fun p => p.1 % p.2 == 0 && decide (base ≤ p.1 ∧ p.1 + p.2 ≤ base + 16)) && pairsAll apart ps

/-- R249: the masks of two groups do not meet; every configured port lies in one group; a group's ports have one WIDTH; a lane names the ports and the encoder of one. -/
def groupsOk (items : List RecItem) : Bool :=
  let gs := (groupRecs items).map (fun g => (g.1, bits 23 16 g.2, bits 26 24 g.2))
  let ps := (portRecs items).map (·.1)
  pairsAll (fun (a b : Nat × Nat × Nat) => (a.2.1 &&& b.2.1) == 0) gs && ps.all (fun p => gs.any (fun g => bit p g.2.1)) &&
    gs.all (fun g => pairsAll (fun (a b : Nat) => a == b) ((ps.filter (fun p => bit p g.2.1)).map (fun p => bits 14 0 (regIn items (rCXP_LINE + 4 * p) 0)))) &&
    (laneRecs items).all (fun l => (gs.filter (fun g => g.2.1 == l.2.ports)).length == 1 && gs.all (fun g => g.2.1 != l.2.ports || g.2.2 == l.2.encoder))

/-- R286, R252: a group's encoder, a capture unit's channel and the emulated output's source are channels that the die samples, in Paired mode one of 0 to 3, and
there no record is one of channels 4 to 7. R300: the limits of every channel, and its preset between them. -/
def encodersOk (die : Die) (paired : Bool) (items : List RecItem) : Bool :=
  let own (c : Nat) : Bool := if paired then decide (c ≤ 3) else c / 4 == die.num
  let s64 (off lo hi : Nat) : Int := toSigned 64 (regIn items off lo + 2 ^ 32 * regIn items (off + 4) hi)
  (groupRecs items).all (fun g => own (bits 26 24 g.2)) &&
    (List.range 8).all (fun k => let v := regIn items (rPOS_CAP_CFG + 4 * k) 0; bits 6 4 v == 0 || own (bits 2 0 v)) &&
    (let v := regIn items rPOS_EMU_CFG 0; !bit 0 v || own (bits 3 1 v)) &&
    items.all (fun c => match c with
      | .reg off _ => !paired || off / 0x10000 != 10 || (match posChan (off % 0x10000) with | some c => decide (c ≤ 3) | none => true)
      | _ => true) &&
    (List.range 8).all (fun c =>
      let lo := s64 (rPOS_LIMIT_LO_LO + 8 * c) 1 0x80000000
      let hi := s64 (rPOS_LIMIT_HI_LO + 8 * c) 0xFFFFFFFF 0x7FFFFFFF
      let p := s64 (rPOS_PRESET_LO + 8 * c) 0 0
      decide (lo < hi ∧ lo ≤ p ∧ p ≤ hi))

/-- The configured ports of a group. -/
def portsIn (items : List RecItem) (g : Nat) : List (Nat × Nat) :=
  (portRecs items).filter (fun p => (groupRecs items).any (fun x => x.1 == g && bit p.1 (bits 23 16 x.2)))

/-- R257: the delay stores hold no more than 8 MiB of lines, and no port lies more than 2,048 lines behind the largest offset of its group. -/
def storesOk (items : List RecItem) : Bool :=
  let sens (p : Nat) : Nat := items.foldl (fun a c => match c with | .image q g => if q = p then g.sens else a | _ => a) 1
  let line (p : Nat × Nat) : Nat := colBytes (bits 2 0 p.2) (bits 14 0 (regIn items (rCXP_LINE + 4 * p.1) 0)) (samplesOf (bits 2 0 p.2) (sens p.1))
  let offset (p : Nat × Nat) : Nat := regIn items (rRGN_OFFSET + 4 * p.1) 0
  decide (((portRecs items).map (fun p => regIn items (rRGN_DEPTH + 4 * p.1) 0 * line p)).foldl (· + ·) 0 ≤ 2 ^ 23) &&
    (groupRecs items).all (fun g =>
      let ps := portsIn items g.1
      ps.all (fun p => ps.all (fun q => decide ((offset q - offset p) * 65536 ≤ 2048 * regIn items (rRGN_PITCH + 4 * g.1) 0x10000))))

/-- Entries of a Line Slot Table from cycle `t` on: each begins after the one before it has ended, and ends by cycle 19,999 (R260). -/
def slotRun (cycles : Nat → Nat) (t : Nat) (l : List (Nat × Nat)) : Bool :=
  match l with
  | [] => true
  | e :: r => decide (e.1 ≤ 7 ∧ t ≤ e.2 ∧ e.2 + cycles e.1 ≤ 20000) && slotRun cycles (e.2 + max 1 (cycles e.1)) r

/-- R260: the Line Slot Tables, of at most 64 entries; an entry of a group of n ports and width W lasts n times ceil(W / 20) cycles. -/
def slotsOk (items : List RecItem) : Bool :=
  let cycles (g : Nat) : Nat := ((portsIn items g).map (fun p => (bits 14 0 (regIn items (rCXP_LINE + 4 * p.1) 0) + 19) / 20)).foldl (· + ·) 0
  items.all (fun c => match c with | .lineSlots _ l => decide (l.length ≤ 64) && slotRun cycles 0 l | _ => true)

/-- A lane against its group (R127, R134): PRES_CH names a channel of the machine-vision list, PRES_THR is no NaN code of an FP8 channel, SEG_LEN is at most 4,096 trigger
pitches; and its fields T are those of the recipe. -/
def laneOk (items : List RecItem) (l : Nat × LaneCfg) : Bool :=
  (groupRecs items).all (fun g =>
    bits 23 16 g.2 != l.2.ports ||
      (items.all (fun c => match c with
        | .outputs k o =>
          k != g.1 || (match o.mv[l.2.presCh]? with
            | none => false
            | some e => decide (e.2.2.1 < 2) || decodeF (if e.2.2.1 = 2 then fmtE4M3 else fmtE5M2) l.2.presThr != .nan)
        | _ => true) &&
       (l.2.mode != 1 || decide (65536 * l.2.segLen ≤ 4096 * regIn items (rRGN_PITCH + 4 * g.1) 0x10000)))) &&
    items.all (fun c => match c with
      | .recipeLane r n a b w s => r != l.2.recipe || n != l.1 || decide (l.2.stripLines = a ∧ l.2.stripMargin = b ∧ l.2.stripWidth = w ∧ l.2.asmLatency = s)
      | _ => true)

/-- R236, R143: one recipe for the lanes, disjoint slot pools; and every lane by itself. -/
def lanesOk (items : List RecItem) : Bool :=
  pairsAll (fun (a b : Nat × LaneCfg) => a.2.recipe == b.2.recipe && apart (a.2.poolBase, a.2.poolCount) (b.2.poolBase, b.2.poolCount)) (laneRecs items) &&
    (laneRecs items).all (laneOk items)

/-- R26, R312: a rule names a lane that the die ingests and, in Split, an output the die owns, or a remote target that is defined. -/
def rulesOk (die : Die) (paired : Bool) (items : List RecItem) : Bool :=
  let here (n : Nat) : Bool := (laneRecs items).any (fun l => l.1 == n && (portRecs items).any (fun p => bit p.1 l.2.ports))
  items.all (fun c => match c with
    | .rule _ r =>
      (paired || here r.lane) &&
        (if r.remote then items.any (fun c => match c with | .remote k _ => k == r.target | _ => false)
         else paired || bit 4 (regIn items (rNIB_OUT_CFG + 4 * r.target) 0) == (die == .b))
    | _ => true)

/-- R268 of every port's descriptor, with the port's pixel format. -/
def imagesOk (items : List RecItem) : Bool :=
  items.all (fun c => match c with | .image p g => g.cfaOk (bits 2 0 (regIn items (rCXP_PORT + 4 * p) 0)) | _ => true)

/-- R194: regions, second copies included, are disjoint and lie within 30 GiB; and the records' timing set is the one every Memory Timetable section was compiled
against (R178). The hash is taken over the values in 4-byte little-endian words (DESIGN CHOICE, log entry 5). -/
def timingRecs (items : List RecItem) : List Nat :=
  let base := items.foldl (fun t c => match c with | .speedGrade e => Config.timingSet e | _ => t) []
  items.foldl (fun t c => match c with | .timing i v => t.set i v | _ => t) base

/-- The timing set's hash. -/
def timingHash (t : List Nat) : List Byte := sha384 (t.flatMap (leBytes 4))

/-- R178, R194. -/
def memoryOk (items : List RecItem) : Bool :=
  let regions := items.filterMap (fun c => match c with | .region r => some r | _ => none)
  let spans := regions.flatMap (fun r => if r.kind ≤ 2 then [(r.base, r.len), (r.copy2, r.len)] else [(r.base, r.len)])
  pairsAll apart spans && spans.all (fun s => decide (960 * (s.1 + s.2) ≤ 30 * 2 ^ 30)) &&
    items.all (fun c => match c with | .section_ s => s.hash == timingHash (timingRecs items) | _ => true)

/-- The STT entries that are valid: the context (that of a program set as 32 + its number), the segment, the entry. -/
def sttRecs (items : List RecItem) : List (Nat × Nat × Nat) :=
  items.filterMap (fun c => match c with
    | .stt s g v => if bit 31 v then some (32 + s, g, v) else none
    | .reg off v =>
      if inRegs rSYN_STT 4 5120 off ∧ bit 31 v then some ((off - rSYN_STT) / 1024, (off - rSYN_STT) / 4 % 256, v) else none
    | _ => none)

/-- The rules of the STTs. R205: two entries of a context name two virtual tiles, and the Quill's never write. R206: another context's entry names no tile of P2 that
has private words alone. R207: a context in P2 writes no word that a P1 context owns. -/
def sttsOk (items : List RecItem) : Bool :=
  let es := sttRecs items
  let insp := inspRec items
  let res (v : Nat) : List Nat := (List.range 4).map (fun i => bits (5 * i + 4) (5 * i) (regIn items (rSYN_RES + 4 * v) 0xFFFFF))
  pairsAll (fun (a b : Nat × Nat × Nat) => a.1 != b.1 || a.2.1 == b.2.1 || bits 7 0 a.2.2 != bits 7 0 b.2.2) es &&
    es.all (fun e =>
      let v := bits 7 0 e.2.2
      let p1 := decide (v / 16 < insp)
      let aux := inRange 2 17 e.1
      !(e.1 == 19 && bit 30 e.2.2) && (p1 || aux || (res v).any (· != 31)) &&
        !(aux && bit 30 e.2.2 && (p1 || (res v).any (fun o => decide (o ≤ 1)))))

/-- R218: no index is defined twice, by the barriers of an inspection set or beside them by those of another context. -/
def barriersOk (items : List RecItem) : Bool :=
  let bars := items.filterMap (fun c => match c with | .barrier s i _ _ => some (s, i) | _ => none)
  let others := items.filterMap (fun c => match c with
    | .reg off v => if inRegs rSYN_BAR 4 64 off ∧ bit 13 v then some ((off - rSYN_BAR) / 4) else none
    | _ => none)
  pairsAll (fun (a b : Nat × Nat) => a != b) bars && pairsAll (fun (a b : Nat) => a != b) others && bars.all (fun b => !others.contains b.2)

/-- The partitions. R225: INSP_GROUPS from 1 to 16, that of every resident recipe, with REG_GROUPS at most 16; R228: contexts fit P2 and have their save areas. -/
def contextsOk (items : List RecItem) : Bool :=
  let insp := inspRec items
  let resident (r : Nat) : Bool := items.contains (.resident r)
  inRange 1 16 insp &&
    items.all (fun c => match c with
      | .recipeGroups r g => !resident r || g == insp
      | .regGroups r g => !resident r || decide (insp + g ≤ 16)
      | .aux n a => decide (a.groups ≤ 16 - insp) && items.any (fun c => match c with | .saveArea k _ _ => k == n | _ => false)
      | _ => true)

/-- The network. R366: at most 4 destinations carry result frames. R376: per port, the frames of a set leave in half the period. -/
def netOk (items : List RecItem) : Bool :=
  let cfg := regIn items rNET_RES_CFG 0x64014
  let results := (List.range 16).filterMap (fun k =>
    let v := regIn items (rNET_DEST + 4 * k) 0
    if bit 31 v && bits 1 0 v != 1 then some (bits 4 3 v) else none)
  decide (results.length ≤ 4) &&
    (List.range 2).all (fun p => decide ((bits 26 22 cfg + 1) * (results.filter (fun r => r == p || r == 2)).length * 13 * 2 ≤ 25 * bits 11 0 cfg))

/-- R402: a table that names an external port of the die names a configured one. R391: at most 64 entries. -/
def twillOk (die : Die) (items : List RecItem) : Bool :=
  let ports := items.filterMap (fun c => match c with | .twlPort p _ => some p | _ => none)
  let route (off : Nat) : Bool :=
    let v := regIn items off 0xDB6DB6
    (List.range 8).all (fun j => let c := bits (3 * j + 2) (3 * j) v; decide (3 < c) || (portDie c != die) || ports.contains c)
  (List.range 16).all (fun k => route (rTWL_ROUTE_R + 4 * k)) && (List.range 256).all (fun k => route (rTWL_ROUTE_N + 4 * k)) &&
    decide ((items.filter (fun c => match c with | .eqEntry _ _ => true | _ => false)).length ≤ 64)

end Sys2Proof.Machine
end

