-- ==== Sys2Proof/Machine/Flags.lean ====
section
/-! DEFINITION. Numeric flags of the Tile Array and the record of tile faults (R83, R111). -/

namespace Sys2Proof.Machine

/-- A numeric event of tile `p` in step `st` sets flag `b` of TAR_NUM_STATUS; the first since all were clear goes to TAR_NUM_FIRST
(R83). Clearing TAR_NUM_STATUS leaves the record, VALID with it, until the next event: the spec does not say that it falls (DESIGN CHOICE, log entry 39). -/
def DieState.numFlag (d : DieState) (p b st : Nat) : DieState :=
  let d :=
    if d.rd rTAR_NUM_STATUS = 0 then
      (d.wr rTAR_NUM_FIRST (0x80000000 + b * 0x10000 + p)).wr64 rTAR_NUM_FIRST_STEP_LO st
    else d
  d.raise rTAR_NUM_STATUS b

/-- Events stand by cycle, then by tile; those of one tile and cycle in the order in which their operation meets them: the flags of reading an
accumulator before those of writing the output, by column (the spec does not say which of them TAR_NUM_FIRST names; DESIGN CHOICE, log entry 39). -/
def insertEv (x : TarEv) (l : List TarEv) : List TarEv :=
  match l with
  | [] => [x]
  | y :: r => if x.at_ < y.at_ ∨ (x.at_ = y.at_ ∧ x.tile < y.tile) then x :: y :: r else y :: insertEv x r

/-- An event of an operation is noted with its cycle (R83, R187). -/
def DieState.noteEvent (d : DieState) (x : TarEv) : DieState := { d with tar := { d.tar with events := insertEv x d.tar.events } }

/-- An event enters its register. -/
def DieState.takeEvent (d : DieState) (x : TarEv) : DieState :=
  match x.flag with
  | some b => d.numFlag x.tile b (x.at_ / 20000)
  | none => d.raise rMEM_STATUS 2

/-- The events of the cycles before `t` enter their registers, in their order. They do so when a tile faults, at a step boundary and before a register
access (DESIGN CHOICE, log entry 14). -/
def DieState.takeEvents (d : DieState) (t : Nat) : DieState :=
  let due := d.tar.events.filter (fun x => decide (x.at_ < t))
  due.foldl DieState.takeEvent { d with tar := { d.tar with events := d.tar.events.filter (fun x => !decide (x.at_ < t)) } }

/-- A context is to be reset at the next step boundary (R111, R210, R36). -/
def DieState.resetCtx (d : DieState) (c : Nat) : DieState :=
  if d.ctx.resets.contains c then d else { d with ctx := { d.ctx with resets := d.ctx.resets ++ [c] } }

/-- The record of a tile fault in active cycle `now` (R111): TAR_FAULT if it holds none, the count, Inkwell, and the reset of the context. -/
def DieState.recordFault (d : DieState) (p now code pc : Nat) : DieState :=
  let d := d.takeEvents now
  let d := d.count rTAR_FAULT_COUNT 1
  let d := d.hist (12 + d.die.num) code
  let d :=
    if d.flag rTAR_FAULT 31 then d
    else
      let d := d.wr rTAR_FAULT (code * 0x1000000 + d.pidOf p * 0x200000 + p)
      let d := (d.wr rTAR_FAULT_PC (pc % 2 ^ 15)).wr64 rTAR_FAULT_STEP_LO d.seq.step
      d.raiseWith rTAR_FAULT 31 (some (32 + code)) (leBytes 4 (d.rd rTAR_FAULT) ++ leBytes 4 (d.rd rTAR_FAULT_PC))
  d.resetCtx (d.ctxOf p)

end Sys2Proof.Machine
end

