-- ==== Sys2Proof/Machine/TileIssue.lean ====
section
/-! DEFINITION. How a tile issues a bundle (R92 to R100, R111, R114): the header, the fetch, loops, bank use, accesses to
tile SRAM, and what a fault undoes. Each slot operation is a function on `TEnv` that answers the tile after it, or the
code of a tile fault. -/

namespace Sys2Proof.Machine

/-- What a slot operation sees: the die, the physical tile, the active cycle since step 0, the tile's slot, memory with
the stores so far. -/
structure TEnv where
  d : DieState
  p : Nat
  now : Nat
  slot : TileSlot
  mem : List Host.Cell
  stores : List Host.Cell

/-- The tile of an environment. -/
def TEnv.t (e : TEnv) : Tile := e.slot.cur

/-- An environment with its tile changed. -/
def TEnv.withT (e : TEnv) (t : Tile) : TEnv := { e with slot := { e.slot with cur := t } }

/-- Tile fault codes (R111). -/
def fIllegal : Nat := 1
/-- SLOT_BUSY. -/
def fSlotBusy : Nat := 2
/-- REGION. -/
def fRegion : Nat := 3
/-- BANK_CONFLICT. -/
def fBank : Nat := 4
/-- STEP_OVERRUN. -/
def fStepOverrun : Nat := 5
/-- STROKE_LEN. -/
def fStrokeLen : Nat := 6
/-- LOOP. -/
def fLoop : Nat := 7
/-- NET_EMPTY. -/
def fNetEmpty : Nat := 8
/-- NET_DROP. -/
def fNetDrop : Nat := 9

/-- The next bundle after bundle `pc` under the loops being run (R97, R110). -/
def nextPc (pc : Nat) (loops : List LoopFrame) : Nat × List LoopFrame :=
  match loops with
  | [] => (pc + 1, [])
  | f :: r =>
    if f.last = pc then (if f.left = 0 then nextPc pc r else (f.first, { f with left := f.left - 1 } :: r))
    else (pc + 1, f :: r)

/-- In a handover cycle the two banks of one pair belong to the copy (R114). -/
def bankReserved (cycle bank : Nat) : Bool :=
  let c := cycle % 20000
  decide (c % 16 = 15 ∧ bank / 2 = c / 16 % 16)

/-- A tile uses bank `bank` in active cycle `cycle`: a second use, or a reserved bank, is BANK_CONFLICT (R92, R114). -/
def Tile.useBank (t : Tile) (cycle bank : Nat) : Except Nat Tile :=
  if bankReserved cycle bank || t.banks.contains (cycle, bank) then .error fBank
  else .ok { t with banks := (cycle, bank) :: t.banks }

/-- A tile uses the banks of `n` lines from line `l` on, all in one cycle. -/
def Tile.useLines (t : Tile) (cycle l n : Nat) : Except Nat Tile :=
  match n with
  | 0 => .ok t
  | k + 1 =>
    match t.useBank cycle (l % 32) with
    | .ok t => t.useLines cycle (l + 1) k
    | .error f => .error f

/-- The banks of the bytes [a, a + n) in one cycle; `n` is not 0. -/
def Tile.useBytes (t : Tile) (cycle a n : Nat) : Except Nat Tile := t.useLines cycle (a / 32) ((a + n - 1) / 32 + 1 - a / 32)

/-- Results whose cycle has come are written to their vector registers, or to SD (register 32), in the order of their cycles (`later` keeps them so). -/
def Tile.settle (t : Tile) (now : Nat) : Tile :=
  t.pend.foldl (fun t w =>
      if w.due ≤ now then
        if w.reg = 32 then { t with sd := tget w.lanes 0 t.sd }
        else { t with v := tset t.v w.reg (w.lanes.foldl (fun r l => tset r l.1 l.2) (tget t.v w.reg [])) }
      else { t with pend := t.pend ++ [w] })
    { t with pend := [] }

/-- Header bits (R96): STEP, SST, SEN, FS, and the reserved four. -/
def hStep (h : Nat) : Bool := bit 7 h
/-- SST. -/
def hSst (h : Nat) : Bool := bit 6 h
/-- SEN. -/
def hSen (h : Nat) : Bool := bit 5 h
/-- FS. -/
def hFs (h : Nat) : Bool := bit 4 h

/-- The Stroke after a bundle with header `h` issued at `now` (R96, R99): the start of an open Stroke, or a fault. -/
def strokeAfter (h now : Nat) (open_ : Option Nat) : Except Nat (Option Nat) :=
  if h % 16 ≠ 0 then .error fIllegal
  else if (match open_ with | some s => decide (s + 64000 ≤ now) | none => false) then .error fStrokeLen
  else if hSst h && open_.isSome then .error fIllegal
  else
    let o := if hSst h then some now else open_
    if hSen h && (o.isNone || !hFs h) then .error fIllegal
    else .ok (if hSen h then none else o)

/-- The bundle at the tile's bundle counter, as its program memory holds it (R95). -/
def bundleInMem (mem : List Host.Cell) (base : Nat) (t : Tile) : Nat := leNat (memRead mem (base + 1024 * t.regions.prog.1 + 16 * t.pc) 16)

/-- The opcodes of a bundle's four slots are none of those reserved (R95, R101, R104, R106, R110): MAC 0x0A and above, VPU 0x13 and above, WAG 0x09 and
above, control 0x0A and above, and SYNC operations 5 to 7. -/
def opcodesKnown (w : Nat) : Bool :=
  decide (bits 119 115 w ≤ 0x09 ∧ bits 87 83 w ≤ 0x12 ∧ bits 55 51 w ≤ 0x08 ∧ bits 23 19 w ≤ 0x09 ∧ (bits 23 19 w = 4 → bits 18 16 w ≤ 4))

/-- The tile issues the bundle `w` at its bundle counter in cycle `now` with header `h`: fetch (R92 to R94), header rules, reserved
opcodes, next bundle. Context control stops a tile of a STOPPING context after a bundle with SEN (R231). -/
def issueBundle (t : Tile) (now h w : Nat) (stopping : Bool) : Except Nat Tile :=
  let a := 1024 * t.regions.prog.1 + 16 * t.pc
  if 32767 < t.pc ∨ !t.regions.allows .fetch a 16 then .error fRegion
  else
    match t.useBytes now a 16 with
    | .error f => .error f
    | .ok t =>
      if !opcodesKnown w then .error fIllegal
      else match strokeAfter h now t.stroke with
      | .error f => .error f
      | .ok o =>
        let n := nextPc t.pc t.loops
        .ok { t with pc := n.1, loops := n.2, ready := now + 1, wait := .none, hdr := h, stroke := o,
                     stat := if stopping && hSen h then .switched else t.stat }

/-- The header of the bundle at the tile's bundle counter, in its program memory (R95). -/
def hdrInMem (mem : List Host.Cell) (base : Nat) (t : Tile) : Nat := bits 127 120 (bundleInMem mem base t)

/-- Waits that have run out by `now` are over (R110, R211, R220). -/
def Tile.wake (t : Tile) (now : Nat) : Tile :=
  match t.wait with
  | .timer => if t.ready ≤ now then { t with wait := .none } else t
  | .sync _ _ _ _ _ _ (some r) => if r ≤ now then { t with wait := .none, ready := r } else t
  | .bar _ _ _ _ _ _ (some r) => if r ≤ now then { t with wait := .none, ready := r } else t
  | _ => t

/-- The bundles without an operation that the tile issues before `now` (DEDUCED, log entry 13): their headers are read from its
program memory; a STEP bundle waits for the boundary (R98). The fault code stands with the tile that met it. -/
def gapBundles (mem : List Host.Cell) (base now : Nat) (stopping : Bool) (fuel : Nat) (t : Tile) : Tile × Option Nat :=
  match fuel with
  | 0 => (t, none)
  | k + 1 =>
    let t := t.wake now
    if t.stat ≠ .running ∨ t.wait ≠ .none ∨ now ≤ t.ready then (t, none)
    else
      let h := hdrInMem mem base t
      if hStep h && t.ready % 20000 != 0 then ({ t with wait := .step }, none)
      else
        match issueBundle t t.ready h (bundleInMem mem base t) stopping with
        | .ok t' => gapBundles mem base now stopping k t'
        | .error f => (t, some f)

/-- The context of a tile is STOPPING (R231). -/
def DieState.stopping (d : DieState) (p : Nat) : Bool :=
  let c := d.ctxOf p
  decide (2 ≤ c ∧ c ≤ 17 ∧ d.fld (rCTX_AUX + 4 * (c - 2)) 2 0 = 4)

/-- The die with a tile's slot replaced. -/
def DieState.setSlot (d : DieState) (p : Nat) (s : TileSlot) : DieState :=
  { d with tar := { d.tar with tiles := tset d.tar.tiles p s } }

/-- The slot of a physical tile. -/
def DieState.slotOf (d : DieState) (p : Nat) : TileSlot := tget d.tar.tiles p slot0

/-- What the bundle that tile `p` issued in cycle `born` has under way is withdrawn (R111): its transfers, its sync operations and arrivals, and its events. -/
def DieState.withdraw (d : DieState) (p born : Nat) : DieState :=
  let v := d.vtileOf p
  { d with
    tar := { d.tar with
      net := d.tar.net.filter (fun x => !(x.src == v && x.due == born + 48))
      events := d.tar.events.filter (fun x => !(x.tile == p && x.born == born)) }
    syn := { d.syn with
      ops := d.syn.ops.filter (fun o => !(o.ptile == p && o.reach == born + 16))
      arrs := d.syn.arrs.filter (fun o => !(o.ptile == p && o.reach == born + 16)) } }

/-- A tile faults in active cycle `now`: no slot of the bundle takes effect, what it had under way is withdrawn, the tile
stops and the fault is recorded (R111). The stores undo what the bundle wrote. (DEDUCED, log entry 23.) -/
def faultTile (d : DieState) (p now code : Nat) (s : TileSlot) : DieState × List Host.Cell :=
  let d := d.withdraw p now
  let d := { d with
    mem := match s.undoS with
      | some (k, st) => { d.mem with streams := tset d.mem.streams k st }
      | none => d.mem }
  let d := d.setSlot p { s with cur := { s.pre with stat := .stopped }, undo := [], undoS := none }
  ((d.recordFault p now code s.pcAt).mirrorSram now s.undo, s.undo)

/-! ### Accesses to tile SRAM -/

/-- Use the banks of [a, a + n) in `cycle`. -/
def TEnv.use (e : TEnv) (cycle a n : Nat) : Except Nat TEnv :=
  match e.t.useBytes cycle a n with
  | .ok t => .ok (e.withT t)
  | .error f => .error f

/-- Read `n` bytes at tile address `a` in `cycle` (R92 to R94). -/
def TEnv.read (e : TEnv) (k : Access) (cycle a n : Nat) : Except Nat (TEnv × List Byte) :=
  if !e.t.regions.allows k a n then .error fRegion
  else
    match e.use cycle a n with
    | .ok e => .ok (e, memRead e.mem (sramBase e.d.die e.p + a) n)
    | .error f => .error f

/-- Store bytes to tile SRAM without asking for a bank. -/
def TEnv.put (e : TEnv) (a : Nat) (bs : List Byte) : TEnv :=
  let ws := cellsAt (sramBase e.d.die e.p + a) bs
  { e with
    d := e.d.mirrorSram e.now ws
    mem := memApply e.mem ws
    stores := e.stores ++ ws
    slot := { e.slot with undo := (ws.map (fun c => (c.1, memGet e.mem c.1))) ++ e.slot.undo } }

/-- In Paired mode the writes of WB, VST and VSTG enter the tile's CRC (R404): virtual tile, cycle-in-step, byte address, data. -/
def TEnv.signed (e : TEnv) (k : Access) (cycle a : Nat) (bs : List Byte) : TEnv :=
  if e.d.paired ∧ (k = .genS ∨ k = .vst ∨ k = .vstg) then
    e.withT { e.t with crc := crc64 e.t.crc (leBytes 2 (e.d.vtileOf e.p) ++ leBytes 2 (cycle % 20000) ++ leBytes 4 a ++ bs) }
  else e

/-- Write bytes at tile address `a` in `cycle` (R92 to R94). -/
def TEnv.write (e : TEnv) (k : Access) (cycle a : Nat) (bs : List Byte) : Except Nat TEnv :=
  if !e.t.regions.allows k a bs.length then .error fRegion
  else
    match e.use cycle a bs.length with
    | .ok e => .ok ((e.put a bs).signed k cycle a bs)
    | .error f => .error f

/-- Read `n` lines from address `a` on, one each cycle from `cycle`. -/
def TEnv.readLines (e : TEnv) (k : Access) (cycle a n : Nat) : Except Nat (TEnv × List (List Byte)) :=
  match n with
  | 0 => .ok (e, [])
  | m + 1 =>
    match e.read k cycle a 32 with
    | .error f => .error f
    | .ok (e, l) =>
      match e.readLines k (cycle + 1) (a + 32) m with
      | .error f => .error f
      | .ok (e, ls) => .ok (e, l :: ls)

/-- A reserved field or rule: ILLEGAL unless `c` holds. (DEDUCED, log entry 23.) -/
def need (c : Bool) : Except Nat Unit := if c then .ok () else .error fIllegal

/-- A unit must be idle: SLOT_BUSY otherwise (R97). -/
def idle (busy now : Nat) : Except Nat Unit := if busy ≤ now then .ok () else .error fSlotBusy

/-- An event of a bundle issued in cycle `born` is noted with its cycle; it enters its register once the bundle cannot fault any more (R83, R111). -/
def TEnv.event (e : TEnv) (born : Nat) (f : Option Nat) : TEnv := { e with d := e.d.noteEvent ⟨e.now, e.p, born, f⟩ }

/-- Numeric events of an operation of a bundle issued in cycle `born`. -/
def TEnv.flags (e : TEnv) (born : Nat) (fs : List Nat) : TEnv := fs.foldl (fun e b => e.event born (some b)) e

/-- The banks of `n` lines from address `a` on, one each cycle from `cycle`, are taken, the region asked for each (R92, R94, R114). -/
def TEnv.reserve (e : TEnv) (k : Access) (cycle a n : Nat) : Except Nat TEnv :=
  match n with
  | 0 => .ok e
  | m + 1 =>
    if !e.t.regions.allows k a 32 then .error fRegion
    else
      match e.use cycle a 32 with
      | .ok e => e.reserve k (cycle + 1) (a + 32) m
      | .error f => .error f

end Sys2Proof.Machine
end

