-- ==== Sys2Proof/Machine/Sync.lean ====
section
/-! DEFINITION. Full/empty words, counter pairs, barriers and waits (spec/08), and the control slot's operations on them. -/

namespace Sys2Proof.Machine

/-! ### Words -/

/-- Outcome codes (R210). -/
def oOk : Nat := 0
/-- POISON. -/
def oPoison : Nat := 1
/-- MISUSE. -/
def oMisuse : Nat := 2
/-- BOUND. -/
def oBound : Nat := 3
/-- UNMAPPED. -/
def oUnmapped : Nat := 4
/-- DENIED. -/
def oDenied : Nat := 5
/-- TIMEOUT. -/
def oTimeout : Nat := 6
/-- OVERRUN. -/
def oOverrun : Nat := 7

/-- The place of a word's data bits (R201). -/
def wordAddr (d : Die) (p i : Nat) : Nat := sramBase d p + 0x7FC00 + 4 * i

/-- The state code of word `i` of physical tile `p`: 0 EMPTY, 1 FULL, 2 POISON, 3 reserved. -/
def DieState.wordState (d : DieState) (p i : Nat) : Nat := tget d.syn.words (256 * p + i) 0

/-- A word's data bits. -/
def DM.wordData (x : DM) (p i : Nat) : Nat := leNat (memRead x.mem (wordAddr x.d.die p i) 4)

/-- A table of word states with one changed; EMPTY words are not listed. -/
def wordsSet (t : Tbl Nat) (k st : Nat) : Tbl Nat := if st = 0 then tdel t k else tset t k st

/-- Set a word's state; during a handover it is mirrored (R203). -/
def DieState.setWord (d : DieState) (p i st : Nat) : DieState :=
  ({ d with syn := { d.syn with words := wordsSet d.syn.words (256 * p + i) st } }).mirrorWord p i st (d.acyc d.seq.cycle)

/-- Store bytes in tile SRAM; during a handover they are mirrored (R118). -/
def DM.putSram (x : DM) (a : Nat) (bs : List Byte) : DM := (x.onD (fun d => d.mirrorSram (d.acyc d.seq.cycle) (cellsAt a bs))).put a bs

/-- Set a word's data. -/
def DM.putWord (x : DM) (p i v : Nat) : DM := x.putSram (wordAddr x.d.die p i) (leBytes 4 v)

/-- Set a word's state and data. -/
def DM.setWordData (x : DM) (p i st v : Nat) : DM := (x.onD (·.setWord p i st)).putWord p i v

/-- The owner context of word `i` of virtual tile `v` (R206). -/
def DieState.wordOwner (d : DieState) (v i : Nat) : Nat :=
  if 256 ≤ v then 18
  else if v / 16 < d.inspGroups then d.inspCtx
  else if i < 128 then (match d.auxOf (v / 16) with | some n => 2 + n | none => 31)
  else bits (5 * ((i - 128) / 32) + 4) (5 * ((i - 128) / 32)) (d.rd (rSYN_RES + 4 * v))

/-- The program set of recipe `r` that the die runs: the regrouped one in regrouped mode (R166). -/
def DieState.progSet (d : DieState) (r : Nat) : Nat := 2 * r + b2n (d.fld rSTM_MODE 1 0 == 1)

/-- The program set of an inspection context (R236, R238): that of INSP_CUR's recipe, or of INSP_NEXT's. -/
def DieState.setOf (d : DieState) (c : Nat) : Nat := d.progSet (if c = 1 then d.fld rCTX_CHG 7 4 else d.fld rCTX_CHG 3 0)

/-- The sync records of a context (R216): those of its program set for an inspection context. -/
def DieState.recsOf (d : DieState) (c : Nat) : List SyncRec :=
  if c ≤ 1 then d.syn.recs.filter (fun r => r.ctx == 0 && r.set == d.setOf c) else d.syn.recs.filter (·.ctx == c)

/-- The virtual tile that a sync record of context `c` means: a private word of an auxiliary context is named by its tile's place in the context, which is
counted from the first virtual group that the context holds (R206, R216). (DEDUCED, log entry 25.) -/
def DieState.recTile (d : DieState) (c : Nat) (r : SyncRec) : Nat :=
  let x := d.rd (rCTX_AUX + 4 * (c - 2))
  if 2 ≤ c ∧ c ≤ 17 ∧ r.vtile < 16 * bits 12 8 x ∧ r.word < 128 then 16 * bits 7 4 x + r.vtile else r.vtile

/-- The depth of the counter pair that word `i` of virtual tile `v` belongs to, if any (R223). -/
def DieState.pairDepth (d : DieState) (v i : Nat) : Option Nat :=
  let c := d.wordOwner v i
  ((d.recsOf c).find? (fun r => d.recTile c r == v && r.word == i / 2 * 2 && r.depth != 0)).map (·.depth)

/-- The answer of an operation on a word: outcome, and SD where it changes. -/
abbrev WordAns := DM × Nat × Option Nat

/-- A word in the reserved state is poisoned before the operation (R202). -/
def DM.fixReserved (x : DM) (p i : Nat) : DM :=
  if x.d.wordState p i = 3 then x.onD (fun d => (d.setWord p i 2).raise rSYN_STATUS 6) else x

/-- R223: an operation on a counter pair whose words are `k` (P) and `k + 1` (C). -/
def pairOp (x : DM) (p i n op : Nat) : WordAns :=
  let k := i / 2 * 2
  let pv := x.wordData p k
  let cv := x.wordData p (k + 1)
  let diff := (pv + 2 ^ 32 - cv) % 2 ^ 32
  if op = 0 ∧ i = k then
    (if diff < n then (x.putWord p k ((pv + 1) % 2 ^ 32), oOk, some pv) else (x, oBound, none))
  else if op = 1 ∧ i = k + 1 then
    (if 0 < diff then (x.putWord p (k + 1) ((cv + 1) % 2 ^ 32), oOk, some cv) else (x, oBound, none))
  else if op = 2 then (x, oOk, some diff)
  else if op = 4 then ((x.putWord p k 0).putWord p (k + 1) 0, oOk, none)
  else (x, oMisuse, none)

/-- R209: an operation on a plain word. -/
def plainOp (x : DM) (p i op sd : Nat) : WordAns :=
  let full := x.d.wordState p i == 1
  match op with
  | 0 => if full then (x, oMisuse, none) else (x.setWordData p i 1 sd, oOk, none)
  | 1 => if full then (x.onD (·.setWord p i 0), oOk, some (x.wordData p i)) else (x, oMisuse, none)
  | 3 => (x.setWordData p i 1 sd, oOk, none)
  | _ => (x.onD (·.setWord p i 0), oOk, none)

/-- R202, R209, R223: an operation (0 WRITE_FULL to 4 CLEAR) on word `i` of virtual tile `v` at physical tile `p`. -/
def wordOp (x : DM) (v p i op sd : Nat) : WordAns :=
  let x := x.fixReserved p i
  if x.d.wordState p i = 2 then (if op = 2 then (x, oOk, some 2) else (x, oPoison, none))
  else
    match x.d.pairDepth v i with
    | some n => pairOp x p i n op
    | none => if op = 2 then (x, oOk, some (x.d.wordState p i)) else plainOp x p i op sd

/-- The STT entry of a context for a VSID (R205). -/
def DieState.stt (d : DieState) (c vsid : Nat) : Nat := if c ≤ 19 then d.rd (rSYN_STT + 4 * (256 * c + vsid / 256)) else 0

/-- R207: the outcome of the check of an operation before it acts (5: SWAIT). -/
def DieState.sttCheck (d : DieState) (c vsid op : Nat) : Nat :=
  let e := d.stt c vsid
  if !bit 31 e then oUnmapped
  else if (op = 0 ∨ op = 1) ∧ !bit 30 e then oDenied
  else if (op = 3 ∨ op = 4) ∧ d.wordOwner (bits 7 0 e) (vsid % 256) ≠ c then oDenied
  else oOk

/-! ### Outcomes -/

/-- The flag of SYN_STATUS and the counter of SYN_CNT of an outcome (R210). -/
def outcomeFlag (o : Nat) : Nat × Nat :=
  match o with
  | 1 => (0, 0) | 2 => (2, 1) | 3 => (3, 2) | 4 => (4, 3) | 5 => (4, 3) | 6 => (1, 4) | _ => (5, 5)

/-- An outcome other than OK reaches its issuer: recorded, counted, flagged, the context reset at the next boundary, and
INSP_SYNC where the context is an inspection context (R210). -/
def DieState.recordOutcome (d : DieState) (issuer c target o : Nat) : DieState :=
  let d := d.hist (12 + d.die.num) (16 + o)
  let d :=
    if d.flag rSYN_ERR 31 then d
    else
      let d := d.wr rSYN_ERR (o * 0x1000000 + c * 0x10000 + target)
      let d := (d.wr rSYN_ERR_SRC (issuer % 512)).wr64 rSYN_ERR_STEP_LO d.seq.step
      d.raiseWith rSYN_ERR 31 (some (48 + o)) (leBytes 4 (d.rd rSYN_ERR) ++ leBytes 4 (d.rd rSYN_ERR_SRC))
  let d := (d.count (rSYN_CNT + 4 * (outcomeFlag o).2) 1).raise rSYN_STATUS (outcomeFlag o).1
  let d := d.resetCtx c
  if c ≤ 1 then d.detect 2 else d

/-- The physical tile on which an issuer runs now. -/
def DieState.issuerTile (d : DieState) (issuer : Nat) : Nat := d.ptileOf issuer

/-- A context is not on the tile that issued for it: it has been saved meanwhile (R234). -/
def DieState.away (d : DieState) (issuer c : Nat) : Bool := decide (2 ≤ c ∧ c ≤ 17) && d.ctxOf (d.issuerTile issuer) != c

/-- The saved tile of a context that issued as virtual tile `issuer`, changed: tiles are numbered from the first group that the context held (R234). -/
def DieState.modSaved (d : DieState) (issuer c : Nat) (f : Tile → Tile) : DieState :=
  let n := c - 2
  let a := tget d.ctx.aux n default
  let pos := issuer - 16 * d.fld (rCTX_AUX + 4 * n) 7 4
  let saved := a.saved.map (fun l => l.map (fun s => if s.pos = pos then { s with tile := f s.tile } else s))
  { d with ctx := { d.ctx with aux := tset d.ctx.aux n { a with saved := saved } } }

/-- The tile that issued as virtual tile `issuer` for context `c`, changed: where it runs, or where it is saved. -/
def DieState.modIssuer (d : DieState) (issuer c : Nat) (f : Tile → Tile) : DieState :=
  if d.away issuer c then d.modSaved issuer c f
  else
    let p := d.issuerTile issuer
    let s := d.slotOf p
    d.setSlot p { s with cur := f s.cur }

/-- A response reaches its tile, or the saved state of one whose context was pre-empted meanwhile (R208, R210, R234). -/
def DieState.respond (d : DieState) (r : SyncResp) : DieState :=
  let sd (t : Tile) : Tile := match r.sd with | some v => { t with sd := v } | none => t
  if r.outcome = 0 then d.modIssuer r.issuer r.ctx sd
  else (d.modIssuer r.issuer r.ctx (fun t => { sd t with stat := .stopped, wait := .none })).recordOutcome r.issuer r.ctx r.target r.outcome

/-! ### Barriers -/

/-- The generation of barrier `n`. -/
def DieState.barGen (d : DieState) (n : Nat) : Nat := d.fld (rSYN_BAR + 4 * n) 31 16

/-- Participant `q` is in the mask of barrier `n` (R218). -/
def DieState.barMask (d : DieState) (n q : Nat) : Bool := bit (q % 32) (d.rd (rSYN_BAR_MASK + 64 * n + 4 * (q / 32)))

/-- The participants of barrier `n`. -/
def DieState.barParts (d : DieState) (n : Nat) : List Nat := (List.range 266).filter (d.barMask n)

/-- The dynamic part of barrier `n`. -/
def DieState.bar (d : DieState) (n : Nat) : Bar := tget d.syn.bars n default

/-- Replace the dynamic part of barrier `n`. -/
def DieState.setBar (d : DieState) (n : Nat) (b : Bar) : DieState := { d with syn := { d.syn with bars := tset d.syn.bars n b } }

/-- `gen` lies beyond `target`, in the 16-bit wrap of generations (R219, R220). -/
def genPassed (gen target : Nat) : Bool :=
  let x := (gen + 65536 - target % 65536) % 65536
  decide (1 ≤ x ∧ x < 32768)

/-- A response is put under way; responses return in the order of their cycles. -/
def DieState.queueResp (d : DieState) (r : SyncResp) : DieState := { d with syn := { d.syn with resps := d.syn.resps ++ [r] } }

/-- Barrier `n` is poisoned in cycle `now`: its waiters receive POISON 16 cycles later (R220). -/
def DieState.poisonBar (d : DieState) (n now : Nat) : DieState :=
  let d := d.setFlag (rSYN_BAR + 4 * n) 15 true
  d.tar.tiles.foldl (fun d x =>
      match x.2.cur.wait with
      | .bar i _ _ _ true _ none =>
        if i = n then d.queueResp ⟨now + 16, d.vtileOf x.1, x.1, d.ctxOf x.1, n, oPoison, none, true⟩ else d
      | _ => d)
    d

/-- The unit of an engine that takes part in barriers (R112, R472). -/
def engineUnit (e : Nat) : Nat :=
  match e with | 256 => 4 | 257 => 5 | 258 => 9 | 259 => 11 | 260 => 8 | 261 => 14 | 262 => 3 | 263 => 2 | 264 => 13 | _ => 18

/-- A Unit State Word that shows OFF or FENCED. -/
def unitDown (v : Nat) : Bool := v % 8 == 0 || v % 8 == 5

/-- At a boundary the barriers that name an engine whose Unit State Word has become OFF or FENCED are poisoned; the inspection barriers are not at a Stem fence: the
regrouped set replaces them at W (R221). The Quill then reads the words of this boundary (R478). -/
def DieState.boundaryUnits (d : DieState) : DieState :=
  let down (e : Nat) : Bool :=
    let u := engineUnit e
    unitDown (d.rd (rSYS_USW + 4 * u)) && !unitDown (tget d.qll.snap u 0)
  let es := ((List.range 10).map (256 + ·)).filter down
  let d := (List.range 64).foldl (fun (d : DieState) n =>
    let insp := decide (d.fld (rSYN_BAR + 4 * n) 12 8 ≤ 1)
    if d.flag (rSYN_BAR + 4 * n) 13 && es.any (fun e => d.barMask n e && !(e == 256 && insp)) then d.poisonBar n (d.acyc 0) else d) d
  { d with qll := { d.qll with snap := (List.range 19).map (fun u => (u, d.rd (rSYS_USW + 4 * u))) } }

/-- The tiles that wait at barrier `n`, each with its release changed: `f` is given the target and the release. -/
def DieState.modWaiters (d : DieState) (n : Nat) (f : Nat → Option Nat → Option Nat) : DieState :=
  { d with tar := { d.tar with tiles := d.tar.tiles.map fun x =>
      match x.2.cur.wait with
      | .bar i tgt st bu true bt rel =>
        if i = n then (x.1, { x.2 with cur := { x.2.cur with wait := .bar i tgt st bu true bt (f tgt rel) } }) else x
      | _ => x } }

/-- Barrier `n`, after all arrivals of cycle `now`, completes if every participant has arrived; waiters whose target is passed are released 16 cycles
later (R219, R220). -/
def DieState.barComplete (d : DieState) (n now : Nat) : DieState :=
  let b := d.bar n
  if d.flag (rSYN_BAR + 4 * n) 15 || !(d.barParts n).all (b.arr.contains ·) then d
  else
    let gen := (d.barGen n + 1) % 65536
    let d := (d.setFld (rSYN_BAR + 4 * n) 31 16 gen).setBar n { b with arr := b.early, early := [], doneAt := some now }
    d.modWaiters n (fun tgt rel => if rel.isNone && genPassed gen tgt then some (now + 16) else rel)

/-- A completion in cycle `now` is taken back for a further arrival of that cycle: the barrier completes after all arrivals of a cycle (R219). -/
def DieState.barReopen (d : DieState) (n now : Nat) : DieState :=
  let b := d.bar n
  if b.doneAt ≠ some now then d
  else
    let d := (d.setFld (rSYN_BAR + 4 * n) 31 16 ((d.barGen n + 65535) % 65536)).setBar n { b with arr := d.barParts n, early := b.arr, doneAt := none }
    d.modWaiters n (fun _ rel => if rel = some (now + 16) then none else rel)

/-- One arrival of participant `q` at barrier `n` in cycle `now` (R219): the outcome. -/
def DieState.barArrive (d : DieState) (n q now : Nat) : DieState × Nat :=
  let b := d.bar n
  let gen := d.barGen n
  if d.flag (rSYN_BAR + 4 * n) 15 then (d, oPoison)
  else if !d.barMask n q then (d, oMisuse)
  else if !b.arr.contains q then (d.setBar n { b with arr := b.arr ++ [q], lastGen := tset b.lastGen q gen }, oOk)
  else if !b.early.contains q then
    (d.setBar n { b with early := b.early ++ [q], lastGen := tset b.lastGen q ((gen + 1) % 65536) }, oOk)
  else (d.poisonBar n now, oOverrun)

/-- Context `c` owns barrier `n` (R218); the inspection context's barriers are those of the one that runs, INSP_CUR or INSP_NEXT. -/
def DieState.barOwned (d : DieState) (n c : Nat) : Bool :=
  let o := d.fld (rSYN_BAR + 4 * n) 12 8
  d.flag (rSYN_BAR + 4 * n) 13 && decide (o = c ∨ (o ≤ 1 ∧ c ≤ 1))

/-- A context that maps the owner's segment of a participating tile may wait at a barrier it does not own (R218). -/
def DieState.barWaitable (d : DieState) (n c : Nat) : Bool :=
  d.barOwned n c ||
    (d.flag (rSYN_BAR + 4 * n) 13 &&
      (List.range 256).any (fun s =>
        let e := d.stt c (256 * s)
        bit 31 e && d.barMask n (bits 7 0 e)))

/-- A BWAIT reaches its barrier (R220), also for a context that has been saved meanwhile. -/
def DieState.bwaitReach (d : DieState) (o : SyncOp) : DieState :=
  let n := o.vsid
  let back (oc : Nat) : DieState := d.queueResp ⟨o.reach + 16, o.issuer, o.ptile, o.ctx, n, oc, none, true⟩
  if !d.barWaitable n o.ctx then back oUnmapped
  else if d.flag (rSYN_BAR + 4 * n) 15 then back oPoison
  else
    let tgt := if d.barMask n o.issuer then tget (d.bar n).lastGen o.issuer (d.barGen n) else d.barGen n
    let rel := if genPassed (d.barGen n) tgt then some (o.reach + 16) else none
    d.modIssuer o.issuer o.ctx fun t =>
      match t.wait with
      | .bar i _ st bu _ bt _ => { t with wait := .bar i tgt st bu true bt rel }
      | _ => t

/-! ### Operations in flight -/

/-- An operation joins those in flight, in the order in which they reach their words: by cycle, then by issuer (R203). -/
def insertOp (o : SyncOp) (l : List SyncOp) : List SyncOp :=
  match l with
  | [] => [o]
  | x :: r => if o.reach < x.reach ∨ (o.reach = x.reach ∧ o.issuer < x.issuer) then o :: x :: r else x :: insertOp o r

/-- One operation reaches its word and its response is put under way (R207 to R209). -/
def DM.applyOp (x : DM) (o : SyncOp) : DM :=
  if o.op = 5 then x.onD (·.bwaitReach o)
  else
    let c := x.d.sttCheck o.ctx o.vsid o.op
    let resp (x : DM) (oc : Nat) (sd : Option Nat) : DM :=
      x.onD (·.queueResp ⟨o.reach + 16, o.issuer, o.ptile, o.ctx, o.vsid, oc, sd, false⟩)
    if c ≠ oOk then resp x c none
    else
      let v := bits 7 0 (x.d.stt o.ctx o.vsid)
      let r := wordOp x v (x.d.ptileOf v) (o.vsid % 256) o.op o.sd
      resp r.1 r.2.1 r.2.2

/-- The operations that reach their words before cycle `t`, or in it from an issuer below `issuer`, take effect. -/
def DM.syncBefore (x : DM) (t issuer : Nat) : DM :=
  let due := x.d.syn.ops.filter (fun o => decide (o.reach < t ∨ (o.reach = t ∧ o.issuer < issuer)))
  let x := x.onD fun d => { d with syn := { d.syn with
    ops := d.syn.ops.filter (fun o => !decide (o.reach < t ∨ (o.reach = t ∧ o.issuer < issuer))) } }
  due.foldl DM.applyOp x

/-- Everything that reaches a word in cycle `t` or before takes effect. -/
def DM.syncTo (x : DM) (t : Nat) : DM := x.syncBefore (t + 1) 0

/-- The responses due by cycle `t` reach their tiles, in order of their cycles. -/
def DieState.deliver (d : DieState) (t : Nat) : DieState :=
  let due := d.syn.resps.filter (fun r => decide (r.due ≤ t))
  let d := { d with syn := { d.syn with resps := d.syn.resps.filter (fun r => !decide (r.due ≤ t)) } }
  due.foldl DieState.respond d

/-- SYNC_RESPONSE: what is due by cycle-in-step `c` reaches its tiles. -/
def syncResponse (c : Nat) (x : DM) : DM :=
  let x := x.onD (·.toCycle c)
  let t := x.d.acyc c
  (x.syncTo t).onD (·.deliver t)

/-- The cycle-in-step of an active cycle, held to the current step. -/
def DieState.cycOf (d : DieState) (a : Nat) : Nat := min (a - d.seq.step * 20000) 19999

/-- SWAIT_PROBE: the next probe of physical tile `p`'s SWAIT reaches its word (R211, R223). -/
def swaitProbe (p : Nat) (x : DM) : DM :=
  let s := x.d.slotOf p
  match s.cur.wait with
  | .sync vsid want next st bu bt none =>
    if (x.d.seq.step + 1) * 20000 ≤ next then x
    else
      let c := x.d.ctxOf p
      let v0 := x.d.vtileOf p
      let x := x.onD (·.toCycle (x.d.cycOf next))
      let x := x.syncBefore next v0
      let s := x.d.slotOf p
      let fail (x : DM) (o : Nat) : DM := x.onD (·.queueResp ⟨next + 16, v0, p, c, vsid, o, none, true⟩)
      let again (x : DM) (rel : Option Nat) : DM :=
        x.onD (·.setSlot p { s with cur := { s.cur with wait := .sync vsid want (next + 32) st bu bt rel } })
      let ck := x.d.sttCheck c vsid 5
      if ck ≠ oOk then again (fail x ck) none
      else
        let v := bits 7 0 (x.d.stt c vsid)
        let q := x.d.ptileOf v
        let i := vsid % 256
        let x := x.fixReserved q i
        if x.d.wordState q i = 2 then again (fail x oPoison) none
        else
          let k := i / 2 * 2
          let diff := (x.wordData q k + 2 ^ 32 - x.wordData q (k + 1)) % 2 ^ 32
          let hit : Option Bool := match x.d.pairDepth v i with
            | some n =>
              if want = 0 ∧ i = k then some (decide (diff < n))
              else if want = 1 ∧ i = k + 1 then some (decide (0 < diff))
              else none
            | none => some (decide (x.d.wordState q i = want))
          match hit with
          | none => again (fail x oMisuse) none
          | some true => again x (some (next + 16))
          | some false => again x none
  | _ => x

/-- POLL_TIMEOUT: a wait whose budget of counted boundaries is used up, and which is not released by the first active cycle of the step, takes TIMEOUT in that
cycle, before any probe of it (R212); an answer still under way to the wait is not taken. -/
def pollTimeout (p : Nat) (d : DieState) : DieState :=
  let s := d.slotOf p
  let v := d.vtileOf p
  let out (target st bu : Nat) (rel : Option Nat) : DieState :=
    if d.seq.step < st + bu ∨ (rel.map (fun r => decide (r ≤ d.acyc 0))) = some true then d
    else
      let d := { d with syn := { d.syn with resps := d.syn.resps.filter (fun r => !(r.wait && r.issuer == v)) } }
      (d.setSlot p { s with cur := { s.cur with stat := .stopped, wait := .none } }).recordOutcome v (d.ctxOf p) target oTimeout
  match s.cur.wait with
  | .sync vsid _ _ st bu _ rel => out vsid st bu rel
  | .bar i _ st bu _ _ rel => out i st bu rel
  | _ => d

/-- The arrivals at barrier `n` registered in cycle `t` and before, from participants below `q`, act in issuer order (R219). -/
def DieState.takeArrivals (d : DieState) (n t q : Nat) : DieState :=
  let here (a : BarArr) : Bool := a.index == n && decide (a.reach ≤ t ∧ a.part < q)
  let due := d.syn.arrs.filter here
  due.foldl (fun d a =>
      let own := d.barOwned n a.ctx
      let d := if own then d.barReopen n a.reach else d
      let r := if own then d.barArrive n a.part a.reach else (d, oUnmapped)
      let d := r.1.queueResp ⟨a.reach + 16, a.part, a.ptile, a.ctx, n, r.2, none, false⟩
      if own then d.barComplete n a.reach else d)
    { d with syn := { d.syn with arrs := d.syn.arrs.filter (fun a => !here a) } }

/-- BARRIER_ARRIVAL: the arrivals at barrier `n` under way to cycle-in-step `c` are registered in issuer order (R219). -/
def barrierArrival (n c : Nat) (x : DM) : DM :=
  let x := x.onD (·.toCycle c)
  let t := x.d.acyc c
  (x.syncBefore t 0).onD (·.takeArrivals n t 512)

/-- ENGINE_BARRIER_ARRIVAL: engine `e` arrives at barrier `n` in its compiled cycle (R219), after the arrivals of the cycle from lower issuers. An engine
receives no response; an outcome other than OK is recorded under its endpoint code. -/
def engineArrival (n e c : Nat) (x : DM) : DM :=
  let x := x.onD (·.toCycle c)
  let t := x.d.acyc c
  let x := x.syncBefore t 0
  x.onD fun d =>
    let d := d.takeArrivals n t (256 + e)
    if !d.flag (rSYN_BAR + 4 * n) 13 then d
    else
      let r := (d.barReopen n t).barArrive n (256 + e) t
      let d := if r.2 = oOk then r.1 else r.1.recordOutcome (256 + e) (d.fld (rSYN_BAR + 4 * n) 12 8) n r.2
      d.barComplete n t

/-- A tile's wait that has been released is over, its next bundle in the cycle of the release (R211, R220). -/
def DieState.endWait (d : DieState) (p : Nat) : DieState :=
  let s := d.slotOf p
  let ends (r : Nat) : DieState := (d.toCycle (d.cycOf r)).setSlot p { s with cur := { s.cur with wait := .none, ready := r } }
  match s.cur.wait with
  | .bar _ _ _ _ _ _ (some r) => if r < d.acyc 20000 then ends r else d
  | .sync _ _ _ _ _ _ (some r) => if r < d.acyc 20000 then ends r else d
  | _ => d

/-- BWAIT_RELEASE: what a completion or a poisoning of its barrier sends to physical tile `p` reaches it (R220); an answer goes to the tile that carries
its issuer now (R89). -/
def bwaitRelease (p : Nat) (x : DM) : DM :=
  let t0 := x.d.acyc x.d.seq.cycle
  let x := x.syncTo t0
  x.onD fun d =>
    match d.syn.resps.filter (fun r => d.issuerTile r.issuer == p) with
    | r :: _ => ((d.toCycle (d.cycOf r.due)).deliver r.due)
    | [] => d.endWait p

end Sys2Proof.Machine
end

