-- ==== Sys2Proof/Machine/TileRows.lean ====
section
/-! DEFINITION. Rows of accumulators (R70 to R83, R101, R102, R109): operands from generator A, terms, bias, write-back and stored states, each for the one
row or line that an operation handles in a cycle. -/

namespace Sys2Proof.Machine

/-- The slot bits [hi:lo] of a slot operation's fields. -/
def sf (f : BitVec 27) (hi lo : Nat) : Nat := bits hi lo f.toNat

/-- Generator A's next line address (R108): ILLEGAL where it is not configured or past its last tuple. -/
def Gen.next (g : Gen) : Except Nat (Gen × Wag × Option Nat) :=
  match g.cfg with
  | none => .error fIllegal
  | some c =>
    if c.total ≤ g.idx then .error fIllegal
    else
      match wagAddr c g.idx with
      | some a => if 0x80000 ≤ a then .error fRegion else .ok ({ g with idx := g.idx + 1 }, c, some a)
      | none => .ok ({ g with idx := g.idx + 1 }, c, none)

/-- The elements of an operand line. -/
def lineElems (fmt : Nat) (bs : List Byte) : List Nat := unpackElems (elemBits fmt) (if elemBits fmt = 6 then 32 else 256 / elemBits fmt) bs

/-- One operand from generator A in `cycle` (R106, R108, R109). -/
def TEnv.operandA (e : TEnv) (af cycle : Nat) : Except Nat (TEnv × AOperand) := do
  let (g, c, a) ← e.t.genA.next
  let e := e.withT { e.t with genA := g }
  match a with
  | none => .ok (e, ⟨[], []⟩)
  | some a =>
    let (e, bs) ← e.read .genA cycle a 32
    if isMx af then
      let (e, ss) ← e.read .genA cycle (scaleAddr c a 0) (mxPerLine c.fmt)
      .ok (e, ⟨lineElems af bs, ss.map (·.toNat)⟩)
    else .ok (e, ⟨lineElems af bs, []⟩)

/-- Terms added to an accumulator one after another; the flags come second (R71, R75). -/
def addTerms (k : AccKind) (anchor : Int) (ts : List Num) (a : Acc) : Acc × List Nat :=
  ts.foldl (fun r t =>
      let x := match k with
        | .int => iaAdd r.1 (match t with | .fin m e => floorShift m e | _ => 0)
        | _ => laAdd r.1 anchor t
      (x.1, r.2 ++ x.2))
    (a, [])

/-- BF16 products added in FP32 in increasing input channel (R78). -/
def addBf16 (ps : List (Nat × Nat)) (a : Acc) : Acc := { a with fp := ps.foldl (fun s p => add32 s (mul32 p.1 p.2)) a.fp }

/-- A row after each column has been through `f`; flags come second. -/
def Row.mapCols (r : Row) (f : Nat → Acc → Acc × List Nat) : Row × List Nat :=
  let xs := (List.range 32).map (fun j => f j (tget r.cols j accZero))
  ({ r with cols := (List.range 32).zip (xs.map (·.1)) }, (xs.map (·.2)).flatten.eraseDups)

/-- A cleared row of kind `k` (R102). -/
def clearedRow (k : AccKind) (anchor : Int) : Row := { kind := k, anchor := if k = .long then anchor else 0, cols := [] }

/-- The row bit of the row mask (R102). -/
def Tile.enabled (t : Tile) (r : Nat) : Bool := bit r t.mask

/-- One row of an MMA in cycle `e.now`, the bundle issued in cycle `born`: the operand, and the terms if the row is enabled (R102). The row's kind is
that of the formats: the instruction asked for it when it issued. (DEDUCED, log entry 23.) -/
def mmaRow (af bf : Nat) (k : AccKind) (clr : Bool) (r born : Nat) (e : TEnv) : Except Nat TEnv := do
  let (e, a) ← e.operandA af e.now
  if !e.t.enabled r then .ok e
  else
    let row := if clr then clearedRow k e.t.anch else tget e.t.rows r default
    let ls := e.t.wAct.lines
    let x := row.mapCols fun j c =>
      if k = .fp32 then (addBf16 (bf16Pairs a ls j) c, []) else addTerms k row.anchor (mmaTerms af bf a ls j) c
    .ok ((e.withT { e.t with rows := tset e.t.rows r x.1 }).flags born x.2)

/-- A bias entry of 8 bytes added to an accumulator (R102). Its reserved bits, like those of a WPAR entry, are not looked at (DESIGN CHOICE, log entry 39). -/
def addBias (k : AccKind) (anchor : Int) (bs : List Byte) (a : Acc) : Acc × List Nat :=
  let sig := toSigned 32 (leNat (bs.take 4))
  let ex := toSigned 16 (leNat ((bs.drop 4).take 2))
  match k with
  | .int => iaAdd a sig
  | .long => laAdd a anchor (.fin sig ex)
  | .fp32 => ({ a with fp := add32 a.fp (if sig = 0 then 0 else enc32 (decide (sig < 0)) sig.natAbs ex) }, [])

/-- A row and what an operation on all its columns says of each, if the row is enabled. -/
def TEnv.onRow (e : TEnv) (born r : Nat) (f : Row → Nat → Acc → Acc × List Nat) : TEnv :=
  let row := tget e.t.rows r default
  let x := row.mapCols (f row)
  if e.t.enabled r then (e.withT { e.t with rows := tset e.t.rows r x.1 }).flags born x.2 else e

/-- BIAS with all its lines read: one term to each column of an enabled row (R102). -/
def TEnv.biasRow (e : TEnv) (born r : Nat) (bs : List Byte) : TEnv :=
  e.onRow born r fun row j c => addBias row.kind row.anchor ((bs.drop (8 * j)).take 8) c

/-- An output format of WB (R79). -/
def wbFormat (o : Nat) : Bool := decide (o ≤ 0x0F ∧ o ≠ 4 ∧ o ≠ 9)

/-- The bytes of a row in an output format (R80 to R82, R109), its scale byte if it is an MX block, and the flags. -/
def wbRow (o : Nat) (z : Nat → Int) (vs : List Num) : List Byte × Option Nat × List Nat :=
  if isMx o then
    let b := mxBlock o vs
    let n := if isMx4 o then 16 else if elemBits o = 6 then 24 else 32
    let bs := packElems (elemBits o) n b.2.1
    (if elemBits o = 6 then bs ++ List.replicate 8 0 else bs, some b.1, b.2.2)
  else if o = 6 ∨ o = 7 ∨ o = 8 then
    let xs := vs.map (encodeR81 (floatOf o))
    (packElems (elemBits o) (4 * elemBits o) (xs.map (·.1)), none, if xs.any (·.2) then [numOutSat] else [])
  else
    let xs := (List.range 32).map (fun j => wbInt o (z j) (vs.getD j .nan))
    (packElems (elemBits o) (4 * elemBits o) (xs.map (·.1)), none, (xs.map (·.2)).flatten.eraseDups)

/-- Bytes as the lines that are written one a cycle from address `a` on. -/
def linesFrom (a n : Nat) (bs : List Byte) : List (Option (Nat × List Byte)) :=
  match n with
  | 0 => []
  | m + 1 => some (a, bs.take 32) :: linesFrom (a + 32) m (bs.drop 32)

/-- The first cycle of a row of a WB: the accumulators are read and requantised, generator S gives the address (rows 2n and 2n + 1 of a 4-bit MX
write-back share one, R109: `shared` is that address for an odd row), and the scale byte of an MX row is written. It answers the row's lines, and the
address to share. A padded address takes the row's cycles without an access. -/
def wbStart (o r i born : Nat) (shared : Option (Wag × Option Nat)) (e : TEnv) :
    Except Nat (TEnv × Option (Wag × Option Nat) × List (Option (Nat × List Byte))) := do
  let row := tget e.t.rows r default
  let src := (List.range 32).map (fun j => accSrc row.kind row.anchor (tget row.cols j accZero))
  let vs := (List.range 32).map (fun j => wbValue (e.t.wpar.getD j default) (src.getD j (.nan, [])).1)
  let x := wbRow o (fun j => (e.t.wpar.getD j default).z) vs
  let e := e.flags born ((src.map (·.2)).flatten.eraseDups ++ x.2.2)
  let odd := isMx4 o && i % 2 == 1
  let n := (4 * elemBits o + 31) / 32
  let (e, c, a) ← (match odd, shared with
    | true, some (c, a) => (.ok (e, c, a) : Except Nat (TEnv × Wag × Option Nat))
    | _, _ => do
      let (g, c, a) ← e.t.genS.next
      .ok (e.withT { e.t with genS := g }, c, a))
  match a with
  | none => .ok (e, some (c, none), List.replicate n none)
  | some a =>
    let lines := linesFrom (if odd then a + 16 else a) n x.1
    match x.2.1 with
    | none => .ok (e, some (c, some a), lines)
    | some sb =>
      let e ← e.write .genS e.now (scaleAddr c a (if odd then 1 else 0)) [BitVec.ofNat 8 sb]
      .ok (e, some (c, some a), lines)

/-- Lines of a row's stored states (R76, R101). -/
def stateLines (k : AccKind) : Nat := match k with | .long => 32 | .int => 16 | .fp32 => 4

/-- The stored bytes of an accumulator. -/
def stateBytes (k : AccKind) (a : Acc) : List Byte :=
  match k with | .long => lasBytes a | .int => iasBytes a | .fp32 => leBytes 4 a.fp

/-- A stored state merged into an accumulator (R76; FP32 states add by R78). -/
def mergeState (k : AccKind) (bs : List Byte) (a : Acc) : Acc × List Nat :=
  match k with
  | .long => accMerge a (lasOfBytes bs)
  | .int => accMerge a (iasOfBytes bs)
  | .fp32 => ({ a with fp := add32 a.fp (leNat (bs.take 4)) }, [])

/-- The bytes of a row's 32 stored states. -/
def Row.stored (row : Row) : List Byte := ((List.range 32).map (fun j => stateBytes row.kind (tget row.cols j accZero))).flatten

/-- AMERGE with all its lines read: 32 stored states into an enabled row (R76, R102). -/
def TEnv.mergeRow (e : TEnv) (born r : Nat) (bs : List Byte) : TEnv :=
  e.onRow born r fun row j c => mergeState row.kind ((bs.drop (stateLines row.kind * j)).take (stateLines row.kind)) c

end Sys2Proof.Machine
end

