-- ==== Sys2Proof/Machine/TileRun.lean ====
section
/-! DEFINITION. How a tile runs (R97, R98, R101, R106, R111): operations of several cycles go on cycle by cycle, the bundle of a cycle begins, and a slot
operation acts in it. -/

namespace Sys2Proof.Machine

/-! ### Operations of several cycles -/

/-- A job's next cycle, with one row or line less to begin. -/
def Job.on (j : Job) : Job := { j with next := j.next + 1, left := j.left - 1 }

/-- A line that a job reads: its bank was taken when the operation issued. -/
def TEnv.line (e : TEnv) (a : Nat) : List Byte := memRead e.mem (sramBase e.d.die e.p + a) 32

/-- A job has no access left. -/
def Job.over (j : Job) : Bool := j.left == 0 && j.outs.isEmpty

/-- What a job without an access left leaves, in the cycle after its last: the weight block in the shadow buffer, the requantisation entries, the row with
its bias or stored states, or the generator with its descriptor (R101 to R103, R106). -/
def Job.finish (j : Job) (e : TEnv) : TEnv :=
  match j.kind with
  | .wld fmt => e.withT { e.t with wSh := ⟨fmt, j.got⟩ }
  | .bias => e.biasRow j.born j.row j.got.flatten
  | .amerge => e.mergeRow j.born j.row j.got.flatten
  | .wpar => e.withT { e.t with wpar := (List.range 32).map (fun k => reqOfBytes ((j.got.flatten.drop (8 * k)).take 8)) }
  | .wcfg g =>
    let gen : Gen := { cfg := wagOf j.got.flatten, idx := 0 }
    e.withT (match g with
      | 0 => { e.t with genA := gen }
      | 1 => { e.t with genV := gen }
      | _ => { e.t with genS := gen })
  | .mma _ _ _ _ => e
  | .wb _ => e
  | .asave => e

/-- One cycle of a job (R101 to R103): one row of an MMA; the next line of a WB, which begins its next row when the last one is written; the next line
of an ASAVE; or the next line read. -/
def Job.act (j : Job) (e : TEnv) : Except Nat (TEnv × Job) :=
  match j.kind with
  | .mma af bf k clr => do
    let e ← mmaRow af bf k clr j.row j.born e
    .ok (e, { j.on with row := j.row + 1 })
  | .wb o => do
    let (e, j) ← (match j.outs with
      | [] => do
        let (e, sh, ls) ← wbStart o j.row j.inst j.born j.shared e
        .ok (e, { j with shared := sh, outs := ls, left := j.left - 1, row := j.row + 1, inst := j.inst + 1 })
      | _ => (.ok (e, j) : Except Nat (TEnv × Job)))
    let j' : Job := { j with outs := j.outs.drop 1, next := j.next + 1 }
    match j.outs.headD none with
    | some (a, bs) => do
      let e ← e.write .genS e.now a bs
      .ok (e, j')
    | none => .ok (e, j')
  | .asave =>
    .ok (match j.outs.headD none with
      | some (a, bs) => e.put a bs
      | none => e, { j with outs := j.outs.drop 1, next := j.next + 1 })
  | _ => .ok (e, { j.on with addr := j.addr + 32, got := j.got ++ [e.line j.addr] })

/-- One cycle of a job, with the bytes it overwrites noted for it and not for the bundle being issued. -/
def Job.actNoted (j : Job) (e : TEnv) : Except Nat (TEnv × Job) :=
  match j.act { e with slot := { e.slot with undo := [] } } with
  | .error f => .error f
  | .ok (e', j') => .ok ({ e' with slot := { e'.slot with undo := e.slot.undo } }, { j' with undo := e'.slot.undo ++ j.undo })

/-- A job meets a fault in a cycle after its issue: its own rows and bytes are as before it, what its bundle has under way is withdrawn, the tile
stops issuing and the fault is recorded against its bundle (R111). The other slots of that bundle have acted by then and stay (DESIGN CHOICE, log entry 14). -/
def TEnv.jobFault (e : TEnv) (j : Job) (code : Nat) : TEnv :=
  let rows := match j.kind with | .mma _ _ _ _ => j.rows0 | _ => e.t.rows
  let e := e.withT { e.t with rows := rows, stat := .stopped }
  { e with
    d := ((e.d.withdraw e.p j.born).recordFault e.p e.now code j.pc).mirrorSram e.now j.undo
    mem := memApply e.mem j.undo
    stores := e.stores ++ j.undo }

/-- One cycle of one of the tile's jobs: what it leaves if it has no access left, else its access; what goes on stays on the list. -/
def TEnv.stepJob (e : TEnv) (j : Job) : TEnv :=
  if e.now < j.next then e.withT { e.t with jobs := e.t.jobs ++ [j] }
  else
    match j.actNoted e with
    | .error f => e.jobFault j f
    | .ok (e, j) => e.withT { e.t with jobs := e.t.jobs ++ [j] }

/-- A job ends in cycle `now`. -/
def Job.endsAt (now : Nat) (j : Job) : Bool := j.over && decide (j.next ≤ now)

/-- One cycle of the tile's jobs: those without an access left end, then the others have their access, in the order in which they issued (R97). -/
def TEnv.cycleJobs (e : TEnv) : TEnv :=
  let js := e.t.jobs
  let e := (js.filter (·.endsAt e.now)).foldl (fun e j => j.finish e) (e.withT { e.t with jobs := [] })
  (js.filter (fun j => !j.endsAt e.now)).foldl TEnv.stepJob e

/-- `n` cycles of the tile's jobs from cycle `c` on. -/
def TEnv.runJobs (n c : Nat) (e : TEnv) : TEnv :=
  match n with
  | 0 => e
  | m + 1 => if e.t.jobs.isEmpty then e else TEnv.runJobs m (c + 1) ({ e with now := c }).cycleJobs

/-- The tile's jobs up to cycle `t` and in it. -/
def TEnv.jobsTo (t : Nat) (e : TEnv) : TEnv :=
  let c := (e.t.jobs.map (·.next)).foldl min t
  { TEnv.runJobs (t + 1 - c) c e with now := e.now }

/-- An operation of several cycles issues: its first access is in this cycle, the rest follow (R97). A job that is over before is one without
any access of its own. -/
def TEnv.start (e : TEnv) (j : Job) : Except Nat TEnv :=
  if j.over then .ok (e.withT { e.t with jobs := e.t.jobs ++ [j] })
  else
    match j.act { e with slot := { e.slot with undo := [] } } with
    | .error f => .error f
    | .ok (e', j') =>
      .ok ({ e' with slot := { e'.slot with undo := e'.slot.undo ++ e.slot.undo, cur := { e'.slot.cur with jobs := e'.slot.cur.jobs ++ [{ j' with undo := e'.slot.undo }] } } })

/-- A job of the bundle being issued. -/
def TEnv.job (e : TEnv) (k : JobKind) (left row addr : Nat) : Job :=
  { kind := k, pc := e.slot.pcAt, born := e.now, next := e.now, left := left, row := row, inst := 0, addr := addr, got := [], outs := [], shared := none,
    rows0 := e.t.rows, undo := [] }

/-- The environment of physical tile `p` of a die in active cycle `now`. -/
def DM.tenv (x : DM) (p now : Nat) : TEnv := ⟨x.d, p, now, x.d.slotOf p, x.mem, []⟩

/-- What a tile's environment leaves of the die, memory and stores. -/
def DM.ofTEnv (x : DM) (e : TEnv) : DM := { d := e.d.setSlot e.p e.slot, mem := e.mem, stores := x.stores ++ e.stores }

/-- The jobs of physical tile `p` up to cycle `t` and in it. -/
def DM.tileJobs (t : Nat) (x : DM) (p : Nat) : DM := x.ofTEnv ((x.tenv p t).jobsTo t)

/-- The physical tiles with a job under way. -/
def DieState.jobTiles (d : DieState) : List Nat := (d.tar.tiles.filter (fun s => !s.2.cur.jobs.isEmpty)).map (·.1)

/-- Every tile's jobs up to cycle `t` and in it. -/
def DM.allJobs (t : Nat) (x : DM) : DM := x.d.jobTiles.foldl (DM.tileJobs t) x

/-- The jobs of the die as far as its core domain has come, and the events of those cycles in their registers (DESIGN CHOICE, log entry 14). -/
def DM.caughtUp (x : DM) : DM :=
  let t := x.d.acyc x.d.seq.cycle
  (x.allJobs t).onD (·.takeEvents (t + 1))

/-! ### Bundles -/

/-- The start of a bundle: the tile's earlier bundles without an operation are issued, then this one, if the tile is
ready for it in this cycle; otherwise nothing (DEDUCED, log entry 2). -/
inductive Begin where
  | no
  | ready (s : TileSlot)
  | fault (s : TileSlot) (code : Nat)

/-- See `Begin`. (DEDUCED, log entry 13.) -/
def beginBundle (d : DieState) (p now h : Nat) (mem : List Host.Cell) (s : TileSlot) : Begin :=
  let base := sramBase d.die p
  let st := d.stopping p
  let t := { s.cur.settle now with banks := s.cur.banks.filter (fun b => decide (min now s.cur.ready ≤ b.1)) }
  let g := gapBundles mem base now st (now - t.ready) t
  let t := g.1.wake now
  let pre : TileSlot := { cur := t, at_ := some now, pcAt := t.pc, pre := t, undo := [], undoS := none }
  match g.2 with
  | some f => .fault pre f
  | none =>
    if t.stat ≠ .running ∨ t.wait ≠ .none ∨ t.ready ≠ now ∨ (hStep h ∧ now % 20000 ≠ 0) then .no
    else
      match issueBundle t now h (bundleInMem mem base t) st with
      | .error f => .fault pre f
      | .ok t' => .ready { pre with cur := t' }

/-- The environment in which an operation of a bundle with header `h` acts, the tile's jobs having come to this cycle: the bundle is begun if it is the
tile's first operation in this cycle. -/
inductive Acting where
  | no (e : TEnv)
  | ready (e : TEnv)
  | fault (e : TEnv) (code : Nat)

/-- See `Acting`. (DEDUCED, log entry 13.) -/
def TEnv.begin (h : Nat) (e : TEnv) : Acting :=
  if e.slot.at_ = some e.now then (if e.t.stat = .stopped then .no e else .ready e)
  else
    let e := e.jobsTo e.now
    match beginBundle e.d e.p e.now h e.mem e.slot with
    | .no => .no e
    | .ready s => .ready { e with slot := s }
    | .fault s f => .fault { e with slot := s } f

/-- The bundle of an environment faults. -/
def TEnv.fault (e : TEnv) (f : Nat) : DieState × List Host.Cell :=
  let r := faultTile e.d e.p e.now f e.slot
  (r.1, e.stores ++ r.2)

/-- A slot operation of a bundle: the bundle is begun if it is this tile's first operation in this cycle; the operation
acts, or the bundle faults. (DEDUCED, log entry 23.) -/
def runSlotOn (b : Issue) (op : TEnv → Except Nat TEnv) (mem : List Host.Cell) (d : DieState) : DieState × List Host.Cell :=
  if !d.stepping then (d, [])
  else
    let d := d.toCycle b.cyc.val
    match (DM.tenv ⟨d, mem, []⟩ b.tile.val (d.acyc b.cyc.val)).begin b.hdr.toNat with
    | .no e => (e.d.setSlot e.p e.slot, e.stores)
    | .fault e f => e.fault f
    | .ready e =>
      match op e with
      | .ok e' => (e'.d.setSlot e'.p e'.slot, e'.stores)
      | .error f => e.fault f

/-- A slot operation as a command. -/
def State.runSlot (b : Issue) (op : TEnv → Except Nat TEnv) (s : State) : State := s.onDieMem b.die (fun _ => runSlotOn b op)

end Sys2Proof.Machine
end

