-- ==== Sys2Proof/Machine/TileMac.lean ====
section
/-! DEFINITION. The MAC slot (R101 to R103, R70 to R83). The MAC array and the weight loader are two units: a WLD runs beside an MMA (R109), and keeps
busy the loader alone; an MMA that swaps the buffers needs the loader idle (DESIGN CHOICE, log entry 14). -/

namespace Sys2Proof.Machine

/-- The MAC array is kept busy for `n` cycles. -/
def TEnv.macFor (e : TEnv) (n : Nat) : TEnv := e.withT { e.t with macBusy := e.now + n }

/-- The rows `row` to `row + cnt` that receive terms are of kind `k` (R102). -/
def Tile.kindsAre (t : Tile) (k : AccKind) (row cnt : Nat) : Bool :=
  (List.range (cnt + 1)).all (fun i => !t.enabled (row + i) || decide ((tget t.rows (row + i) default).kind = k))

/-- MMA (R102): its first row in this cycle. (DEDUCED, log entry 23.) -/
def opMma (f : BitVec 27) (e : TEnv) : Except Nat TEnv := do
  let af := sf f 26 21
  let bf := sf f 20 15
  let row := sf f 12 8
  let cnt := sf f 7 3
  let clr := sf f 14 14 == 1
  need (sf f 2 0 == 0 && decide (row + cnt ≤ 31))
  match macKind af bf with
  | none => .error fIllegal
  | some k =>
    idle e.t.macBusy e.now
    need (clr || e.t.kindsAre k row cnt)
    if sf f 13 13 = 1 then
      idle e.t.wldBusy e.now
      ((e.withT { e.t with wAct := e.t.wSh, wSh := e.t.wAct }).macFor (cnt + 1)).start (e.job (.mma af bf k clr) (cnt + 1) row 0)
    else (e.macFor (cnt + 1)).start (e.job (.mma af bf k clr) (cnt + 1) row 0)

/-- An operation that reads `n` lines from address `a` on, one a cycle, their banks taken at issue. -/
def TEnv.reads (e : TEnv) (k : Access) (j : JobKind) (row a n : Nat) : Except Nat TEnv := do
  let e ← e.reserve k e.now a n
  e.start (e.job j n row a)

/-- WLD (R103). -/
def opWld (f : BitVec 27) (e : TEnv) : Except Nat TEnv := do
  need (sf f 6 0 == 0)
  match wldLines (sf f 26 21) with
  | none => .error fIllegal
  | some (n, m) =>
    idle e.t.wldBusy e.now
    (e.withT { e.t with wldBusy := e.now + n + m }).reads .wld (.wld (sf f 26 21)) 0 (32 * sf f 20 7) (n + m)

/-- ANCH (R101, R102). -/
def opAnch (f : BitVec 27) (e : TEnv) : Except Nat TEnv := do
  let v := toSigned 8 (sf f 26 19)
  need (sf f 18 0 == 0 && decide (-126 ≤ v))
  idle e.t.macBusy e.now
  .ok ((e.withT { e.t with anch := v }).macFor 1)

/-- BIAS (R102): one term to each column of an enabled row, once its 8 lines are read. (DEDUCED, log entry 23.) -/
def opBias (f : BitVec 27) (e : TEnv) : Except Nat TEnv := do
  need (sf f 7 0 == 0)
  idle e.t.macBusy e.now
  (e.macFor 8).reads .bias .bias (sf f 26 22) (32 * sf f 21 8) 8

/-- WB (R79 to R82): its first row in this cycle. (DEDUCED, log entry 23.) -/
def opWb (f : BitVec 27) (e : TEnv) : Except Nat TEnv := do
  let o := sf f 26 21
  let row := sf f 20 16
  let cnt := sf f 15 11
  need (sf f 10 0 == 0 && wbFormat o && decide (row + cnt ≤ 31))
  idle e.t.macBusy e.now
  (e.macFor ((cnt + 1) * ((4 * elemBits o + 31) / 32))).start (e.job (.wb o) (cnt + 1) row 0)

/-- WPAR (R102): 32 requantisation entries, once their 8 lines are read. -/
def opWpar (f : BitVec 27) (e : TEnv) : Except Nat TEnv := do
  need (sf f 26 21 == 0 && sf f 6 0 == 0)
  idle e.t.macBusy e.now
  (e.macFor 8).reads .wpar .wpar 0 (32 * sf f 20 7) 8

/-- ASAVE (R76, R101): the row's states, a line a cycle, their banks taken at issue. -/
def opAsave (f : BitVec 27) (e : TEnv) : Except Nat TEnv := do
  need (sf f 7 0 == 0)
  idle e.t.macBusy e.now
  let row := tget e.t.rows (sf f 26 22) default
  let n := stateLines row.kind
  let a := 32 * sf f 21 8
  let e ← (e.macFor n).reserve .asave e.now a n
  e.start { e.job .asave 0 (sf f 26 22) a with outs := linesFrom a n row.stored }

/-- AMERGE (R76, R101), once its lines are read; a disabled row is unchanged (R102). (DEDUCED, log entry 23.) -/
def opAmerge (f : BitVec 27) (e : TEnv) : Except Nat TEnv := do
  need (sf f 7 0 == 0)
  idle e.t.macBusy e.now
  let r := sf f 26 22
  let n := stateLines (tget e.t.rows r default).kind
  (e.macFor n).reads .amerge .amerge r (32 * sf f 21 8) n

/-- MASK (R101): the row mask from the first word of a line. -/
def opMask (f : BitVec 27) (e : TEnv) : Except Nat TEnv := do
  need (sf f 26 21 == 0 && sf f 6 0 == 0)
  idle e.t.macBusy e.now
  let (e, bs) ← e.read .mask e.now (32 * sf f 20 7) 32
  .ok ((e.withT { e.t with mask := leNat (bs.take 4) }).macFor 1)

/-! ### The commands -/

/-- MMA. -/
def execMma (b : Issue) (f : BitVec 27) (s : State) : Host.Outcome State Fault Refusal := .next (s.runSlot b (opMma f))
/-- WLD. -/
def execWld (b : Issue) (f : BitVec 27) (s : State) : Host.Outcome State Fault Refusal := .next (s.runSlot b (opWld f))
/-- ANCH. -/
def execAnch (b : Issue) (f : BitVec 27) (s : State) : Host.Outcome State Fault Refusal := .next (s.runSlot b (opAnch f))
/-- BIAS. -/
def execBias (b : Issue) (f : BitVec 27) (s : State) : Host.Outcome State Fault Refusal := .next (s.runSlot b (opBias f))
/-- WB. -/
def execWb (b : Issue) (f : BitVec 27) (s : State) : Host.Outcome State Fault Refusal := .next (s.runSlot b (opWb f))
/-- WPAR. -/
def execWpar (b : Issue) (f : BitVec 27) (s : State) : Host.Outcome State Fault Refusal := .next (s.runSlot b (opWpar f))
/-- ASAVE. -/
def execAsave (b : Issue) (f : BitVec 27) (s : State) : Host.Outcome State Fault Refusal := .next (s.runSlot b (opAsave f))
/-- AMERGE. -/
def execAmerge (b : Issue) (f : BitVec 27) (s : State) : Host.Outcome State Fault Refusal := .next (s.runSlot b (opAmerge f))
/-- MASK. -/
def execMask (b : Issue) (f : BitVec 27) (s : State) : Host.Outcome State Fault Refusal := .next (s.runSlot b (opMask f))

end Sys2Proof.Machine
end

