-- ==== Sys2Proof/Machine/TileVpu.lean ====
section
/-! DEFINITION. The VPU slot (R84 to R87, R104, R105): 64 lanes of 32 bits. An operation reads its operands when it issues
and writes its destination after its latency. MOD bits that the table of R104 does not define must be zero. -/

namespace Sys2Proof.Machine

/-- Lane `k` of vector register `r` as it stands. -/
def Tile.lane (t : Tile) (r k : Nat) : Nat := tget (tget t.v r []) k 0

/-- A result joins those on their way, after every one due no later than it (R97, R104). -/
def insertPend (w : PendW) (l : List PendW) : List PendW :=
  match l with
  | [] => [w]
  | x :: r => if w.due < x.due then w :: x :: r else x :: insertPend w r

/-- A result for the lanes of `reg` (32: SD), `lat` cycles from now. -/
def TEnv.later (e : TEnv) (lat reg : Nat) (lanes : Tbl Nat) : TEnv :=
  e.withT { e.t with pend := insertPend ⟨e.now + lat, reg, lanes⟩ e.t.pend }

/-- A lane-wise operation: VD lane k becomes `g k`, after `lat` cycles. -/
def TEnv.lanes (e : TEnv) (f : BitVec 27) (lat : Nat) (g : Nat → Nat) : TEnv :=
  e.later lat (sf f 26 22) ((List.range 64).map (fun k => (k, g k)))

/-- Lane k of VA, VB and VD. -/
def TEnv.va (e : TEnv) (f : BitVec 27) (k : Nat) : Nat := e.t.lane (sf f 21 17) k
/-- Lane k of VB. -/
def TEnv.vb (e : TEnv) (f : BitVec 27) (k : Nat) : Nat := e.t.lane (sf f 16 12) k
/-- Lane k of VD as it stands. -/
def TEnv.vd (e : TEnv) (f : BitVec 27) (k : Nat) : Nat := e.t.lane (sf f 26 22) k

/-- MAX and MIN: MOD [0] chooses INT32 or FP32. -/
def opMaxMin (mx : Bool) (f : BitVec 27) (e : TEnv) : Except Nat TEnv := do
  need (sf f 11 1 == 0)
  .ok (e.lanes f 2 fun k => if sf f 0 0 = 1 then maxMin32 mx (e.va f k) (e.vb f k) else maxMinI mx (e.va f k) (e.vb f k))

/-- FUNC (R85 to R87). -/
def opFunc (f : BitVec 27) (e : TEnv) : Except Nat TEnv := do
  need (sf f 11 3 == 0)
  match vpuFunc (sf f 2 0) with
  | none => .error fIllegal
  | some g => .ok (e.lanes f 8 fun k => g (e.va f k))

/-- CVT (R84): reserved format codes are ILLEGAL (R66); a lane that R81 clamps sets OUT_SAT (DEDUCED, log entry 12). -/
def opCvt (f : BitVec 27) (e : TEnv) : Except Nat TEnv := do
  need (decide (sf f 11 6 ≤ 0x13 ∧ sf f 5 0 ≤ 0x13))
  let g (k : Nat) : Nat × Bool := cvtLane (sf f 5 0) (sf f 11 6) (e.va f k)
  .ok ((e.lanes f 4 fun k => (g k).1).flags e.now (if (List.range 64).any (fun k => (g k).2) then [numOutSat] else []))

/-- LOGIC. -/
def opLogic (f : BitVec 27) (e : TEnv) : Except Nat TEnv := do
  need (sf f 11 2 == 0)
  .ok (e.lanes f 1 fun k =>
    let a := e.va f k
    let b := e.vb f k
    match sf f 1 0 with
    | 0 => a &&& b
    | 1 => a ||| b
    | 2 => a ^^^ b
    | _ => a &&& (b ^^^ 0xFFFFFFFF))

/-- SHIFT. -/
def opShift (f : BitVec 27) (e : TEnv) : Except Nat TEnv := do
  need (sf f 11 8 == 0 && sf f 7 6 != 3)
  .ok (e.lanes f 1 fun k =>
    let a := e.va f k
    let n := if sf f 5 5 = 1 then e.vb f k % 32 else sf f 4 0
    match sf f 7 6 with
    | 0 => a * 2 ^ n % 2 ^ 32
    | 1 => a / 2 ^ n
    | _ => ofSigned 32 (toSigned 32 a / (2 : Int) ^ n))

/-- SEL. -/
def opSel (f : BitVec 27) (e : TEnv) : Except Nat TEnv := do
  need (sf f 11 0 == 0)
  .ok (e.lanes f 1 fun k => if e.vd f k ≠ 0 then e.va f k else e.vb f k)

/-- CMP. -/
def opCmp (f : BitVec 27) (e : TEnv) : Except Nat TEnv := do
  need (sf f 11 3 == 0 && sf f 1 0 != 3)
  .ok (e.lanes f 2 fun k =>
    let a := e.va f k
    let b := e.vb f k
    let eq := if sf f 2 2 = 1 then eq32 a b else decide (a = b)
    let lt := if sf f 2 2 = 1 then lt32 a b else decide (toSigned 32 a < toSigned 32 b)
    b2n (match sf f 1 0 with | 0 => eq | 1 => lt | _ => eq || lt))

/-- RED (R105): lane 0 is the reduction of VA, the other lanes 0. -/
def opRed (f : BitVec 27) (e : TEnv) : Except Nat TEnv := do
  let k := sf f 1 0
  let fp := sf f 2 2 == 1
  need (sf f 11 3 == 0 && (decide (2 ≤ k) || !fp))
  let op (a b : Nat) : Nat := match k with
    | 0 => addW a b
    | 1 => add32 a b
    | _ => if fp then maxMin32 (k == 2) a b else maxMinI (k == 2) a b
  let r := (redTree op 6 ((List.range 64).map (e.va f))).headD 0
  .ok (e.lanes f 12 fun i => if i = 0 then r else 0)

/-- IMM: every lane the sign-extended MOD. -/
def opImm (f : BitVec 27) (e : TEnv) : Except Nat TEnv := .ok (e.lanes f 1 fun _ => ofSigned 32 (toSigned 12 (sf f 11 0)))

/-- MOVSD: SD from VA lane 0, or VD lane 0 from SD. -/
def opMovsd (f : BitVec 27) (e : TEnv) : Except Nat TEnv := do
  need (sf f 11 1 == 0)
  .ok (if sf f 0 0 = 0 then e.later 1 32 [(0, e.va f 0)] else e.later 1 (sf f 26 22) [(0, e.t.sd)])

/-- BCAST. -/
def opBcast (f : BitVec 27) (e : TEnv) : Except Nat TEnv := do
  need (sf f 11 6 == 0)
  .ok (e.lanes f 1 fun _ => e.va f (sf f 5 0))

/-- A lane-wise operation without MOD. -/
def opLanes (lat : Nat) (g : Nat → Nat → Nat → Nat) (f : BitVec 27) (e : TEnv) : Except Nat TEnv := do
  need (sf f 11 0 == 0)
  .ok (e.lanes f lat fun k => g (e.vd f k) (e.va f k) (e.vb f k))

/-! ### The commands -/

/-- FADD. -/
def execFadd (b : Issue) (f : BitVec 27) (s : State) : Host.Outcome State Fault Refusal :=
  .next (s.runSlot b (opLanes 4 (fun _ x y => add32 x y) f))
/-- FMUL. -/
def execFmul (b : Issue) (f : BitVec 27) (s : State) : Host.Outcome State Fault Refusal :=
  .next (s.runSlot b (opLanes 4 (fun _ x y => mul32 x y) f))
/-- FFMA. -/
def execFfma (b : Issue) (f : BitVec 27) (s : State) : Host.Outcome State Fault Refusal :=
  .next (s.runSlot b (opLanes 4 (fun z x y => fma32 x y z) f))
/-- IADD. -/
def execIadd (b : Issue) (f : BitVec 27) (s : State) : Host.Outcome State Fault Refusal :=
  .next (s.runSlot b (opLanes 2 (fun _ x y => addW x y) f))
/-- ISUB. -/
def execIsub (b : Issue) (f : BitVec 27) (s : State) : Host.Outcome State Fault Refusal :=
  .next (s.runSlot b (opLanes 2 (fun _ x y => subW x y) f))
/-- IMUL. -/
def execImul (b : Issue) (f : BitVec 27) (s : State) : Host.Outcome State Fault Refusal :=
  .next (s.runSlot b (opLanes 2 (fun _ x y => mulW x y) f))
/-- MAX. -/
def execMax (b : Issue) (f : BitVec 27) (s : State) : Host.Outcome State Fault Refusal :=
  .next (s.runSlot b (opMaxMin true f))
/-- MIN. -/
def execMin (b : Issue) (f : BitVec 27) (s : State) : Host.Outcome State Fault Refusal :=
  .next (s.runSlot b (opMaxMin false f))
/-- FUNC. -/
def execFunc (b : Issue) (f : BitVec 27) (s : State) : Host.Outcome State Fault Refusal :=
  .next (s.runSlot b (opFunc f))
/-- CVT. -/
def execCvt (b : Issue) (f : BitVec 27) (s : State) : Host.Outcome State Fault Refusal :=
  .next (s.runSlot b (opCvt f))
/-- LOGIC. -/
def execLogic (b : Issue) (f : BitVec 27) (s : State) : Host.Outcome State Fault Refusal :=
  .next (s.runSlot b (opLogic f))
/-- SHIFT. -/
def execShift (b : Issue) (f : BitVec 27) (s : State) : Host.Outcome State Fault Refusal :=
  .next (s.runSlot b (opShift f))
/-- SEL. -/
def execSel (b : Issue) (f : BitVec 27) (s : State) : Host.Outcome State Fault Refusal :=
  .next (s.runSlot b (opSel f))
/-- CMP. -/
def execCmp (b : Issue) (f : BitVec 27) (s : State) : Host.Outcome State Fault Refusal :=
  .next (s.runSlot b (opCmp f))
/-- RED. -/
def execRed (b : Issue) (f : BitVec 27) (s : State) : Host.Outcome State Fault Refusal :=
  .next (s.runSlot b (opRed f))
/-- IMM. -/
def execImm (b : Issue) (f : BitVec 27) (s : State) : Host.Outcome State Fault Refusal :=
  .next (s.runSlot b (opImm f))
/-- MOVSD. -/
def execMovsd (b : Issue) (f : BitVec 27) (s : State) : Host.Outcome State Fault Refusal :=
  .next (s.runSlot b (opMovsd f))
/-- BCAST. -/
def execBcast (b : Issue) (f : BitVec 27) (s : State) : Host.Outcome State Fault Refusal :=
  .next (s.runSlot b (opBcast f))

end Sys2Proof.Machine
end

