-- ==== Sys2Proof/Machine/TileWag.lean ====
section
/-! DEFINITION. The Window Address Generator and load/store slot, and the data network (R106 to R109, R112 to R114,
R186). -/

namespace Sys2Proof.Machine

/-- WCFG: a descriptor into generator A, V or S. It is read and checked when the operation issues, the banks of its two lines taken one each cycle, and the
generator holds it once the two cycles have passed (DESIGN CHOICE, log entry 14). -/
def opWcfg (f : BitVec 27) (e : TEnv) : Except Nat TEnv := do
  need (sf f 26 25 != 3 && sf f 24 14 == 0)
  idle e.t.wagBusy e.now
  let (e, ls) ← e.readLines .wcfg e.now (32 * sf f 13 0) 2
  match wagOf ls.flatten with
  | none => .error fIllegal
  | some _ => (e.withT { e.t with wagBusy := e.now + 2 }).start { e.job (.wcfg (sf f 26 25)) 0 0 0 with got := ls, next := e.now + 2 }

/-- The 32-bit words of bytes as lanes from lane `k0` on. -/
def lanesOf (k0 : Nat) (bs : List Byte) : Tbl Nat :=
  (List.range (bs.length / 4)).map fun k => (k0 + k, leNat ((bs.drop (4 * k)).take 4))

/-- The bytes of `n` lanes from lane `k0` on. -/
def Tile.laneBytes (t : Tile) (r k0 n : Nat) : List Byte := ((List.range n).map (fun k => leBytes 4 (t.lane r (k0 + k)))).flatten

/-- VLD. -/
def opVld (f : BitVec 27) (e : TEnv) : Except Nat TEnv := do
  need (sf f 10 0 == 0)
  idle e.t.wagBusy e.now
  let (e, bs) ← e.read .vld e.now (256 * sf f 21 11) 256
  .ok (e.later 1 (sf f 26 22) (lanesOf 0 bs))

/-- VST. -/
def opVst (f : BitVec 27) (e : TEnv) : Except Nat TEnv := do
  need (sf f 10 0 == 0)
  idle e.t.wagBusy e.now
  e.write .vst e.now (256 * sf f 21 11) (e.t.laneBytes (sf f 26 22) 0 64)

/-- VLDG: the next line of generator V into lanes 8J to 8J + 7; a padded line is all zero. -/
def opVldg (f : BitVec 27) (e : TEnv) : Except Nat TEnv := do
  need (sf f 18 0 == 0)
  idle e.t.wagBusy e.now
  let (g, _, a) ← e.t.genV.next
  let e := e.withT { e.t with genV := g }
  match a with
  | none => .ok (e.later 1 (sf f 26 22) (lanesOf (8 * sf f 21 19) (List.replicate 32 0)))
  | some a =>
    let (e, bs) ← e.read .vldg e.now a 32
    .ok (e.later 1 (sf f 26 22) (lanesOf (8 * sf f 21 19) bs))

/-- VSTG: lanes 8J to 8J + 7 to the next address of generator S; a padded address stores nothing. -/
def opVstg (f : BitVec 27) (e : TEnv) : Except Nat TEnv := do
  need (sf f 18 0 == 0)
  idle e.t.wagBusy e.now
  let (g, _, a) ← e.t.genS.next
  let e := e.withT { e.t with genS := g }
  match a with
  | none => .ok e
  | some a => e.write .vstg e.now a (e.t.laneBytes (sf f 26 22) (8 * sf f 21 19) 8)

/-- SEND (R113): 64 bytes to an endpoint, 48 active cycles on; none in a handover cycle (R114). A tile of MAINT reaches the memory system alone: its writes are
confined to its own SRAM and the QUILL region (R227; DESIGN CHOICE, log entry 25). -/
def opSend (f : BitVec 27) (e : TEnv) : Except Nat TEnv := do
  need (sf f 17 13 == 0 && decide (sf f 26 18 ≤ 265) && e.now % 20000 % 16 != 15)
  idle e.t.wagBusy e.now
  let (e, bs) ← e.read .send e.now (64 * sf f 12 0) 64
  let x : Xfer := { src := e.d.vtileOf e.p, dst := sf f 26 18, due := e.now + 48, data := bs, got := false }
  if 512 ≤ x.src ∧ x.dst ≠ 260 then .ok e else
  .ok { e with d := { e.d with tar := { e.d.tar with net := e.d.tar.net ++ [x] } } }

/-- RECV (R113): the 64 bytes that arrive in this cycle from SRC. Nothing arriving is NET_EMPTY; an arrival from another
endpoint, or two arrivals at once, is NET_DROP. (DEDUCED, log entry 23.) -/
def opRecv (f : BitVec 27) (e : TEnv) : Except Nat TEnv := do
  let src := sf f 26 18
  need (sf f 17 13 == 0 && decide (src ≤ 265))
  idle e.t.wagBusy e.now
  let here := e.d.tar.net.filter (fun x => x.dst == e.d.vtileOf e.p && x.due == e.now)
  match here with
  | [] => .error fNetEmpty
  | [x] =>
    if x.src ≠ src then .error fNetDrop
    else
      let e ← e.write (.recv (decide (src = 260 ∨ src = 265))) e.now (64 * sf f 12 0) x.data
      .ok { e with d := { e.d with tar := { e.d.tar with
              net := e.d.tar.net.map (fun y => if y = x then { y with got := true } else y) } } }
  | _ => .error fNetDrop

/-- The greatest logical line address (R186). -/
def maxLine : Nat := 503316479

/-- R186: the stream number and the stream that a 32-byte memory command arms, or `none` where it breaks a rule. -/
def streamOf (bs : List Byte) : Option (Nat × Stream) :=
  let w (i : Nat) : Nat := leNat ((bs.drop (4 * i)).take 4)
  let s : Stream :=
    { dir := bits 7 6 (w 0), tfmt := bits 13 8 (w 0), codec := bits 15 14 (w 0), laddr := bits 28 0 (w 1)
      lines := bits 15 0 (w 2), taddr := bits 12 0 (w 3), lscale := bits 28 0 (w 4), scaleT := bits 18 0 (w 5), moved := 0, half := false }
  let reserved := bits 31 16 (w 0) + bits 31 29 (w 1) + bits 31 16 (w 2) + bits 31 13 (w 3) + bits 31 29 (w 4) +
    bits 31 19 (w 5) + w 6 + w 7
  if reserved = 0 ∧ s.dir ≤ 1 ∧ s.codec ≠ 3 ∧ s.tfmt ≤ 0x13 ∧ s.laddr ≤ maxLine ∧ 1 ≤ s.lines ∧
      (s.codec = 1 → (s.tfmt ≤ 1 ∨ s.tfmt = 8) ∧ s.lines % 2 = 0) ∧ (s.codec = 2 → isMx s.tfmt = true)
  then some (bits 5 0 (w 0), s) else none

/-- MCMD (R186, R187): arms a stream; transfers left over of the command it replaces set UNARMED. -/
def opMcmd (f : BitVec 27) (e : TEnv) : Except Nat TEnv := do
  need (sf f 26 14 == 0)
  idle e.t.wagBusy e.now
  let (e, bs) ← e.read .mcmd e.now (32 * sf f 13 0) 32
  match streamOf bs with
  | none => .error fIllegal
  | some (n, s) =>
    let k := 64 * e.d.vtileOf e.p + n
    let old := tget e.d.mem.streams k default
    let e := if old.moved < old.lines then e.event e.now none else e
    .ok { e with
      d := { e.d with mem := { e.d.mem with streams := tset e.d.mem.streams k s } }
      slot := { e.slot with undoS := some (k, old) } }

/-- A transfer reaches its receiver (R113): at an engine it joins what has arrived there; at a tile that issues no
matching RECV in this cycle it is NET_DROP. (DEDUCED, log entry 23.) -/
def transferArrival (e cyc : Nat) (d : DieState) : DieState × List Host.Cell :=
  let d := d.toCycle cyc
  let now := d.seq.step * 20000 + cyc
  let here := d.tar.net.filter (fun x => x.dst == e && x.due == now)
  let d := { d with tar := { d.tar with net := d.tar.net.filter (fun x => !(x.dst == e && x.due == now)) } }
  if here.isEmpty then (d, [])
  else if 256 ≤ e then ({ d with tar := { d.tar with inbox := d.tar.inbox ++ here } }, [])
  else if here.all (·.got) then (d, [])
  else
    let p := d.ptileOf e
    let s := d.slotOf p
    if s.cur.stat ≠ .running then (d, [])
    else faultTile d p now fNetDrop (if s.at_ = some now then s else { s with pre := s.cur, pcAt := s.cur.pc, undo := [], undoS := none })

/-! ### The commands -/

/-- WCFG. -/
def execWcfg (b : Issue) (f : BitVec 27) (s : State) : Host.Outcome State Fault Refusal := .next (s.runSlot b (opWcfg f))
/-- VLD. -/
def execVld (b : Issue) (f : BitVec 27) (s : State) : Host.Outcome State Fault Refusal := .next (s.runSlot b (opVld f))
/-- VST. -/
def execVst (b : Issue) (f : BitVec 27) (s : State) : Host.Outcome State Fault Refusal := .next (s.runSlot b (opVst f))
/-- VLDG. -/
def execVldg (b : Issue) (f : BitVec 27) (s : State) : Host.Outcome State Fault Refusal := .next (s.runSlot b (opVldg f))
/-- VSTG. -/
def execVstg (b : Issue) (f : BitVec 27) (s : State) : Host.Outcome State Fault Refusal := .next (s.runSlot b (opVstg f))
/-- SEND. -/
def execSend (b : Issue) (f : BitVec 27) (s : State) : Host.Outcome State Fault Refusal := .next (s.runSlot b (opSend f))
/-- RECV. -/
def execRecv (b : Issue) (f : BitVec 27) (s : State) : Host.Outcome State Fault Refusal := .next (s.runSlot b (opRecv f))
/-- MCMD. -/
def execMcmd (b : Issue) (f : BitVec 27) (s : State) : Host.Outcome State Fault Refusal := .next (s.runSlot b (opMcmd f))
/-- TRANSFER_ARRIVAL at endpoint `e`. -/
def execTransferArrival (d : Die) (e : Fin 266) (cyc : Fin 20000) (s : State) : Host.Outcome State Fault Refusal :=
  .next (s.onDieMem d (fun _ _ x => transferArrival e.val cyc.val x))

end Sys2Proof.Machine
end

