-- ==== Sys2Proof/Machine/TileCtl.lean ====
section
/-! DEFINITION. The control and sync slot (R110) and the commands of waits, barriers and Strokes (R98, R99, R208 to
R220). -/

namespace Sys2Proof.Machine

/-- The slot bits [hi:lo] of the control slot's fields. -/
def cf (f : BitVec 19) (hi lo : Nat) : Nat := bits hi lo f.toNat

/-- WAIT: the next bundle issues N active cycles later. -/
def opWait (f : BitVec 19) (e : TEnv) : Except Nat TEnv := do
  need (cf f 18 14 == 0 && cf f 13 0 != 0)
  .ok (e.withT { e.t with wait := .timer, ready := e.now + cf f 13 0 })

/-- LOOP: the next LEN + 1 bundles run CNT + 1 times; a fifth level is a LOOP fault. -/
def opLoop (f : BitVec 19) (e : TEnv) : Except Nat TEnv :=
  let loops := e.slot.pre.loops
  let pc := e.slot.pcAt
  if 4 ≤ loops.length then .error fLoop
  else .ok (e.withT { e.t with pc := pc + 1, loops := ⟨pc + 1, pc + 1 + cf f 6 0, cf f 18 7⟩ :: loops })

/-- JUMP: the next bundle is TARGET; the loop stack stays as it stood, of which the spec says nothing (DESIGN CHOICE, log entry 39). -/
def opJump (f : BitVec 19) (e : TEnv) : Except Nat TEnv := do
  need (cf f 18 15 == 0)
  .ok (e.withT { e.t with pc := cf f 14 0, loops := e.slot.pre.loops })

/-- A sync operation leaves for its word, which it reaches in 16 cycles (R208). -/
def TEnv.launch (e : TEnv) (op vsid : Nat) : TEnv :=
  let o : SyncOp := ⟨e.now + 16, e.d.vtileOf e.p, e.p, e.d.ctxOf e.p, op, vsid, e.t.sd⟩
  { e with d := { e.d with syn := { e.d.syn with ops := insertOp o e.d.syn.ops } } }

/-- SYNC with operation `op`. -/
def opSync (op : Nat) (v : BitVec 16) (e : TEnv) : Except Nat TEnv := .ok (e.launch op v.toNat)

/-- SWAIT: the next bundle waits for the word's state; the first probe reaches it 16 cycles on (R211). -/
def opSwait (f : BitVec 19) (e : TEnv) : Except Nat TEnv := do
  need (decide (cf f 18 17 ≤ 1) && cf f 16 16 == 0)
  .ok (e.withT { e.t with wait := .sync (cf f 15 0) (cf f 18 17) (e.now + 16) e.d.seq.step e.t.budget (hSen e.t.hdr) none })

/-- BUDGET (R212). -/
def opBudget (f : BitVec 19) (e : TEnv) : Except Nat TEnv := do
  need (cf f 18 16 == 0 && cf f 15 0 != 0)
  .ok (e.withT { e.t with budget := cf f 15 0 })

/-- An arrival joins those under way, by cycle, then by participant. -/
def insertArr (a : BarArr) (l : List BarArr) : List BarArr :=
  match l with
  | [] => [a]
  | x :: r => if a.reach < x.reach ∨ (a.reach = x.reach ∧ a.part < x.part) then a :: x :: r else x :: insertArr a r

/-- BARRIER: an arrival leaves for its barrier (R219). -/
def opBarrier (f : BitVec 19) (e : TEnv) : Except Nat TEnv := do
  need (cf f 18 6 == 0)
  let a : BarArr := ⟨e.now + 16, cf f 5 0, e.d.vtileOf e.p, e.p, e.d.ctxOf e.p⟩
  .ok { e with d := { e.d with syn := { e.d.syn with arrs := insertArr a e.d.syn.arrs } } }

/-- BWAIT: the next bundle waits for the barrier (R220). -/
def opBwait (f : BitVec 19) (e : TEnv) : Except Nat TEnv := do
  need (cf f 18 6 == 0)
  let e := e.withT { e.t with wait := .bar (cf f 5 0) 0 e.d.seq.step e.t.budget false (hSen e.t.hdr) none }
  .ok (e.launch 5 (cf f 5 0))

/-- HALT: the tile stops issuing. -/
def opHalt (f : BitVec 19) (e : TEnv) : Except Nat TEnv := do
  need (f.toNat == 0)
  .ok (e.withT { e.t with stat := .halted })

/-- WAIT_EXPIRY: the cycles of a WAIT have passed. -/
def waitExpiry (p : Nat) (d : DieState) : DieState :=
  let s := d.slotOf p
  match s.cur.wait with
  | .timer =>
    if s.cur.ready < (d.seq.step + 1) * 20000 then
      (d.toCycle (d.cycOf s.cur.ready)).setSlot p { s with cur := { s.cur with wait := .none } }
    else d
  | _ => d

/-- STROKE_LEN: an open Stroke reaches its 64,001st active cycle (R99). -/
def strokeLen (p : Nat) (d : DieState) : DieState × List Host.Cell :=
  let s := d.slotOf p
  match s.cur.stroke with
  | some a =>
    let t := a + 64000
    if s.cur.stat = .running ∧ d.stepping ∧ t < (d.seq.step + 1) * 20000 then
      faultTile (d.toCycle (d.cycOf t)) p t fStrokeLen { s with pre := s.cur, pcAt := s.cur.pc, undo := [], undoS := none }
    else (d, [])
  | none => (d, [])

/-! ### The commands -/

/-- WAIT. -/
def execWait (b : Issue) (f : BitVec 19) (s : State) : Host.Outcome State Fault Refusal := .next (s.runSlot b (opWait f))
/-- WAIT_EXPIRY. -/
def execWaitExpiry (d : Die) (p : Fin 272) (s : State) : Host.Outcome State Fault Refusal := .next (s.onDie d (waitExpiry p.val))
/-- LOOP. -/
def execLoop (b : Issue) (f : BitVec 19) (s : State) : Host.Outcome State Fault Refusal := .next (s.runSlot b (opLoop f))
/-- JUMP. -/
def execJump (b : Issue) (f : BitVec 19) (s : State) : Host.Outcome State Fault Refusal := .next (s.runSlot b (opJump f))
/-- WRITE_FULL. -/
def execWriteFull (b : Issue) (v : BitVec 16) (s : State) : Host.Outcome State Fault Refusal := .next (s.runSlot b (opSync 0 v))
/-- READ_EMPTY. -/
def execReadEmpty (b : Issue) (v : BitVec 16) (s : State) : Host.Outcome State Fault Refusal := .next (s.runSlot b (opSync 1 v))
/-- POLL. -/
def execPoll (b : Issue) (v : BitVec 16) (s : State) : Host.Outcome State Fault Refusal := .next (s.runSlot b (opSync 2 v))
/-- FILL. -/
def execFill (b : Issue) (v : BitVec 16) (s : State) : Host.Outcome State Fault Refusal := .next (s.runSlot b (opSync 3 v))
/-- CLEAR. -/
def execClear (b : Issue) (v : BitVec 16) (s : State) : Host.Outcome State Fault Refusal := .next (s.runSlot b (opSync 4 v))
/-- SYNC_RESPONSE. -/
def execSyncResponse (d : Die) (cyc : Fin 20000) (s : State) : Host.Outcome State Fault Refusal :=
  .next (s.onDM d (fun _ => syncResponse cyc.val))
/-- SWAIT. -/
def execSwait (b : Issue) (f : BitVec 19) (s : State) : Host.Outcome State Fault Refusal := .next (s.runSlot b (opSwait f))
/-- SWAIT_PROBE. -/
def execSwaitProbe (d : Die) (p : Fin 272) (s : State) : Host.Outcome State Fault Refusal :=
  .next (s.onDM d (fun _ => swaitProbe p.val))
/-- BUDGET. -/
def execBudget (b : Issue) (f : BitVec 19) (s : State) : Host.Outcome State Fault Refusal := .next (s.runSlot b (opBudget f))
/-- POLL_TIMEOUT. -/
def execPollTimeout (d : Die) (p : Fin 272) (s : State) : Host.Outcome State Fault Refusal := .next (s.onDie d (pollTimeout p.val))
/-- BARRIER. -/
def execBarrier (b : Issue) (f : BitVec 19) (s : State) : Host.Outcome State Fault Refusal := .next (s.runSlot b (opBarrier f))
/-- BARRIER_ARRIVAL. -/
def execBarrierArrival (d : Die) (n : Fin 64) (cyc : Fin 20000) (s : State) : Host.Outcome State Fault Refusal :=
  .next (s.onDM d (fun _ => barrierArrival n.val cyc.val))
/-- ENGINE_BARRIER_ARRIVAL. -/
def execEngineBarrierArrival (d : Die) (n : Fin 64) (e : Fin 10) (cyc : Fin 20000) (s : State) : Host.Outcome State Fault Refusal :=
  .next (s.onDM d (fun _ => engineArrival n.val e.val cyc.val))
/-- BWAIT. -/
def execBwait (b : Issue) (f : BitVec 19) (s : State) : Host.Outcome State Fault Refusal := .next (s.runSlot b (opBwait f))
/-- BWAIT_RELEASE. -/
def execBwaitRelease (d : Die) (p : Fin 272) (s : State) : Host.Outcome State Fault Refusal :=
  .next (s.onDM d (fun _ => bwaitRelease p.val))
/-- TILE_HALT. -/
def execTileHalt (b : Issue) (f : BitVec 19) (s : State) : Host.Outcome State Fault Refusal := .next (s.runSlot b (opHalt f))
/-- STROKE_LEN. -/
def execStrokeLen (d : Die) (p : Fin 272) (s : State) : Host.Outcome State Fault Refusal :=
  .next (s.onDieMem d (fun _ _ x => strokeLen p.val x))

end Sys2Proof.Machine
end

