-- ==== Sys2Proof/Machine/Rotation.lean ====
section
/-! DEFINITION. The rotating spare of the tile groups and of the Stem lane groups (R115 to R126, R163 to R165): handovers,
group tests, test ages and fence requests. -/

namespace Sys2Proof.Machine

/-- Which of the two rotations: `false` the tile groups (TAR), `true` the Stem lane groups (STM). Their registers have one
layout (R165). (DEDUCED, log entry 24.) -/
abbrev Rot := Bool

/-- The block of a rotation's registers. -/
def Rot.block (u : Rot) : Nat := if u then rSTM_MAP else rTAR_MAP

/-- The unit code. -/
def Rot.unit (u : Rot) : Nat := if u then 4 else 6

/-- Register places of a rotation. -/
def Rot.map (u : Rot) (vg : Nat) : Nat := Rot.block u + 4 * vg
/-- `_OUT`. -/
def Rot.out (u : Rot) : Nat := Rot.block u + 0x40
/-- `_ROT_CFG`. -/
def Rot.cfg (u : Rot) : Nat := Rot.block u + 0x44
/-- `_DWELL`. -/
def Rot.dwell (u : Rot) : Nat := Rot.block u + 0x48
/-- `_TEST_LIMIT`. -/
def Rot.limit (u : Rot) : Nat := Rot.block u + 0x4C
/-- `_DIAG`. -/
def Rot.diag (u : Rot) : Nat := Rot.block u + 0x50
/-- `_MAX_INTERVAL`. -/
def Rot.maxInt (u : Rot) : Nat := Rot.block u + 0x54
/-- `_HANDOVERS`. -/
def Rot.hands (u : Rot) : Nat := Rot.block u + 0x58
/-- `_GRP`. -/
def Rot.grp (u : Rot) (g : Nat) : Nat := Rot.block u + 0x80 + 4 * g

/-- What no register shows of a rotation. -/
def DieState.rot (d : DieState) (u : Rot) : Rotation := if u then d.stm.rot else d.tar.rot

/-- Replace it. -/
def DieState.setRot (d : DieState) (u : Rot) (r : Rotation) : DieState :=
  if u then { d with stm := { d.stm with rot := r } } else { d with tar := { d.tar with rot := r } }

/-- The state of group `g` (R115). -/
def DieState.grpState (d : DieState) (u : Rot) (g : Nat) : Nat := d.fld (Rot.grp u g) 2 0

/-- The out-of-rotation group. -/
def DieState.rotOut (d : DieState) (u : Rot) : Nat := d.fld (Rot.out u) 4 0

/-- SPARE_EXHAUSTED. -/
def DieState.exhausted (d : DieState) (u : Rot) : Bool := d.flag (Rot.diag u) 1

/-- Group `g` becomes FENCED and rotation stops (R123). `failed`: its test failed. -/
def DieState.fenceGroup (d : DieState) (u : Rot) (g : Nat) (failed : Bool) : DieState :=
  let d := d.setFld (Rot.grp u g) 2 0 6
  let d := if failed then d.setFlag (Rot.grp u g) 3 true else d
  let d := d.raiseWith (Rot.diag u) 1 (some 58) []
  let d := d.setFlag (Rot.out u) 8 true
  let d := (d.setUsw (Rot.unit u) 3).uswEvent (Rot.unit u) 0xFF 3
  let d := d.life (24 + d.die.num) 1
  if d.flag (Rot.cfg u) 1 then d.detect 12 else d

/-- A handover is due: the dwell less 8 steps have passed since step 0 or the last switch, ENABLE is 1 and the spare is not
exhausted (R117); while a group is brought out to be fenced, at once (R124). (DEDUCED, log entry 24.) -/
def DieState.handDue (d : DieState) (u : Rot) : Bool :=
  let r := d.rot u
  d.stepping && r.hand.isNone && !d.exhausted u && !(u && d.stm.fenced) &&
    (r.fencing.isSome || (d.flag (Rot.cfg u) 0 && decide (r.lastSw + (max 1000 (d.rd (Rot.dwell u)) - 8) ≤ d.seq.step)))

/-- A maintenance Stroke is open on the out-of-rotation group (R227). -/
def DieState.maintBusy (d : DieState) : Bool :=
  d.ctx.maint && (List.range 16).any (fun t => (d.slotOf (16 * d.outGroup + t)).cur.stroke.isSome)

/-- MAINT stops: its tiles' state and the words on them are discarded (R227). -/
def DieState.maintStop (d : DieState) : DieState :=
  if !d.ctx.maint then d
  else
    let g := d.outGroup
    { d with
      ctx := { d.ctx with maint := false }
      tar := { d.tar with tiles := d.tar.tiles.filter (fun x => x.1 / 16 ≠ g) }
      syn := { d.syn with words := d.syn.words.filter (fun x => x.1 / 256 / 16 ≠ g) } }

/-- HANDOVER_BEGIN (R117): the next group becomes HANDOVER_OUT and the STANDBY group HANDOVER_IN. A due handover that waits
for a test, or for an open maintenance Stroke, sets TEST_WAIT. It begins at a step boundary: in the first active cycle of a step. -/
def handoverBegin (u : Rot) (d : DieState) : DieState :=
  if !d.handDue u ∨ d.seq.cycle ≠ 0 then d
  else
    let o := d.rotOut u
    let n := (o + 1) % 17
    if d.grpState u o ≠ 5 ∨ (!u ∧ d.maintBusy) then (if d.grpState u o = 4 ∨ d.grpState u o = 5 then d.raise (Rot.diag u) 3 else d)
    else
      let d := if u then d else d.maintStop
      let d := (d.setFld (Rot.grp u n) 2 0 2).setFld (Rot.grp u o) 2 0 3
      d.setRot u { d.rot u with hand := some ⟨n, o, d.seq.step⟩, copies := [], mirror := [], mirrorW := [] }

/-- The place of 64 bytes that handover cycle `m` of step H + `j` copies within a tile (R118) or a lane group (R163). -/
def copyOffset (u : Rot) (j m : Nat) : Option Nat :=
  if u then (let h := 1250 * j + m; if h < 7680 then some (64 * h) else none)
  else (let r := 78 * j + m / 16; if r < 512 then some (1024 * r + 64 * (m % 16)) else none)

/-- Where the memory of unit `i` of group `g` begins: a tile's SRAM, or a Stem lane group's (R92, R157). -/
def unitBase (u : Rot) (d : Die) (g i : Nat) : Nat := if u then (Space.stem d).base + 491520 * g else sramBase d (16 * g + i)

/-- Units of a group: 16 tiles, or the one lane group. -/
def unitCount (u : Rot) : Nat := if u then 1 else 16

/-- Bytes of a unit's memory. -/
def unitSize (u : Rot) : Nat := if u then 491520 else 0x80000

/-- The stores of a copy: its words but those that a mirrored write has reached since it was read (R118). -/
def CopyW.cells (c : CopyW) : List Host.Cell := (cellsAt c.addr c.data).filter (fun x => !c.since.contains (x.1 / 4))

/-- The words of a copy that mirrored writes have reached since it was read. -/
def CopyW.note (c : CopyW) (ms : List (Nat × Host.Cell)) : CopyW :=
  { c with since := c.since ++ (ms.filter (fun m => decide (c.read ≤ m.1 ∧ c.addr ≤ m.2.1 ∧ m.2.1 < c.addr + 64))).map (fun m => m.2.1 / 4) }

/-- What is due at the incoming group by active cycle `t` is written: copies, then mirrored writes and word states in their order (R118). -/
def DM.mirrorTo (u : Rot) (t : Nat) (x : DM) : DM :=
  let r : Rotation := x.d.rot u
  let ms := r.mirror.filter (fun m => decide (m.1 ≤ t))
  let ws := r.mirrorW.filter (fun m => decide (m.1 ≤ t))
  let x := (x.store ((r.copies.filter (fun c => decide (c.due ≤ t))).flatMap CopyW.cells)).store (ms.map (·.2))
  x.onD fun d =>
    let d : DieState := { d with syn := { d.syn with words := ws.foldl (fun t (w : Nat × Nat × Nat) => wordsSet t w.2.1 w.2.2) d.syn.words } }
    d.setRot u { r with
      copies := (r.copies.filter (fun c => !decide (c.due ≤ t))).map (·.note ms)
      mirror := r.mirror.filter (fun m => !decide (m.1 ≤ t)), mirrorW := r.mirrorW.filter (fun m => !decide (m.1 ≤ t)) }

/-- The active cycle in which what handover cycle `m` of this step reads is written: 2 cycles after the next handover cycle that reserves the pair, 16 handover
cycles on (R118); in a lane group, which has no pairs, after the next handover cycle. (DEDUCED, log entry 24.) -/
def DieState.copyDue (d : DieState) (u : Rot) (m : Nat) : Nat :=
  let gap := if u then 1 else 16
  if m + gap < 1250 then d.acyc (16 * (m + gap) + 17) else d.acyc (20000 + 16 * (m % gap) + 17)

/-- HANDOVER_COPY (R118, R163): handover cycle `m` of the step reads 64 bytes of each tile of the outgoing group; they are on their way to its counterpart.
(DEDUCED, log entry 24.) -/
def handoverCopy (u : Rot) (m : Nat) (x : DM) : DM :=
  match (x.d.rot u).hand with
  | none => x
  | some h =>
    let x := x.onD (·.toCycle (16 * m + 15))
    let now := x.d.acyc (16 * m + 15)
    let x := (x.allJobs now).mirrorTo u now
    let j := x.d.seq.step - h.step
    if 6 < j ∨ !x.d.stepping then x
    else
      match copyOffset u j m with
      | none => x
      | some a =>
        let copy (i : Nat) : CopyW :=
          { read := now, due := x.d.copyDue u m, addr := unitBase u x.d.die h.inc i + a, data := memRead x.mem (unitBase u x.d.die h.outg i + a) 64, since := [] }
        x.onD (fun d => d.setRot u { d.rot u with copies := (d.rot u).copies ++ (List.range (unitCount u)).map copy })

/-- A tile may be switched (R119): its last bundle carried FS, its units are idle, and it has not stopped on a fault. -/
def Tile.handoverReady (t : Tile) (now : Nat) : Bool :=
  hFs t.hdr && decide (t.macBusy ≤ now ∧ t.wldBusy ≤ now ∧ t.wagBusy ≤ now) && (t.settle now).pend.isEmpty && decide (t.stat ≠ .stopped)

/-- Every tile of group `g` that has issued a bundle is handover-ready; a Stem lane group always is (R163). -/
def DieState.groupReady (d : DieState) (u : Rot) (g : Nat) : Bool :=
  u || (List.range 16).all (fun t => let s := d.slotOf (16 * g + t); s.at_.isNone || s.cur.handoverReady (d.seq.step * 20000))

/-- A tile of the incoming group with the mirrored control state of its counterpart (R91): bundle counter, loop stack, SD, poll budget, row mask, regions and
step-locked flag, and what says when and whether its next bundle issues. Its accumulators, buffers, vector registers and generators are its own: they are not
mirrored, and what they hold is what it last held (DESIGN CHOICE, log entry 24). -/
def Tile.mirrorOf (t s : Tile) : Tile :=
  { t with
    regions := s.regions, locked := s.locked, pc := s.pc, ready := s.ready, wait := s.wait, loops := s.loops, hdr := s.hdr, stroke := s.stroke
    sd := s.sd, budget := s.budget, mask := s.mask, crc := s.crc, stat := s.stat, pend := [], jobs := [], banks := [] }

/-- The tiles of the incoming group take over the control state of the outgoing one's, which stop issuing (R119). -/
def DieState.moveTiles (d : DieState) (n o : Nat) : DieState :=
  let keep := d.tar.tiles.filter (fun x => x.1 / 16 ≠ o)
  let moved := (List.range 16).foldl (fun (t : Tbl TileSlot) i =>
      let s := d.slotOf (16 * n + i)
      let c := (d.slotOf (16 * o + i)).cur.mirrorOf s.cur
      tset (tset t (16 * o + i) { s with cur := c, pre := c, undo := [], undoS := none }) (16 * n + i) { s with cur := { s.cur with stat := .switched } }) keep
  let w := d.syn.words.filter (fun x => x.1 / 256 / 16 ≠ o)
  let w := (d.syn.words.filter (fun x => x.1 / 256 / 16 = n)).foldl (fun w x => tset w (x.1 - 4096 * n + 4096 * o) x.2) w
  { d with tar := { d.tar with tiles := moved }, syn := { d.syn with words := w } }

/-- The virtual group that physical group `n` carries in a rotation's map. -/
def DieState.rotVirt (d : DieState) (u : Rot) (n : Nat) : Option Nat :=
  (List.range 16).find? (fun vg => d.fld (Rot.map u vg) 4 0 == n)

/-- HANDOVER_SWITCH (R119, R163): at step boundary H + 8 or the first later boundary at which every tile of the outgoing group is ready,
the map names the incoming group, and the outgoing group enters TEST (or STANDBY or FENCED in the course of R124). (DEDUCED, log entry 24.) -/
def handoverSwitch (u : Rot) (x : DM) : DM :=
  match (x.d.rot u).hand with
  | none => x
  | some h =>
    if x.d.seq.step < h.step + 8 ∨ !x.d.stepping ∨ x.d.seq.cycle ≠ 0 then x
    else if !x.d.groupReady u h.outg then x.onD (·.raise (Rot.diag u) 2)
    else
      let x := x.mirrorTo u (x.d.acyc 2)
      let size := unitSize u
      let cells := ((List.range (unitCount u)).map (fun i =>
        copyCells x.mem (unitBase u x.d.die h.outg i) (unitBase u x.d.die h.inc i) size)).flatten
      let x := x.store cells
      x.onD fun d =>
        let d := if u then d else d.moveTiles h.outg h.inc
        let d := match d.rotVirt u h.outg with
          | some vg => d.wr (Rot.map u vg) h.inc
          | none => d
        let d := d.setFld (Rot.out u) 4 0 h.outg
        let d := d.setFld (Rot.grp u h.inc) 2 0 1
        let r := d.rot u
        let d := d.setRot u { r with hand := none, copies := [], mirror := [], mirrorW := [], lastSw := d.seq.step, fencing := if r.fencing = some h.outg then none else r.fencing }
        let d := (d.count (Rot.hands u) 1).life (22 + d.die.num) 1
        if r.fencing = some h.outg then d.fenceGroup u h.outg false
        else d.setFld (Rot.grp u h.outg) 2 0 (if r.fencing.isSome then 5 else 4)

/-- GROUP_TEST_PASS (R121): the group in TEST becomes STANDBY, its test age 0. -/
def groupTestPass (u : Rot) (d : DieState) : DieState :=
  let g := d.rotOut u
  if d.grpState u g ≠ 4 then d
  else
    let d := (d.setFld (Rot.grp u g) 2 0 5).setFlag (Rot.grp u g) 3 false
    let d := d.countFld (Rot.grp u g) 31 16 1
    let r := d.rot u
    d.setRot u { r with tested := tset r.tested g d.seq.step }

/-- GROUP_TEST_FAIL (R123). -/
def groupTestFail (u : Rot) (d : DieState) : DieState :=
  let g := d.rotOut u
  if d.grpState u g ≠ 4 then d else d.fenceGroup u g true

/-- The test age of a group in steps (R121). -/
def DieState.testAge (d : DieState) (u : Rot) (g : Nat) : Int := d.seq.step - tget (d.rot u).tested g 0

/-- The largest test age. -/
def DieState.maxAge (d : DieState) (u : Rot) : Nat := ((List.range 17).map (fun g => (d.testAge u g).toNat)).foldl max 0

/-- SPARE_INTERVAL (R122, R358): a test age above the limit sets SPARE_INTERVAL, and is a SAFE cause under
INTERVAL_POLICY 1. -/
def spareInterval (u : Rot) (d : DieState) : DieState :=
  if !d.stepping then d
  else
    let d := d.wr (Rot.maxInt u) (max (d.rd (Rot.maxInt u)) (min max32 (d.maxAge u)))
    if d.exhausted u || decide (d.maxAge u ≤ d.rd (Rot.limit u)) then d
    else
      let d := d.raise (Rot.diag u) 0
      if d.flag rCHK_CFG 0 then d.detect 16 else d

/-- A fence request takes effect (R124): `v` as written to `_FENCE_REQ`. (DEDUCED, log entry 24.) -/
def fenceRequest (u : Rot) (v : Nat) (d : DieState) : DieState :=
  if !bit 31 v then d
  else
    let f := v % 32
    if 16 < f then d.raise (Rot.diag u) 4
    else if f = d.rotOut u then
      let d := match (d.rot u).hand with
        | some h => (d.setFld (Rot.grp u h.outg) 2 0 1).setRot u { d.rot u with hand := none, copies := [], mirror := [], mirrorW := [] }
        | none => if u then d else d.maintStop
      d.fenceGroup u f false
    else if d.exhausted u then d.raise (Rot.diag u) 4
    else
      let r := d.rot u
      let d := if r.hand.isNone ∧ d.grpState u (d.rotOut u) = 4 then d.setFld (Rot.grp u (d.rotOut u)) 2 0 5 else d
      d.setRot u { r with fencing := some f }

/-! ### The commands -/

/-- HANDOVER_BEGIN. -/
def execHandoverBegin (d : Die) (s : State) : Host.Outcome State Fault Refusal := .next (s.onDie d (handoverBegin false))
/-- HANDOVER_COPY. -/
def execHandoverCopy (d : Die) (m : Fin 1250) (s : State) : Host.Outcome State Fault Refusal :=
  .next (s.onDM d (fun _ => handoverCopy false m.val))
/-- HANDOVER_SWITCH. -/
def execHandoverSwitch (d : Die) (s : State) : Host.Outcome State Fault Refusal := .next (s.onDM d (fun _ => handoverSwitch false))
/-- GROUP_TEST_PASS. -/
def execGroupTestPass (d : Die) (s : State) : Host.Outcome State Fault Refusal := .next (s.onDie d (groupTestPass false))
/-- GROUP_TEST_FAIL. -/
def execGroupTestFail (d : Die) (s : State) : Host.Outcome State Fault Refusal := .next (s.onDie d (groupTestFail false))
/-- SPARE_INTERVAL. -/
def execSpareInterval (d : Die) (s : State) : Host.Outcome State Fault Refusal := .next (s.onDie d (spareInterval false))
/-- STM_HANDOVER_BEGIN. -/
def execStmHandoverBegin (d : Die) (s : State) : Host.Outcome State Fault Refusal := .next (s.onDie d (handoverBegin true))
/-- STM_HANDOVER_COPY. -/
def execStmHandoverCopy (d : Die) (m : Fin 1250) (s : State) : Host.Outcome State Fault Refusal :=
  .next (s.onDM d (fun _ => handoverCopy true m.val))
/-- STM_HANDOVER_SWITCH. -/
def execStmHandoverSwitch (d : Die) (s : State) : Host.Outcome State Fault Refusal := .next (s.onDM d (fun _ => handoverSwitch true))
/-- STM_GROUP_TEST_PASS. -/
def execStmGroupTestPass (d : Die) (s : State) : Host.Outcome State Fault Refusal := .next (s.onDie d (groupTestPass true))
/-- STM_GROUP_TEST_FAIL. -/
def execStmGroupTestFail (d : Die) (s : State) : Host.Outcome State Fault Refusal := .next (s.onDie d (groupTestFail true))
/-- STM_SPARE_INTERVAL. -/
def execStmSpareInterval (d : Die) (s : State) : Host.Outcome State Fault Refusal := .next (s.onDie d (spareInterval true))

end Sys2Proof.Machine
end

