-- ==== Sys2Proof/Machine/Context.lean ====
section
/-! DEFINITION. Auxiliary contexts (R224 to R235), the load and reset of contexts (R214 to R216, R232), and MAINT
(R227). -/

namespace Sys2Proof.Machine

/-- States of an auxiliary context (R230). -/
def axOff : Nat := 0
/-- READY. -/
def axReady : Nat := 1
/-- LOADING. -/
def axLoading : Nat := 2
/-- RUNNING. -/
def axRunning : Nat := 3
/-- STOPPING. -/
def axStopping : Nat := 4
/-- SAVING. -/
def axSaving : Nat := 5
/-- NO_FIT. -/
def axNoFit : Nat := 6

/-- The register of auxiliary context `n`. -/
def auxReg (n : Nat) : Nat := rCTX_AUX + 4 * n

/-- The state of auxiliary context `n`. -/
def DieState.axState (d : DieState) (n : Nat) : Nat := d.fld (auxReg n) 2 0

/-- Set it. -/
def DieState.setAx (d : DieState) (n st : Nat) : DieState := d.setFld (auxReg n) 2 0 st

/-- GROUPS of context `n`. -/
def DieState.axGroups (d : DieState) (n : Nat) : Nat := d.fld (auxReg n) 12 8

/-- The first virtual group context `n` holds. -/
def DieState.axBase (d : DieState) (n : Nat) : Nat := d.fld (auxReg n) 7 4

/-- What no register shows of context `n`. -/
def DieState.aux (d : DieState) (n : Nat) : Aux := tget d.ctx.aux n default

/-- Replace it. -/
def DieState.setAux (d : DieState) (n : Nat) (a : Aux) : DieState := { d with ctx := { d.ctx with aux := tset d.ctx.aux n a } }

/-- The physical tiles of context `n`, by position in its groups. -/
def DieState.axTiles (d : DieState) (n : Nat) : List Nat :=
  (List.range (16 * d.axGroups n)).map (fun i => d.ptileOf (16 * d.axBase n + i))

/-- SLICE. -/
def DieState.slice (d : DieState) : Nat := d.fld rCTX_SLICE 15 0

/-- Change the current state of a physical tile. -/
def DieState.modTile (d : DieState) (p : Nat) (f : Tile → Tile) : DieState :=
  let s := d.slotOf p
  d.setSlot p { s with cur := f s.cur }

/-! ### Objects of a context -/

/-- The P1 virtual tiles. -/
def DieState.p1Tiles (d : DieState) : List Nat := List.range (16 * d.inspGroups)

/-- The words a context owns on P1 or P3 tiles, and its resident words (R206, R214), as (virtual tile, word). -/
def DieState.sharedWords (d : DieState) (c : Nat) : List (Nat × Nat) :=
  if c ≤ 1 then (if c = d.inspCtx then (d.p1Tiles.map (fun v => (List.range 256).map (fun i => (v, i)))).flatten else [])
  else if c = 18 then ((List.range 16).map (fun t => (List.range 256).map (fun i => (512 + t, i)))).flatten
  else
    let vs := (List.range 256).filter (fun v => decide (16 * d.inspGroups ≤ v) && d.rd (rSYN_RES + 4 * v) != 0xFFFFF)
    (vs.map (fun v => ((List.range 128).map (· + 128)).filterMap (fun i => if d.wordOwner v i = c then some (v, i) else none))).flatten

/-- The private words of context `n` while it holds its groups (R206). -/
def DieState.privateWords (d : DieState) (c : Nat) : List (Nat × Nat) :=
  if 2 ≤ c ∧ c ≤ 17 then
    ((List.range (16 * d.axGroups (c - 2))).map (fun i => (List.range 128).map (fun w => (16 * d.axBase (c - 2) + i, w)))).flatten
  else []

/-- The barriers a context owns (R218). -/
def DieState.ownedBars (d : DieState) (c : Nat) : List Nat := (List.range 64).filter (fun n => d.barOwned n c)

/-- Every object of context `c` becomes POISON; the words that become so count in SYN_CNT7 (R214). -/
def poisonObjects (c : Nat) (d : DieState) : DieState :=
  let ws := (d.sharedWords c).filter (fun x => d.wordState (d.ptileOf x.1) x.2 != 2)
  let d := ws.foldl (fun d x => d.setWord (d.ptileOf x.1) x.2 2) d
  let d := d.count (rSYN_CNT + 28) ws.length
  (d.ownedBars c).foldl (fun d n => d.poisonBar n (d.seq.step * 20000)) d

/-- Stores to tile SRAM; during a handover they are mirrored (R118, R120). -/
def DM.storeSram (x : DM) (ws : List Host.Cell) : DM := (x.onD (fun d => d.mirrorSram (d.acyc d.seq.cycle) ws)).store ws

/-- Every object of context `c` takes the value its sync records give it (R216). (DEDUCED, log entry 25.) -/
def initObjects (c : Nat) (x : DM) : DM :=
  let ws := x.d.sharedWords c ++ x.d.privateWords c
  let x := ws.foldl (fun x w =>
      let p := x.d.ptileOf w.1
      (x.onD (·.setWord p w.2 0)).storeSram (zeroCells x.mem (wordAddr x.d.die p w.2) 4)) x
  let x := (x.d.recsOf c).foldl (fun x r =>
      let p := x.d.ptileOf (x.d.recTile c r)
      if r.depth ≠ 0 then (x.setWordData p r.word 1 0).setWordData p (r.word + 1) 1 0
      else if r.full then x.setWordData p r.word 1 r.value else x) x
  x.onD fun d => (d.ownedBars c).foldl (fun d n =>
      ((d.setFld (rSYN_BAR + 4 * n) 31 16 0).setFlag (rSYN_BAR + 4 * n) 15 false).setBar n default) d

/-- A tile as a program starts on it: bundle 0 issues at the first active cycle of this step (R94, R98). -/
def startTile (g : Prog) (now : Nat) : TileSlot :=
  { slot0 with cur := { tile0 with regions := g.regions, locked := g.locked, ready := now }, pre := tile0 }

/-- The PROG and WGT regions of a program are read from DRAM, from the second copy where the first cannot be read, into a tile's SRAM (R191, R193, R234). -/
def loadProgram (g : Prog) (p : Nat) (x : DM) : DM :=
  let to_ := sramBase x.d.die p
  let x := x.storeSram (x.d.dramCopy x.mem g.src (to_ + 1024 * g.regions.prog.1) (1024 * g.regions.prog.2))
  x.storeSram (x.d.dramCopy x.mem (g.src + 1024 * g.regions.prog.2) (to_ + 1024 * g.regions.wgt.1) (1024 * g.regions.wgt.2))

/-- The STT entries and barriers of program set `k` become the inspection context's (R205, R218, R221). (DEDUCED, log entry 25.) -/
def DieState.installSet (d : DieState) (k : Nat) : DieState :=
  let d := match tget? d.syn.stts k with
    | none => d
    | some t => (List.range 256).foldl (fun d s => d.wr (rSYN_STT + 4 * s) (tget t s 0)) d
  match tget? d.syn.barSets k with
  | none => d
  | some l =>
    let d := (d.ownedBars 0).foldl (fun d n => (d.wr (rSYN_BAR + 4 * n) 0x1F00).setBar n default) d
    l.foldl (fun d b =>
      let n := b.1 % 64
      let d := d.wr (rSYN_BAR + 4 * n) (0x2000 + 0x4000 * b2n b.2.1)
      (List.range 16).foldl (fun d w => d.wr (rSYN_BAR_MASK + 64 * n + 4 * w) (b.2.2.getD w 0)) d) d

/-- The inspection context starts on its P1 tiles with the programs of program set `k`, and the Stem with its content (R166, R216, R238). -/
def startInspection (k : Nat) (x : DM) : DM :=
  let x := loadStem k x
  let gs := x.d.ctx.progs.filter (fun g => g.ctx == 0 && g.set == k && decide (g.tile < 16 * x.d.inspGroups))
  gs.foldl (fun x g =>
      let p := x.d.ptileOf g.tile
      (loadProgram g p x).onD (fun d => d.setSlot p (startTile g (d.seq.step * 20000)))) x

/-! ### Placement and switches -/

/-- The size of P2 (R224, R233). -/
def DieState.p2Size (d : DieState) : Nat := d.fld rCTX_PART 20 16

/-- The lowest run of `g` virtual groups of P2 that no placed context holds (R229). -/
def DieState.freeRun (d : DieState) (g : Nat) : Option Nat :=
  (List.range 16).find? fun b =>
    decide (16 - d.p2Size ≤ b ∧ b + g ≤ 16) && (List.range g).all (fun i => (d.auxOf (b + i)).isNone)

/-- A switch at this boundary gains `b` bytes; every context of this switch learns when it is done (R235). -/
def DieState.switchBytes (d : DieState) (b : Nat) : DieState :=
  let x := d.seq.step
  let same := decide (d.ctx.swX = x ∧ d.ctx.swStart ≠ 0)
  let start := if same then d.ctx.swStart else max (x + 1) (d.ctx.xferEnd + 1)
  let bytes := (if same then d.ctx.swBytes else 0) + b
  let per := d.fld rCTX_SLICE 27 16 * 960
  let last := start + (bytes + per - 1) / per - 1
  { d with ctx := { d.ctx with
      swX := x, swBytes := bytes, swStart := start, xferEnd := last
      aux := d.ctx.aux.map (fun a => (a.1, if a.2.swX = x ∧ a.2.doneAt ≠ 0 then { a.2 with doneAt := last + 3 } else a.2)) } }

/-- CONTEXT_PLACE (R229): the ready queue is walked from its head until a context does not fit. -/
def placeWalk (fuel : Nat) (d : DieState) : DieState :=
  match fuel with
  | 0 => d
  | k + 1 =>
    match d.ctx.queue with
    | [] => d
    | n :: rest =>
      match d.freeRun (d.axGroups n) with
      | none => d
      | some b =>
        let a := d.aux n
        let d := { d with ctx := { d.ctx with queue := rest } }
        let d := (d.setAx n axLoading).setFld (auxReg n) 7 4 b
        let d := d.setAux n { a with swX := d.seq.step, doneAt := 1 }
        placeWalk k (d.switchBytes a.loadBytes)

/-- Something that this boundary still does to the groups of P2 comes before the walk: a reset, a Stem fence, or the stop of a context whose tiles have all
stopped (R229, R231 to R233). -/
def DieState.placeHeld (d : DieState) : Bool :=
  !d.ctx.resets.isEmpty || (d.stm.fenceReq && !d.stm.fenced) ||
    (List.range 16).any (fun n => d.axState n == axStopping && (d.axTiles n).all (fun p => (d.slotOf p).cur.stat != .running))

/-- Placement at a boundary, once nothing else of the boundary comes before it; no queue is longer than the 16 contexts. -/
def contextPlace (d : DieState) : DieState := if d.stepping && d.seq.cycle == 0 && !d.placeHeld then placeWalk 16 d else d

/-- A context joins the ready queue at the tail, or is NO_FIT where P2 is too small for it (R229, R230, R233). -/
def DieState.enqueue (d : DieState) (n : Nat) : DieState :=
  if d.p2Size < d.axGroups n then (d.setAx n axNoFit).raise rCTX_STATUS 3
  else { d.setAx n axReady with ctx := { d.ctx with queue := d.ctx.queue.filter (· ≠ n) ++ [n] } }

/-- A tile between Strokes stops for a switch (R231). -/
def DieState.betweenStop (d : DieState) (p : Nat) : DieState :=
  let s := d.slotOf p
  let between : Bool := match s.cur.wait with
    | .sync _ _ _ _ _ b _ => b
    | .bar _ _ _ _ _ b _ => b
    | _ => false
  if s.cur.stat = .running ∧ (s.at_.isNone ∨ hSen s.cur.hdr ∨ between) then d.modTile p (fun t => { t with stat := .switched }) else d

/-- SLICE_END (R231): at a step boundary the slice of context `n` ends, or all its tiles have halted: it goes on where nothing waits, else it
becomes STOPPING and its tiles between Strokes stop. -/
def sliceEnd (n : Nat) (d : DieState) : DieState :=
  let a := d.aux n
  let ts := d.axTiles n
  let halted := !ts.isEmpty && ts.all (fun p => (d.slotOf p).cur.stat == .halted)
  if !d.stepping ∨ d.seq.cycle ≠ 0 ∨ d.axState n ≠ axRunning ∨ (d.seq.step < a.sliceEnd ∧ !halted) then d
  else if d.ctx.queue.isEmpty then
    (d.setAux n { a with sliceEnd := d.seq.step + d.slice }).count (rCTX_SLICES + 4 * n) 1
  else
    let d := (d.setAx n axStopping).setAux n { a with sliceEnd := d.seq.step }
    ts.foldl (fun d p => d.betweenStop p) d

/-- The size of what is saved of a tile in DRAM: ACT, PST, and 512 bytes of private words. -/
def Tile.saveSize (t : Tile) : Nat := 1024 * (t.regions.act.2 + t.regions.pst.2) + 512

/-- The saved bytes of physical tile `p`: those of ACT, of PST, and of the data of words 0 to 127, numbered from 0 on. -/
def DM.saveBytes (x : DM) (p : Nat) : List Host.Cell :=
  let r := (x.d.slotOf p).cur.regions
  let b := sramBase x.d.die p
  let part (lo n off : Nat) : List Host.Cell := (memRange x.mem (b + lo) (b + lo + n)).map (fun c => (c.1 - b - lo + off, c.2))
  part (1024 * r.act.1) (1024 * r.act.2) 0 ++ part (1024 * r.pst.1) (1024 * r.pst.2) (1024 * r.act.2) ++
    part 0x7FC00 512 (1024 * (r.act.2 + r.pst.2))

/-- A wait as it is saved: it keeps the steps of budget that remain, and starts over with its next probe (R213). -/
def TWait.saved (w : TWait) (step : Nat) : TWait :=
  match w with
  | .sync v wa nx st bu bt _ => .sync v wa nx 0 (st + bu - step) bt Option.none
  | .bar i g st bu r bt _ => .bar i g 0 (st + bu - step) r bt Option.none
  | w => w

/-- A saved tile: its mirrored control state (R91, R234). -/
def Tile.saved (t : Tile) (step : Nat) : Tile := tile0.mirrorOf { t with crc := 0, wait := t.wait.saved step }

/-- Physical tile `p`, position `pos` of context `n`, is saved (R234): its bytes go to the context's save area at `off`, its operations under way having ended
(DESIGN CHOICE, log entry 25); it holds no wait any more. -/
def DM.saveTile (n pos p off : Nat) (x : DM) : DM × SavedTile :=
  let now := x.d.acyc 0
  let x := x.tileJobs (now + 256) p
  let t := (x.d.slotOf p).cur.settle (now + 16)
  let a := (x.d.aux n).saveAt + off
  let s : SavedTile := { pos := pos, tile := t.saved x.d.seq.step, words := (List.range 128).map (fun i => (i, x.d.wordState p i)), at_ := a }
  let x := x.store (x.d.dramPut x.mem a t.saveSize (x.saveBytes p))
  (x.onD (fun d => d.modTile p (fun _ => { t with stat := .switched, wait := .none })), s)

/-- The tiles of a context are saved one after another. -/
def DM.saveTiles (n : Nat) (ts : List (Nat × Nat)) (off : Nat) (x : DM) : DM × List SavedTile :=
  match ts with
  | [] => (x, [])
  | (pos, p) :: r =>
    let y := x.saveTile n pos p off
    let z := y.1.saveTiles n r (off + y.2.tile.saveSize)
    (z.1, y.2 :: z.2)

/-- CONTEXT_STOP (R231, R234, R235): at a step boundary every tile of the STOPPING context `n` has stopped, and no reset of it is due (R232): its state is saved, its
groups are free for placement, and its next slice is shorter by its overrun. -/
def contextStop (n : Nat) (x : DM) : DM :=
  let d := x.d
  let ts := d.axTiles n
  if !d.stepping ∨ d.seq.cycle ≠ 0 ∨ d.axState n ≠ axStopping ∨ (d.aux n).disabled ∨ d.ctx.resets.contains (2 + n) ∨
      !ts.all (fun p => (d.slotOf p).cur.stat != .running) then x
  else
    let a := d.aux n
    let o := d.seq.step - a.sliceEnd
    let y := x.saveTiles n ((List.range ts.length).zip ts) 0
    y.1.onD fun d =>
      let d := (d.privateWords (2 + n)).foldl (fun d w => d.setWord (d.ptileOf w.1) w.2 0) d
      let d := (d.setAx n axSaving).setFld (auxReg n) 18 16 (min o 4)
      let d := d.setFld (auxReg n) 12 8 (d.axGroups n)
      let d := d.setAux n { a with saved := some y.2, nextLen := d.slice - o, swX := d.seq.step, doneAt := 1 }
      contextPlace (d.switchBytes a.saveBytes)

/-- A wait of a tile of context `c` goes on after a reload with its next probe in the first active cycle (R213): a barrier that has been passed meanwhile releases
it as one found passed by a probe, one that has been poisoned answers POISON (R214, R220). -/
def DieState.wakeSaved (d : DieState) (c p : Nat) : DieState :=
  let now := d.acyc 0
  match (d.slotOf p).cur.wait with
  | .sync v wa _ _ bu bt _ => d.modTile p (fun t => { t with wait := .sync v wa now d.seq.step bu bt none })
  | .bar i g _ bu rc bt _ =>
    let bad := d.flag (rSYN_BAR + 4 * i) 15
    let rel := if rc && !bad && genPassed (d.barGen i) g then some (now + 16) else none
    let d := d.modTile p (fun t => { t with wait := .bar i g d.seq.step bu rc bt rel })
    if bad then d.queueResp ⟨now + 16, d.vtileOf p, p, c, i, oPoison, none, true⟩ else d
  | _ => d

/-- A saved tile of context `c` goes back to a physical tile (R234); a halted tile goes on with the bundle after its HALT (R231). -/
def DM.loadTile (x : DM) (c : Nat) (s : SavedTile) (p : Nat) : DM :=
  let now := x.d.acyc 0
  let b := sramBase x.d.die p
  let r := s.tile.regions
  let act := 1024 * r.act.2
  let pst := 1024 * r.pst.2
  let x := x.storeSram (x.d.dramCopy x.mem s.at_ (b + 1024 * r.act.1) act)
  let x := x.storeSram (x.d.dramCopy x.mem (s.at_ + act) (b + 1024 * r.pst.1) pst)
  let x := x.storeSram (x.d.dramCopy x.mem (s.at_ + act + pst) (b + 0x7FC00) 512)
  x.onD fun d =>
    let d := s.words.foldl (fun d w => d.setWord p w.1 w.2) d
    let t := (d.slotOf p).cur.mirrorOf s.tile
    let d := d.setSlot p { slot0 with cur := { t with stat := .running, ready := max t.ready now }, at_ := some 0 }
    d.wakeSaved c p

/-- CONTEXT_SWITCH_DONE (R235): at the boundary at which the switch of context `n` is done a SAVING context becomes READY and joins the queue, a
LOADING one is loaded (its saved state, or a fresh start under R216) and its slice begins. (DEDUCED, log entry 25.) -/
def contextSwitchDone (n : Nat) (x : DM) : DM :=
  let a := x.d.aux n
  if !x.d.stepping ∨ x.d.seq.cycle ≠ 0 ∨ x.d.seq.step < a.doneAt then x
  else if x.d.axState n = axSaving then x.onD (fun d => contextPlace (d.enqueue n))
  else if x.d.axState n ≠ axLoading then x
  else
    let ts := x.d.axTiles n
    let gs := x.d.ctx.progs.filter (fun g => g.ctx == 2 + n)
    let x := gs.foldl (fun x g => loadProgram g (ts.getD g.tile 0) x) x
    let x := match a.saved with
      | some l => l.foldl (fun (x : DM) (s : SavedTile) => x.loadTile (2 + n) s (ts.getD s.pos 0)) x
      | none =>
        let x := initObjects (2 + n) x
        gs.foldl (fun (x : DM) (g : Prog) => x.onD (fun d => d.setSlot (ts.getD g.tile 0) (startTile g (d.seq.step * 20000)))) x
    x.onD fun d =>
      let len := if a.nextLen = 0 then d.slice else a.nextLen
      ((d.setAx n axRunning).setAux n { a with saved := none, nextLen := 0, sliceEnd := d.seq.step + len, doneAt := 0 }).count
        (rCTX_SLICES + 4 * n) 1

/-- Context `n` is reset: its saved state is gone and it joins the queue again, or is OFF (R232). -/
def DieState.resetAux (d : DieState) (n : Nat) : DieState :=
  let a := d.aux n
  let held := 2 ≤ d.axState n ∧ d.axState n ≤ 4
  let d := if held then (d.axTiles n).foldl (fun d p => d.modTile p (fun t => { t with stat := .switched, wait := .none })) d else d
  let d := if held then (d.privateWords (2 + n)).foldl (fun d w => d.setWord (d.ptileOf w.1) w.2 0) d else d
  let d := { d with ctx := { d.ctx with queue := d.ctx.queue.filter (· ≠ n) } }
  let d := (d.countFld (auxReg n) 31 24 1).raise rCTX_STATUS 4
  let d := d.setAux n { a with saved := none, nextLen := 0, doneAt := 0 }
  if a.restart && !a.disabled then d.enqueue n else d.setAx n axOff

/-- The effect of a reset of context `c` (R214, R232): its objects are POISON, MAINT's after its own state is discarded. -/
def DieState.resetNow (d : DieState) (c : Nat) : DieState :=
  let d := { d with ctx := { d.ctx with resets := d.ctx.resets.filter (· ≠ c) } }
  if c = 18 then poisonObjects c d.maintStop
  else
    let d := poisonObjects c d
    if c < 2 ∨ 17 < c then d else d.resetAux (c - 2)

/-- CONTEXT_RESET (R214, R229, R232): the reset of context `c` takes effect, at a step boundary where steps run; what it frees is placed at once. -/
def contextReset (c : Nat) (d : DieState) : DieState :=
  if !d.ctx.resets.contains c ∨ (d.stepping ∧ d.seq.cycle ≠ 0) then d else contextPlace (d.resetNow c)

/-- MAINT starts on the out-of-rotation group where it is STANDBY (R227); otherwise nothing starts. -/
def maintStart (x : DM) : DM :=
  let d := x.d
  if !d.stepping ∨ d.grpState false d.outGroup ≠ 5 ∨ d.ctx.maint then x
  else
    let x := x.onD fun d => { d with ctx := { d.ctx with maint := true } }
    let x := initObjects 18 x
    (x.d.ctx.progs.filter (fun g => g.ctx == 18)).foldl (fun x g =>
        let p := 16 * x.d.outGroup + g.tile % 16
        (loadProgram g p x).onD (fun d => d.setSlot p (startTile g (d.seq.step * 20000)))) x

/-! ### The commands -/

/-- CONTEXT_RESET. -/
def execContextReset (d : Die) (c : Fin 20) (s : State) : Host.Outcome State Fault Refusal := .next (s.onDie d (contextReset c.val))
/-- SLICE_END. -/
def execSliceEnd (d : Die) (n : Fin 16) (s : State) : Host.Outcome State Fault Refusal := .next (s.onDie d (sliceEnd n.val))
/-- CONTEXT_STOP. -/
def execContextStop (d : Die) (n : Fin 16) (s : State) : Host.Outcome State Fault Refusal := .next (s.onDM d (fun _ => contextStop n.val))
/-- CONTEXT_SWITCH_DONE. -/
def execContextSwitchDone (d : Die) (n : Fin 16) (s : State) : Host.Outcome State Fault Refusal :=
  .next (s.onDM d (fun _ => contextSwitchDone n.val))

end Sys2Proof.Machine
end

