-- ==== Sys2Proof/Machine/Freeze.lean ====
section
/-! DEFINITION. Freezes of the core domain and the events that ask for them (spec/02 R48, R49, R51; spec/07 R188): shared by replay events, the peer's
freeze requests and reads that a FENCED channel sends to the second copy (R193). -/

namespace Sys2Proof.Machine

/-- The active cycle after which a failure detected in cycle `c` freezes: that cycle, in Paired mode the one 32 later; from 20,000 on it belongs to the next step
(R51). (DEDUCED, log entry 11.) -/
def DieState.freezeAfter (d : DieState) (c : Nat) : Nat := if d.paired then c + 32 else c

/-- The length of a freeze. -/
def freezeLen (dram : Bool) : Nat := if dram then 400 else 64

/-- The wall-clock interval between two refreshes of a bank at a refresh rate (R189): 952 cycles at 4×, twice that at 2×, four times at 1×. -/
def refreshEvery (rate : Nat) : Nat := if rate = 0 then 3808 else if rate = 1 then 1904 else 952

/-- A freeze does not stop refresh: what has fallen due by its end in a bank is issued in it (R188). (DEDUCED, log entry 27.) -/
def DieState.freezeRefresh (d : DieState) : DieState :=
  d.mem.refs.foldl (fun (d : DieState) r =>
    let n := refreshEvery (tget d.mem.rates (r.1 / 16) 2)
    if d.chFenced (r.1 / 16) ∨ d.clk < r.2 + n then d
    else ({ d with mem := { d.mem with refs := tset d.mem.refs r.1 (r.2 + n) } } : DieState).send .dram [1, r.1 / 16, r.1 % 16] []) d

/-- The fifth event of a step is FREEZE_EXCESS (R49). -/
def DieState.freezeExcess (d : DieState) : DieState :=
  if 4 < d.seq.events ∧ !d.seq.excess then
    (({ d with seq := { d.seq with excess := true } } : DieState).count rSYS_FREEZE_EXCESS 1).raise rSYS_DET_STATUS 0
  else d

/-- The core domain freezes for `n` cycles after active cycle `c`, for one event of the step; a freeze of the next step waits for it. -/
def DieState.freeze (d : DieState) (c n : Nat) : DieState :=
  if !d.stepping then d
  else if 20000 ≤ c then ({ d with seq := { d.seq with owed := d.seq.owed ++ [(c, n)] } } : DieState).life (10 + d.die.num) n
  else
    let d := d.toCycle c
    let q : Seq := { d.seq with freeze := d.seq.freeze + n, frzStep := d.seq.frzStep + n, events := d.seq.events + 1 }
    ((({ d with seq := q } : DieState).at (d.clk + n)).life (10 + d.die.num) n).freezeRefresh.freezeExcess

/-- The places of failing words: histogram bins (R448) 0 to 16 tile groups, 17 to 33 Stem lane groups, 34 to 49 DRAM channels, 50 Checker, 51 Part Tracker,
52 line stores, 53 Quill SRAM. -/
def isDramBin (b : Nat) : Bool := decide (34 ≤ b ∧ b < 50)

/-- An event of the die's own: counted, by kind, by channel, by place. (DEDUCED, log entry 11.) -/
def DieState.ownEvent (d : DieState) (dram : Bool) (bins : List Nat) : DieState :=
  let d := if d.stepping then d.count (if dram then rSYS_REPLAY_DRAM else rSYS_REPLAY_SRAM) 1 else d
  (bins.eraseDups).foldl (fun (d : DieState) b =>
    let d := d.hist (4 + d.die.num) b
    if isDramBin b then d.count (rMEM_REPLAY + 4 * (b - 34)) 1 else d) d

/-- In Paired mode the die asks its peer to freeze for its event of cycle `c` (R51). -/
def DieState.askFreeze (d : DieState) (c : Nat) (dram : Bool) : DieState := if d.paired && d.stepping then d.send .toDie [3, c, b2n dram] [] else d

/-- A DRAM replay event of the die's own in cycle `c`, on the channels of `bins` (R48, R51, R193). -/
def DieState.dramEvent (d : DieState) (c : Nat) (bins : List Nat) : DieState :=
  ((d.askFreeze c true).freeze (d.freezeAfter c) 400).ownEvent true bins

end Sys2Proof.Machine
end

