-- ==== Sys2Proof/Machine/Ink.lean ====
section
/-! DEFINITION. Inkwell (spec/18): the writer, the Event Ring, the First-Fault Record, and the double-buffered counter and histogram
blocks in the MRAM. -/

namespace Sys2Proof.Machine

/-- Change the Inkwell writer. -/
def Whole.onInk (w : Whole) (f : InkMod → InkMod) : Whole := w.onMod (fun m => { m with ink := f m.ink })

/-- Bytes go to the MRAM (R439): counted in MRAM_WRITES by the KiB. -/
def Whole.mram (w : Whole) (a : Nat) (bs : List Byte) : Whole :=
  (w.store (cellsAt (Space.mram.base + a) bs)).onInk (fun k =>
    let n := k.part + bs.length
    { k with part := n % 1024, cnt := tmod k.cnt 37 0 (fun c => satAdd (2 ^ 64 - 1) c (n / 1024)) })

/-- A record in the layout of R440, with its SEQ, boot count and CRC. -/
def InkRec.bytes (r : InkRec) (seq boots : Nat) : List Byte :=
  let bs := leBytes 8 seq ++ leBytes 8 r.step ++ leBytes 8 r.time ++ leBytes 2 r.epoch ++
    leBytes 1 (r.die.num + 2 * b2n r.lost + 4 * b2n r.noStep) ++ leBytes 1 r.dev ++ leBytes 1 r.cls ++ leBytes 1 r.unit ++
    leBytes 2 r.code ++ leBytes 4 boots ++ r.payload
  bs ++ leBytes 4 (crc32 bs)

/-- The First-Fault slot of a class is empty while all its bytes are zero (R444). -/
def Whole.slotEmpty (w : Whole) (k : Nat) : Bool :=
  (memRange w.mem (Space.mram.base + 256 * k) (Space.mram.base + 256 * k + 256)).isEmpty

/-- The writer writes one record (R440), and the First-Fault slot of its class if that is empty (R444). `bad`: the write fails its
readback, and what stands there is free (DESIGN CHOICE, log entry 8). -/
def Whole.writeRec (w : Whole) (r : InkRec) (bad : Bool) : Whole :=
  let k := w.mod.ink
  let bs := if bad then ((Config.freeBytes w.free k.seq).take 128) else r.bytes k.seq k.boots
  let w := w.mram (0x800000 + 128 * (k.seq % 65536)) bs
  let w := match r.fault with
    | none => w
    | some c => if w.slotEmpty c then (w.mram (256 * c) bs).mram (256 * c + 128) bs else w
  let w := w.onInk (fun k => { k with seq := k.seq + 1 })
  w.onDie k.writer (fun d => (d.wr64 rINK_SEQ_LO (k.seq + 1)).when bad (fun d => d.raise rINK_STATUS 3))

/-- INKWELL_WRITE: the next record, alternately from the two dies' queues (R442). -/
def inkwellWrite (bad : Bool) (w : Whole) : Whole :=
  let k := w.mod.ink
  let from_ := if (w.die k.turn).ink.queue.isEmpty then k.turn.other else k.turn
  match (w.die from_).ink.queue with
  | [] => w
  | r :: rest =>
    let w := (w.onDie from_ (fun d => ({ d with ink := { d.ink with queue := rest } }).setFld rINK_QUEUE 8 0 rest.length)).onInk
      (fun k => { k with turn := from_.other })
    w.writeRec r bad

/-- DROP_RECORD: an entry is free after losses (R442). -/
def dropRecord (d : DieState) : DieState :=
  if d.ink.lost = 0 ∨ 240 ≤ d.ink.queue.length then d
  else
    let n := d.ink.lost
    ({ d with ink := { d.ink with lost := 0 } }).inkPut 9 16 d.die.num none (recNote 9 [n]).2

/-- The tallies of a die join the writer's counters and bins: sums, and for TEMP_MAX the maximum (R446 to R448). -/
def InkMod.take (k : InkMod) (i : Ink) : InkMod :=
  { k with
    cnt := i.life.foldl (fun t p =>
      tmod t p.1 0 (fun c => if p.1 = 28 ∨ p.1 = 29 then max c p.2 else satAdd (2 ^ 64 - 1) c p.2)) k.cnt
    hist := i.hist.foldl (fun t p => tmod t p.1 0 (fun c => satAdd max32 c p.2)) k.hist }

/-- A double-buffered block (R445): the header with its SEQ, the length covered, and the CRC over header and content. -/
def inkBlock (seq : Nat) (content : List Byte) : List Byte :=
  let head := leBytes 8 seq ++ leBytes 4 content.length ++ List.replicate 48 (0 : Byte)
  head ++ leBytes 4 (crc32 (head ++ leBytes 4 0 ++ content)) ++ content

/-- The counter block's content (R447). -/
def InkMod.counters (k : InkMod) : List Byte :=
  (List.range 256).flatMap (fun i => leBytes 8 (if i = 0 then k.boots else tget k.cnt i 0))

/-- The histogram block's content (R448). -/
def InkMod.bins (k : InkMod) : List Byte := (List.range 4096).flatMap (fun i => leBytes 4 (tget k.hist i 0))

/-- The writer commits the counter and histogram blocks into the copy of the lower SEQ (R445, R446). A commit that fails its readback
leaves the previous copy current. (DEDUCED, log entry 32.) -/
def Whole.commit (w : Whole) (bad : Bool) : Whole :=
  let w := w.onInk (fun k => (k.take w.a.ink).take w.b.ink)
  let none_ (d : DieState) : DieState := { d with ink := { d.ink with life := [], hist := [] } }
  let w := (w.onDie .a none_).onDie .b none_
  let k := w.mod.ink
  let c := k.commits % 2
  let block (n : Nat) (content : List Byte) : List Byte :=
    if bad then (Config.freeBytes w.free n).take (64 + content.length) else inkBlock (k.commits + 1) content
  let w := (w.mram (0x20000 + 4096 * c) (block 0 k.counters)).mram (0x30000 + 32768 * c) (block 1 k.bins)
  if bad then w.onDie k.writer (fun d => d.raise rINK_STATUS 3) else w.onInk (fun k => { k with commits := k.commits + 1 })

/-- The hottest sensor of a die, in 1/16 °C. -/
def DieState.hottest (d : DieState) : Int :=
  ((List.range 16).map (fun n => toSigned 16 (d.fld (rQLL_TEMP + 4 * n) 15 0))).foldl max (-640)

/-- LIFETIME_COMMIT: every second while the writer's die is powered (R446); the second that ends counts in POWER_ON_S, and each powered
die's hottest sensor in its histogram (R447, R448). -/
def lifetimeCommit (bad : Bool) (w : Whole) : Whole :=
  let w := w.onDie w.mod.ink.writer (fun d => d.life 1 1)
  let hot (d : DieState) : DieState := d.hist d.die.num (min 63 ((d.hottest + 640) / 40).toNat)
  ((w.onDie .a hot).onDie .b hot).commit bad

/-- INK_MSG_GO: the Quill submits a record of class QUILL from the INK_MSG registers (R440). -/
def inkMsgGo (v : Nat) (d : DieState) : DieState :=
  if bit 31 v then
    d.inkPut 8 15 (bits 15 0 v) none ((List.range 22).flatMap (fun i => leBytes 4 (d.rd (rINK_MSG + 4 * i))))
  else d

/-! ### The commands -/

/-- INKWELL_WRITE: whether the write fails its readback. -/
def execInkwellWrite (bad : Bool) (s : State) : Host.Outcome State Fault Refusal := .next (s.onWhole (inkwellWrite bad))
/-- DROP_RECORD. -/
def execDropRecord (d : Die) (s : State) : Host.Outcome State Fault Refusal := .next (s.onDie d dropRecord)
/-- LIFETIME_COMMIT: whether the write fails its readback. -/
def execLifetimeCommit (bad : Bool) (s : State) : Host.Outcome State Fault Refusal := .next (s.onWhole (lifetimeCommit bad))
/-- INK_MSG_GO: the value written. -/
def execInkMsgGo (d : Die) (v : BitVec 32) (s : State) : Host.Outcome State Fault Refusal := .next (s.onDie d (inkMsgGo v.toNat))

end Sys2Proof.Machine
end

