-- ==== Sys2Proof/Machine/Cxp.lean ====
section
/-! DEFINITION. Camera ingest and registration (spec/10; FIFO overflow R264; line labels R281): triggers, line checks, FIFOs, the
delay store, registration, crossing, and the ports' states. -/

namespace Sys2Proof.Machine

/-! ### Ports and groups -/

/-- Port `p`. -/
def DieState.port (d : DieState) (p : Nat) : Port := tget d.cxp.ports p default

/-- Replace it. -/
def DieState.setPort (d : DieState) (p : Nat) (x : Port) : DieState := { d with cxp := { d.cxp with ports := tset d.cxp.ports p x } }

/-- Change it. -/
def DieState.modPort (d : DieState) (p : Nat) (f : Port → Port) : DieState := d.setPort p (f (d.port p))

/-- Registration group `g`. -/
def DieState.group (d : DieState) (g : Nat) : Group := tget d.cxp.groups g default

/-- Replace it. -/
def DieState.setGroup (d : DieState) (g : Nat) (x : Group) : DieState := { d with cxp := { d.cxp with groups := tset d.cxp.groups g x } }

/-- The state of port `p` (R246). -/
def DieState.portState (d : DieState) (p : Nat) : Nat := d.fld (rCXP_PORT_STAT + 4 * p) 2 0

/-- Set it. -/
def DieState.setPortState (d : DieState) (p st : Nat) : DieState := d.setFld (rCXP_PORT_STAT + 4 * p) 2 0 st

/-- The port is configured (R243). -/
def DieState.portOn (d : DieState) (p : Nat) : Bool := d.flag (rCXP_PORT + 4 * p) 31

/-- The registration group of port `p`. -/
def DieState.groupOf (d : DieState) (p : Nat) : Nat := d.fld (rCXP_PORT + 4 * p) 5 3

/-- WIDTH of port `p`. -/
def DieState.width (d : DieState) (p : Nat) : Nat := d.fld (rCXP_LINE + 4 * p) 14 0

/-- The group is defined (R249). -/
def DieState.groupOn (d : DieState) (g : Nat) : Bool := d.flag (rRGN_GRP + 4 * g) 31

/-- The configured ports of group `g`, in increasing number. -/
def DieState.groupPorts (d : DieState) (g : Nat) : List Nat :=
  (List.range 8).filter (fun p => bit p (d.fld (rRGN_GRP + 4 * g) 23 16) && d.portOn p)

/-- What the image states of port `p`'s lines. -/
def DieState.img (d : DieState) (p : Nat) : PortImg := tget d.ipp.imgs p default

/-- The outputs of group `g`. -/
def DieState.out (d : DieState) (g : Nat) : GroupOut := tget d.ipp.grps g default

/-- Exposure state of port `p`. -/
def DieState.expo (d : DieState) (p : Nat) : PortExp := tget d.ipp.exps p default

/-- Replace it. -/
def DieState.setExpo (d : DieState) (p : Nat) (x : PortExp) : DieState := { d with ipp := { d.ipp with exps := tset d.ipp.exps p x } }

/-- The reference position of line `k` (R250). -/
def refPos (origin : Int) (pitch k : Nat) : Int := origin + (((k * pitch + 0xFFFF) / 65536 : Nat) : Int)

/-- r_k of group `g`. -/
def DieState.rk (d : DieState) (g k : Nat) : Int := refPos (d.rdS64 (rRGN_ORIGIN_LO + 8 * g)) (d.rd (rRGN_PITCH + 4 * g)) k

/-- The smallest k with r_k greater than `c` (R250). -/
def DieState.firstAbove (d : DieState) (g : Nat) (c : Int) : Nat :=
  let m := c - d.rdS64 (rRGN_ORIGIN_LO + 8 * g)
  if m < 0 then 0 else m.toNat * 65536 / max 1 (d.rd (rRGN_PITCH + 4 * g)) + 1

/-- The frame ID of line `k` of group `g` (R263). -/
def DieState.frameOf (d : DieState) (g k : Nat) : Nat := (k - (d.group g).k0.getD 0) / (d.out g).lines % 2 ^ 32

/-- Line `k` is the first of a frame (R263). -/
def DieState.frameStart (d : DieState) (g k : Nat) : Bool :=
  match (d.group g).k0 with
  | none => false
  | some k0 => decide (k0 ≤ k) && (k - k0) % (d.out g).lines == 0

/-- The exposure flags of a line of frame `f` (R281). -/
def PortExp.label (e : PortExp) (f : Nat) : LineEst :=
  match e.trans with
  | none => ⟨e.est, e.est, false⟩
  | some t => if f = t then ⟨e.est, e.prev, true⟩ else if f < t then ⟨e.prev, e.prev, false⟩ else ⟨e.est, e.est, false⟩

/-! ### Lines of a port -/

/-- A line, checked or replaced, enters the FIFO of port `p`, or is discarded there (R256, R264). -/
def DieState.enterFifo (d : DieState) (p k : Nat) (px : List Nat) (replaced : Bool) : DieState :=
  let g := d.groupOf p
  let f := d.frameOf g k
  let x := d.port p
  let lost (d : DieState) : DieState := d.countFld (rIPP_TRUNC + 4 * p) 15 0 1
  if x.truncs.head? = some f then lost d
  else if 32 ≤ x.fifo.length then
    let d := (lost d).countFld (rIPP_TRUNC + 4 * p) 31 16 1
    ((d.setPort p { x with truncs := (f :: x.truncs).take 4 }).raise rIPP_STATUS 0).hist 14 (8 * d.die.num + p)
  else
    let l : HeldLine := { k := k, px := px, replaced := replaced, est := (d.expo p).label f }
    (d.setPort p { x with fifo := x.fifo ++ [l] }).peakFld (rCXP_PORT_STAT + 4 * p) 21 16 (x.fifo.length + 1)

/-- A bad or dropped line is replaced by the previous good line, or by zeros (R253); the 32nd in a row is LINK_DOWN (R254). -/
def DieState.replaceLine (d : DieState) (p k : Nat) : DieState :=
  let x := d.port p
  let fmt := d.fld (rCXP_PORT + 4 * p) 2 0
  let px := x.good.getD (List.replicate (d.width p * samplesOf fmt (d.img p).sens) 0)
  let run := x.badRun + 1
  let d := d.setPort p { x with badRun := run, downReq := x.downReq || decide (32 ≤ run) }
  (d.count (rCXP_REPLACED + 4 * p) 1).enterFifo p k px true

/-- Lines whose triggers were not sent are replaced in order, up to the first that still waits for its line (R253). -/
def flushDropped (p fuel : Nat) (d : DieState) : DieState :=
  match fuel with
  | 0 => d
  | n + 1 =>
    match (d.port p).open_ with
    | t :: r =>
      if t.sent then d
      else flushDropped p n ((d.setPort p { d.port p with open_ := r }).replaceLine p t.k)
    | [] => d

/-- Flush as many as stand in front. -/
def DieState.flush (d : DieState) (p : Nat) : DieState := flushDropped p (d.port p).open_.length d

/-! ### Triggers -/

/-- The spacing between trigger packets of a port, in ns (R251). -/
def DieState.spacing (d : DieState) (p : Nat) : Nat := if d.fld (rCXP_PORT + 4 * p) 8 6 ≤ 4 then 2000 else 1000

/-- The trigger packet of line `k`, fired in sample `n`, goes out now: die, port, k, firing sample and delay in ns (R251). A die
that does not drive the uplinks sends it in shadow (R244). -/
def DieState.sendTrigger (d : DieState) (p k n : Nat) : DieState :=
  let d := d.modPort p (fun x => { x with lastPkt := some d.clk, waiting := none })
  if d.cxp.driving then d.send .cxpTrigger [p, k, n, d.clk - d.sampleAt n] [] else d

/-- Port `p` sends triggers for line `k`: it is in RUN and not past the boundary at which it is disabled (R250, R36). -/
def DieState.sending (d : DieState) (p k : Nat) : Bool :=
  d.portState p == 2 && (match (d.port p).offAt with | none => true | some b => decide (k < b))

/-- Port `p` fires line `k` in sample `n` (R250, R251). (DEDUCED, log entry 28.) -/
def DieState.firePort (d : DieState) (p k n : Nat) : DieState :=
  let g := d.groupOf p
  let l := (d.expo p).label (d.frameOf g k)
  let d := d.modPort p (fun x => { x with nextK := k + 1, fired := tset x.fired k (d.seq.step, d.pos.cur) })
  let d := d.wr64 (rCXP_TRIG_LO + 8 * p) k
  let d := (d.setFld (rIPP_EST + 4 * p) 15 0 l.est).setFlag (rIPP_EST + 4 * p) 31 l.trans
  if !d.sending p k then d
  else
    let x := d.port p
    let free := match x.lastPkt with | none => true | some t => decide (t + d.spacing p ≤ d.clk)
    let add (sent : Bool) : DieState := d.setPort p { x with open_ := x.open_ ++ [⟨k, d.seq.step, sent⟩] }
    if x.waiting.isSome then
      (((add false).raise rCXP_STATUS 5).countFld (rCXP_DROP + 4 * p) 15 0 1).flush p
    else if free then (add true).sendTrigger p k n
    else (add true).modPort p (fun x => { x with waiting := some (k, n) })

/-- Port `p` of group `g` fires every line whose position `count` has reached (R250). -/
def DieState.firePorts (d : DieState) (g p n : Nat) (count : Int) : DieState :=
  let m := count - (d.rdS64 (rRGN_ORIGIN_LO + 8 * g) + (d.fld (rRGN_OFFSET + 4 * p) 30 0 : Int))
  if m < 0 then d
  else
    let top := m.toNat * 65536 / max 1 (d.rd (rRGN_PITCH + 4 * g))
    let k := (d.port p).nextK
    (List.range (top + 1 - k)).foldl (fun d i => d.firePort p (k + i) n) d

/-- Every group of channel `c` fires what the count at sample `n` has reached (R250). Nothing fires on a frozen channel (R302)
or outside RUN and SAFE. -/
def DieState.fireTriggers (d : DieState) (c n : Nat) : DieState :=
  if !d.stepping || (d.chan c).frozen then d
  else
    let gs := (List.range 8).filter (fun g => d.groupOn g && d.chanOf (d.fld (rRGN_GRP + 4 * g) 26 24) == c && (d.group g).k0.isSome)
    gs.foldl (fun d g => (d.groupPorts g).foldl (fun d p => d.firePorts g p n (d.countAt c n)) d) d

/-- TRIGGER_PACKET (R251): the waiting trigger of port `p` is sent in sample `n`, once the spacing has passed. (DEDUCED, log entry 28.) -/
def triggerPacket (p n : Nat) (d : DieState) : DieState :=
  let d := d.at (d.sampleAt n)
  let c := d.chanOf (d.fld (rRGN_GRP + 4 * d.groupOf p) 26 24)
  let d := if d.chMode c = 3 then d.fireTriggers c n else d
  let x := d.port p
  match x.waiting with
  | none => d
  | some (k, f) =>
    if (match x.lastPkt with | none => true | some t => decide (t + d.spacing p ≤ d.clk)) then d.sendTrigger p k f else d

/-! ### Line receive -/

/-- CXP_LINE_RECEIVE (R245, R253 to R255): a line of stream `str` arrives on port `p` with samples `px`; `crc` and `gap`: its packet
checks failed; `other`: the other die's copy is bad (Paired mode). -/
def lineReceive (p str : Nat) (px : List Nat) (crc gap other : Bool) (d : DieState) : DieState :=
  let extra (d : DieState) : DieState := d.countFld (rCXP_DROP + 4 * p) 31 16 1
  if str ≠ 0 then extra d
  else if d.portState p ≠ 2 then d
  else
    let d := d.flush p
    let x := d.port p
    match x.open_ with
    | [] => (extra d).raise rCXP_STATUS 4
    | t :: r =>
      if x.waiting.any (fun w => decide (w.1 ≤ t.k)) then (extra d).raise rCXP_STATUS 4
      else
        let d := d.setPort p { x with open_ := r }
        let fmt := d.fld (rCXP_PORT + 4 * p) 2 0
        let long := decide (px.length ≠ d.width p * samplesOf fmt (d.img p).sens)
        let d := if crc then d.raise rCXP_STATUS 0 else d
        let d := if long then d.raise rCXP_STATUS 1 else d
        let d := if gap then d.raise rCXP_STATUS 2 else d
        let d :=
          if crc || long || gap || (d.paired && other) then d.replaceLine p t.k
          else (d.modPort p (fun x => { x with good := some px, badRun := 0 })).enterFifo p t.k px false
        d.flush p

/-- The lines of port `p` that stand in the delay store, registered ones that have not crossed included (R257). -/
def DieState.storeUsed (d : DieState) (p : Nat) : Nat :=
  (d.port p).store.length +
    ((d.group (d.groupOf p)).regd.filter (fun l => l.ports.any (fun q => q.port == p && !q.missing))).length

/-- LINE_TO_DELAY_STORE (R256, R258): the oldest line of the FIFO of port `p` enters the delay store, waits for an entry, or is
LATE_MODALITY. -/
def lineToStore (p : Nat) (d : DieState) : DieState :=
  let x := d.port p
  let g := d.groupOf p
  match x.fifo with
  | [] => d
  | l :: r =>
    if l.k < (d.group g).nextReg then
      ((d.setPort p { x with fifo := r }).raise rRGN_STATUS 1).countFld (rRGN_MISS + 4 * g) 31 16 1
    else if d.fld (rRGN_DEPTH + 4 * p) 11 0 ≤ d.storeUsed p then d.raise rRGN_STATUS 2
    else
      let d := d.setPort p { x with fifo := r, store := x.store ++ [l] }
      d.peakFld (rRGN_DEPTH + 4 * p) 27 16 (d.storeUsed p)

/-! ### Port states -/

/-- LINE_TIMEOUT (R254): a sent trigger of port `p` has no line by the end of T + RESP_STEPS. -/
def lineTimeout (p : Nat) (d : DieState) : DieState :=
  let resp := d.fld (rCXP_LINE + 4 * p) 22 16
  let late (s : Nat) : Bool := (d.port p).open_.any (fun t => t.sent && decide (t.step + resp ≤ s))
  if d.stepping && d.portState p == 2 && late d.seq.step then
    let d := d.toCycle 19999
    (d.modPort p (fun x => { x with downReq := true })).raise rCXP_STATUS 3
  else d

/-- An ingest channel of the die (R242). -/
def DieState.ingest (d : DieState) (i : Nat) : Bool :=
  if d.paired then decide (i < 16) else decide (16 * d.die.num ≤ i ∧ i < 16 * d.die.num + 16)

/-- CXP_LOCK_ACQUIRE (R242): receiver `i` gains or loses lock on its lane. -/
def lockAcquire (i : Nat) (on : Bool) (d : DieState) : DieState := if d.ingest i then d.setFlag rCXP_LOCK i on else d

/-- CXP_LOCK_LOSS (R254): connection 0 of port `p` loses lock. -/
def lockLoss (p : Nat) (d : DieState) : DieState :=
  if !d.portOn p then d
  else
    let d := d.setFlag rCXP_LOCK (d.fld (rCXP_PORT + 4 * p) 21 16) false
    if d.stepping && d.portState p == 2 then d.modPort p (fun x => { x with downReq := true }) else d

/-- A control command of the Quill on connection 0 of port `p`; a die that does not drive the uplinks sends none (R244). -/
def DieState.camSend (d : DieState) (args : List Nat) : DieState := if d.cxp.driving then d.send .cxpControl args [] else d

/-- Port `p` takes LINK_DOWN: its held lines are discarded and its exposure request with them, and the Quill stops acquisition (R254, R283). -/
def DieState.linkDown (d : DieState) (p : Nat) : DieState :=
  let d := d.modPort p (fun x => { x with open_ := [], waiting := none, fifo := [], store := [], badRun := 0, downReq := false, rediscovered := false })
  let d := (d.setPortState p 3).raise rCXP_STATUS 6
  let d := d.life (32 + d.die.num) 1
  let d := d.uswEvent 1 p 3
  let d := d.setExpo p { d.expo p with pend := none, unacked := 0, trans := none, est := (d.img p).estInit, prev := (d.img p).estInit }
  (d.setFlag (rIPP_EST + 4 * p) 30 false).camSend [p, 3]

/-- PORT_LINK_DOWN (R254, R255): at a step boundary, port `p` takes LINK_DOWN where it is due on this die, or in Paired mode on
either. -/
def portLinkDown (p : Nat) (other : DieState) (d : DieState) : DieState :=
  let due := (d.port p).downReq || (d.paired && (other.port p).downReq)
  if d.stepping && d.seq.cycle == 0 && due && d.portState p == 2 then d.linkDown p else d

/-- The settings of port `p` lie within what a port supports (R245): format, rate, connections, line width. -/
def DieState.camOk (d : DieState) (p : Nat) : Bool :=
  let c := rCXP_PORT + 4 * p
  decide (d.fld c 2 0 ≤ 4 ∧ d.fld c 8 6 ≤ 6 ∧ d.fld c 13 12 ≤ 2 ∧ 64 ≤ d.width p ∧ d.width p ≤ 16384 ∧ d.width p % 32 = 0)

/-- The writes of control commands. -/
def DieState.camWrites (d : DieState) (p : Nat) (ws : List (Nat × Nat)) : DieState := ws.foldl (fun d w => d.camSend [p, 1, w.1, w.2]) d

/-- The settings that are written, in record order: up to the first whose readback differs (R247). -/
def settingWrites (sets : List (Nat × Nat)) (back : List Nat) : List (Nat × Nat) :=
  match sets, back with
  | s :: r, b :: t => s :: (if b = s.2 then settingWrites r t else [])
  | s :: _, [] => [s]
  | [], _ => []

/-- CAMERA_DISCOVERY (R245, R247, R254, R283): the Quill runs discovery on port `p`: the device answers or not, with its model value, the
readback of each setting, and whether the start write is accepted. (DEDUCED, log entry 28.) -/
def cameraDiscovery (p : Nat) (found : Bool) (model : Nat) (back : List Nat) (start : Bool) (d : DieState) : DieState :=
  if !d.portOn p || !decide (d.dev = .linkTrain ∨ d.dev = .armed ∨ d.stepping) || !decide (d.portState p = 1 ∨ d.portState p = 3) then d
  else
    let c : CamCfg := tget d.cxp.cams p default
    let here := found && d.camOk p && decide (model = c.model)
    let read := here && decide (back = c.sets.map (·.2))
    let d := if d.portState p = 3 then d.hist 10 (d.fld (rCXP_PORT + 4 * p) 21 16) else d
    let d := d.camSend [p, 0]
    let d := if here then d.camWrites p (settingWrites c.sets back) else d
    let d := if read then d.camWrites p [c.start] else d
    if read && start then
      let regs := (c.sets ++ [c.start]).foldl (fun t x => tset t x.1 x.2) (tget d.cxp.camRegs p [])
      let d := { d with cxp := { d.cxp with camRegs := tset d.cxp.camRegs p regs } }
      let e := (d.img p).estInit
      let d := d.setExpo p { d.expo p with est := e, prev := e, trans := none }
      if d.stepping then d.modPort p (fun x => { x with rediscovered := true }) else d.setPortState p 2
    else
      let d := d.raise rCXP_STATUS 7
      if d.dev = .linkTrain then d.setPortState p 4 else d

/-- Port `p` is to stop at its next frame boundary (R36). -/
def DieState.draining (d : DieState) (p : Nat) : Bool := (d.port p).offAt.isSome && decide (d.portState p = 2 ∨ d.portState p = 3)

/-- PORT_RETURN_RUN (R254): a rediscovered port returns to RUN in the sample in which its next trigger, the first of a frame,
fires. (DEDUCED, log entry 28.) -/
def portReturnRun (p : Nat) (d : DieState) : DieState :=
  let x := d.port p
  if d.stepping && x.rediscovered && d.frameStart (d.groupOf p) x.nextK && decide (d.portState p ≠ 2) && !d.draining p then
    (d.setPortState p 2).setPort p { x with rediscovered := false, badRun := 0, offAt := none }
  else d

/-! ### Registration -/

/-- Lines of port `p` of index `k` are waited for (R258): it is in RUN, or disabled with `k` before its frame boundary. -/
def DieState.awaited (d : DieState) (p k : Nat) : Bool :=
  match (d.port p).offAt with
  | some b => decide (k < b) && d.portState p != 3
  | none => d.portState p == 2

/-- The stripe record that widens the lines of group `g`, if a striped lane reads it (R172). -/
def DieState.stripeOf (d : DieState) (g : Nat) : Option (Nat × LaneCfg) :=
  let m := d.fld (rRGN_GRP + 4 * g) 23 16
  d.ptk.cfg.find? (fun x => x.2.striped && x.2.ports == m)

/-- The striped lanes that read group `g`; the first one's record gives the group its arrival step and the width of its halos. (DEDUCED, log entry 28.) -/
def DieState.stripesOf (d : DieState) (g : Nat) : List (Nat × LaneCfg) :=
  let m := d.fld (rRGN_GRP + 4 * g) 23 16
  d.ptk.cfg.filter (fun x => x.2.striped && x.2.ports == m)

/-- The step of the last trigger of line `k` among the group's ports, with those that have not fired left out (R258). -/
def DieState.lastTrig (d : DieState) (g k : Nat) : Nat :=
  ((d.groupPorts g).map (fun p => (tget (d.port p).fired k (0, default)).1)).foldl max 0

/-- The port of group `g` with the smallest offset: the reference line (R250). -/
def DieState.refPort (d : DieState) (g : Nat) : Option Nat :=
  let ps := d.groupPorts g
  ps.find? (fun p => ps.all (fun q => decide (d.fld (rRGN_OFFSET + 4 * p) 30 0 ≤ d.fld (rRGN_OFFSET + 4 * q) 30 0)))

/-- The border columns of a fused line that a neighbour asks for (R172, R173), left or right, in the camera's pixel format: port by port, packed formats from the least
significant bit on, a port's columns in whole bytes; those of a missing modality are zero (R258). (DEDUCED, log entry 28.) -/
def borderCols (d : DieState) (l : FLine) (left : Bool) (n : Nat) : List Byte :=
  (l.ports.map (fun q =>
    let fmt := d.fld (rCXP_PORT + 4 * q.port) 2 0
    let s := samplesOf fmt (d.img q.port).sens
    let px := q.line.px ++ List.replicate (d.width q.port * s - q.line.px.length) 0
    let c := if left then px.take (n * s) else px.drop (px.length - n * s)
    packElems (sampleBits fmt) (colBytes fmt n s) c)).flatten

/-- A HALO message of this step for the neighbour at address `a` (its die above bit 18), laid out as R399 states. -/
def DieState.haloOut (d : DieState) (a lane : Nat) (l : FLine) (side cols : Nat) (data : List Byte) : DieState :=
  let bs := leBytes 8 d.seq.step ++ leBytes 8 (ofSigned 64 l.pos) ++ leBytes 1 lane ++ leBytes 1 side ++ leBytes 2 cols ++ leBytes 4 0 ++ data
  { d with twl := { d.twl with outbox := d.twl.outbox ++ [(a % 2 ^ 18, a / 2 ^ 18, 4, bs)] } }

/-- Fused line `k` of group `g` is registered: missing modalities are zero and flagged (R258); in a striped lane the halo
messages go to the neighbours, tagged with this step (R173). -/
def DieState.register (d : DieState) (g k : Nat) : DieState :=
  let ports := (d.groupPorts g).map (fun p =>
    match (if d.awaited p k then (d.port p).store.find? (fun l => l.k == k) else none) with
    | some l => (⟨p, l, false⟩ : PortLine)
    | none => ⟨p, ⟨k, [], false, (d.expo p).label (d.frameOf g k)⟩, true⟩)
  let t := d.lastTrig g k
  let r : Nat × TagTime := match d.refPort g with | some p => tget (d.port p).fired k (t, d.pos.cur) | none => (t, d.pos.cur)
  let l : FLine := { group := g, k := k, pos := d.rk g k, trig := t, ref := r.1, time := r.2, ports := ports, arrival := 0, gone := false }
  let miss := ports.any (·.missing)
  let x := d.group g
  let d := d.setGroup g { x with nextReg := k + 1, regd := x.regd ++ [l] }
  let d := (d.groupPorts g).foldl (fun d p => d.modPort p (fun q =>
      { q with store := q.store.filter (fun l => decide (k < l.k)), fired := q.fired.filter (fun y => decide (k < y.1)) })) d
  let d := if miss then (d.raise rRGN_STATUS 0).countFld (rRGN_MISS + 4 * g) 15 0 1 else d
  (d.stripesOf g).foldl (fun d x =>
    let c := x.2
    let d := match c.left with
      | some a => d.haloOut a x.1 l 1 c.sendL (borderCols d l true c.sendL)
      | none => d
    match c.right with
    | some a => d.haloOut a x.1 l 0 c.sendR (borderCols d l false c.sendR)
    | none => d) d

/-- LINE_REGISTER (R258): every awaited port has delivered the next line of group `g`, and at least one port is in RUN. -/
def lineRegister (g : Nat) (d : DieState) : DieState :=
  let k := (d.group g).nextReg
  let ps := (d.groupPorts g).filter (fun p => d.awaited p k)
  if d.stepping && (d.group g).k0.isSome && !ps.isEmpty && ps.all (fun p => (d.port p).store.any (fun l => l.k == k)) then d.register g k
  else d

/-- REGISTRATION_DEADLINE (R258): at the end of D_k the next line of group `g` is registered as it stands. -/
def registrationDeadline (g : Nat) (d : DieState) : DieState :=
  let k := (d.group g).nextReg
  let ps := d.groupPorts g
  let dk := d.lastTrig g k + d.fld (rRGN_GRP + 4 * g) 6 0
  if d.stepping && (d.group g).k0.isSome && !ps.isEmpty && ps.all (fun p => (tget? (d.port p).fired k).isSome) && decide (dk ≤ d.seq.step) then
    (d.toCycle 19999).register g k
  else d

/-- E_g: the entries of the Line Slot Table that name group `g` (R261). -/
def DieState.slotsOf (d : DieState) (g : Nat) : Nat := (d.ipp.lst.filter (fun e => e.1 == g)).length

/-- The oldest registered line of group `g` crosses and arrives in this step. -/
def DieState.cross (d : DieState) (g : Nat) (l : FLine) (rest : List FLine) (arrival : Nat) : DieState :=
  let x := d.group g
  let n := if x.crossStep = d.seq.step then x.crossed else 0
  let d := d.setGroup g { x with regd := rest, crossed := n + 1, crossStep := d.seq.step }
  { d with cxp := { d.cxp with arrived := d.cxp.arrived ++ [{ l with arrival := arrival }] } }

/-- A line of a striped lane that could not arrive in its step is missing (R173, R261): counted, and carried on without pixels. -/
def DieState.stripeMiss (d : DieState) (lane b : Nat) : DieState :=
  ((d.raise rSTM_STRIPE_STATUS b).countFld (rSTM_STRIPE_MISS + 4 * lane) 31 16 1).admitMiss

/-- The status flags of a line: port, missing, replaced. -/
def FLine.flags (l : FLine) : List (Nat × Bool × Bool) := l.ports.map (fun q => (q.port, q.missing, q.line.replaced))

/-- A line with the status flags of the other die's copy merged in (R47): a port that is missing there is missing here. -/
def FLine.merge (l : FLine) (fs : List (Nat × Bool × Bool)) : FLine :=
  { l with ports := l.ports.map (fun q =>
      match fs.find? (fun f => f.1 == q.port) with
      | none => q
      | some f => { q with missing := q.missing || f.2.1, line := { q.line with px := if f.2.1 then [] else q.line.px, replaced := q.line.replaced || f.2.2 } }) }

/-- Die B crosses a line that die A has decided, with the statuses of both; `miss`: the decision reached it after the line's admission step, so that the line is
missing (R44, R47). (DEDUCED, log entry 28.) -/
def DieState.crossDecided (d : DieState) (g : Nat) (l : FLine) (rest : List FLine) (y : LineDec) (miss : Bool) : DieState :=
  let l := l.merge y.flags
  let d := d.cross g { l with gone := l.gone || miss } rest y.step
  let d := if miss then d.admitMiss else d
  { d with cxp := { d.cxp with decided := d.cxp.decided.filter (fun z => z ≠ y) } }

/-- FUSED_LINE_CROSS (R258, R261, R173, R47): the oldest registered line of group `g` crosses, if one of the step's E_g places is
left; die B of a pair takes the arrival step that die A has fixed. (DEDUCED, log entry 28.) -/
def fusedLineCross (g : Nat) (miss : Bool) (d : DieState) : DieState :=
  let x := d.group g
  match x.regd with
  | [] => d
  | l :: rest =>
    let used := if x.crossStep = d.seq.step then x.crossed else 0
    if !d.stepping then d
    else
      match d.stripeOf g with
      | some (lane, c) =>
        let at_ := l.trig + c.stripeHold
        if d.seq.step < at_ then d
        else if at_ = d.seq.step ∧ used < d.slotsOf g then d.cross g l rest at_
        else if at_ < d.seq.step then
          let d := d.setGroup g { x with regd := rest }
          ({ d with cxp := { d.cxp with arrived := d.cxp.arrived ++ [{ l with arrival := d.seq.step, gone := true }] } }).stripeMiss lane 3
        else d.raise rIPP_STATUS 1
      | none =>
        if d.slotsOf g ≤ used then d.raise rIPP_STATUS 1
        else if d.paired && d.die == .b then
          match d.cxp.decided.find? (fun y => y.group == g && y.k == l.k) with
          | none => d
          | some y => d.crossDecided g l rest y miss
        else d.cross g l rest d.seq.step

/-- Die A merges what die B has sent it of its own status of the oldest registered line (R47). -/
def DieState.mergePeer (d : DieState) (g : Nat) (peer : DieState) : DieState :=
  match (d.group g).regd with
  | l :: r =>
    match (peer.group g).regd.find? (fun m => m.k == l.k) with
    | some m => d.setGroup g { d.group g with regd := l.merge m.flags :: r }
    | none => d
  | [] => d

/-- In Paired mode die A sends die B the arrival step of each line it lets cross, with the line's status flags, its own and die B's merged (R47). -/
def fusedLineCrossWhole (die : Die) (g : Nat) (miss : Bool) (w : Whole) : Whole :=
  let first := die == .a && (w.die die).paired
  let w := if first then w.onDie die (fun d => d.mergePeer g w.b) else w
  let before := ((w.die die).group g).regd
  let w := w.onDie die (fusedLineCross g miss)
  let x := w.die die
  let after := (x.group g).regd
  if first && decide (after.length < before.length) then
    match before with
    | l :: _ => w.onDie .b (fun b => { b with cxp := { b.cxp with decided := b.cxp.decided ++ [⟨g, l.k, x.seq.step, l.flags⟩] } })
    | [] => w
  else w

/-- LINE_MISS (R173): the next line of striped group `g` is not registered by the end of T + STRIPE_HOLD. (DEDUCED, log entry 28.) -/
def lineMiss (g : Nat) (d : DieState) : DieState :=
  match d.stripeOf g with
  | none => d
  | some (lane, c) =>
    let k := (d.group g).nextReg
    let ps := d.groupPorts g
    let at_ := d.lastTrig g k + c.stripeHold
    if d.stepping && (d.group g).k0.isSome && !ps.isEmpty && ps.all (fun p => (tget? (d.port p).fired k).isSome) && decide (at_ ≤ d.seq.step) then
      let d := d.toCycle 19999
      let x := d.group g
      let l : FLine := { group := g, k := k, pos := d.rk g k, trig := d.lastTrig g k, ref := d.lastTrig g k, time := d.pos.cur, ports := [], arrival := d.seq.step, gone := true }
      let d := d.setGroup g { x with nextReg := k + 1 }
      let d := (d.groupPorts g).foldl (fun d p => d.modPort p (fun q =>
        { q with store := q.store.filter (fun l => decide (k < l.k)), fired := q.fired.filter (fun y => decide (k < y.1)) })) d
      ({ d with cxp := { d.cxp with arrived := d.cxp.arrived ++ [l] } }).stripeMiss lane 3
    else d

/-- CXP_EVENT_PACKET (R245): a camera event packet is logged to Inkwell. (DEDUCED, log entry 28.) -/
def cxpEvent (p : Nat) (data : List Byte) (d : DieState) : DieState :=
  if d.portOn p then d.inkNote 8 1 none (3 :: p :: data.map (·.toNat)) else d

/-! ### The commands -/

/-- TRIGGER_PACKET of port `p` in sample `n`. -/
def execTriggerPacket (d : Die) (p : Fin 8) (n : BitVec 64) (s : State) : Host.Outcome State Fault Refusal :=
  .next (s.onDie d (triggerPacket p.val n.toNat))
/-- CXP_LINE_RECEIVE. -/
def execCxpLineReceive (d : Die) (p : Fin 8) (str : BitVec 8) (px : List (BitVec 16)) (crc gap other : Bool) (s : State) :
    Host.Outcome State Fault Refusal :=
  .next (s.onDie d (lineReceive p.val str.toNat (px.map (·.toNat)) crc gap other))
/-- CXP_EVENT_PACKET. -/
def execCxpEventPacket (d : Die) (p : Fin 8) (data : List (BitVec 8)) (s : State) : Host.Outcome State Fault Refusal :=
  .next (s.onDie d (cxpEvent p.val data))
/-- LINE_TO_DELAY_STORE. -/
def execLineToDelayStore (d : Die) (p : Fin 8) (s : State) : Host.Outcome State Fault Refusal := .next (s.onDie d (lineToStore p.val))
/-- LINE_TIMEOUT. -/
def execLineTimeout (d : Die) (p : Fin 8) (s : State) : Host.Outcome State Fault Refusal := .next (s.onDie d (lineTimeout p.val))
/-- CXP_LOCK_LOSS. -/
def execCxpLockLoss (d : Die) (p : Fin 8) (s : State) : Host.Outcome State Fault Refusal := .next (s.onDie d (lockLoss p.val))
/-- PORT_LINK_DOWN. -/
def execPortLinkDown (d : Die) (p : Fin 8) (s : State) : Host.Outcome State Fault Refusal :=
  .next (s.onDie d (portLinkDown p.val (s.dieOf d.other)))
/-- CAMERA_DISCOVERY. -/
def execCameraDiscovery (d : Die) (p : Fin 8) (found : Bool) (model : BitVec 256) (back : List (BitVec 32)) (start : Bool) (s : State) :
    Host.Outcome State Fault Refusal :=
  .next (s.onDie d (cameraDiscovery p.val found model.toNat (back.map (·.toNat)) start))
/-- PORT_RETURN_RUN. -/
def execPortReturnRun (d : Die) (p : Fin 8) (s : State) : Host.Outcome State Fault Refusal := .next (s.onDie d (portReturnRun p.val))
/-- LINE_REGISTER. -/
def execLineRegister (d : Die) (g : Fin 8) (s : State) : Host.Outcome State Fault Refusal := .next (s.onWhole (fun w => (w.onDie d (lineRegister g.val)).flushTwl d))
/-- REGISTRATION_DEADLINE. -/
def execRegistrationDeadline (d : Die) (g : Fin 8) (s : State) : Host.Outcome State Fault Refusal :=
  .next (s.onWhole (fun w => (w.onDie d (registrationDeadline g.val)).flushTwl d))
/-- FUSED_LINE_CROSS: die; the group, and whether die A's decision came too late. -/
def execFusedLineCross (d : Die) (x : Fin 8 × Bool) (s : State) : Host.Outcome State Fault Refusal :=
  .next (s.onWhole (fusedLineCrossWhole d x.1.val x.2))
/-- LINE_MISS. -/
def execLineMiss (d : Die) (g : Fin 8) (s : State) : Host.Outcome State Fault Refusal := .next (s.onDie d (lineMiss g.val))
/-- CXP_LOCK_ACQUIRE. -/
def execCxpLockAcquire (d : Die) (i : Fin 32) (on : Bool) (s : State) : Host.Outcome State Fault Refusal :=
  .next (s.onDie d (lockAcquire i.val on))

end Sys2Proof.Machine
end

