-- ==== Sys2Proof/Machine/Position.lean ====
section
/-! DEFINITION. The Position Timebase (spec/12): edge filters, counters, velocity, index, soft limits, direction, capture units,
step tags and the emulated output. -/

namespace Sys2Proof.Machine

/-! ### Flags of a channel -/

/-- The state register of channel `c`. -/
def posStat (c : Nat) : Nat := rPOS_STAT + 4 * c

/-- QLL_USW_REQ is written with `v` (R434): the request is PENDING. -/
def DieState.uswPend (d : DieState) (v : Nat) : DieState :=
  let d := d.wr rQLL_USW_RESULT 0x80000000
  { d with qll := { d.qll with req := some (v, d.clk) } }

/-- The Quill requests, on a fault policy, the disable of instance `i` of unit `u` (R35, R301, R328): it takes effect at the next step
boundary, that of step 0 where none runs yet. -/
def DieState.askDisable (d : DieState) (u i : Nat) : DieState :=
  let v := 0x80000000 + u * 0x10000 + i * 0x100 + 1
  let d := if d.qll.req.isNone then d.uswPend v else d
  { d with reqs := d.reqs ++ [(rQLL_USW_REQ, v, if d.stepping then d.seq.step + 1 else 0)] }

/-- UNCERTAIN of channel `c` is set; with FAULT_POLICY its setting makes the Quill request the encoder's disable (R301).
`stale`: by SSI staleness. -/
def DieState.uncertain (d : DieState) (c : Nat) (stale : Bool) : DieState :=
  let was := d.flag (posStat c) 9
  let ch := d.chan c
  let d := (d.raise (posStat c) 9).setChan c { ch with staleOnly := if was then ch.staleOnly && stale else stale, stale := ch.stale || stale }
  if !was && d.flag (rPOS_CFG + 4 * c) 10 then d.askDisable 10 c else d

/-- UNCERTAIN of channel `c` is cleared. -/
def DieState.certain (d : DieState) (c : Nat) : DieState :=
  (d.setFlag (posStat c) 9 false).setChan c { d.chan c with staleOnly := false }

/-- Inkwell's histogram 15: class 0 QUAD_ERROR, 1 DRIFT_ERROR, 2 SSI_ERROR (R448). -/
def DieState.posHist (d : DieState) (cls c : Nat) : DieState := d.hist 15 (8 * cls + c)

/-! ### The filter (R291) -/

/-- The hold-off H of channel `c` in samples. -/
def DieState.holdOff (d : DieState) (c : Nat) : Nat := (d.fld (rPOS_CFG + 4 * c) 20 11 * 10 + 3) / 4

/-- One sample of a filter: the filter, whether an edge is accepted, whether one is rejected. -/
def filterStep (h n : Nat) (raw : Bool) (f : Filt) : Filt × Bool × Bool :=
  if raw = f.level then ({ f with prev := raw }, false, false)
  else if h ≤ n - f.last then (⟨raw, raw, n⟩, true, false)
  else ({ f with prev := raw }, false, raw != f.prev)

/-- A rejected edge of channel `c` is counted. -/
def DieState.edgeFault (d : DieState) (c : Nat) (bad : Bool) : DieState :=
  if bad then (d.count (rPOS_EDGE_FAULT + 4 * c) 1).raise (posStat c) 16 else d

/-! ### Captures (R304 to R306) -/

/-- Capture unit `k` latches its channel in sample `n`, as of a step and cycle; a second event of one step is lost (R305). (DEDUCED, log entry 30.) -/
def DieState.capture (d : DieState) (k n step cycle : Nat) : DieState :=
  let c := d.chanOf (d.fld (rPOS_CAP_CFG + 4 * k) 2 0)
  if tget? d.pos.capStep k = some step then d.raise (rPOS_CAP_INFO + 32 * k) 30
  else
    let ch := d.chan c
    let p := d.p256 c n
    let l : Latch :=
      { unit := k, pos := p.fdiv 256, sub := (p % 256).toNat, time := d.ptpNow.toNat, epoch := d.epoch, step := step, cycle := cycle,
        lost := d.timeLost, uncertain := d.flag (posStat c) 9, limit := decide (ch.level ≠ 0), frozen := ch.frozen }
    let d := { d with pos := { d.pos with capStep := tset d.pos.capStep k step, latches := d.pos.latches ++ [l] } }
    let d := (d.wrS64 (rPOS_CAP_POS_LO + 32 * k) l.pos).wr64 (rPOS_CAP_TIME_LO + 32 * k) l.time
    let d := (d.wr64 (rPOS_CAP_STEP_LO + 32 * k) step).setFld (rPOS_CAP_CFG + 4 * k) 31 16 l.epoch
    let d := d.setFld (rPOS_CAP_INFO + 32 * k) 26 0
      (b2n l.frozen * 2 ^ 26 + b2n l.limit * 2 ^ 25 + b2n l.uncertain * 2 ^ 24 + b2n l.lost * 2 ^ 23 + cycle % 2 ^ 15 * 2 ^ 8 + l.sub)
    d.raise (rPOS_CAP_INFO + 32 * k) 31

/-- Every unit that `f` selects latches in sample `n`. -/
def DieState.captures (d : DieState) (n : Nat) (f : DieState → Nat → Bool) : DieState :=
  ((List.range 8).filter (f d)).foldl (fun d k => d.capture k n d.seq.step d.seq.cycle) d

/-- SRC of capture unit `k`. -/
def DieState.capSrc (d : DieState) (k : Nat) : Nat := d.fld (rPOS_CAP_CFG + 4 * k) 6 4

/-- CHANNEL of capture unit `k`, as this die takes it (R286). -/
def DieState.capChan (d : DieState) (k : Nat) : Nat := d.chanOf (d.fld (rPOS_CAP_CFG + 4 * k) 2 0)

/-! ### Counting -/

/-- Counters count in ARMED, RUN and SAFE, and not while the channel is frozen (R295, R302). -/
def DieState.counts (d : DieState) (c : Nat) : Bool := decide (d.dev = .armed ∨ d.dev = .run ∨ d.dev = .safe) && !(d.chan c).frozen

/-- The direction decision of R303 after a count. -/
def DieState.direction (d : DieState) (c : Nat) : DieState :=
  let ch := d.chan c
  let hyst : Int := d.fld (rPOS_CFG + 4 * c) 28 21
  let x := if ch.rev then min ch.x ch.count else max ch.x ch.count
  let turn := if ch.rev then decide (hyst < ch.count - x) else decide (hyst < x - ch.count)
  if turn then
    let d := d.setChan c { ch with rev := !ch.rev, x := ch.count }
    ((d.raise (posStat c) 21).countFld (rPOS_EVT + 4 * c) 11 0 1).send .irq [10, c] []
  else d.setChan c { ch with x := x }

/-- Σ and the target of the emulated output follow the source's count (R310): each edge newly owed is due in sample `n`. (DEDUCED, log entry 30.) -/
def DieState.emuTrack (d : DieState) (n : Nat) : DieState :=
  let e := d.pos.emu
  let c := d.chanOf (d.fld rPOS_EMU_CFG 3 1)
  let now := d.countAt c n
  let sum := e.sum + (now - e.src)
  let t := (sum * (d.fld rPOS_EMU_RATIO 31 16 : Int)).fdiv (max 1 (d.fld rPOS_EMU_RATIO 15 0) : Nat)
  let owed := (t - e.o).natAbs
  let due := if owed ≤ e.due.length then e.due.take owed else e.due ++ List.replicate (owed - e.due.length) n
  { d with pos := { d.pos with emu := { e with sum := sum, src := now, due := due } } }

/-- The emulated output runs: enabled, in ARMED, RUN or SAFE, its source not frozen (R302, R309). -/
def DieState.emuOn (d : DieState) : Bool :=
  d.flag rPOS_EMU_CFG 0 && decide (d.dev = .armed ∨ d.dev = .run ∨ d.dev = .safe) && !(d.chan (d.chanOf (d.fld rPOS_EMU_CFG 3 1))).frozen

/-- The counter of channel `c` takes `delta` counts in sample `n`, held at the soft limits (R300); `e`: the sample E becomes (R297).
The direction, triggers and the emulated output follow. -/
def DieState.addCount (d : DieState) (c n e : Nat) (delta : Int) : DieState :=
  let ch := d.chan c
  let lo := d.limitLo c
  let hi := d.limitHi c
  let t := ch.count + delta
  let v := clampZ lo hi t
  let level := if t < lo then 1 else if hi < t then 2 else if v = ch.count then ch.level else 0
  let moved := decide (v ≠ ch.count)
  let d := d.setChan c { ch with count := v, level := level, e := if moved then e else ch.e, ce := if moved then v else ch.ce }
  let d := if t < lo ∨ hi < t then (d.raise (posStat c) 20).uncertain c false else d
  let d := d.direction c
  let d := d.fireTriggers c n
  if d.emuOn && d.chanOf (d.fld rPOS_EMU_CFG 3 1) == c then d.emuTrack n else d

/-- +1 or −1, with REVERSE. -/
def DieState.signed (d : DieState) (c : Nat) (fwd : Bool) : Int := if fwd != d.flag (rPOS_CFG + 4 * c) 7 then 1 else -1

/-- ENCODER_EDGE (R289, R291): in sample `n` the pads of channel `c` in QUAD mode show `a` and `b`. (DEDUCED, log entry 30.) -/
def encoderEdge (c n : Nat) (a b : Bool) (d : DieState) : DieState :=
  if !d.samples c || d.chMode c != 1 then d
  else
    let d := d.at (d.sampleAt n)
    let h := d.holdOff c
    let ch := d.chan c
    let ra := filterStep h n a ch.fa
    let rb := filterStep h n b ch.fb
    let d := d.setChan c { ch with fa := ra.1, fb := rb.1 }
    let d := (d.edgeFault c ra.2.2).edgeFault c rb.2.2
    let m := d.fld (rPOS_CFG + 4 * c) 4 3
    if ra.2.1 && rb.2.1 then
      (((d.raise (posStat c) 17).countFld (rPOS_EVT + 4 * c) 31 20 1).posHist 0 c).uncertain c false
    else if !d.counts c then d
    else if ra.2.1 then
      (if m = 0 ∧ rb.1.level then d else d.addCount c n n (d.signed c (ra.1.level != rb.1.level)))
    else if rb.2.1 then (if m = 2 then d.addCount c n n (d.signed c (ra.1.level == rb.1.level)) else d)
    else d

/-- PULSE_DIR_EDGE (R290): in sample `n` the pads of channel `c` in PULSE_DIR mode show `a` and `b`. -/
def pulseDirEdge (c n : Nat) (a b : Bool) (d : DieState) : DieState :=
  if !d.samples c || d.chMode c != 2 then d
  else
    let d := d.at (d.sampleAt n)
    let h := d.holdOff c
    let ch := d.chan c
    let ra := filterStep h n a ch.fa
    let rb := filterStep h n b ch.fb
    let d := d.setChan c { ch with fa := ra.1, fb := rb.1 }
    let d := (d.edgeFault c ra.2.2).edgeFault c rb.2.2
    if ra.2.1 && ra.1.level && d.counts c then d.addCount c n n (d.signed c rb.1.level) else d

/-- INDEX_EVENT (R299): in sample `n` the Z pad of channel `c` in QUAD mode shows `z`; an accepted rising edge latches the count,
runs the drift check, serves the capture units, and starts the emulated Z. -/
def indexEvent (c n : Nat) (z : Bool) (d : DieState) : DieState :=
  if !d.samples c || d.chMode c != 1 then d
  else
    let d := d.at (d.sampleAt n)
    let ch := d.chan c
    let r := filterStep (d.holdOff c) n z ch.fz
    let d := (d.setChan c { ch with fz := r.1 }).edgeFault c r.2.2
    let gated := !d.flag (rPOS_CFG + 4 * c) 8 || (ch.fa.level && ch.fb.level)
    if !(r.2.1 && z && gated) then d
    else
      let cpr : Int := d.fld (rPOS_IDX + 4 * c) 23 0
      let tol : Int := d.fld (rPOS_IDX + 4 * c) 31 24
      let delta := ((ch.count - ch.latch).natAbs : Int)
      let first := !ch.latched
      let d := (d.setChan c { d.chan c with latched := true, latch := ch.count }).wrS64 (rPOS_INDEX_LATCH_LO + 8 * c) ch.count
      let d :=
        if cpr = 0 ∨ first then d
        else if ((delta - cpr).natAbs : Int) ≤ tol then d.certain c
        else if delta ≤ tol then d
        else (((d.raise (posStat c) 18).countFld (rPOS_EVT + 4 * c) 19 12 1).posHist 1 c).uncertain c false
      let d := d.captures n (fun d k => d.capSrc k == 1 && d.capChan k == c)
      if d.emuOn && d.flag rPOS_EMU_CFG 4 && d.chanOf (d.fld rPOS_EMU_CFG 3 1) == c then
        ({ d with pos := { d.pos with emu := { d.pos.emu with z := some (n + 50) } } }).send .pin [200 + d.die.num, 1] []
      else d

/-! ### SSI (R293, R294) -/

/-- An SSI frame of channel `c` is discarded. -/
def DieState.ssiError (d : DieState) (c : Nat) : DieState :=
  ((d.raise (posStat c) 19).countFld (rPOS_EVT + 4 * c) 31 20 1).posHist 2 c

/-- SSI_FRAME_START (R293, R294): a frame of channel `c` starts in sample `n`; `idle`: A read high in the sample before. -/
def ssiFrameStart (c n : Nat) (idle : Bool) (d : DieState) : DieState :=
  if !d.samples c || d.chMode c != 3 then d
  else
    let d := (d.at (d.sampleAt n)).send .pin [210 + c, n] []
    if idle then d.setChan c { d.chan c with start := some n } else (d.setChan c { d.chan c with start := none }).ssiError c

/-- The number of ones among the low `k` bits. -/
def ones (k n : Nat) : Nat := ((List.range k).filter (fun i => bit i n)).length

/-- Gray code of `k` bits decoded. -/
def grayDecode (k n : Nat) : Nat :=
  ((List.range k).map (fun i => (ones (k - i) (n / 2 ^ i)) % 2 * 2 ^ i)).foldl (· + ·) 0

/-- SSI_FRAME (R294): the frame of channel `c` ends in sample `n` with its data bits and parity bit. (DEDUCED, log entry 30.) -/
def ssiFrame (c n data : Nat) (par : Bool) (d : DieState) : DieState :=
  if !d.samples c || d.chMode c != 3 then d
  else
    match (d.chan c).start with
    | none => d
    | some f =>
      let d := d.at (d.sampleAt n)
      let r := rPOS_SSI + 4 * c
      let k := d.fld r 16 11
      let data := data % 2 ^ k
      let odd := (ones k data + b2n par) % 2
      let p := d.fld r 19 18
      let d := d.setChan c { d.chan c with start := none }
      if (p = 1 ∧ odd = 1) ∨ (p = 2 ∧ odd = 0) then d.ssiError c
      else
        let u := if d.flag r 17 then grayDecode k data else data
        let ch := d.chan c
        let d := d.setChan c { ch with goodAt := f, stale := false }
        let d := if ch.stale && ch.staleOnly then d.certain c else d
        let sgn : Int := if d.flag (rPOS_CFG + 4 * c) 7 then -1 else 1
        let set (d : DieState) : DieState := d.setChan c { d.chan c with u := some u }
        match ch.u with
        | none => if d.counts c then (set d).addCount c n f (sgn * (u : Int) - (d.chan c).count) else d
        | some u0 =>
          let diff := toSigned k ((u + 2 ^ k - u0 % 2 ^ k) % 2 ^ k)
          if d.counts c && diff != 0 then (set d).addCount c n f (sgn * diff) else set d

/-- SSI_STALE (R294): by sample `n` no good frame of channel `c` for more than 4 frame periods. -/
def ssiStale (c n : Nat) (d : DieState) : DieState :=
  if d.samples c && d.chMode c == 3 && decide (4 * 250 * d.ssiPeriod c < n - (d.chan c).goodAt) then
    (d.at (d.sampleAt n)).uncertain c true
  else d

/-! ### Software captures and UNCERTAIN -/

/-- POS_SWCAP takes effect (R304). -/
def swcap (v : Nat) (d : DieState) : DieState :=
  d.captures d.sampleNow (fun d k => bit k v && d.capSrc k == 3)

/-- A 1 written to UNCERTAIN takes effect (R301). -/
def uncertainClear (c : Nat) (d : DieState) : DieState := if d.samples c then d.certain c else d

/-! ### The emulated output (R309, R310) -/

/-- Levels of A and B after one quadrature edge, forward with A leading B. -/
def quadNext (fwd a b : Bool) : Bool × Bool := if fwd = (a = b) then (!a, b) else (a, !b)

/-- EMU_EDGE (R310): in sample `n` the output drives one edge toward its target, 25 samples or more after the last. (DEDUCED, log entry 30.) -/
def emuEdge (n : Nat) (d : DieState) : DieState :=
  if !d.emuOn then d
  else
    let d := (d.at (d.sampleAt n)).emuTrack n
    let e := d.pos.emu
    match e.due with
    | [] => d
    | f :: rest =>
      if e.last.any (fun l => decide (n < l + 25)) then d
      else
        let t := (e.sum * (d.fld rPOS_EMU_RATIO 31 16 : Int)).fdiv (max 1 (d.fld rPOS_EMU_RATIO 15 0) : Nat)
        let up := decide (e.o < t)
        let q := quadNext (up != d.flag rPOS_EMU_CFG 5) e.a e.b
        let d := { d with pos := { d.pos with emu :=
          { e with o := if up then e.o + 1 else e.o - 1, a := q.1, b := q.2, last := some n, due := rest } } }
        let d := d.send .pin [202 + d.die.num, b2n q.1, b2n q.2, n] []
        if 28 < n - f then d.raise rPOS_EMU_CFG 16 else d

/-- EMU_Z_END (R310): Z falls 50 samples after the index. -/
def emuZEnd (n : Nat) (d : DieState) : DieState :=
  match d.pos.emu.z with
  | none => d
  | some e =>
    if n < e then d
    else (({ d with pos := { d.pos with emu := { d.pos.emu with z := none } } }).at (d.sampleAt n)).send .pin [200 + d.die.num, 0] []

/-! ### Boundaries (R295, R297, R302, R307) -/

/-- The velocity of channel `c` at boundary sample `n` (R297), with its mark. -/
def Chan.atBoundary (ch : Chan) (n : Nat) : Chan :=
  if ch.reenable then { ch with v := 0, e := n, ce := ch.count, mark := some ⟨ch.count, n, n⟩, reenable := false }
  else
    let m : BMark := ⟨ch.ce, ch.e, n⟩
    if ch.frozen then { ch with v := 0, mark := some m }
    else
      match ch.mark with
      | none => { ch with v := 0, mark := some m }
      | some a =>
        let v :=
          if ch.ce ≠ a.c then clampZ (-2147483648) 2147483647 (((ch.ce - a.c) * 327680000).tdiv ((ch.e : Int) - a.e))
          else
            let cap : Int := 327680000 / (max (n - ch.e) 1 : Nat)
            if ch.v < 0 then - (min (-ch.v) cap) else min ch.v cap
        { ch with v := v, mark := some m }

/-- The preset of channel `c` in the sample of the boundary of step 0 (R295): not motion. (DEDUCED, log entry 30.) -/
def DieState.preset (d : DieState) (c : Nat) : DieState :=
  let ch := d.chan c
  if !d.flag (rPOS_CFG + 4 * c) 9 || ch.frozen then d
  else
    let p := d.rdS64 (rPOS_PRESET_LO + 8 * c)
    let k := p - ch.count
    d.setChan c { ch with count := p, ce := ch.ce + k, mark := ch.mark.map (fun m => { m with c := m.c + k }) }

/-- The entry of channel `c` in the step tag of a boundary at sample `n` (R307). -/
def DieState.tagEnt (d : DieState) (c n : Nat) : TagEnt :=
  if d.chMode c = 0 ∨ 4 ≤ d.chMode c then ⟨false, 0, 0, false, false, false, false, false, 0⟩
  else
    let ch := d.chan c
    let p := d.p256 c n
    { valid := true, count := p.fdiv 256, sub := (p % 256).toNat, uncertain := d.flag (posStat c) 9, limit := decide (ch.level ≠ 0),
      frozen := ch.frozen, dir := ch.rev, remote := false, v := ch.v }

/-- The die's own channels. -/
def DieState.ownChans (d : DieState) : List Nat := (List.range 4).map (· + 4 * d.die.num)

/-- A step boundary reaches the POS in sample `n` (R296, R307): velocities, STEP captures, and the step tag. -/
def posBoundary (n : Nat) (d : DieState) : DieState :=
  let d := d.ownChans.foldl (fun d c =>
    let ch := (d.chan c).atBoundary n
    (d.setChan c ch).wr (rPOS_VEL + 4 * c) (ofSigned 32 ch.v)) d
  let d := ((List.range 8).filter (fun k => d.capSrc k == 4)).foldl (fun d k => d.capture k n d.seq.step 0) d
  let t : StepTag :=
    { step := d.seq.step, time := d.ptpNow.toNat, epoch := d.epoch, lost := d.timeLost, ents := d.ownChans.map (fun c => (c, d.tagEnt c n)) }
  let cur : TagTime := ⟨t.time, t.epoch, t.lost⟩
  { d with pos := { d.pos with
      tags := (d.pos.tags ++ [t]).drop (d.pos.tags.length - 7), cur := cur, times := ((d.seq.step, cur) :: d.pos.times).take 256 } }

/-- Entry to CONFIG (R285, R295): sample 0, counters at 0. -/
def posConfig (d : DieState) : DieState := { d with pos := { (default : Pos) with base := d.clk } }

/-- Entry to ARMED (R309): the emulated output starts from O = Σ = 0. -/
def posArmed (d : DieState) : DieState :=
  let c := d.chanOf (d.fld rPOS_EMU_CFG 3 1)
  { d with pos := { d.pos with emu := { (default : Emu) with src := d.countAt c d.sampleNow } } }

/-! ### The commands -/

/-- ENCODER_EDGE. -/
def execEncoderEdge (d : Die) (c : Fin 8) (n : BitVec 64) (a b : Bool) (s : State) : Host.Outcome State Fault Refusal :=
  .next (s.onDie d (encoderEdge c.val n.toNat a b))
/-- PULSE_DIR_EDGE. -/
def execPulseDirEdge (d : Die) (c : Fin 8) (n : BitVec 64) (a b : Bool) (s : State) : Host.Outcome State Fault Refusal :=
  .next (s.onDie d (pulseDirEdge c.val n.toNat a b))
/-- INDEX_EVENT. -/
def execIndexEvent (d : Die) (c : Fin 8) (n : BitVec 64) (z : Bool) (s : State) : Host.Outcome State Fault Refusal :=
  .next (s.onDie d (indexEvent c.val n.toNat z))
/-- SSI_FRAME_START. -/
def execSsiFrameStart (d : Die) (c : Fin 8) (n : BitVec 64) (idle : Bool) (s : State) : Host.Outcome State Fault Refusal :=
  .next (s.onDie d (ssiFrameStart c.val n.toNat idle))
/-- SSI_FRAME. -/
def execSsiFrame (d : Die) (c : Fin 8) (n : BitVec 64) (data : BitVec 48) (par : Bool) (s : State) : Host.Outcome State Fault Refusal :=
  .next (s.onDie d (ssiFrame c.val n.toNat data.toNat par))
/-- SSI_STALE. -/
def execSsiStale (d : Die) (c : Fin 8) (n : BitVec 64) (s : State) : Host.Outcome State Fault Refusal :=
  .next (s.onDie d (ssiStale c.val n.toNat))
/-- EMU_EDGE. -/
def execEmuEdge (d : Die) (n : BitVec 64) (s : State) : Host.Outcome State Fault Refusal := .next (s.onDie d (emuEdge n.toNat))
/-- EMU_Z_END. -/
def execEmuZEnd (d : Die) (n : BitVec 64) (s : State) : Host.Outcome State Fault Refusal := .next (s.onDie d (emuZEnd n.toNat))

end Sys2Proof.Machine
end

