-- ==== Sys2Proof/Machine/Verdict.lean ====
section
/-! DEFINITION. Final verdicts and the Comparator (R62 to R65, R334 to R343; R340, R341): how parts and samples are decided, recorded
and counted, the disagreement window, and the commands of the Checker. -/

namespace Sys2Proof.Machine

/-! ### Parts and lanes -/

/-- The configuration of a lane. -/
def DieState.lane (d : DieState) (n : Nat) : LaneCfg := tget d.ptk.cfg n default

/-- What a lane keeps between lines. -/
def DieState.laneDyn (d : DieState) (n : Nat) : LaneDyn := tget d.ptk.dyn n default

/-- Change it. -/
def DieState.modLane (d : DieState) (n : Nat) (f : LaneDyn → LaneDyn) : DieState :=
  { d with ptk := { d.ptk with dyn := tset d.ptk.dyn n (f (d.laneDyn n)) } }

/-- Change every part that `c` selects. -/
def DieState.modParts (d : DieState) (c : Part → Bool) (f : Part → Part) : DieState :=
  { d with ptk := { d.ptk with parts := d.ptk.parts.map (fun p => if c p then f p else p) } }

/-- Change the part of order `q`. -/
def DieState.modPart (d : DieState) (q : Nat) (f : Part → Part) : DieState := d.modParts (fun p => p.seq == q) f

/-- The part of order `q`. -/
def DieState.partOf (d : DieState) (q : Nat) : Option Part := d.ptk.parts.find? (fun p => p.seq == q)

/-- Insert by an order on numbers, given as a "comes before". -/
def insertBy {A : Type} (lt : A → A → Bool) (x : A) (l : List A) : List A :=
  match l with
  | [] => [x]
  | y :: r => if lt x y then x :: y :: r else y :: insertBy lt x r

/-- A list sorted, equal elements keeping their order. -/
def sortBy {A : Type} (lt : A → A → Bool) (l : List A) : List A := l.foldl (fun acc x => insertBy lt x acc) []

/-- By lane, then by part number (R132). -/
def partLt (a b : Part) : Bool := decide (a.lane < b.lane) || (a.lane == b.lane && decide (a.seq < b.seq))

/-- The outcomes of R65 by precedence. -/
def precedence : List Nat := [3, 9, 4, 8, 7, 6, 5, 2, 1, 0]

/-- The applicable outcome with the smallest precedence number (R65). -/
def bestOutcome (outs : List Nat) : Nat := (precedence.find? (fun c => outs.contains c)).getD 0

/-- An outcome applies to a part, once. -/
def Part.mark (p : Part) (code : Nat) : Part := if p.outs.contains code then p else { p with outs := p.outs ++ [code] }

/-! ### Records (R375, R154) -/

/-- A verdict record is added to the unpublished ones, or dropped where 4,096 are held (R375). -/
def DieState.addRecord (d : DieState) (r : VRec) : DieState :=
  if d.net.recs.length < 4096 then { d with net := { d.net with recs := d.net.recs ++ [r] } }
  else
    (({ d with net := { d.net with dropped := d.net.dropped + 1 } }).count (rNET_CNT + 8) 1).raise rNET_STATUS 3

/-- A final verdict is decided for part `p`: its record, its events, and its tallies (R65, R379). -/
def DieState.finalize (d : DieState) (p : Part) (v agree cls : Nat) : DieState :=
  let span := (p.trailPos - p.leadPos).toNat
  let r : VRec :=
    { step := d.seq.step, lane := p.lane, num := p.num, seq := p.seq, verdict := v, agree := agree, cls := cls, recipe := p.recipe,
      conf := if v = 0 ∨ v = 1 ∨ v = 2 then p.conf else 0, lead := p.leadPos, span := min span max32, time := p.time }
  let d := d.modPart p.seq (fun q => { q with final := some v })
  let d := { d with nib := { d.nib with events := d.nib.events.map (fun (e : NibEvent) => if e.pseq = p.seq then { e with final := some (v, cls) } else e) } }
  (d.addRecord r).life (14 + d.die.num) 1

/-- A part whose outcome is final without comparison is decided (R65, R148); in SAFE its verdict is SAFE_STATE (R348). -/
def DieState.decideOuts (d : DieState) (p : Part) : DieState :=
  let outs := if d.dev = .safe then 9 :: p.outs else p.outs
  d.finalize p (bestOutcome outs) 3 0

/-! ### The Comparator -/

/-- MAP[c] (R337). -/
def DieState.mapOf (d : DieState) (c : Nat) : Nat := bits (8 * (c % 4) + 5) (8 * (c % 4)) (d.rd (rCHK_MAP + 4 * (c / 4)))

/-- The Checker class that a primary verdict expects (R337). -/
def DieState.expects (d : DieState) (v : Option Nat) : Nat := match v with | none => 0 | some c => d.mapOf c

/-- A decision that disagrees or lacks its Checker message is counted: flags, counters, histogram bin `bin`, and the window's entry
(R337, R338, R342, R63). -/
def DieState.tallyDecision (d : DieState) (sample : Bool) (a q : Nat) (missing bad : Bool) (bin : Nat) : DieState :=
  let d := d.count (rCHK_CNT + (if sample then 8 else 0)) 1
  let d := if missing then ((d.raise rCHK_STATUS 1).raise rSYS_DET_STATUS 5).count (rCHK_CNT + 16) 1 else d
  let d :=
    if bad then (((d.count (rCHK_CNT + (if sample then 12 else 4)) 1).raise rCHK_STATUS 0).life (16 + d.die.num) 1).hist (6 + d.die.num) bin
    else d
  { d with chk := { d.chk with stepDec := d.chk.stepDec ++ [(b2n sample, a, q, bad)] } }

/-- The feature vector of a passed part on which the Checker agreed is appended to the Drift Adapter's ring in DRAM, or is dropped and counted (R154). -/
def DM.feature (x : DM) (p : Part) (full : Bool) : DM :=
  if full then x.onD (fun d => d.count (rPTK_CNT + 28) 1)
  else
    let x := x.onD (fun d => d.send .dram [2, p.lane, p.num] [])
    match x.d.ptk.ring with
    | none => x
    | some (addr, places, len) =>
      let bs := (p.feat ++ List.replicate len (0 : Byte)).take len
      let at_ := addr + x.d.ptk.ringW % max 1 places * len
      (x.store (x.d.dramStore at_ bs)).onD (fun d => { d with ptk := { d.ptk with ringW := d.ptk.ringW + 1 } })

/-- The Comparator decides part `p` (R337); a part decided in SAFE takes SAFE_STATE (R348). A persistent error in the part's Checker activations leaves its
verdict missing (R50). -/
def DieState.comparePart (d : DieState) (p : Part) : DieState :=
  if d.dev = .safe ∨ !p.outs.isEmpty then d.decideOuts p
  else
    let prim := p.primary.getD none
    let cls := prim.getD 0
    let missing := p.checker.isNone || p.noCheck
    let ok := !missing && p.checker == some (d.expects prim)
    let d := d.tallyDecision false p.lane p.seq missing (!ok) p.lane
    let v := if ok then (if prim.isNone then 0 else 1) else 2
    let d := d.finalize p v (if ok then 0 else if missing then 2 else 1) cls
    { d with chk := { d.chk with decs := d.chk.decs ++ [(0, p.lane, p.num, v)] } }

/-- The decisions `f` of the Comparator, after which each part that it passed, the Checker agreeing, gives its feature vector (R154). `full`: the Drift Adapter's
ring is full. -/
def DM.deciding (full : Bool) (f : DieState → DieState) (x : DM) : DM :=
  let y := x.onD f
  ((y.d.chk.decs.drop x.d.chk.decs.length).filter (fun z => z.1 == 0 && z.2.2.2 == 0)).foldl (fun x z =>
    match x.d.ptk.parts.find? (fun p => p.lane == z.2.1 && p.num == z.2.2.1 && p.kind != .tail) with
    | some p => x.feature p full
    | none => x) y

/-- The absolute value of an FP32 code. -/
def abs32 (x : Nat) : Nat := x % 0x80000000

/-- A sample's two values agree (R338). -/
def sampleAgrees (absTol relTol p c : Nat) : Bool :=
  let dd := abs32 (add32 p (neg32 c))
  let b := fma32 relTol (abs32 p) absTol
  isFin32 p && isFin32 c && isFin32 dd && isFin32 b && !lt32 b dd

/-- The outcomes of R65 that apply to a sample: the one it came with; a persistent error in its data (R50); lines and columns that it uses and whose samples
are INVALID (R44, R169, R174, R258); and, for a sample of the new recipe, lines admitted from K to N − 1 or among the first WARM at or after N (R480). -/
def DieState.sampleOuts (d : DieState) (x : SampleIn) (lane : Nat) : List Nat :=
  let y := d.laneDyn lane
  let first := x.first.toNat
  let last := x.last.toNat
  let mixed := match y.chgFrom with
    | some k => decide (k ≤ x.ref.toNat ∧ k ≤ last) && (match y.chgTo with | some e => decide (first < e) | none => true)
    | none => false
  (x.cause.map (·.val)).toList ++
    (d.chk.spoiled.filter (fun z => z.1 == x.sensor.toNat && z.2.1 == x.num.toNat)).map (·.2.2) ++
    (y.spoiled.filter (fun z => decide (first ≤ z.1 ∧ z.1 ≤ last ∧ z.2.2.1 ≤ x.colB.toNat ∧ x.colA.toNat ≤ z.2.2.2))).map (·.2.1) ++
    (if mixed then [7] else [])

/-- The Comparator decides a sample (R338, R65, R348). A value computed for a sample that was published as LATE is discarded and counted (R64). -/
def DieState.compareSample (d : DieState) (x : SampleIn) : DieState :=
  let key := (x.sensor.toNat, x.num.toNat)
  if d.chk.done.contains key then { d with chk := { d.chk with lateVals := d.chk.lateVals + 1 } }
  else
    let cfg : SensorCfg := tget d.chk.sensors key.1 default
    let rec_ (cause value : Nat) : SRec :=
      { sensor := key.1, num := key.2, cause := cause, lane := cfg.lane, value := value, pos := x.pos.toInt,
        time := ⟨x.time.toNat, x.epoch.toNat, x.lost⟩, frame := x.frame.toNat }
    let put (d : DieState) (r : SRec) : DieState :=
      { d with net := { d.net with srecs := d.net.srecs ++ [r] }, chk := { d.chk with done := key :: d.chk.done } }
    let msg := d.chk.msgs.find? (fun m => !m.part && m.a == key.1 && m.b == key.2)
    let d := { d with chk := { d.chk with msgs := d.chk.msgs.filter (fun m => m.part || m.a != key.1 || m.b != key.2) } }
    if d.dev = .safe then put d (rec_ 9 0x7FC00000)
    else
      let outs := d.sampleOuts x cfg.lane
      if !outs.isEmpty then put d (rec_ (bestOutcome outs) 0x7FC00000)
      else
        let ok := match msg with | some m => sampleAgrees cfg.abs cfg.rel x.value.toNat m.value | none => false
        let d := d.tallyDecision true key.1 key.2 msg.isNone (!ok) (32 + cfg.lane)
        let d := { d with chk := { d.chk with decs := d.chk.decs ++ [(1, key.1, key.2, b2n ok)] } }
        put d (rec_ (if ok then 0 else 2) (if ok then x.value.toNat else 0x7FC00000))

/-- `chk_allow` of a part: its recipe's, for its lane (R63). -/
def DieState.chkAllow (d : DieState) (p : Part) : Nat := (tget d.ctx.figs (32 * p.recipe + p.lane) (0, 0)).1

/-- Parts whose decision is due at step R + chk_allow (R63), by lane and part number. -/
def DieState.dueParts (d : DieState) : List Part :=
  sortBy partLt (d.ptk.parts.filter (fun p =>
    p.final.isNone && (match p.retired with | some r => decide (r + d.chkAllow p ≤ d.seq.step) | none => false)))

/-- COMPARATOR_DECIDE (R63): the parts due are decided, then the samples whose decision is due in this step. -/
def comparatorDecide (xs : List SampleIn) (d : DieState) : DieState :=
  if !d.stepping then d
  else
    let d := d.dueParts.foldl (fun d p => d.comparePart p) d
    (sortBy (fun (a b : SampleIn) => decide (a.sensor.toNat < b.sensor.toNat ∨ (a.sensor = b.sensor ∧ a.num.toNat < b.num.toNat))) xs).foldl
      (fun d x => d.compareSample x) d

/-! ### The window (R342, R343) -/

/-- One entry is appended; more than N ones in the window is the cause RATE. -/
def DieState.windowEntry (d : DieState) (bad : Bool) : DieState :=
  let w := d.fld rCHK_CFG 31 16
  let l := d.chk.window ++ [bad]
  let l := l.drop (l.length - w)
  let n := (l.filter id).length
  let d := ({ d with chk := { d.chk with window := l } }).peakFld rCHK_WINDOW 31 16 n
  if d.fld rCHK_CFG 15 8 < n then d.detect 0 else d

/-- The entries of the step that ends, in the order of R342. -/
def DieState.windowStep (d : DieState) : DieState :=
  let lt (a b : Nat × Nat × Nat × Bool) : Bool :=
    decide (a.1 < b.1 ∨ (a.1 = b.1 ∧ (a.2.1 < b.2.1 ∨ (a.2.1 = b.2.1 ∧ a.2.2.1 < b.2.2.1))))
  let es := sortBy lt d.chk.stepDec
  let d := es.foldl (fun d e => d.windowEntry e.2.2.2) { d with chk := { d.chk with stepDec := [] } }
  d.setFld rCHK_WINDOW 15 0 (d.chk.window.filter id).length

/-! ### The Checker (R335, R336) -/

/-- A Checker message reaches the Comparator, or is discarded (R335). The Checker sends none for a part whose activations a persistent error struck (R50). -/
def DieState.checkerArrives (d : DieState) (m : ChkMsg) : DieState :=
  let drop (d : DieState) : DieState := d.count (rCHK_CNT + 20) 1
  if m.part then
    match d.ptk.parts.find? (fun p => p.lane == m.a && p.num == m.b && p.kind != .tail) with
    | none => drop d
    | some p =>
      if p.noCheck then d
      else if p.final.isSome || !p.outs.isEmpty || p.checker.isSome || p.closedAt.isNone then drop d
      else d.modPart p.seq (fun q => { q with checker := some m.value })
  else if d.chk.done.contains (m.a, m.b) || d.chk.msgs.any (fun x => !x.part && x.a == m.a && x.b == m.b) then drop d
  else { d with chk := { d.chk with msgs := d.chk.msgs ++ [m] } }

/-! ### The commands -/

/-- COMPARATOR_DECIDE: whether the Drift Adapter's ring is full, and the samples whose decision is due. -/
def execComparatorDecide (d : Die) (full : Bool) (xs : List SampleIn) (s : State) : Host.Outcome State Fault Refusal :=
  .next (s.onDM d (fun _ => DM.deciding full (comparatorDecide xs)))

end Sys2Proof.Machine
end

