-- ==== Sys2Proof/Machine/FieldIo.lean ====
section
/-! DEFINITION. The field interface silicon and field I/O (spec/13 R320, R324 to R332): what an output does with its actions, pulse ends
and the repeat interval; ownership, link watchdog, RELEASE and takeover; diagnostics; the 24 V inputs. -/

namespace Sys2Proof.Machine

/-! ### One output (R320) -/

/-- An output after actions, with the MERGED and REPEAT_DELAY they gave. -/
structure OutAns where
  out    : OutSt
  merged : Nat
  delays : Nat

/-- The least time between two rising edges of an output, in ns. -/
def repeatNs : Nat := 200000

/-- One action at instant `t`; `before`: the output was on before the sample, so that switching it on makes no edge (R320). -/
def actOne (t : Nat) (before : Bool) (x : OutAns) (a : OutAct) : OutAns :=
  let o := x.out
  if a.1 = 1 then { x with out := { o with level := false, pend := none, delayed := none } }
  else if o.level then
    if a.1 = 0 then { x with out := { o with pend := none } }
    else { x with out := { o with pend := o.pend.map (fun e => max e (t + 1000 * a.2)) }, merged := x.merged + 1 }
  else
    match o.delayed with
    | some (e, l) => { x with out := { o with delayed := some (e, l ++ [a]) } }
    | none =>
      let e := if a.1 = 0 then none else some (t + 1000 * a.2)
      if before then { x with out := { o with level := true, pend := e } }
      else
        match o.rise with
        | some r =>
          if t < r + repeatNs then { x with out := { o with delayed := some (r + repeatNs, [a]) }, delays := x.delays + 1 }
          else { x with out := { o with level := true, pend := e, rise := some t } }
        | none => { x with out := { o with level := true, pend := e, rise := some t } }

/-- The order of the actions of one sample: OFF, ON, PULSE (R320). -/
def actOrder (l : List OutAct) : List OutAct :=
  l.filter (fun a => a.1 == 1) ++ l.filter (fun a => a.1 == 0) ++ l.filter (fun a => a.1 != 1 && a.1 != 0)

/-- The held rising edge is applied at its instant with the actions that joined it, ON before PULSE (R320). -/
def OutAns.edge (x : OutAns) : OutAns :=
  match x.out.delayed with
  | none => x
  | some (e, l) =>
    let o := { x.out with delayed := none, rise := some e }
    match actOrder l with
    | [] => { x with out := o }
    | a :: r => r.foldl (actOne e true) { x with out := { o with level := true, pend := if a.1 = 0 then none else some (e + 1000 * a.2) } }

/-- What fell due before instant `t`: a held edge, then a pulse end. -/
def OutSt.settle (o : OutSt) (t : Nat) : OutAns :=
  let x : OutAns := ⟨o, 0, 0⟩
  let x := match o.delayed with | some (e, _) => if e < t then x.edge else x | none => x
  match x.out.pend with
  | some e => if e < t then { x with out := { x.out with level := false, pend := none, chop := false } } else x
  | none => x

/-- The output at the start of the sample at `t`: what it was is kept, so that a later action of the sample is put in order with those
before it (R320). (DEDUCED, log entry 31.) -/
def OutSt.openSample (o : OutSt) (t : Nat) : OutAns :=
  match o.smp with
  | some s => if s < t + 4 ∧ t < s + 4 then ⟨o, 0, 0⟩ else keep
  | none => keep
where
  keep : OutAns :=
    let x := o.settle t
    let p := x.out
    { x with out := { p with smp := some t, smpActs := [], smpLevel := p.level, smpPend := p.pend, smpRise := p.rise, smpDelayed := p.delayed,
                             smpMerged := 0, smpDelays := 0 } }

/-- The output after one more action of the sample at `t`: MERGED and REPEAT_DELAY as they change by it. (DEDUCED, log entry 31.) -/
def OutSt.act (o : OutSt) (t : Nat) (a : OutAct) : OutSt × Int × Int :=
  let x := o.openSample t
  let p := x.out
  let acts := p.smpActs ++ [a]
  let pre := { p with level := p.smpLevel, pend := p.smpPend, rise := p.smpRise, delayed := p.smpDelayed }
  let r := (actOrder acts).foldl (actOne t p.smpLevel) ⟨pre, 0, 0⟩
  let r := match r.out.delayed with | some (e, _) => if e ≤ t then r.edge else r | none => r
  ({ r.out with smpActs := acts, smpMerged := r.merged, smpDelays := r.delays, chop := r.out.chop && r.out.level },
    (x.merged + r.merged : Int) - p.smpMerged, (x.delays + r.delays : Int) - p.smpDelays)

/-- SAFE_ACTION at instant `t`, or a de-energising: 0 HOLD, 1 FORCE_FIRE, 2 DE_ENERGISE; a held edge is cancelled, and the 200 µs interval
does not apply (R320, R324). -/
def OutSt.force (o : OutSt) (t k : Nat) : OutSt :=
  let o := { (o.settle t).out with delayed := none, smp := none }
  if k = 0 then o
  else if k = 1 then { o with level := true, pend := none, rise := if o.level then o.rise else some t }
  else { o with level := false, pend := none, chop := false }

/-- The pad's readback: the command, unless the silicon holds the output shut down or the pad is stuck. -/
def OutSt.pad (o : OutSt) : Bool := match o.stuck with | some v => v | none => o.level && !o.shut

/-! ### The silicon and its owners (R25, R26, R318) -/

/-- Change the field interface silicon. -/
def Whole.onField (w : Whole) (f : FieldIf → FieldIf) : Whole := w.onMod (fun m => { m with field := f m.field })

/-- Output `n`. -/
def FieldIf.out (f : FieldIf) (n : Nat) : OutSt := tget f.outs n default

/-- The module runs in Paired mode (R24). -/
def Whole.paired (w : Whole) : Bool := w.a.paired || w.b.paired

/-- The die that owns output `n`: OWNER in Split mode, die A in Paired mode until a takeover (R25, R26). (DEDUCED, log entry 31.) -/
def Whole.owner (w : Whole) (n : Nat) : Die :=
  if w.paired then (if w.mod.field.taken then .b else .a)
  else if w.a.flag (rNIB_OUT_CFG + 4 * n) 4 || w.b.flag (rNIB_OUT_CFG + 4 * n) 4 then .b else .a

/-- SAFE_ACTION of output `n`, as its owner configures it. -/
def Whole.safeAction (w : Whole) (n : Nat) : Nat := (w.die (w.owner n)).fld (rNIB_OUT_CFG + 4 * n) 3 2

/-- Every output that `c` selects is forced at instant `t`, as `k` says. -/
def Whole.force (w : Whole) (t : Nat) (c : Nat → Bool) (k : Nat → Nat) : Whole :=
  w.onField (fun f => { f with outs := ((List.range 64).filter c).foldl (fun o n => tset o n ((tget o n default).force t (k n))) f.outs })

/-- The SAFE_ACTION of the outputs that die `d` owns, commanded at `t` (R324, R325). -/
def Whole.safeActs (w : Whole) (t : Nat) (d : Die) : Whole := w.force t (fun n => w.owner n == d) w.safeAction

/-- The outputs that die `d` owns are de-energised (R33); what its Nib computes for them goes off with them. -/
def Whole.deEnergise (w : Whole) (t : Nat) (d : Die) : Whole :=
  let w := w.force t (fun n => w.owner n == d) (fun _ => 2)
  if w.paired && d == .b && !w.mod.field.taken then w.onField (fun f => { f with shadow := [] }) else w

/-- MERGED and REPEAT_DELAY of the Nib of a die change. -/
def DieState.outCounts (d : DieState) (m r : Int) : DieState :=
  let put (d : DieState) (off : Nat) (k : Int) : DieState := d.wr off (min max32 ((d.rd off : Int) + k).toNat)
  let d := put (put d (rNIB_CNT + 28) m) (rNIB_CNT + 32) r
  if 0 < r then d.raise rNIB_STATUS 3 else d

/-- Die `d`'s Nib commands action `a` on output `n` at instant `t`: the owner's command acts; die B of a pair computes the levels beside
die A; any other command is discarded (R26, R318, R320). (DEDUCED, log entry 31.) -/
def Whole.command (w : Whole) (d : Die) (n t : Nat) (a : OutAct) : Whole :=
  if w.owner n = d then
    let r := (w.mod.field.out n).act t a
    (w.onField (fun f => { f with outs := tset f.outs n r.1 })).onDie d (fun x => x.outCounts r.2.1 r.2.2)
  else if w.paired && d == .b then
    let r := (tget w.mod.field.shadow n default).act t a
    (w.onField (fun f => { f with shadow := tset f.shadow n r.1 })).onDie d (fun x => x.outCounts r.2.1 r.2.2)
  else w.onDie d (fun x => (x.count (rNIB_CNT + 44) 1).raise rNIB_STATUS 4)

/-- Time goes on to `t` at least. -/
def Whole.at (w : Whole) (t : Nat) : Whole := { w with now := max w.now t }

/-! ### Pulse ends, edges and PWM -/

/-- PULSE_END: the output switches off at its pulse end (R320). -/
def pulseEnd (n : Nat) (w : Whole) : Whole :=
  match (w.mod.field.out n).pend with
  | none => w
  | some e =>
    (w.at e).onField (fun f =>
      let x := ((f.out n).openSample e).out
      { f with outs := tset f.outs n { x with level := false, pend := none, chop := false } })

/-- DELAYED_EDGE: the edge held by the repeat interval (R320). -/
def delayedEdge (n : Nat) (w : Whole) : Whole :=
  match (w.mod.field.out n).delayed with
  | none => w
  | some (e, _) =>
    let x := ({ (w.mod.field.out n).openSample e with merged := 0, delays := 0 }).edge
    ((w.at e).onField (fun f => { f with outs := tset f.outs n x.out })).onDie (w.owner n) (fun d => d.outCounts x.merged x.delays)

/-- HOLD_PWM_START: an output on for PULLIN_MS chops (R327). -/
def holdPwm (n : Nat) (w : Whole) : Whole :=
  let o := w.mod.field.out n
  let d := w.die (w.owner n)
  match o.rise with
  | none => w
  | some r =>
    let t := r + 1000000 * d.fld (rFIO_OUT_CFG + 4 * n) 31 24
    let lasts := match o.pend with | some e => decide (t ≤ e) | none => true
    if o.level && lasts && decide (4 ≤ d.fld (rFIO_OUT_CFG + 4 * n) 15 12) then
      (w.at t).onField (fun f => { f with outs := tset f.outs n { o with chop := true } })
    else w

/-! ### The command ports (R325, R349) -/

/-- FIO_LINK_FRAME: die `d`'s command port is heard. -/
def linkFrame (d : Die) (w : Whole) : Whole :=
  w.onField (fun f => match d with | .a => { f with lastA := w.now, deadA := false } | .b => { f with lastB := w.now, deadB := false })

/-- SAFE_OK of a die is de-energised; a test pulse ends with it. -/
def DieState.safeOkOff (d : DieState) : DieState := { d with chk := { d.chk with okCmd := false, pulse := none, okMiss := 0 } }

/-- The die's SAFE_OK is energised: commanded, and not in a test pulse (R351). -/
def DieState.safeOk (d : DieState) : Bool := d.chk.okCmd && d.chk.pulse.isNone

/-- Die `d` owns an output. -/
def Whole.ownsAny (w : Whole) (d : Die) : Bool := (List.range 64).any (fun n => w.owner n == d)

/-- FIO_WATCHDOG: the port of an owning die has been silent for 100 µs (R325, R349). -/
def fioWatchdog (d : Die) (w : Whole) : Whole :=
  let f := w.mod.field
  let dead := match d with | .a => f.deadA | .b => f.deadB
  if dead || !w.ownsAny d then w
  else
    let t := (match d with | .a => f.lastA | .b => f.lastB) + 100000
    let w := (w.at t).safeActs t d
    let w := w.onField (fun f => match d with | .a => { f with deadA := true } | .b => { f with deadB := true })
    ((w.onDie d (fun x => x.safeOkOff)).onDie .a (fun x => x.raise rNIB_STATUS 6)).onDie .b (fun x => x.raise rNIB_STATUS 6)

/-- Die A sends RELEASE (R34, R325): levels and pulse ends stay. -/
def Whole.sendRelease (w : Whole) : Whole := w.onField (fun f => { f with release := some w.now, relSent := true })

/-- RELEASE_TIMEOUT: no takeover within 100 µs of RELEASE (R325). -/
def releaseTimeout (w : Whole) : Whole :=
  match w.mod.field.release with
  | none => w
  | some t => ((w.at (t + 100000)).safeActs (t + 100000) .a).onField (fun f => { f with release := none })

/-- Output `n` passes to the levels that die B has computed for it, with all that has fallen due in them by instant `t`; what the silicon itself knows of the output
(its thermal restarts, a shutdown, a stuck pad) stays (R25). -/
def FieldIf.survivor (f : FieldIf) (t n : Nat) : OutAns :=
  let x := (tget f.shadow n default).settle t
  let o := f.out n
  { x with out := { x.out with smp := none, stuck := o.stuck, trips := o.trips, shut := o.shut } }

/-- The silicon takes die B's levels for every output; die B's Nib counts what fell due in them (R25, R324). -/
def Whole.takeLevels (w : Whole) : Whole :=
  let f := w.mod.field
  let xs := (List.range 64).map (fun n => (n, f.survivor w.now n))
  let outs := xs.foldl (fun t x => tset t x.1 x.2.out) f.outs
  let sum (g : OutAns → Nat) : Nat := (xs.map (fun x => g x.2)).foldl (· + ·) 0
  (w.onField (fun f => { f with outs := outs, shadow := [], taken := true, release := none })).onDie .b (fun d => d.outCounts (sum (·.merged)) (sum (·.delays)))

/-- TAKEOVER_COMMAND: sent by die B of a pair that has declared die A FAILED (R406); the silicon accepts it or changes nothing (R325). A die B that is itself in SAFE
brings the outputs it now owns to their SAFE_ACTION (R33, R34). (DEDUCED, log entry 31.) -/
def takeoverCommand (w : Whole) : Whole :=
  let f := w.mod.field
  if !w.paired || f.taken || w.b.fld rTWL_PEER 1 0 != 2 then w
  else if f.relSent || !w.a.safeOk || decide (f.lastA + 4000 ≤ w.now) then
    let w := w.takeLevels
    let w := if w.b.dev = .safe then w.safeActs w.now .b else w
    let w := w.onDie .a (fun d => { d.raise rNIB_STATUS 7 with cxp := { d.cxp with driving := false } })
    w.onDie .b (fun d => let d := (d.raise rNIB_STATUS 7).raise rTWL_STATUS 12; { d with cxp := { d.cxp with driving := true } })
  else w

/-! ### Diagnostics (R328) -/

/-- Both dies. -/
def Whole.both (w : Whole) (f : DieState → DieState) : Whole := (w.onDie .a f).onDie .b f

/-- The status register of output `n`. -/
def outStat (n : Nat) : Nat := rFIO_OUT_STAT + 4 * n

/-- OPEN_LOAD: tested while the output is off and OL_EN is 1. -/
def openLoad (n : Nat) (w : Whole) : Whole :=
  if !(w.mod.field.out n).level && (w.die (w.owner n)).flag (rFIO_OUT_CFG + 4 * n) 0 then w.both (fun d => d.raise (outStat n) 4) else w

/-- MISMATCH: the pad has read `pad` against the command for more than 50 µs, outside thermal shutdown; a pad that reads as commanded
again is stuck no more. -/
def mismatch (n : Nat) (pad : Bool) (w : Whole) : Whole :=
  let o := w.mod.field.out n
  if pad = o.level then w.onField (fun f => { f with outs := tset f.outs n { o with stuck := none } })
  else if o.shut then w
  else (w.onField (fun f => { f with outs := tset f.outs n { o with stuck := some pad } })).both (fun d => d.raise (outStat n) 6)

/-- CURRENT_LIMIT: flagged. -/
def currentLimit (n : Nat) (w : Whole) : Whole := if (w.mod.field.out n).level then w.both (fun d => d.raise (outStat n) 2) else w

/-- THERMAL_SHUTDOWN_OUTPUT: the shutdown, or (`restart`) the restart after it, which is counted; more than RESTART_LIMIT restarts within
one second make the owner's Quill request the output's disable. -/
def thermalOutput (n : Nat) (restart : Bool) (w : Whole) : Whole :=
  let o := w.mod.field.out n
  let own := w.owner n
  if !restart then
    if o.shut then w
    else (w.onField (fun f => { f with outs := tset f.outs n { o with shut := true } })).both (fun d => d.raise (outStat n) 3)
  else if !o.shut then w
  else
    let trips := (o.trips.filter (fun t => decide (w.now < t + 1000000000))) ++ [w.now]
    let limit := (w.die own).fld (rFIO_OUT_CFG + 4 * n) 23 16
    let w := w.onField (fun f => { f with outs := tset f.outs n { o with shut := false, trips := trips } })
    let w := (w.both (fun d => d.countFld (outStat n) 31 24 1)).onDie own (fun d => d.hist 9 n)
    if limit ≠ 0 ∧ limit < trips.length then
      let w := w.onDie own (fun d => d.askDisable 11 n)
      if w.paired then w.onDie own.other (fun d => d.askDisable 11 n) else w
    else w

/-- LPLUS_LOW: group `g` fell below 19.2 V. -/
def lplusLow (g : Nat) (w : Whole) : Whole := w.both (fun d => (d.setFlag rFIO_LPLUS g true).raise rFIO_LPLUS (8 + g))

/-- LPLUS_RESTORE: group `g` is at 19.2 V or above again (R457). -/
def lplusRestore (g : Nat) (w : Whole) : Whole := w.both (fun d => d.setFlag rFIO_LPLUS g false)

/-! ### The inputs (R327 to R331, R306) -/

/-- The die that samples input `i` (R27). -/
def inputDie (i : Nat) : Die := if i < 16 then .a else .b

/-- The debounced state of input `i` becomes (`v`, `wb`): an edge is captured by the units of its die that name it (R304, R306). -/
def Whole.inputTo (w : Whole) (i : Nat) (v wb : Bool) : Whole :=
  let was := (tget w.mod.field.ins i default).level
  let w := w.onField (fun f => { f with ins := tmod f.ins i default (fun x => { x with level := v, wb := wb }) })
  if was = v then w
  else
    w.onDie (inputDie i) (fun d => d.captures d.sampleNow (fun d k =>
      let e := d.fld (rPOS_CAP_CFG + 4 * k) 14 13
      d.capSrc k == 2 && d.fld (rPOS_CAP_CFG + 4 * k) 12 8 == i && (if v then e == 0 || e == 2 else e == 1 || e == 2)))

/-- A wire break is reported only where WB_EN is 1, with the state OFF (R329). -/
def Whole.inputClass (w : Whole) (i : Nat) (v wb : Bool) : Bool × Bool :=
  let wb := wb && (w.die (inputDie i)).flag (rFIO_IN_CFG + 4 * i) 30
  (v && !wb, wb)

/-- INPUT_CHANGE: a state of a continuously sampled input has held for DEBOUNCE µs (R330). -/
def inputChange (i : Nat) (v wb : Bool) (w : Whole) : Whole :=
  if (w.die (inputDie i)).flag (rFIO_IN_CFG + 4 * i) 31 then w
  else let c := w.inputClass i v wb; w.inputTo i c.1 c.2

/-- INPUT_PULSE_WINDOW: a window of a pulsed input reads a state, or a current between two windows, which holds the last; DEBOUNCE
windows in a row that agree are accepted (R329, R330). -/
def inputWindow (i : Nat) (r : Option (Bool × Bool)) (w : Whole) : Whole :=
  let cfg := rFIO_IN_CFG + 4 * i
  let d := w.die (inputDie i)
  if !d.flag cfg 31 then w
  else
    let x := tget w.mod.field.ins i default
    let c := match r with | some (v, wb) => w.inputClass i v wb | none => (x.seen, x.seenWb)
    let wins := if c = (x.seen, x.seenWb) then x.wins + 1 else 1
    let w := w.onField (fun f => { f with ins := tset f.ins i { x with seen := c.1, seenWb := c.2, wins := wins } })
    if max 2 (d.fld cfg 15 0) ≤ wins then w.inputTo i c.1 c.2 else w

/-! ### The commands -/

/-- PULSE_END. -/
def execPulseEnd (n : Fin 64) (s : State) : Host.Outcome State Fault Refusal := .next (s.onWhole (pulseEnd n.val))
/-- DELAYED_EDGE. -/
def execDelayedEdge (n : Fin 64) (s : State) : Host.Outcome State Fault Refusal := .next (s.onWhole (delayedEdge n.val))
/-- HOLD_PWM_START. -/
def execHoldPwmStart (n : Fin 64) (s : State) : Host.Outcome State Fault Refusal := .next (s.onWhole (holdPwm n.val))
/-- FIO_LINK_FRAME. -/
def execFioLinkFrame (d : Die) (s : State) : Host.Outcome State Fault Refusal := .next (s.onWhole (linkFrame d))
/-- FIO_WATCHDOG. -/
def execFioWatchdog (d : Die) (s : State) : Host.Outcome State Fault Refusal := .next (s.onWhole (fioWatchdog d))
/-- RELEASE_TIMEOUT. -/
def execReleaseTimeout (s : State) : Host.Outcome State Fault Refusal := .next (s.onWhole releaseTimeout)
/-- TAKEOVER_COMMAND. -/
def execTakeoverCommand (s : State) : Host.Outcome State Fault Refusal := .next (s.onWhole takeoverCommand)
/-- OPEN_LOAD. -/
def execOpenLoad (n : Fin 64) (s : State) : Host.Outcome State Fault Refusal := .next (s.onWhole (openLoad n.val))
/-- MISMATCH: the pad's level. -/
def execMismatch (n : Fin 64) (pad : Bool) (s : State) : Host.Outcome State Fault Refusal := .next (s.onWhole (mismatch n.val pad))
/-- CURRENT_LIMIT. -/
def execCurrentLimit (n : Fin 64) (s : State) : Host.Outcome State Fault Refusal := .next (s.onWhole (currentLimit n.val))
/-- THERMAL_SHUTDOWN_OUTPUT: the shutdown, or the restart. -/
def execThermalShutdownOutput (n : Fin 64) (restart : Bool) (s : State) : Host.Outcome State Fault Refusal :=
  .next (s.onWhole (thermalOutput n.val restart))
/-- LPLUS_LOW. -/
def execLplusLow (g : Fin 8) (s : State) : Host.Outcome State Fault Refusal := .next (s.onWhole (lplusLow g.val))
/-- LPLUS_RESTORE. -/
def execLplusRestore (g : Fin 8) (s : State) : Host.Outcome State Fault Refusal := .next (s.onWhole (lplusRestore g.val))
/-- INPUT_CHANGE: input, state, wire break. -/
def execInputChange (i : Fin 32) (v wb : Bool) (s : State) : Host.Outcome State Fault Refusal := .next (s.onWhole (inputChange i.val v wb))
/-- INPUT_PULSE_WINDOW: input, and the state and wire break that the window reads (none: a current between two windows). -/
def execInputPulseWindow (i : Fin 32) (r : Option (Bool × Bool)) (s : State) : Host.Outcome State Fault Refusal :=
  .next (s.onWhole (inputWindow i.val r))

end Sys2Proof.Machine
end

