-- ==== Sys2Proof/Machine/Nib.lean ====
section
/-! DEFINITION. The Nib (spec/13 R312 to R324): events, commit and evaluation against the step tag, arming, execution, remote valve frames,
and cancellations. -/

namespace Sys2Proof.Machine

/-! ### Events (R313, R314) -/

/-- Rule `i`. -/
def DieState.rule (d : DieState) (i : Nat) : Rule := d.nib.rules.getD i default

/-- The channel of a lane's encoder. -/
def DieState.laneChan (d : DieState) (l : Nat) : Nat := d.chanOf (d.lane l).encoder

/-- Counter `i` of the Nib counts. -/
def DieState.nibCount (d : DieState) (i k : Nat) : DieState := d.count (rNIB_CNT + 4 * i) k

/-- The anchor of a part for a rule, in 1/256 count (R313). -/
def anchor256 (k : Nat) (p : Part) : Int :=
  if k = 0 then 256 * p.leadPos else if k = 1 then 256 * p.trailPos else 128 * (p.leadPos + p.trailPos)

/-- The event of part `p` under rule `i`: created, cancelled at creation, or lost (R313, R314). -/
def DieState.createEvent (d : DieState) (p : Part) (i : Nat) : DieState :=
  let r := d.rule i
  if (!r.remote && d.nib.outOff.contains r.target) || (d.chan (d.laneChan p.lane)).frozen then (d.nibCount 0 1).nibCount 5 1
  else if 8192 ≤ d.nib.events.length then (d.nibCount 6 1).raise rNIB_STATUS 2
  else
    let e : NibEvent := { lane := p.lane, part := p.num, pseq := p.seq, rule := i, t256 := anchor256 r.anchor p + r.offset, f256 := 0,
                          state := .pending, final := p.final.map (fun v => (v, 0)) }
    { d.nibCount 0 1 with nib := { d.nib with events := d.nib.events ++ [e] } }

/-- The events of a part that closes, in rule order; none in SAFE, none for a tail (R313). -/
def DieState.createEvents (d : DieState) (p : Part) : DieState :=
  if d.dev = .safe ∨ p.kind = .tail then d
  else
    ((List.range d.nib.rules.length).filter (fun i =>
      let r := d.rule i
      r.lane == p.lane && decide (r.col0 ≤ p.colB ∧ p.colA ≤ r.col1))).foldl (fun d i => d.createEvent p i) d

/-- Events that `c` selects are cancelled and counted. -/
def DieState.cancelEvents (d : DieState) (c : NibEvent → Bool) : DieState :=
  let n := (d.nib.events.filter c).length
  { d.nibCount 5 n with nib := { d.nib with events := d.nib.events.filter (fun e => !c e) } }

/-- An event of a direct output for which `c` holds. -/
def DieState.onOutput (d : DieState) (c : Nat → Bool) (e : NibEvent) : Bool := !(d.rule e.rule).remote && c (d.rule e.rule).target

/-- A tag that carries DIR = 1 cancels the events on its encoder of outputs whose REV_POLICY is 1 (R321). -/
def DieState.reverseCancel (d : DieState) (t : StepTag) : DieState :=
  d.cancelEvents (fun e =>
    let x : TagEnt := tget t.ents (d.laneChan e.lane) default
    x.valid && x.dir && d.onOutput (fun n => d.flag (rNIB_OUT_CFG + 4 * n) 0) e)

/-! ### Commit and evaluation (R62, R315, R317) -/

/-- By lane, part order and rule (R313). -/
def evLt (a b : NibEvent) : Bool :=
  decide (a.lane < b.lane ∨ (a.lane = b.lane ∧ (a.pseq < b.pseq ∨ (a.pseq = b.pseq ∧ a.rule < b.rule))))

/-- The same event. -/
def NibEvent.same (a b : NibEvent) : Bool := a.pseq == b.pseq && a.rule == b.rule

/-- LATE of an event: counted, by lane (R62, R448). -/
def DieState.lateEvent (d : DieState) (lane : Nat) : DieState :=
  ((d.nibCount 3 1).life (18 + d.die.num) 1).hist 8 lane

/-- The final verdict that an event is evaluated on: the one there is; else the Comparator decides at once; else LATE (R62). -/
def DieState.verdictFor (d : DieState) (e : NibEvent) : DieState × Nat × Nat :=
  match (d.nib.events.find? e.same).bind (·.final) with
  | some v => (d, v)
  | none =>
    match d.partOf e.pseq with
    | none => (d, 3, 0)
    | some p =>
      let d := if p.primary.isSome then d.comparePart p else d.finalize p 3 3 0
      (d, ((d.nib.events.find? e.same).bind (·.final)).getD (3, 0))

/-- FIRE, by the Action Table, or by LATE_ACTION of the target (R317). -/
def DieState.fires (d : DieState) (r : Rule) (lane v cls : Nat) : Bool :=
  let l := d.lane lane
  if v = 3 then (if r.remote then (tget d.nib.remotes r.target default).lateFire else d.flag (rNIB_OUT_CFG + 4 * r.target) 1)
  else if v = 1 then bit cls l.rejectMask
  else bit v l.fireBits

/-- An event ends and frees its entry. -/
def DieState.endEvent (d : DieState) (e : NibEvent) : DieState :=
  { d with nib := { d.nib with events := d.nib.events.filter (fun x => !e.same x) } }

/-- Change an event. -/
def DieState.modEvent (d : DieState) (e : NibEvent) (f : NibEvent → NibEvent) : DieState :=
  { d with nib := { d.nib with events := d.nib.events.map (fun x => if e.same x then f x else x) } }

/-- A remote event that fires: its frame entry with the fire time of R322, or REMOTE_TIMELOST. -/
def DieState.fireRemote (d : DieState) (e : NibEvent) (r : Rule) (t : StepTag) (x : TagEnt) (f256 : Int) : DieState × List RemoteFire :=
  if t.lost then ((((d.nibCount 10 1).raise rNIB_STATUS 5).lateEvent e.lane).endEvent e, [])
  else
    let m : Remote := tget d.nib.remotes r.target default
    let u := max x.v 0
    let at_ := (t.time : Int) + ((f256 - (256 * x.count + x.sub)) * 5120000).fdiv u
    (d.endEvent e, [{ dest := m.dest, lane := e.lane, pseq := e.pseq, rule := e.rule, epoch := t.epoch, advance := m.advance,
                      entry := { bank := m.bank, valve := m.valve, action := r.action, width := if r.action = 2 then r.width else 0, time := at_.toNat } }])

/-- One pending event against the tag admitted in this step (R315, R317). -/
def DieState.evaluate (t : StepTag) (a : DieState × List RemoteFire) (e : NibEvent) : DieState × List RemoteFire :=
  let d := a.1
  let r := d.rule e.rule
  let x : TagEnt := tget t.ents (d.laneChan e.lane) default
  let u := max x.v 0
  let lead := (r.lead * u).fdiv 5120
  let margin := (r.margin * u).fdiv 5120
  let p := 256 * x.count + x.sub
  if e.state ≠ .pending ∨ !x.valid ∨ (r.remote ∧ u = 0) ∨ p < e.t256 - lead - margin then a
  else
    let f := e.t256 - lead
    let v := d.verdictFor e
    let d := if v.2.1 = 3 then (v.1.lateEvent e.lane).raise rNIB_STATUS 0 else v.1
    if !d.fires r e.lane v.2.1 v.2.2 then ((d.nibCount 2 1).endEvent e, a.2)
    else if r.remote then let q := d.fireRemote e r t x f; (q.1, a.2 ++ q.2)
    else (d.modEvent e (fun y => { y with state := .fire, f256 := f }), a.2)

/-! ### Remote valve frames (R323) -/

/-- By fire time, lane, part and rule. -/
def fireLt (a b : RemoteFire) : Bool :=
  decide (a.entry.time < b.entry.time ∨ (a.entry.time = b.entry.time ∧
    (a.lane < b.lane ∨ (a.lane = b.lane ∧ (a.pseq < b.pseq ∨ (a.pseq = b.pseq ∧ a.rule < b.rule))))))

/-- A valve frame's entry. -/
def ValveEntry.bytes (v : ValveEntry) : List Byte :=
  beBytes 2 v.bank ++ beBytes 1 v.valve ++ beBytes 1 v.action ++ beBytes 4 v.width ++ beBytes 8 v.time

/-- The Twill address of the module with the die bit (R323, R377). -/
def DieState.netAddr (d : DieState) : Nat := d.fld rTWL_CFG 17 0 + 2 ^ 18 * d.die.num

/-- The egress ports of destination `k` (R366): 0 A, 1 B. -/
def DieState.destPorts (d : DieState) (k : Nat) : List Nat :=
  if !d.flag (rNET_DEST + 4 * k) 31 then []
  else match d.fld (rNET_DEST + 4 * k) 4 3 with | 0 => [0] | 1 => [1] | _ => [0, 1]

/-- A frame of up to 32 entries for one destination joins the launch-time queue, once for each port. -/
def DieState.queueValves (d : DieState) (dest : Nat) (es : List RemoteFire) : DieState :=
  let seq := tget d.nib.vseq dest 0
  let now := d.ptpNow.toNat
  let at_ := (es.map (fun e => max now (e.entry.time - 1000 * e.advance))).foldl min (max now ((es.head?.map (·.entry.time)).getD 0))
  let epoch := (es.head?.map (·.epoch)).getD 0
  let data := beBytes 2 1 ++ beBytes 2 epoch ++ beBytes 4 seq ++ beBytes 4 d.netAddr ++ beBytes 1 es.length ++ [0, 0, 0] ++ (es.map (·.entry.bytes)).flatten
  { d with nib := { d.nib with vseq := tset d.nib.vseq dest ((seq + 1) % 2 ^ 32) }
           net := { d.net with queue := d.net.queue ++ (d.destPorts dest).map (fun p =>
             { kind := 0, dest := dest, port := p, at_ := at_, epoch := d.epoch, seq := seq, now := false, data := data }) } }

/-- The entries of one destination in frames of 32. -/
def queueValvesBy (dest fuel : Nat) (es : List RemoteFire) (d : DieState) : DieState :=
  match fuel with
  | 0 => d
  | f + 1 => if es.isEmpty then d else queueValvesBy dest f (es.drop 32) (d.queueValves dest (es.take 32))

/-- NIB_COMMIT_EVALUATE: every pending event is held against the tag admitted in this step; remote events that fire are grouped by
destination. -/
def nibEvaluate (d : DieState) : DieState :=
  match d.pos.last with
  | none => d
  | some t =>
    if d.dev ≠ .run ∨ t.step + 2 ≠ d.seq.step then d
    else
      let r := (sortBy evLt d.nib.events).foldl (DieState.evaluate t) (d, [])
      (List.range 16).foldl (fun d k =>
        let es := sortBy fireLt (r.2.filter (fun e => e.dest == k))
        queueValvesBy k (es.length / 32 + 1) es d) r.1

/-! ### Arming and executing (R316, R319) -/

/-- An event, by lane, part number and rule. -/
def DieState.event? (d : DieState) (lane part rule : Nat) : Option NibEvent :=
  d.nib.events.find? (fun e => e.lane == lane && e.part == part && e.rule == rule)

/-- ACTION_ARM: armed in sample `n`; MARGIN_MISS if the position has reached F256 (R316). -/
def actionArm (lane part rule n : Nat) (d : DieState) : DieState :=
  match d.event? lane part rule with
  | none => d
  | some e =>
    if e.state ≠ .fire then d
    else
      let d := (d.at (d.sampleAt n)).modEvent e (fun y => { y with state := .armed })
      if e.f256 ≤ d.p256 (d.laneChan lane) n then ((d.nibCount 4 1).raise rNIB_STATUS 1).hist 8 (32 + lane) else d

/-- The three conditions of R319 in sample `n`. -/
def DieState.ripe (d : DieState) (e : NibEvent) (n : Nat) : Bool :=
  let c := d.laneChan e.lane
  e.state == .armed && decide (e.f256 ≤ d.raw256 c n) && !(d.chan c).rev && d.dev == .run

/-- ACTION_EXECUTE: the action of an armed event executes in sample `n` (R319, R320). -/
def actionExecute (die : Die) (lane part rule n : Nat) (w : Whole) : Whole :=
  let d := w.die die
  match d.event? lane part rule with
  | none => w
  | some e =>
    if !d.ripe e n then w
    else
      let r := d.rule rule
      let w := w.onDie die (fun d => (((d.at (d.sampleAt n)).endEvent e).nibCount 1 1).life (20 + d.die.num) 1)
      w.command die r.target (d.sampleAt n) (r.action, r.width)

/-! ### The commands -/

/-- NIB_COMMIT_EVALUATE. -/
def execNibCommitEvaluate (d : Die) (full : Bool) (s : State) : Host.Outcome State Fault Refusal :=
  .next (s.onDM d (fun _ => DM.deciding full nibEvaluate))
/-- ACTION_ARM: lane, part number, rule, sample. -/
def execActionArm (d : Die) (lane : Fin 32) (part : BitVec 32) (rule : Fin 256) (n : BitVec 64) (s : State) :
    Host.Outcome State Fault Refusal := .next (s.onDie d (actionArm lane.val part.toNat rule.val n.toNat))
/-- ACTION_EXECUTE: lane, part number, rule, sample. -/
def execActionExecute (d : Die) (lane : Fin 32) (part : BitVec 32) (rule : Fin 256) (n : BitVec 64) (s : State) :
    Host.Outcome State Fault Refusal := .next (s.onWhole (actionExecute d lane.val part.toNat rule.val n.toNat))

end Sys2Proof.Machine
end

