-- ==== Sys2Proof/Machine/Segment.lean ====
section
/-! DEFINITION. Segmentation (R128 to R138, R147, R149, R237): how the runs of an admitted line open, attach to, merge and force-close the
parts of a lane. -/

namespace Sys2Proof.Machine

/-- A line as a lane's segmentation sees it: its serial in the lane, trigger position, tag, and whether it is replaced, has a missing
modality, or failed its tap CRC. -/
structure Ln where
  serial : Nat
  pos    : Int
  time   : TagTime
  repl   : Bool
  miss   : Bool
  tap    : Bool

/-- The strip of a line for a part of columns [a, b] (R145); in an assembled lane the columns of it that the image store takes (R150). -/
def LaneCfg.strip (c : LaneCfg) (serial a b : Nat) : Strip :=
  if c.mode = 2 then ⟨serial, a - c.cropMargin, b + c.cropMargin⟩ else ⟨serial, max c.x0 (a - c.stripMargin), min c.x1 (b + c.stripMargin)⟩

/-- The line as a gap line of a part, with its strip. -/
def Ln.asGap (l : Ln) (z : Strip) : GapLine :=
  { serial := l.serial, colA := z.colA, colB := z.colB, repl := l.repl, miss := l.miss, tap := l.tap, served := false }

/-- The strip of a gap line. -/
def GapLine.strip (g : GapLine) : Strip := ⟨g.serial, g.colA, g.colB⟩

/-- A strip added to others; two of one line become one over the columns of both. -/
def addStrip (l : List Strip) (z : Strip) : List Strip :=
  match l with
  | [] => [z]
  | x :: r =>
    if x.serial = z.serial then ⟨x.serial, min x.colA z.colA, max x.colB z.colB⟩ :: r
    else if z.serial < x.serial then z :: x :: r else x :: addStrip r z

/-- Maximal intervals of consecutive columns of a rising list. -/
def intervals (cols : List Nat) : List (Nat × Nat) :=
  match cols with
  | [] => []
  | c :: r =>
    match intervals r with
    | (a, b) :: t => if a = c + 1 then (c, b) :: t else (c, c) :: (a, b) :: t
    | [] => [(c, c)]

/-- The runs of a line: at most 256, the last one stretched to the last present column; whether there were more (R129). -/
def runsOf (cols : List Nat) : List (Nat × Nat) × Bool :=
  let rs := intervals cols
  if rs.length ≤ 256 then (rs, false)
  else (rs.take 255 ++ [((rs.getD 255 (0, 0)).1, (rs.getLast?.getD (0, 0)).2)], true)

/-- A run touches a part's last run set (R130). -/
def Part.touches (p : Part) (a b : Nat) : Bool := p.cmp.any (fun r => decide (a ≤ r.2 + 1 ∧ r.1 ≤ b + 1))

/-- A part computes, or will: slotted or waiting. -/
def Part.live (p : Part) : Bool := p.kind == PartKind.slotted || p.kind == PartKind.waiting

/-- A part holds state that strips update: slotted or waiting. -/
def Part.strips (p : Part) (asm : Bool) : Bool := !asm && p.live

/-- The lane is an assembled one (R150). -/
def DieState.asm (d : DieState) (l : Nat) : Bool := (d.lane l).mode == 2

/-- State of a lane (R128). -/
def DieState.laneState (d : DieState) (l : Nat) : Nat := d.fld (rPTK_LANE + 4 * l) 2 0

/-- Descriptors held: by parts and tails, by absorbed parts still to be merged, and those given up in this step (R136, R144). -/
def DieState.descriptors (d : DieState) : Nat :=
  (d.ptk.parts.filter (·.held)).length + (d.ptk.parts.map (·.merges.length)).foldl (· + ·) 0 + d.ptk.freeing

/-- Descriptors given up in this step. -/
def DieState.giveUp (d : DieState) (n : Nat) : DieState := { d with ptk := { d.ptk with freeing := d.ptk.freeing + n } }

/-! ### Lane fault (R138) -/

/-- Parts that `c` selects among those that hold a descriptor take INCOMPLETE; the open ones of them attach no more and close at the
end of this step (R138, R169, R238). -/
def DieState.cut (d : DieState) (c : Part → Bool) : DieState :=
  d.modParts (fun p => p.held && p.kind != .tail && c p) (fun p => { p.mark 7 with closing := p.closing || p.isOpen })

/-- Tails that `c` selects end at the end of this step. -/
def DieState.endTails (d : DieState) (c : Part → Bool) : DieState :=
  d.modParts (fun p => p.kind == .tail && c p) (fun p => { p with closing := true })

/-- Lane `l` enters lane fault: cause 1 encoder disabled, 2 DESC_EXHAUSTED. -/
def DieState.laneFault (d : DieState) (l cause : Nat) : DieState :=
  if d.laneState l = 3 ∨ d.laneState l = 0 then d
  else
    let d := ((d.setFld (rPTK_LANE + 4 * l) 2 0 3).setFld (rPTK_LANE + 4 * l) 7 4 cause).uswEvent 5 l 3
    (d.cut (fun p => p.lane == l)).endTails (fun p => p.lane == l)

/-- No descriptor is free in lane `l` (R136). -/
def DieState.noDescriptor (d : DieState) (l : Nat) : DieState := (d.raise rPTK_STATUS 6).laneFault l 2

/-! ### Attaching (R131, R133, R135, R145, R149) -/

/-- A run of line `l` attaches to a part: the gap lines and this one join its span, once for each line; its extents follow. -/
def Part.take (p : Part) (c : LaneCfg) (l : Ln) (a b : Nat) : Part :=
  let p :=
    if p.last = l.serial ∨ p.kind = .tail then p
    else
      let new := p.gaps ++ [l.asGap (c.strip l.serial (min p.colA a) (max p.colB b))]
      let p := if new.any (·.miss) then p.mark 7 else p
      { p with gaps := [], repl := p.repl + (new.filter (·.repl)).length, tap := p.tap || new.any (·.tap), lines := p.lines ++ [l.serial],
               pend := if p.strips (c.mode == 2) then p.pend ++ ((new.filter (fun g => !g.served)).map GapLine.strip) else p.pend }
  { p with last := l.serial, trailPos := l.pos, gap := 0, colA := min p.colA a, colB := max p.colB b, now := p.now ++ [(a, b)] }

/-- More replaced lines than CORRUPT_MAX: CORRUPT (R149). -/
def DieState.corruptCheck (d : DieState) (q : Nat) : DieState :=
  match d.partOf q with
  | none => d
  | some p =>
    if p.kind ≠ .tail ∧ (d.lane p.lane).corruptMax < p.repl ∧ !p.outs.contains 6 then
      ((d.modPart q (fun p => p.mark 6)).raise rPTK_STATUS 3).count (rPTK_CNT + 24) 1
    else d

/-- The tail that stays in the place of an oversize part (R135). -/
def Part.tail (p : Part) (q : Nat) : Part :=
  { p with seq := q, kind := .tail, slot := none, closing := false, isOpen := true, outs := [], gaps := [], pend := [], lines := [], crop := [], merges := [], repl := 0,
           carried := false, tap := false, change := false }

/-- OVERSIZE of a part of a discrete or assembled lane: force-closed, a tail in its place (R135, R151). -/
def DieState.oversizeCheck (d : DieState) (q : Nat) : DieState :=
  match d.partOf q with
  | none => d
  | some p =>
    let c := d.lane p.lane
    let w := p.colB + 1 - p.colA
    let big := decide (4096 ≤ p.last + 1 - p.first) || (c.mode == 0 && decide (c.stripWidth < w + 2 * c.stripMargin)) ||
      (c.mode == 2 && decide (1024 < w + 2 * c.cropMargin))
    if p.kind = .tail ∨ p.closing ∨ c.mode = 1 ∨ !big then d
    else
      let d := ((d.modPart q (fun p => { p.mark 5 with closing := true })).raise rPTK_STATUS 2).count (rPTK_CNT + 20) 1
      if 8192 ≤ d.descriptors then d.noDescriptor p.lane
      else { d with ptk := { d.ptk with seq := d.ptk.seq + 1, parts := d.ptk.parts ++ [p.tail d.ptk.seq] } }

/-- A run attaches to part `q`. -/
def DieState.attach (d : DieState) (q : Nat) (l : Ln) (a b : Nat) : DieState :=
  ((d.modPart q (fun p => p.take (d.lane p.lane) l a b)).corruptCheck q).oversizeCheck q

/-! ### Merging (R130, R132, R147) -/

/-- Gap line `g` of a survivor is lost to it, or computed already, when it absorbs `q` (R147): a ghost has held none of the lines that a run attached to; of another part's span the
strips that `q` does not hold have been consumed. (DESIGN CHOICE, log entry 24.) -/
def Part.servedBy (q : Part) (g : GapLine) : Bool :=
  if q.kind == .ghost then q.lines.contains g.serial
  else decide (q.first ≤ g.serial ∧ g.serial ≤ q.last) && !(q.pend.any (fun z => z.serial == g.serial))

/-- A gap line over the columns of the strip that an absorbed part holds of the same line. -/
def GapLine.over (g : GapLine) (pend : List Strip) : GapLine :=
  match pend.find? (fun z => z.serial == g.serial) with
  | some z => { g with colA := min g.colA z.colA, colB := max g.colB z.colB }
  | none => g

/-- The survivor after absorbing `q`: extents, outcomes and pending lines. Gap lines of the survivor that `q` attached are pending only if
`q` still held them; the spec does not say whether those that an absorbed slotted part has consumed become pending for the survivor (DESIGN CHOICE, log entry 24: they do not,
unless a run of the same line attached to the survivor first). A strip that both hold covers the columns of both. (DEDUCED, log entry 24.) -/
def Part.absorbed (s q : Part) (asm : Bool) : Part :=
  let outs := (q.outs.filter (· ≠ 4)).foldl (fun o c => if o.contains c then o else o ++ [c]) s.outs
  let extra := if asm then q.pend else q.pend.filter (fun z => decide (z.serial ≤ s.last))
  let s := { s with outs := outs, colA := min s.colA q.colA, colB := max s.colB q.colB, cmp := s.cmp ++ q.cmp, now := s.now ++ q.now, tap := s.tap || q.tap,
                    lines := s.lines ++ q.lines.filter (fun x => !s.lines.contains x),
                    gaps := s.gaps.map (fun g => { g.over q.pend with served := g.served || q.servedBy g }),
                    pend := if s.live then extra.foldl addStrip s.pend else s.pend }
  if q.kind == .ghost && s.kind != .ghost then s.mark 7 else s

/-- Part `q` is absorbed into `s` (R147): the absorbed slot waits for its merge, or is given up; a queue entry is removed. -/
def DieState.merge (d : DieState) (s q : Nat) : DieState :=
  match d.partOf s, d.partOf q with
  | some ps, some pq =>
    let asm := d.asm ps.lane
    let d := d.count (rPTK_CNT + 12) 1
    let d := { d with ptk := { d.ptk with queue := d.ptk.queue.filter (· ≠ q), parts := d.ptk.parts.filter (fun p => p.seq != q) } }
    let d := d.modPart s (fun p => p.absorbed pq asm)
    let d := if pq.outs.contains 6 ∧ !ps.outs.contains 6 then (d.raise rPTK_STATUS 3).count (rPTK_CNT + 24) 1 else d
    let d :=
      match pq.slot with
      | some k =>
        if ps.kind = PartKind.slotted then d.modPart s (fun p => { p with merges := p.merges ++ (({ slot := k, first := pq.first, last := pq.last, colA := pq.colA, colB := pq.colB, crop := pq.crop } : Absorbed) :: pq.merges) })
        else d.giveUp (1 + pq.merges.length)
      | none => d.giveUp 1
    d.corruptCheck s
  | _, _ => d

/-- A tail is absorbed into the tail formed first (R135). -/
def DieState.mergeTail (d : DieState) (s q : Nat) : DieState :=
  match d.partOf q with
  | none => d
  | some t =>
    (d.modPart s (fun p => { p with runs := p.runs ++ t.runs, colA := min p.colA t.colA, colB := max p.colB t.colB, cmp := p.cmp ++ t.cmp, now := p.now ++ t.now })).modPart
      q (fun p => { p with closing := true, cmp := [], now := [] })

/-! ### Opening (R132, R136, R140, R237) -/

/-- The phase of the changeover (CTX_CHG). -/
def DieState.chgPhase (d : DieState) : Nat := d.fld rCTX_CHG 10 8

/-- A part counted in CTX_CHG_INCOMPLETE. -/
def DieState.chgIncomplete (d : DieState) (n : Nat) : DieState := d.count rCTX_CHG_INCOMPLETE n

/-- Queue order: queued step, lane, part (R140). -/
def DieState.enqueuePart (d : DieState) (q : Nat) : DieState :=
  let key (x : Nat) : Nat × Nat := match d.partOf x with | some p => (p.queued, p.lane) | none => (0, 0)
  let lt (x y : Nat) : Bool :=
    decide ((key x).1 < (key y).1 ∨ ((key x).1 = (key y).1 ∧ ((key x).2 < (key y).2 ∨ ((key x).2 = (key y).2 ∧ x < y))))
  let d := { d with ptk := { d.ptk with queue := insertBy lt q d.ptk.queue } }
  d.peakFld rPTK_QUEUE 22 16 d.ptk.queue.length

/-- A part becomes UNADMITTED: a ghost (R140, R143). -/
def DieState.unadmit (d : DieState) (q : Nat) : DieState :=
  (({ d with ptk := { d.ptk with queue := d.ptk.queue.filter (· ≠ q) } }).modPart q
      (fun p => { p.mark 4 with kind := .ghost, ghostAt := d.seq.step, pend := [] })).raise rPTK_STATUS 1 |>.count (rPTK_CNT + 8) 1

/-- A run opens a part in lane `n`: a change ghost from K on, else one that is queued (R130, R132, R136, R140, R237). -/
def DieState.openPart (d : DieState) (n : Nat) (l : Ln) (a b : Nat) (seg : Int) : DieState :=
  if d.laneState n ≠ 1 then d
  else if 8192 ≤ d.descriptors then d.noDescriptor n
  else
    let q := d.ptk.seq
    let ghost := d.chgPhase = 2 ∨ d.chgPhase = 3
    let p : Part := { (default : Part) with
      lane := n, num := d.rd (rPTK_NEXT_PART + 4 * n), seq := q, kind := if ghost then .ghost else .waiting, isOpen := true, change := ghost,
      recipe := d.fld rCTX_CHG 3 0, queued := d.seq.step, ghostAt := d.seq.step, first := l.serial, last := l.serial, leadPos := l.pos, trailPos := l.pos,
      time := l.time, colA := a, colB := b, now := [(a, b)], runs := [(a, b)], repl := b2n l.repl, lines := [l.serial], pend := if ghost ∨ d.asm n then [] else [(d.lane n).strip l.serial a b],
      seg := seg, tap := l.tap, held := true }
    let p := if l.miss ∨ ghost ∨ 0 < (d.laneDyn n).warmN ∨ 0 < (d.laneDyn n).warmW then p.mark 7 else p
    let d := if ghost then d.chgIncomplete 1 else if 0 < (d.laneDyn n).warmN then d.chgIncomplete 1 else d
    let d := { d with ptk := { d.ptk with seq := q + 1, parts := d.ptk.parts ++ [p] } }
    let d := (d.wr (rPTK_NEXT_PART + 4 * n) (p.num + 1)).count rPTK_CNT 1
    let d :=
      if ghost then d
      else if 64 ≤ d.ptk.queue.length then (d.raise rPTK_STATUS 0).unadmit q
      else d.enqueuePart q
    (d.corruptCheck q).oversizeCheck q

/-! ### One line of a lane (R130, R131, R134, R135) -/

/-- The open parts and tails of lane `n` that still attach runs. -/
def DieState.attaching (d : DieState) (n : Nat) : List Part := d.ptk.parts.filter (fun p => p.lane == n && p.isOpen && !p.closing)

/-- A run is handled: it attaches to the part that opened first, which absorbs the others it touches, or to the first tail, or opens a part. -/
def DieState.run (n : Nat) (l : Ln) (d : DieState) (r : Nat × Nat) : DieState :=
  let hit := sortBy (fun (x y : Part) => decide (x.seq < y.seq)) ((d.attaching n).filter (fun p => p.touches r.1 r.2))
  let tails := hit.filter (fun p => p.kind == .tail)
  match hit.filter (fun p => p.kind != .tail) with
  | s :: qs =>
    let d := qs.foldl (fun d q => d.merge s.seq q.seq) d
    let d := tails.foldl (fun d t => d.modPart t.seq (fun p => { p with closing := true, cmp := [], now := [] })) d
    d.attach s.seq l r.1 r.2
  | [] =>
    match tails with
    | t :: ts => (ts.foldl (fun d q => d.mergeTail t.seq q.seq) d).attach t.seq l r.1 r.2
    | [] => d.openPart n l r.1 r.2 0

/-- The strip of the line just handled, over the extent as it stands after it (R145); an assembled part takes every line while it attaches (R150). -/
def Part.strip (p : Part) (c : LaneCfg) (l : Ln) : Part :=
  let z := c.strip l.serial p.colA p.colB
  if !p.live then p
  else if c.mode = 2 then (if p.closing ∧ p.last ≠ l.serial then p else { p with pend := p.pend ++ [z] })
  else { p with pend := p.pend.map (fun x => if x.serial = l.serial then z else x) }

/-- The gap counts after a line's runs (R131). -/
def Part.after (p : Part) (c : LaneCfg) (l : Ln) : Part :=
  if p.now.isEmpty then
    { p with gap := p.gap + 1, gaps := if p.kind = .tail then [] else p.gaps ++ [l.asGap (c.strip l.serial p.colA p.colB)], closing := decide (c.closeGap ≤ p.gap + 1) }
  else { p with runs := sortBy (fun (x y : Nat × Nat) => decide (x.1 < y.1)) p.now, now := [], cmp := [] }

/-- The runs of a line in a discrete or assembled lane. -/
def DieState.segment (d : DieState) (n : Nat) (l : Ln) (runs : List (Nat × Nat)) : DieState :=
  let d := d.modParts (fun p => p.lane == n) (fun p => { p with cmp := if p.isOpen && !p.closing then p.runs else [], now := [] })
  let d := runs.foldl (DieState.run n l) d
  let d := d.modParts (fun p => p.lane == n && p.isOpen) (fun p => p.strip (d.lane n) l)
  let d := d.modParts (fun p => p.lane == n && p.isOpen && !p.closing) (fun p => p.after (d.lane n) l)
  d.modParts (fun p => p.lane == n) (fun p => { p with cmp := [], now := [] })

/-- A line of a web lane (R134): it belongs to its segment, opens it where it may, and ends an earlier one. -/
def DieState.web (d : DieState) (n : Nat) (l : Ln) : DieState :=
  let c := d.lane n
  let seg := (l.pos - c.segOrigin).fdiv (max 1 c.segLen : Nat)
  match (d.attaching n).find? (fun p => p.seg == seg) with
  | some p => (d.attach p.seq l c.x0 c.x1).modPart p.seq (fun p => { p with now := [] })
  | none =>
    let d := d.modParts (fun p => p.lane == n && p.isOpen) (fun p => { p with closing := true })
    if (d.laneDyn n).tried = some seg then d
    else
      let q := d.ptk.seq
      let d := d.openPart n l c.x0 c.x1 seg
      if (d.partOf q).isSome then d.modLane n (fun x => { x with tried := some seg }) else d

end Sys2Proof.Machine
end

