-- ==== Sys2Proof/Machine/Parts.lean ====
section
/-! DEFINITION. The Part Tracker and Batch Former (spec/05) and the admission of lines and halos: the phases of a step, join, head batch,
retirement, closes, assembled parts, and the commands of lines and parts. -/

namespace Sys2Proof.Machine

/-! ### Lines (R43, R129, R162, R172 to R174, R237) -/

/-- The registration group whose ports a lane reads. -/
def DieState.laneGroup (d : DieState) (n : Nat) : Option Nat :=
  let m := (d.lane n).ports
  if m = 0 then none
  else (List.range 8).find? (fun g => d.groupOn g && m &&& d.fld (rRGN_GRP + 4 * g) 23 16 == m)

/-- The lanes that read group `g`. -/
def DieState.groupLanes (d : DieState) (g : Nat) : List Nat := (d.ptk.cfg.map (·.1)).filter (fun n => d.laneGroup n == some g)

/-- Steps F to W − 1 of a Stem fence: lines are blind (R169). -/
def DieState.blind (d : DieState) : Bool :=
  match d.stm.fenceAt with | some f => decide (f ≤ d.seq.step ∧ d.seq.step < f + 16) | none => false

/-- The changeover reaches K: the old parts run on, new presence opens change ghosts (R237); the lines admitted from now on are of the new recipe's samples
(R480). -/
def DieState.startDrain (d : DieState) : DieState :=
  let d := { d with ctx := { d.ctx with chg := { d.ctx.chg with k := d.seq.step, reached := false } } }
  let d := (d.ptk.cfg.map (·.1)).foldl (fun d n => d.modLane n (fun x => { x with chgFrom := some x.serial, chgTo := none })) d
  d.setFld rCTX_CHG 10 8 2

/-- The change point: in the step in which a line of the pilot lane at or beyond C is admitted, or at W if that step falls within a Stem fence
(R237, R240). -/
def DieState.changeCheck (d : DieState) : DieState :=
  if d.chgPhase ≠ 1 then d
  else
    let due := d.cxp.arrived.any (fun l =>
      some l.group == d.laneGroup (d.fld rCTX_CHG 20 16) && decide (l.arrival + 2 ≤ d.seq.step ∧ d.ctx.chg.pos ≤ l.pos))
    if !due then d
    else if d.blind then { d with ctx := { d.ctx with chg := { d.ctx.chg with reached := true } } }
    else d.startDrain

/-- Samples per pixel of a port. -/
def DieState.samples1 (d : DieState) (p : Nat) : Nat := samplesOf (d.fld (rCXP_PORT + 4 * p) 2 0) (d.img p).sens

/-- HALO_L or HALO_R of a lane. -/
def LaneCfg.haloW (c : LaneCfg) (left : Bool) : Nat := if left then c.haloL else c.haloR

/-- The halo of position `pos` that lane `n` holds for a side. -/
def DieState.haloOf (d : DieState) (n : Nat) (left : Bool) (pos : Int) : Option Halo :=
  (d.laneDyn n).halos.find? (fun h => h.left == left && h.pos == pos)

/-- Lane `n` waits for a halo on this side that has not come (R174). -/
def DieState.haloLacks (d : DieState) (n : Nat) (left : Bool) (pos : Int) : Bool :=
  let c := d.lane n
  c.striped && decide (c.haloW left ≠ 0) && (d.haloOf n left pos).isNone

/-- The samples of port `q` in a halo of `w` columns (R172): as `borderCols` lays them out, port by port, in the camera's pixel format; masked where there is none. -/
def DieState.haloPart (d : DieState) (l : FLine) (w : Nat) (h : Option Halo) (q : PortLine) : List Nat :=
  let size (p : Nat) : Nat := colBytes (d.fld (rCXP_PORT + 4 * p) 2 0) w (d.samples1 p)
  let before := ((l.ports.filter (fun x => decide (x.port < q.port))).map (fun x => size x.port)).foldl (· + ·) 0
  let n := w * d.samples1 q.port
  match h with
  | some h => unpackElems (sampleBits (d.fld (rCXP_PORT + 4 * q.port) 2 0)) n ((h.data.drop before).take (size q.port))
  | none => List.replicate n 0

/-- A fused line of group `g` widened with the halos of its position that are held (R172, R173): by the record of the group's first striped lane, from the first of its
striped lanes that holds the halo. (DEDUCED, log entry 28.) -/
def DieState.widen (d : DieState) (g : Nat) (l : FLine) : FLine :=
  match d.stripesOf g with
  | [] => l
  | (n, c) :: r =>
    if l.gone then l
    else
      let side (left : Bool) (q : PortLine) : List Nat :=
        let w := c.haloW left
        d.haloPart l w (((n, c) :: r).findSome? (fun x => if x.2.haloW left = w then d.haloOf x.1 left l.pos else none)) q
      { l with ports := l.ports.map (fun q =>
          let own := q.line.px ++ List.replicate (d.width q.port * d.samples1 q.port - q.line.px.length) 0
          { q with line := { q.line with px := side true q ++ own ++ side false q } }) }

/-- The width of the Image Pipeline's line of port `p`, halo columns included. -/
def DieState.lineWidth (d : DieState) (g p : Nat) : Nat :=
  d.width p + (match d.stripeOf g with | some (_, c) => c.haloL + c.haloR | none => 0)

/-- The output line of a port's part of a fused line (R265 to R271), the line itself standing in the pipeline line store. -/
def DieState.outOf (d : DieState) (l : FLine) (q : PortLine) : OutLine :=
  outLine (d.img q.port) (d.fld (rCXP_PORT + 4 * q.port) 2 0) (d.lineWidth l.group q.port) ((d.group l.group).k0.getD 0)
    (tget d.ipp.store q.port []) q

/-- A presence value is at or above the threshold (R129): formats 0 UINT8, 1 INT8, 2 and 3 FP8. -/
def presentAt (fmt v thr : Nat) : Bool :=
  match fmt with
  | 0 => decide (thr ≤ v)
  | 1 => decide (toSigned 8 thr ≤ toSigned 8 v)
  | k =>
    let f := if k = 2 then fmtE4M3 else fmtE5M2
    match decodeF f v, decodeF f thr with
    | .nan, _ => false
    | _, .nan => false
    | .inf n, .inf m => !n || m
    | .inf n, .fin _ _ => !n
    | .fin _ _, .inf m => m
    | .fin a e, .fin b g => !dyLt a e b g

/-- The present columns of a lane in a line (R129): by the Stem's presence channel where the recipe has one and the line is not blind, else
by the machine-vision line; masked halo columns are not present. -/
def presentCols (c : LaneCfg) (mv : List (List Nat)) (fmt : Nat) (pres : Option (List Nat)) (lo hi : Nat) : List Nat :=
  ((List.range (c.x1 + 1)).filter (fun x => decide (c.x0 ≤ x ∧ x < mv.length ∧ lo ≤ x ∧ x < hi))).filter (fun x =>
    let v := match pres with | some l => l.getD x 0 | none => (mv.getD x []).getD c.presCh 0
    presentAt fmt v c.presThr)

/-- The lines of lane `n` that the trunk's receptive field of the recipe in use takes in, REG_WARM of them (R169), at least the line itself. (DEDUCED, log entry 28.) -/
def DieState.depthOf (d : DieState) (n : Nat) : Nat := max 1 (tget d.ctx.figs (32 * d.fld rCTX_CHG 3 0 + n) (0, 0)).2

/-- Parts of lane `n` whose receptive field in line `ser` reaches masked halo columns: INCOMPLETE, now or once the line joins their span
(R174). -/
def DieState.haloMasked (d : DieState) (n ser : Nat) (reach : Part → Bool) : DieState :=
  d.modParts (fun p => p.lane == n && p.isOpen && p.kind != .tail && reach p) (fun p =>
    if p.last = ser then p.mark 7 else { p with gaps := p.gaps.map (fun g => if g.serial = ser then { g with miss := true } else g) })

/-- Missing halos are counted (R174). -/
def DieState.haloMiss (d : DieState) (n : Nat) (miss : Bool) : DieState :=
  if miss then (d.raise rSTM_STRIPE_STATUS 0).countFld (rSTM_STRIPE_MISS + 4 * n) 15 0 1 else d

/-- RUN_OVERFLOW: set and counted (R129). -/
def DieState.runOverflow (d : DieState) : DieState :=
  let d := d.raise rPTK_STATUS 5
  { d with ptk := { d.ptk with overs := d.ptk.overs + 1 } }

/-- What is INVALID for samples in line `ser` of lane `n`, `w` columns wide: all of it where it is blind (R169), was not admitted (R44) or lacks a modality (R258),
and masked halo columns (R174). -/
def DieState.spoilLine (d : DieState) (n ser w : Nat) (all missL missR : Bool) : DieState :=
  let c := d.lane n
  let new := if all then [(ser, 7, 0, max32)]
    else (if missL then [(ser, 7, 0, c.haloL - 1)] else []) ++ (if missR then [(ser, 7, w - c.haloR, w - 1)] else [])
  d.modLane n (fun x => { x with spoiled := x.spoiled ++ new })

/-- A line is segmented in lane `n` (R129 to R135), and kept in the line store, an assembled lane's with its pixels (R142). -/
def DieState.segmentLine (d : DieState) (n : Nat) (l : FLine) (ln : Ln) (mv : List (List Nat)) (pres : Option (List Nat)) (missL missR : Bool) : DieState :=
  let c := d.lane n
  let w := mv.length
  let kept : StoreLine := { lane := n, serial := ln.serial, step := d.seq.step, px := if c.mode = 2 then mv else [] }
  let d := { d with ptk := { d.ptk with store := d.ptk.store ++ [kept] } }
  if c.mode = 1 then d.web n ln
  else
    let fmt := ((d.out l.group).mv.getD c.presCh (0, 0, 0, 0)).2.2.1
    let cols := if l.gone then [] else presentCols c mv fmt pres (if missL then c.haloL else 0) (if missR then w - c.haloR else w)
    let r := runsOf cols
    (if r.2 then d.runOverflow else d).segment n ln r.1

/-- The parts that masked columns of this line, or of an earlier one that the receptive field takes in, reach (R174). -/
def DieState.haloReaches (d : DieState) (n ser w : Nat) : DieState :=
  let c := d.lane n
  let m := (d.laneDyn n).masked
  let d := if m.any (·.2) then d.haloMasked n ser (fun p => decide (p.colA < c.haloL + c.haloReach)) else d
  if m.any (fun x => !x.2) then d.haloMasked n ser (fun p => decide (w < p.colB + 1 + c.haloR + c.haloReach)) else d

/-- A line is admitted in lane `n`. `outs`: its output lines. -/
def DieState.laneLine (d : DieState) (n : Nat) (l : FLine) (outs : List OutLine) (mv : List (List Nat)) (pres : Option (List Nat)) : DieState :=
  let ser := (d.laneDyn n).serial
  let top := match (d.laneDyn n).top with | some t => max t l.pos | none => l.pos
  let missL := !l.gone && d.haloLacks n true l.pos
  let missR := !l.gone && d.haloLacks n false l.pos
  let d := (d.haloMiss n missL).haloMiss n missR
  let dep := d.depthOf n
  let d := d.modLane n (fun x => { x with
    serial := ser + 1
    top := some top
    masked := (x.masked.filter (fun z => decide (ser < z.1 + dep))) ++ (if missL then [(ser, true)] else []) ++ (if missR then [(ser, false)] else []) })
  let miss := l.gone || outs.any (·.miss)
  let d := d.spoilLine n ser mv.length (miss || d.blind) missL missR
  let d :=
    if d.blind ∨ d.laneState n = 0 ∨ d.laneState n = 3 then d
    else
      let ln : Ln := { serial := ser, pos := l.pos, time := l.time, repl := outs.any (·.repl), miss := miss, tap := false }
      (d.segmentLine n l ln mv pres missL missR).haloReaches n ser mv.length
  d.modLane n (fun x => { x with
    halos := if l.gone then x.halos else x.halos.filter (fun h => h.pos ≠ l.pos)
    warmW := x.warmW - (if d.blind then 0 else 1)
    warmN := x.warmN - 1 })

/-- LINE_ADMISSION (R43): line `k` of group `g`, the oldest of the group that arrived two steps ago, is widened, kept in the pipeline line store, segmented in every
lane that reads it, and waits for its Line Slot Table entry; the Stem computes its layers of it, unless the line is blind. -/
def lineAdmission (g k : Nat) (mem : List Host.Cell) (d : DieState) : DieState :=
  match d.cxp.arrived.find? (fun l => l.group == g && decide (l.arrival + 2 ≤ d.seq.step)) with
  | none => d
  | some l =>
    if !d.stepping ∨ l.k ≠ k then d
    else
      let d := d.changeCheck
      let d := { d with cxp := { d.cxp with arrived := d.cxp.arrived.filter (fun x => x.group != g || x.k != l.k) } }
      let l := d.widen g l
      let d := l.ports.foldl (fun (d : DieState) q =>
        { d with ipp := { d.ipp with store := tset d.ipp.store q.port ((q :: tget d.ipp.store q.port []).take 128) } }) d
      let outs := l.ports.map (d.outOf l)
      let mv := mvLine d.ipp.imgs (d.out g).mv outs
      let p := if d.blind || d.chgPhase == 3 then (d, none) else d.stemLine mem g l.k (d.groupPorts g) mv
      let d := p.1
      let lanes := d.groupLanes g
      let sers := lanes.map (fun n => (n, (d.laneDyn n).serial))
      let d := lanes.foldl (fun d n => d.laneLine n l outs mv p.2) d
      { d with ipp := { d.ipp with toServe := d.ipp.toServe ++ [(l, sers)] } }

/-! ### Halos (R173) -/

/-- A halo row admitted for a striped lane: held for its own line, or discarded on a wrong column count. -/
def DieState.haloAdmit (d : DieState) (n : Nat) (left : Bool) (pos : Int) (cols : Nat) (data : List Byte) : DieState :=
  let c := d.lane n
  let other (d : DieState) (b : Nat) : DieState := (d.raise rSTM_STRIPE_STATUS b).countFld (rSTM_STRIPE_MISS + 4 * n) 31 16 1
  if !c.striped then d
  else if cols ≠ (if left then c.haloL else c.haloR) then other d 2
  else
    let full := decide (16 ≤ ((d.laneDyn n).halos.filter (fun h => h.left == left)).length)
    if full then other d 1
    else d.modLane n (fun x => { x with halos := x.halos ++ [⟨left, pos, d.seq.step, data⟩] })

/-- HALO_UNMATCHED: the oldest halo of a lane held for 8 steps without its own line is discarded. -/
def haloUnmatched (n : Nat) (left : Bool) (d : DieState) : DieState :=
  match (d.laneDyn n).halos.find? (fun h => h.left == left && decide (h.step + 8 ≤ d.seq.step)) with
  | none => d
  | some h =>
    let d := d.modLane n (fun x => { x with halos := x.halos.filter (fun y => y ≠ h) })
    (d.raise rSTM_STRIPE_STATUS 1).countFld (rSTM_STRIPE_MISS + 4 * n) 31 16 1

/-! ### Phases 1 and 2 (R139, R141) -/

/-- UNADMITTED: queue entries that have waited more than 4 steps become ghosts. -/
def unadmitted (d : DieState) : DieState :=
  if !d.stepping then d
  else
    (d.ptk.parts.filter (fun p => d.ptk.queue.contains p.seq && decide (p.queued + 4 < d.seq.step))).foldl (fun d p => d.unadmit p.seq) d

/-- Slots in use on the die. -/
def DieState.slotsUsed (d : DieState) : List Nat := (d.ptk.parts.map (fun p => p.slot.toList ++ p.merges.map (·.slot))).flatten

/-- The lowest free slot of lane `n`'s pool. -/
def DieState.freeSlot (d : DieState) (n : Nat) : Option Nat :=
  let used := d.slotsUsed
  ((List.range (d.lane n).poolCount).map (· + (d.lane n).poolBase)).find? (fun k => !used.contains k)

/-- Free slots of lane `n`. -/
def DieState.freeSlots (d : DieState) (n : Nat) : Nat :=
  let used := d.slotsUsed
  (((List.range (d.lane n).poolCount).map (· + (d.lane n).poolBase)).filter (fun k => !used.contains k)).length

/-- Phase 2 of a step: entries that have not waited too long are admitted in order while their lane has a free slot. -/
def DieState.join (d : DieState) : DieState :=
  d.ptk.queue.foldl (fun d q =>
    match d.partOf q with
    | none => d
    | some p =>
      if p.queued + 4 < d.seq.step then d
      else
        match d.freeSlot p.lane with
        | none => d
        | some k =>
          let d := { d with ptk := { d.ptk with queue := d.ptk.queue.filter (· ≠ q) } }
          d.modPart q (fun p => { p with kind := .slotted, slot := some k })) d

/-! ### Phase 4: the head batch (R145, R146, R150, R152, R153) -/

/-- Work of a slotted part: its entries. A part with more than STRIP_LINES pending lines takes several in one step, each with up to STRIP_LINES of them: whether it may, the spec
does not say. (DESIGN CHOICE, log entry 24.) -/
def DieState.entries (d : DieState) (p : Part) : Nat :=
  let s := max 1 (d.lane p.lane).stripLines
  max ((p.pend.length + s - 1) / s) p.merges.length

/-- Carried parts first, then by lane and part. -/
def batchLt (a b : Part) : Bool := (a.carried && !b.carried) || (a.carried == b.carried && partLt a b)

/-- The first `g` entries of part `p`: each consumes the oldest STRIP_LINES pending lines that are left and merges one absorbed state, while there are any (R146); the inputs
of a CORRUPT part's entries are masked to zero (R149). -/
def Part.batchEntries (p : Part) (s g : Nat) : List BatchEntry :=
  (List.range g).map (fun i =>
    { pseq := p.seq, strips := (p.pend.drop (i * s)).take s, merge := p.merges[i]?, masked := p.outs.contains 6 })

/-- The head batch of the step: 512 entries. -/
def DieState.headBatch (d : DieState) : DieState :=
  let d := { d with ptk := { d.ptk with batch := [] } }
  let work := sortBy batchLt (d.ptk.parts.filter (fun p => p.kind == PartKind.slotted && !d.asm p.lane && decide (0 < d.entries p)))
  let r := work.foldl (fun (x : DieState × Nat) p =>
    let d := x.1
    let need := d.entries p
    let g := min need x.2
    let s := max 1 (d.lane p.lane).stripLines
    let d := { d with ptk := { d.ptk with batch := d.ptk.batch ++ p.batchEntries s g } }
    let d := d.modPart p.seq (fun q => { q with pend := q.pend.drop (g * s), merges := q.merges.drop g, carried := decide (g < need) })
    (if g < need then (d.count (rPTK_CNT + 16) (need - g)).raise rPTK_STATUS 4 else d, x.2 - g)) (d, 512)
  r.1

/-- One Philox-4x32-10 block (R153). -/
def philox (c k : List Nat) : List Nat :=
  let m := 2 ^ 32
  let round (x : List Nat × List Nat) (r : Nat) : List Nat × List Nat :=
    let c := x.1
    let k := x.2
    let p0 := 0xD2511F53 * c.getD 0 0
    let p1 := 0xCD9E8D57 * c.getD 2 0
    ([(p1 / m) ^^^ c.getD 1 0 ^^^ k.getD 0 0, p1 % m, (p0 / m) ^^^ c.getD 3 0 ^^^ k.getD 1 0, p0 % m],
      if r < 9 then [(k.getD 0 0 + 0x9E3779B9) % m, (k.getD 1 0 + 0xBB67AE85) % m] else k)
  ((List.range 10).foldl round (c, k)).1

/-- The parameters of view `v` of a part (R153): dx, dy (as 0 to 2, less one), flips, gain. View 0 is the unaltered crop. -/
def viewParams (seed lane part v ops jitter : Nat) : List Nat :=
  if v = 0 then [1, 1, 0, 0, 65536]
  else
    let c := philox [v, 0, 0, 0] [(seed % 2 ^ 32) ^^^ part, (seed / 2 ^ 32) ^^^ lane]
    let s := toSigned 16 (c.getD 3 0 % 65536)
    [if bit 0 ops then c.getD 0 0 % 3 else 1, if bit 0 ops then c.getD 1 0 % 3 else 1, b2n (bit 1 ops && bit 0 (c.getD 2 0)),
     b2n (bit 2 ops && bit 1 (c.getD 2 0)), if bit 3 ops then (65536 + (s * (jitter : Int)).fdiv 32768).toNat else 65536]

/-- By the step in which a part became ready, then lane and part (R148). -/
def readyLt (a b : Part) : Bool :=
  decide (a.readyAt.getD 0 < b.readyAt.getD 0) || (a.readyAt == b.readyAt && partLt a b)

/-- The parts that are ready in this step and not yet taken. -/
def DieState.readyParts (d : DieState) (asm : Bool) : List Part :=
  sortBy readyLt (d.ptk.parts.filter (fun p =>
    p.held && d.asm p.lane == asm && p.retired.isNone && p.batchAt.isNone && (match p.readyAt with | some r => decide (r ≤ d.seq.step) | none => false)))

/-! ### The image store (R150) -/

/-- The region of the image store slots, as its first byte and its length. -/
def DieState.imageRegion (d : DieState) : Option (Nat × Nat) :=
  (d.mem.regions.find? (fun r => r.kind == 4)).map (fun r => (960 * r.base, 960 * r.len))

/-- Where a pixel of a slot stands in DRAM: line of the crop, column, channel. (DESIGN CHOICE, log entry 24.) -/
def pixelAt (r : Nat × Nat) (slot line col ch : Nat) : Nat := r.1 + Config.imagePlace slot line col ch % max 1 r.2

/-- The machine-vision channels of a lane, by format. -/
def DieState.laneFmts (d : DieState) (n : Nat) : List Nat :=
  match d.laneGroup n with
  | some g => (d.out g).mv.map (fun e => e.2.2.1)
  | none => []

/-- The stores of bytes at places of a die's DRAM. -/
def DieState.dramBytes (d : DieState) (cs : List Host.Cell) : List Host.Cell := cs.flatMap (fun c => d.dramStore c.1 [c.2])

/-- A byte of a die's DRAM, as it reads. -/
def DM.dramByte (x : DM) (a : Nat) : Byte := (x.d.dramRead x.mem a 1).getD 0 0

/-- The columns of a strip. -/
def Strip.cols (z : Strip) : List Nat := (List.range (z.colB + 1 - z.colA)).map (· + z.colA)

/-- The stores that put a line of the line store into slot `k`, whose crop begins with line `first`. -/
def DieState.slotLine (d : DieState) (r : Nat × Nat) (n k first : Nat) (z : Strip) : List Host.Cell :=
  match d.ptk.store.find? (fun l => l.lane == n && l.serial == z.serial) with
  | none => []
  | some l =>
    d.dramBytes (z.cols.flatMap (fun col =>
      (List.range (d.laneFmts n).length).map (fun ch => (pixelAt r k (z.serial - first) col ch, BitVec.ofNat 8 ((l.px.getD col []).getD ch 0)))))

/-- The stores that copy an absorbed crop into slot `k` (R150). -/
def DM.slotMerge (x : DM) (r : Nat × Nat) (n k first : Nat) (q : Absorbed) : List Host.Cell :=
  x.d.dramBytes (q.crop.flatMap (fun z => z.cols.flatMap (fun col =>
    (List.range (x.d.laneFmts n).length).map (fun ch =>
      (pixelAt r k (z.serial - first) col ch, x.dramByte (pixelAt r q.slot (z.serial - q.first) col ch))))))

/-- The image store at the end of a step: into the slot of each assembled part go the crops that it absorbed and its lines of the step. A CORRUPT part's are masked to
zero (R149). -/
def DM.imageStore (x : DM) : DM :=
  (x.d.ptk.parts.filter (fun p => x.d.asm p.lane && p.kind == PartKind.slotted && (!p.pend.isEmpty || !p.merges.isEmpty))).foldl (fun (x : DM) p =>
    let k := p.slot.getD 0
    let mask (ws : List Host.Cell) : List Host.Cell := if p.outs.contains 6 then ws.map (fun c => (c.1, 0)) else ws
    let x := match x.d.imageRegion with
      | none => x
      | some r =>
        let x := p.merges.foldl (fun (x : DM) q => x.store (mask (x.slotMerge r p.lane k p.first q))) x
        p.pend.foldl (fun (x : DM) z => x.store (mask (x.d.slotLine r p.lane k p.first z))) x
    x.onD (fun d => d.modPart p.seq (fun (q : Part) =>
      { q with crop := q.pend.foldl addStrip ((q.merges.flatMap Absorbed.crop).foldl addStrip q.crop), pend := [], merges := [] }))) x

/-- A crop: its height, its width, and its pixels by line, column and channel. -/
def DM.crop (x : DM) (p : Part) : Nat × Nat × (Nat → Nat → Nat → Nat) :=
  let m := (x.d.lane p.lane).cropMargin
  let a := p.colA - m
  (p.last + 1 - p.first, p.colB + m + 1 - a, fun line col ch =>
    match x.d.imageRegion with
    | none => 0
    | some r => (x.dramByte (pixelAt r (p.slot.getD 0) line (col + a) ch)).toNat)

/-- A view's bytes, line by line, column by column (R153): the shift by (dx, dy), with edge pixels repeated, then the flips about the centre, then the gain on the
UINT8 channels. `ps`: dx + 1, dy + 1, hflip, vflip, gain. -/
def viewBytes (fmts : List Nat) (h w : Nat) (px : Nat → Nat → Nat → Nat) (ps : List Nat) : List Byte :=
  let at_ (n i s : Nat) : Nat := min (n - 1) (i + 1 - s)
  (List.range h).flatMap (fun y => (List.range w).flatMap (fun x =>
    let y1 := at_ h (if ps.getD 3 0 = 1 then h - 1 - y else y) (ps.getD 1 1)
    let x1 := at_ w (if ps.getD 2 0 = 1 then w - 1 - x else x) (ps.getD 0 1)
    ((List.range fmts.length).zip fmts).map (fun e =>
      let v := px y1 x1 e.1
      BitVec.ofNat 8 (if e.2 = 0 then min 255 ((v * ps.getD 4 65536 + 32768) / 65536) else v))))

/-- The views of a part. -/
def DM.sendViews (x : DM) (p : Part) (n : Nat) : DM :=
  let c := x.d.lane p.lane
  let k := x.crop p
  x.onD (fun d => (List.range n).foldl (fun d i =>
    let ps := viewParams d.ptk.seed p.lane p.num i c.ttaOps c.ttaJitter
    d.send .dataNet (3 :: p.lane :: p.num :: i :: ps) (viewBytes (d.laneFmts p.lane) k.1 k.2.1 k.2.2 ps)) d)

/-- The assembled batch of the step: 64 views (R152, R153). A part whose views do not all fit is carried, and none after it is taken before
it. -/
def DM.asmBatch (x : DM) : DM :=
  ((x.d.readyParts true).foldl (fun (y : DM × Nat) p =>
    let x := y.1
    let v := max 1 (x.d.lane p.lane).ttaViews
    if v ≤ y.2 then
      ((x.onD (fun d => d.modPart p.seq (fun q => { q with batchAt := some d.seq.step }))).sendViews p v, y.2 - v)
    else (x.onD (fun d => (d.count (rPTK_CNT + 16) 1).raise rPTK_STATUS 4), 0)) (x, 64)).1

/-! ### Phase 5: retirement (R148, R152) -/

/-- A part retires with the head's result: what is final already stays so, and a verdict computed for a LATE part is discarded and counted (R65); else the Comparator
will decide. -/
def DieState.retire (d : DieState) (p : Part) (cls : Option Nat) (conf : Nat) (feat : List Byte) : DieState :=
  let d := (d.count (rPTK_CNT + 4) 1).modPart p.seq (fun q =>
    { q with retired := some d.seq.step, leaving := true, primary := some cls, conf := conf, feat := feat })
  let d := if p.final = some 3 then { d with ptk := { d.ptk with lateVerdicts := d.ptk.lateVerdicts + 1 } } else d
  match d.partOf p.seq with
  | none => d
  | some p => if p.final.isNone && !p.outs.isEmpty then d.decideOuts p else d

/-- PART_RETIRE: the next ready part, up to 16 in a step. `cls`: none for PASS, else the reject class; `conf` the confidence (R379); `feat` its compiled feature vector
(R154). -/
def partRetire (cls : Option Nat) (conf : Nat) (feat : List Byte) (d : DieState) : DieState :=
  if !d.stepping ∨ 16 ≤ d.ptk.retiredNow then d
  else
    match d.readyParts false with
    | [] => d
    | p :: _ => { d with ptk := { d.ptk with retiredNow := d.ptk.retiredNow + 1 } }.retire p cls conf feat

/-- ASSEMBLED_VERDICT: the next assembled part batched ASM_LATENCY steps ago (R152). -/
def assembledVerdict (cls : Option Nat) (conf : Nat) (feat : List Byte) (d : DieState) : DieState :=
  match sortBy readyLt (d.ptk.parts.filter (fun p =>
      p.retired.isNone && (match p.batchAt with | some b => decide (b + (d.lane p.lane).asmLatency ≤ d.seq.step) | none => false))) with
  | [] => d
  | p :: _ => if d.stepping then d.retire p cls conf feat else d

/-! ### Phase 6: closes and leaves (R131, R143, R144, R148) -/

/-- A part's descriptor (R136): lane, number, lead and trailing position, column extent, first and last line, gap count, replaced lines, slot (0: none, else its number
plus 1), the outcomes that apply, and the last run set. -/
def Part.descriptor (p : Part) : List Nat :=
  [p.lane, p.num, ofSigned 64 p.leadPos, ofSigned 64 p.trailPos, p.colA, p.colB, p.first, p.last, p.gap, p.repl,
    (match p.slot with | some k => k + 1 | none => 0), (p.outs.map (fun c => 2 ^ c)).foldl (· + ·) 0] ++ p.runs.flatMap (fun r => [r.1, r.2])

/-- PART_CLOSE: at the end of the step every part that is closing closes, creates its events (R313) and goes to the Checker (R148); tails
end. -/
def partClose (d : DieState) : DieState :=
  if !d.stepping then d
  else
    let d := d.toCycle 19999
    let cs := sortBy partLt (d.ptk.parts.filter (fun p => p.isOpen && p.closing))
    cs.foldl (fun d p =>
      let d := d.modPart p.seq (fun q => { q with isOpen := false, closing := false, closedAt := some d.seq.step })
      if p.kind = .tail then d.modPart p.seq (fun q => { q with leaving := true })
      else (d.createEvents p).send .checker p.descriptor []) d

/-- Ghosts whose time has come are decided: the later of the step in which it became a ghost and the step after it closed (R143). -/
def DieState.ghosts (d : DieState) : DieState :=
  (sortBy partLt (d.ptk.parts.filter (fun p =>
    p.kind == PartKind.ghost && p.held && (match p.closedAt with | some c => decide (max p.ghostAt (c + 1) ≤ d.seq.step) | none => false)))).foldl
    (fun d p =>
      let d := d.modPart p.seq (fun q => { q with leaving := true })
      if p.final.isNone then d.decideOuts p else d) d

/-- A part is done: its final verdict decided and its descriptor free, or a tail that ended. -/
def Part.gone (p : Part) : Bool := !p.held && (p.final.isSome || p.kind == .tail)

/-- Parts leave: slots and descriptors freed, readiness, and the registers that show it. A part's descriptor is freed at the end of the step in which it retires, as R144 says; R136
keeps it until the final verdict is decided. (DESIGN CHOICE, log entry 24.) -/
def DieState.ptkLeave (d : DieState) : DieState :=
  let d := d.modParts (·.leaving) (fun p => { p with leaving := false, held := false, slot := none, merges := [] })
  let step := d.seq.step
  let d := { d with ptk := { d.ptk with
      parts := d.ptk.parts.filter (fun p => !p.gone)
      freeing := 0
      retiredNow := 0
      store := d.ptk.store.filter (fun l => decide (step < l.step + 4)) } }
  let d := d.modParts (fun p => p.kind == PartKind.slotted && p.held && p.closedAt.isSome && p.readyAt.isNone && p.pend.isEmpty && p.merges.isEmpty)
    (fun p => { p with readyAt := some (step + 1) })
  let d := (d.ptk.cfg.map (·.1)).foldl (fun d n =>
    let f := d.freeSlots n
    let r := rPTK_POOL_FREE + 4 * n
    (d.setFld r 12 0 f).setFld r 28 16 (min (d.fld r 28 16) f)) d
  let n := d.ptk.queue.length
  (d.setFld rPTK_QUEUE 6 0 n).peakFld rPTK_QUEUE 22 16 n

/-- The end of a step in the Part Tracker: image store, batches, ghosts, leaves. -/
def ptkEnd (x : DM) : DM := ((x.imageStore.onD DieState.headBatch).asmBatch).onD (fun d => d.ghosts.ptkLeave)

/-- The two instances of the Part Tracker disagree (R156). -/
def DieState.dupMismatch (d : DieState) : DieState :=
  let d := if d.flag rPTK_STATUS 7 then d else d.wr64 rPTK_DUP_STEP_LO d.seq.step
  (d.raise rPTK_STATUS 7).detect 9

/-! ### The commands -/

/-- LINE_ADMISSION: die, group, the line's number. -/
def execLineAdmission (d : Die) (g : Fin 8) (k : BitVec 64) (s : State) : Host.Outcome State Fault Refusal :=
  .next (s.onDieMem d (fun _ mem x => (lineAdmission g.val k.toNat mem x, [])))
/-- HALO_UNMATCHED: die, lane, side (true: left). -/
def execHaloUnmatched (d : Die) (n : Fin 32) (left : Bool) (s : State) : Host.Outcome State Fault Refusal := .next (s.onDie d (haloUnmatched n.val left))
/-- UNADMITTED. -/
def execUnadmitted (d : Die) (s : State) : Host.Outcome State Fault Refusal := .next (s.onDie d unadmitted)
/-- PART_CLOSE. -/
def execPartClose (d : Die) (s : State) : Host.Outcome State Fault Refusal := .next (s.onDie d partClose)
/-- PART_RETIRE: the reject class, none for PASS; the confidence with the feature vector. -/
def execPartRetire (d : Die) (cls : Option (Fin 64)) (out : BitVec 15 × List (BitVec 8)) (s : State) : Host.Outcome State Fault Refusal :=
  .next (s.onDie d (partRetire (cls.map (·.val)) out.1.toNat out.2))
/-- ASSEMBLED_VERDICT. -/
def execAssembledVerdict (d : Die) (cls : Option (Fin 64)) (out : BitVec 15 × List (BitVec 8)) (s : State) : Host.Outcome State Fault Refusal :=
  .next (s.onDie d (assembledVerdict (cls.map (·.val)) out.1.toNat out.2))

end Sys2Proof.Machine
end

