-- ==== Sys2Proof/Machine/Items.lean ====
section
/-! DEFINITION. External data (spec/02 R42 to R47): arrival and admission of items, step tags, latch pairs and input frames. -/

namespace Sys2Proof.Machine

/-- An item sets out for the core domain. -/
def DieState.post (d : DieState) (tag : Option Nat) (p : Payload) : DieState := { d with items := d.items ++ [⟨tag, none, p⟩] }

/-- A line-state frame (R370): it acts at once where no step runs. -/
def Payload.lineState (p : Payload) : Bool :=
  match p with | .recipeSelect _ _ _ => true | .lineRunning _ => true | .operatorAck => true | _ => false

/-- The first item on its way that `c` selects arrives now (R42): external data that arrives before step 0 is discarded, but for line-state
frames, which act at once there (R45, R32); a step-tagged item that arrives later than the step after its tag is discarded (R44). -/
def arriveFirst (now : Nat) (stepping : Bool) (c : Item → Bool) (l : List Item) : List Item × Bool :=
  match l with
  | [] => ([], false)
  | x :: r =>
    if x.arrival.isNone && c x then
      if !stepping && !x.body.lineState then (r, false)
      else
        match x.tag with
        | some t => if t + 1 < now then (r, true) else ({ x with arrival := some now } :: r, false)
        | none => ({ x with arrival := some now } :: r, false)
    else let q := arriveFirst now stepping c r; (x :: q.1, q.2)

/-- Arrival on one die. -/
def DieState.arrive (d : DieState) (c : Item → Bool) : DieState :=
  let r := arriveFirst d.seq.step d.stepping c d.items
  let d := { d with items := r.1 }
  if r.2 then d.admitMiss else d

/-- An item that misses its admission is discarded and counted (R44). -/
def DieState.missItem (d : DieState) (c : Item → Bool) : DieState :=
  match d.items.find? (fun x => x.arrival.isNone && c x) with
  | some x => ({ d with items := d.items.erase x } : DieState).admitMiss
  | none => d

/-- ITEM_ARRIVAL: the `i`-th item of die `die` that has not arrived yet. In Paired mode die A decides the arrival of line-state frames for
both dies; `miss`: its decision reaches die B after the admission step, and the frame is missing there (R44, R47). (DEDUCED, log entry 18.) -/
def itemArrival (die : Die) (i : Nat) (miss : Bool) (w : Whole) : Whole :=
  match ((w.die die).items.filter (fun x => x.arrival.isNone))[i]? with
  | none => w
  | some x =>
    if w.paired && x.body.lineState then
      if die = .b then w else (w.onDie .a (fun d => d.arrive (· == x))).onDie .b (fun d =>
        if miss && d.stepping then d.missItem (fun y => y.body == x.body) else d.arrive (fun y => y.body == x.body))
    else w.onDie die (fun d => d.arrive (· == x))

/-- The first item that `c` selects and whose admission step has come: arrival step + 2, or its tag + 2 (R43). In states without steps a
line-state frame is due at once. (DEDUCED, log entry 18.) -/
def DieState.due (d : DieState) (c : Payload → Bool) : Option Item :=
  d.items.find? (fun x => c x.body &&
    (match x.arrival with
     | none => false
     | some a => if d.stepping then decide (x.tag.getD a + 2 ≤ d.seq.step) else true))

/-- The items without one of them. -/
def DieState.without (d : DieState) (x : Item) : DieState := { d with items := d.items.erase x }

/-- CHECKER_MESSAGE: the Checker has judged a part (`a` lane, `b` number, `v` class) or a sample (`a` sensor, `b` number, `v` FP32 value); for a
part that uses a line whose tap CRC failed it sends nothing (R336). -/
def checkerMessage (m : ChkMsg) (d : DieState) : DieState :=
  if m.part && d.ptk.parts.any (fun p => p.lane == m.a && p.num == m.b && p.tap) then d else d.post none (.checker m)

/-- CHECKER_MESSAGE_ADMISSION. -/
def checkerAdmission (d : DieState) : DieState :=
  match d.due (fun p => match p with | .checker _ => true | _ => false) with
  | some x => match x.body with | .checker m => if d.stepping then (d.without x).checkerArrives m else d.without x | _ => d
  | none => d

/-- HALO_ADMISSION. -/
def haloAdmission (d : DieState) : DieState :=
  match d.due (fun p => match p with | .halo _ _ _ _ _ => true | _ => false) with
  | some x => match x.body with | .halo n l pos cols data => if d.stepping then (d.without x).haloAdmit n l pos cols data else d.without x | _ => d
  | none => d

/-- STEP_TAG_ADMISSION (R43, R308): the tag of boundary S in step S + 2, with the other die's entries; `miss`: their copy missed admission. (DEDUCED, log entry 18.) (DEDUCED, log entry 26.) -/
def stepTagAdmission (die : Die) (miss : Bool) (w : Whole) : Whole :=
  let other := w.die die.other
  w.onDie die (fun d =>
    match d.pos.tags.find? (fun t => t.step + 2 == d.seq.step) with
    | none => d
    | some t =>
      if !d.stepping then d
      else
        let copy := if miss || d.fld rTWL_PEER 1 0 == 2 then none else other.pos.tags.find? (fun y => y.step == t.step)
        let blank : TagEnt := { (default : TagEnt) with remote := true }
        let remote : Tbl TagEnt := other.ownChans.map (fun c =>
          (c, match copy with | some y => { tget y.ents c blank with remote := true } | none => blank))
        let ents := if d.die == .a then t.ents ++ remote else remote ++ t.ents
        let t := { t with ents := ents }
        let d := if miss then d.admitMiss else d
        ({ d with pos := { d.pos with last := some t } }).reverseCancel t)

/-- LATCH_PAIR_ADMISSION (R43, R304): the latch pair of unit `k` latched in step S, in step S + 2. -/
def latchAdmission (k : Nat) (d : DieState) : DieState :=
  match d.pos.latches.find? (fun l => l.unit == k && decide (l.step + 2 ≤ d.seq.step)) with
  | none => d
  | some l =>
    if !d.stepping then d
    else { d with pos := { d.pos with latches := d.pos.latches.erase l, admitted := (d.pos.admitted ++ [l]).drop (d.pos.admitted.length - 31) } }

/-- INPUT_FRAME_ADMISSION (R331): both frames of boundary S in step S + 2; endpoint NIB sends them to the tiles that the active recipe
names. `miss`: the other die's copy missed admission. (DEDUCED, log entry 18.) -/
def inputFrameAdmission (die : Die) (miss : Bool) (w : Whole) : Whole :=
  let other := w.die die.other
  w.onDie die (fun d =>
    match d.nib.frames.find? (fun f => f.1 + 2 == d.seq.step) with
    | none => d
    | some f =>
      if !d.stepping then d
      else
        let copy := if miss || d.fld rTWL_PEER 1 0 == 2 then none else other.nib.frames.find? (fun y => y.1 == f.1)
        let rb := match copy with | some y => y.2.1 | none => 0
        let rw := match copy with | some y => y.2.2 | none => 0xFFFF
        let st := if d.die == .a then f.2.1 + 65536 * rb else rb + 65536 * f.2.1
        let wb := if d.die == .a then f.2.2 + 65536 * rw else rw + 65536 * f.2.2
        let d := (d.wr rFIO_IN_STAT st).wr rFIO_IN_WB wb
        let data := leBytes 4 st ++ leBytes 4 wb ++ leBytes 8 f.1 ++ List.replicate 48 (0 : Byte)
        let xs := (d.nib.inTiles.filter (fun t => t.1 == d.fld rCTX_CHG 3 0)).map (fun t =>
          (⟨259, t.2, d.seq.step * 20000 + 48, data, false⟩ : Xfer))
        let d := { d with tar := { d.tar with net := d.tar.net ++ xs } }
        let d := if miss then d.admitMiss else d
        if copy.isNone then d.modParts (fun p => p.held && p.kind != .tail && (d.lane p.lane).usesInputs) (fun p => p.mark 7) else d)

/-! ### The commands -/

/-- ITEM_ARRIVAL: die; which of the items that have not arrived, and whether die A's decision misses die B. -/
def execItemArrival (d : Die) (x : Fin 256 × Bool) (s : State) : Host.Outcome State Fault Refusal := .next (s.onWhole (itemArrival d x.1.val x.2))
/-- CHECKER_MESSAGE: a part (lane, number, class) or a sample (sensor, number, FP32 value). -/
def execCheckerMessage (d : Die) (part : Bool) (a : BitVec 16) (b v : BitVec 32) (s : State) : Host.Outcome State Fault Refusal :=
  .next (s.onDie d (checkerMessage ⟨part, a.toNat, b.toNat, v.toNat⟩))
/-- CHECKER_MESSAGE_ADMISSION. -/
def execCheckerMessageAdmission (d : Die) (s : State) : Host.Outcome State Fault Refusal := .next (s.onDie d checkerAdmission)
/-- HALO_ADMISSION. -/
def execHaloAdmission (d : Die) (s : State) : Host.Outcome State Fault Refusal := .next (s.onDie d haloAdmission)
/-- STEP_TAG_ADMISSION: die; whether the other die's copy missed admission. -/
def execStepTagAdmission (d : Die) (miss : Bool) (s : State) : Host.Outcome State Fault Refusal := .next (s.onWhole (stepTagAdmission d miss))
/-- LATCH_PAIR_ADMISSION: die, capture unit. -/
def execLatchPairAdmission (d : Die) (k : Fin 8) (s : State) : Host.Outcome State Fault Refusal := .next (s.onDie d (latchAdmission k.val))
/-- INPUT_FRAME_ADMISSION: die; whether the other die's copy missed admission. -/
def execInputFrameAdmission (d : Die) (miss : Bool) (s : State) : Host.Outcome State Fault Refusal := .next (s.onWhole (inputFrameAdmission d miss))

end Sys2Proof.Machine
end

