-- ==== Sys2Proof/Machine/Result.lean ====
section
/-! DEFINITION. Results (spec/15 R365 to R367, R375 to R381, R323): records and frames as bytes, seals, the launch-time queue, header-only
and SAFE-STATE frames. -/

namespace Sys2Proof.Machine

/-! ### Bytes (R367, R377, R379, R380) -/

/-- The ones' complement sum of a byte string in 16-bit words. -/
def sum16 (bs : List Byte) : Nat :=
  match bs with
  | [] => 0
  | [a] => a.toNat * 256
  | a :: b :: r => a.toNat * 256 + b.toNat + sum16 r

/-- The Internet checksum of a sum. -/
def checksum (n : Nat) : Nat :=
  let f (n : Nat) : Nat := n / 65536 + n % 65536
  0xFFFF - f (f (f n))

/-- An Ethernet frame with a UDP datagram for destination `k` (R366, R367), without its FCS. (DEDUCED, log entry 33.) -/
def DieState.udpFrame (d : DieState) (k port seq : Nat) (data : List Byte) : List Byte :=
  let x : Dest := tget d.net.dests k default
  let pcp := d.fld (rNET_DEST + 4 * k) 7 5
  let len := 8 + data.length
  let ipHead (ck : Nat) : List Byte :=
    beBytes 2 (0x4500 + 4 * x.dscp) ++ beBytes 2 (20 + len) ++ beBytes 2 seq ++ beBytes 2 0x4000 ++ beBytes 2 0x4011 ++ beBytes 2 ck ++
      beBytes 4 d.net.ip ++ beBytes 4 x.ip
  let ck := checksum (sum16 (ipHead 0))
  let udp (c : Nat) : List Byte := beBytes 2 port ++ beBytes 2 port ++ beBytes 2 len ++ beBytes 2 c ++ data
  let c := checksum (sum16 (beBytes 4 d.net.ip ++ beBytes 4 x.ip ++ beBytes 2 17 ++ beBytes 2 len ++ udp 0))
  beBytes 6 x.mac ++ beBytes 6 d.net.mac ++ beBytes 2 0x8100 ++ beBytes 2 (pcp * 8192 + x.vid) ++ beBytes 2 0x0800 ++ ipHead ck ++
    udp (if c = 0 then 0xFFFF else c)

/-- Byte 1 of a record: `low` bits, TIME_LOST and EPOCH_DIFF. -/
def timeBits (t : TagTime) (epoch lostAt : Nat) : Nat := (b2n t.lost + 2 * b2n (t.epoch != epoch)) * 2 ^ lostAt

/-- A Verdict Record (R379). -/
def VRec.bytes (r : VRec) (epoch : Nat) : List Byte :=
  beBytes 1 r.lane ++ beBytes 1 (r.verdict + 16 * r.agree + timeBits r.time epoch 6) ++ beBytes 1 (if r.verdict = 1 ∨ r.verdict = 2 then r.cls else 0) ++
    beBytes 1 r.recipe ++ beBytes 4 r.num ++ beBytes 2 r.conf ++ beBytes 2 0 ++ beBytes 8 (ofSigned 64 r.lead) ++ beBytes 4 r.span ++ beBytes 8 r.time.time

/-- A Soft-Sensor Record (R380). -/
def SRec.bytes (r : SRec) (epoch : Nat) : List Byte :=
  beBytes 2 r.sensor ++ beBytes 1 (r.cause + timeBits r.time epoch 4) ++ beBytes 1 r.lane ++ beBytes 4 r.value ++ beBytes 8 (ofSigned 64 r.pos) ++
    beBytes 8 r.time.time

/-- What the headers of one frame set share. -/
structure SetHead where
  fmt     : Nat
  invalid : Bool
  armed   : Bool
  lost    : Bool
  epoch   : Nat
  step    : Nat
  block   : List Byte

/-- The header of a frame (R377). -/
def DieState.frameHead (d : DieState) (h : SetHead) (last : Bool) (frag nv ns : Nat) : List Byte :=
  beBytes 1 h.fmt ++
    beBytes 1 (b2n h.invalid + 2 * b2n h.armed + 4 * b2n h.lost + 8 * b2n last + 16 * b2n d.paired + 32 * d.fld rSTM_MODE 0 0) ++ beBytes 2 h.epoch ++
    beBytes 4 d.net.seq ++ beBytes 4 (d.netAddr + 2 ^ 19 * frag + 2 ^ 24 * min d.net.dropped 255) ++ beBytes 2 nv ++ beBytes 2 ns ++ beBytes 8 h.step ++ h.block

/-! ### Packing (R375) -/

/-- A packed frame: its number and bytes. -/
structure Packed where
  seq  : Nat
  data : List Byte

/-- Frames filled greedily, soft-sensor records first, at most `fuel`; what does not fit. -/
def packFrames (fuel frag : Nat) (h : SetHead) (ss : List SRec) (vs : List VRec) (lostVs : Nat → Nat) (d : DieState) (acc : List Packed) :
    DieState × List Packed × List SRec × List VRec :=
  match fuel with
  | 0 => (d, acc, ss, vs)
  | f + 1 =>
    let room := 1472 - 24 - h.block.length
    let ns := min ss.length (room / 24)
    let nv := min vs.length ((room - 24 * ns) / 32)
    let restS := ss.drop ns
    let restV := vs.drop nv
    let last := (restS.isEmpty && restV.isEmpty) || f == 0
    let d := if last then { d with net := { d.net with dropped := d.net.dropped + lostVs (restS.length + restV.length) } } else d
    let data := d.frameHead h last frag nv ns ++ ((ss.take ns).map (·.bytes h.epoch)).flatten ++ ((vs.take nv).map (·.bytes h.epoch)).flatten
    let p : Packed := ⟨d.net.seq, data⟩
    let d := { d with net := { d.net with seq := (d.net.seq + 1) % 2 ^ 32, dropped := 0 } }
    if last then (d, acc ++ [p], restS, restV) else packFrames f (frag + 1) h restS restV lostVs d (acc ++ [p])

/-- The result destinations on port `p`, in order (R376). -/
def DieState.resultDests (d : DieState) (p : Nat) : List Nat :=
  (List.range 16).filter (fun k => (d.destPorts k).contains p && (d.fld (rNET_DEST + 4 * k) 1 0 == 0 || d.fld (rNET_DEST + 4 * k) 1 0 == 2))

/-- The die publishes: in Paired mode only the owner of the outputs does (R375). -/
def Whole.publishes (w : Whole) (d : Die) : Bool := !w.paired || (if w.mod.field.taken then d == .b else d == .a)

/-- A set joins the launch-time queue: frame f to the j-th destination of a port at base + (f × D + j) × gap (R376, R381). -/
def DieState.queueSet (d : DieState) (kind base gap : Nat) (now : Bool) (ps : List Packed) : DieState :=
  let one (p : Nat) : List QFrame :=
    let ds := d.resultDests p
    ((List.range ps.length).map (fun f => (List.range ds.length).map (fun j =>
      let x := ps.getD f ⟨0, []⟩
      { kind := kind, dest := ds.getD j 0, port := p, at_ := base + (f * ds.length + j) * gap, epoch := d.epoch, seq := x.seq, now := now, data := x.data }))).flatten
  { d with net := { d.net with queue := d.net.queue ++ one 0 ++ one 1 } }

/-- Soft-sensor records by sensor and sample. -/
def srecLt (a b : SRec) : Bool := decide (a.sensor < b.sensor ∨ (a.sensor = b.sensor ∧ a.num < b.num))

/-- Verdict records oldest first: by step, lane, part (R375). -/
def vrecLt (a b : VRec) : Bool :=
  decide (a.step < b.step ∨ (a.step = b.step ∧ (a.lane < b.lane ∨ (a.lane = b.lane ∧ a.seq < b.seq))))

/-- Seal k of the run falls on boundary floor(k × P / 20) (R64). -/
def DieState.sealDue (d : DieState) : Bool := d.net.seals * (25 * d.fld rNET_RES_CFG 11 0) / 20 == d.seq.step

/-- Samples assigned to the frame being sealed that have no decided value: published INVALID, cause LATE (R64), or SAFE_STATE in SAFE
(R381). -/
def DieState.lateSamples (d : DieState) (xs : List SampleIn) : DieState :=
  xs.foldl (fun d x =>
    let key := (x.sensor.toNat, x.num.toNat)
    if d.chk.done.contains key then d
    else
      let r : SRec := { sensor := key.1, num := key.2, cause := if d.dev = .safe then 9 else 3, lane := (tget d.chk.sensors key.1 default).lane, value := 0x7FC00000,
                        pos := x.pos.toInt, time := ⟨x.time.toNat, x.epoch.toNat, x.lost⟩, frame := d.net.seals }
      { d with net := { d.net with srecs := d.net.srecs ++ [r] }, chk := { d.chk with done := key :: d.chk.done } }) d

/-- The regular seal of boundary B (R375 to R378). `pub`: the die publishes; `late`: samples of this frame without a value. -/
def DieState.sealFrame (d : DieState) (pub : Bool) (late : List SampleIn) : DieState :=
  let d := d.lateSamples late
  let k := d.net.seals
  let ss := sortBy srecLt (d.net.srecs.filter (fun r => decide (r.frame ≤ k)))
  let vs := sortBy vrecLt d.net.recs
  let h : SetHead := { fmt := 1, invalid := d.net.safeSent, armed := false, lost := d.pos.cur.lost, epoch := d.pos.cur.epoch, step := d.seq.step, block := [] }
  let d := { d with net := { d.net with seals := k + 1, srecs := d.net.srecs.filter (fun r => decide (k < r.frame)) } }
  let r := packFrames (d.fld rNET_RES_CFG 26 22 + 1) 0 h ss vs (fun _ => 0) d []
  let d := { r.1 with net := { r.1.net with recs := r.2.2.2 } }
  let d := d.count (rNET_CNT + 4) r.2.2.2.length
  if pub then d.queueSet 1 (d.pos.cur.time + 1000 * d.fld rNET_RES_CFG 21 12) 13000 false r.2.1 else d

/-- The SAFE block (R381). -/
def DieState.safeBlock (d : DieState) (step : Nat) : List Byte :=
  beBytes 1 (d.fld rCHK_SAFE_FIRST 4 0) ++ [0, 0, 0] ++ beBytes 4 (d.rd rCHK_SAFE_CAUSE % 2 ^ 19) ++ beBytes 8 step

/-- The SAFE-STATE seal of boundary E (R381): every record decided before it; what does not fit in 32 frames is dropped. -/
def DieState.sealSafe (d : DieState) (pub : Bool) : DieState :=
  let h : SetHead := { fmt := 2, invalid := false, armed := false, lost := d.pos.cur.lost, epoch := d.pos.cur.epoch, step := d.seq.step, block := d.safeBlock d.seq.step }
  let d := if d.sealDue then { d with net := { d.net with seals := d.net.seals + 1 } } else d
  let r := packFrames 32 0 h (sortBy srecLt d.net.srecs) (sortBy vrecLt d.net.recs) (fun n => n) d []
  let lost := r.2.2.1.length + r.2.2.2.length
  let d := { r.1 with net := { r.1.net with recs := [], srecs := [], safeSent := true } }
  let d := if lost = 0 then d else (d.count (rNET_CNT + 8) lost).raise rNET_STATUS 3
  if pub then d.queueSet 2 d.ptpNow.toNat 0 true r.2.1 else d

/-! ### Launching (R365, R367) -/

/-- The queue's order: frames to start at once, then by launch time, valve frames first, then destination. -/
def launchLt (a b : QFrame) : Bool :=
  (a.now && !b.now) || (a.now == b.now && decide (a.at_ < b.at_ ∨ (a.at_ = b.at_ ∧ (a.kind < b.kind ∨ (a.kind = b.kind ∧ a.dest < b.dest)))))

/-- Local time goes on until the PTP timer shows `t`. -/
def DieState.untilPtp (d : DieState) (t : Nat) : DieState :=
  let k : Int := 1000000000 + d.ptp.rate
  if d.ptpNow < t ∧ 0 < k then d.at (d.clk + ((((t : Int) - d.ptpNow) * 1000000000 + k - 1) / k).toNat) else d

/-- The port's link is up (R367). -/
def DieState.portUp (d : DieState) (p : Nat) : Bool := d.flag rNET_PORT p

/-- A frame leaves the queue: discarded where the port has no link, else sent; late or of an earlier epoch, it slips (R365, R376). (DEDUCED, log entry 33.) -/
def DieState.launch (d : DieState) (f : QFrame) : DieState :=
  let d := { d with net := { d.net with queue := d.net.queue.erase f } }
  let old := f.epoch != d.epoch
  let d := if old || f.now then d else d.untilPtp f.at_
  if !d.portUp f.port then d.count (rNET_CNT + 16) 1
  else
    let late := !f.now && (old || decide ((f.at_ : Int) + 16 < d.ptpNow))
    let d := if late then (d.count (rNET_CNT + 12) 1).raise rNET_STATUS 2 else d
    let udp := if f.kind = 0 then 48403 else (tget d.net.dests f.dest default).udp
    let d := d.send (if f.kind = 0 then .valveFrame else if f.kind = 1 then .resultFrame else .safeFrame) [f.dest, f.port] (d.udpFrame f.dest udp f.seq f.data)
    if f.kind = 0 then
      if (d.destPorts f.dest).head? = some f.port then (d.nibCount 9 1).nibCount 1 ((f.data.getD 12 0).toNat) else d
    else d.count rNET_CNT 1

/-- REMOTE_FRAME_LAUNCH: the next remote valve frame (R323). -/
def remoteLaunch (d : DieState) : DieState :=
  match sortBy launchLt (d.net.queue.filter (fun f => f.kind == 0)) with
  | f :: _ => d.launch f
  | [] => d

/-- RESULT_FRAME_LAUNCH: the next result frame (R376). -/
def resultLaunch (d : DieState) : DieState :=
  match sortBy launchLt (d.net.queue.filter (fun f => f.kind == 1)) with
  | f :: _ => d.launch f
  | [] => d

/-- A record-less frame to every result destination, back to back (R378, R381). -/
def DieState.bareFrames (d : DieState) (h : SetHead) (kind : SentKind) : DieState :=
  let data := d.frameHead h true 0 0 0
  let seq := d.net.seq
  let d := { d with net := { d.net with seq := (seq + 1) % 2 ^ 32, dropped := 0 } }
  ([0, 1] : List Nat).foldl (fun d p => (d.resultDests p).foldl (fun d k =>
    if d.portUp p then (d.send kind [k, p] (d.udpFrame k (tget d.net.dests k default).udp seq data)).count rNET_CNT 1
    else d.count (rNET_CNT + 16) 1) d) d

/-- SAFE_STATE_FRAME: the queued SAFE-STATE set goes out back to back; with none queued, the record-less frame that a later cause owes
(R381). -/
def safeStateFrame (pub : Bool) (d : DieState) : DieState :=
  match d.net.queue.filter (fun f => f.kind == 2) with
  | f :: r => (f :: r).foldl (fun d f => d.launch f) d
  | [] =>
    match d.net.safeDue with
    | none => d
    | some (step, inv) =>
      let t := d.epoch
      let h : SetHead := { fmt := 2, invalid := inv, armed := false, lost := d.timeLost, epoch := t, step := step, block := d.safeBlock step }
      let d := { d with net := { d.net with safeDue := none, safeSent := true } }
      if pub then d.bareFrames h .safeFrame else d

/-- HEADER_ONLY_FRAME: in ARMED, RECOVERY and HALTED (R378, R33). -/
def headerOnly (pub : Bool) (d : DieState) : DieState :=
  if !pub ∨ !(d.dev == .armed || d.dev == .recovery || d.dev == .halted) then d
  else d.bareFrames { fmt := 1, invalid := d.dev != .armed, armed := d.dev == .armed, lost := d.timeLost, epoch := d.epoch, step := 0, block := [] } .resultFrame

/-! ### The commands -/

/-- REMOTE_FRAME_LAUNCH. -/
def execRemoteFrameLaunch (d : Die) (s : State) : Host.Outcome State Fault Refusal := .next (s.onDie d remoteLaunch)
/-- RESULT_FRAME_LAUNCH. -/
def execResultFrameLaunch (d : Die) (s : State) : Host.Outcome State Fault Refusal := .next (s.onDie d resultLaunch)
/-- SAFE_STATE_FRAME. -/
def execSafeStateFrame (d : Die) (s : State) : Host.Outcome State Fault Refusal :=
  .next (s.onWhole fun w => w.onDie d (safeStateFrame (w.publishes d)))
/-- HEADER_ONLY_FRAME. -/
def execHeaderOnlyFrame (d : Die) (s : State) : Host.Outcome State Fault Refusal :=
  .next (s.onWhole fun w => w.onDie d (headerOnly (w.publishes d)))

end Sys2Proof.Machine
end

