-- ==== Sys2Proof/Machine/SafeState.lean ====
section
/-! DEFINITION. SAFE (spec/14 R344 to R352): the entry and its reactions, the safety monitor, SAFE_OK and its test, and the clear
conditions. -/

namespace Sys2Proof.Machine

/-- The die may enter SAFE now: a cause is detected and not acted on; in RUN only at a step boundary (R32, R344). -/
def DieState.safeDueNow (d : DieState) : Bool :=
  d.chk.pending && (d.dev == .config || d.dev == .linkTrain || d.dev == .selfTest || d.dev == .armed || (d.dev == .run && d.seq.cycle == 0))

/-- Every pending event of the die is cancelled, and the remote valve frames still queued go with their entries (R347, R324). -/
def DieState.dropActions (d : DieState) : DieState :=
  let gone := d.net.queue.filter (fun f => f.kind == 0)
  let n := ((gone.filter (fun f => (d.destPorts f.dest).head? == some f.port)).map (fun f => (f.data.getD 12 0).toNat)).foldl (· + ·) 0
  let d := d.cancelEvents (fun _ => true)
  ({ d with net := { d.net with queue := d.net.queue.filter (fun f => f.kind != 0) } }).nibCount 5 n

/-- The die tells its peer its state over the die-to-die link (R406). -/
def DieState.tellState (d : DieState) : DieState := d.send .toDie [d.dev.code] []

/-- SAFE_ENTRY (R32, R33, R34, R347 to R349): state, events, outputs or RELEASE, SAFE_OK, frames, the lifetime commit. -/
def safeEntry (d : Die) (w : Whole) : Whole :=
  if !(w.die d).safeDueNow then w
  else
    let was := (w.die d).dev
    let pub := w.publishes d
    let w := w.onDie d (fun x =>
      let x := { x with chk := { x.chk with pending := false } }
      { ((x.setDev .safe).life (8 + d.num) 1).dropActions with line := false })
    let w := w.withdraw
    let w :=
      if w.paired && d == .a && !w.mod.field.taken then
        w.sendRelease.onDie .a (fun x => { x with cxp := { x.cxp with driving := false } })
      else w.safeActs w.now d
    let w := w.onDie d (fun x =>
      let x := x.safeOkOff.tellState
      if was == .run then x.sealSafe pub else { x with net := { x.net with safeDue := some (0, false) } })
    w.commit false

/-- CHK_SAFE_REQ: writing GO records FORCED (R344). -/
def chkSafeReq (v : Nat) (d : DieState) : DieState := if bit 31 v then d.detect 18 else d

/-- The monitor's own path: SAFE_OK off and the owned outputs at their SAFE_ACTION, without the core domain (R350). -/
def Whole.monitor (w : Whole) (d : Die) : Whole := (w.onDie d (fun x => (x.detect 5).safeOkOff)).safeActs w.now d

/-- CLOCK_DEVIATION (R350, R462). -/
def clockDeviation (d : Die) (w : Whole) : Whole := w.monitor d

/-- STEP_HEARTBEAT_LOSS: no boundary for 1 ms in RUN or SAFE (R350). -/
def heartbeatLoss (d : Die) (w : Whole) : Whole :=
  let x := w.die d
  if x.dev == .run || x.dev == .safe then (w.at (x.seq.stepAt + 1000000)).monitor d else w

/-- SAFE_OK_READBACK: the pad against the command; three mismatches in a row are the cause SAFE_OK (R332, R351). -/
def safeOkReadback (pad : Bool) (d : DieState) : DieState :=
  if pad = d.safeOk then { d with chk := { d.chk with okMiss := 0 } }
  else
    let n := d.chk.okMiss + 1
    let d := { d with chk := { d.chk with okMiss := n } }
    if n = 3 then d.detect 7 else d

/-- TEST_PULSE: at a boundary 3,000,000 × j of the run, in RUN (R351). -/
def testPulse (d : DieState) : DieState :=
  if d.flag rCHK_CFG 1 && d.dev == .run && d.seq.cycle == 0 && decide (0 < d.seq.step) && d.seq.step % 3000000 == 0 && d.safeOk then
    { d with chk := { d.chk with pulse := some (d.clk + 300000) } }
  else d

/-- TEST_PULSE_END: `high`: the readback stayed high through the pulse (R351). -/
def testPulseEnd (high : Bool) (d : DieState) : DieState :=
  match d.chk.pulse with
  | none => d
  | some e =>
    let d := { d.at e with chk := { d.chk with pulse := none, okMiss := 0 } }
    if high then d.detect 7 else d

/-- Every sensor below 100 °C, and every MR4 report at 4× or less: the clear condition of TEMP_CRIT (R344). -/
def DieState.cool (d : DieState) : Bool :=
  (List.range 16).all (fun n => decide (toSigned 16 (d.fld (rQLL_TEMP + 4 * n) 15 0) < 1600)) && !d.chk.mr4Over

/-- Every test age within its limit: the clear condition of SPARE_INTERVAL (R344, R122). -/
def DieState.agesOk (d : DieState) : Bool :=
  decide (d.maxAge false ≤ d.rd (Rot.limit false) ∧ d.maxAge true ≤ d.rd (Rot.limit true))

/-- Every recorded cause is non-latched and its clear condition holds (R352). -/
def DieState.causesClear (d : DieState) : Bool :=
  let c (k : Nat) : Bool := d.flag rCHK_SAFE_CAUSE k
  (List.range 19).all (fun k => !c k || causeNonLatched k) && (!c 4 || d.cool) && (!c 6 || d.fwlQuiet) && (!c 16 || d.agesOk)

/-! ### The commands -/

/-- SAFE_ENTRY. -/
def execSafeEntry (d : Die) (s : State) : Host.Outcome State Fault Refusal := .next (s.onWhole (safeEntry d))
/-- CLOCK_DEVIATION. -/
def execClockDeviation (d : Die) (s : State) : Host.Outcome State Fault Refusal := .next (s.onWhole (clockDeviation d))
/-- STEP_HEARTBEAT_LOSS. -/
def execStepHeartbeatLoss (d : Die) (s : State) : Host.Outcome State Fault Refusal := .next (s.onWhole (heartbeatLoss d))
/-- SAFE_OK_READBACK: the level read. -/
def execSafeOkReadback (d : Die) (pad : Bool) (s : State) : Host.Outcome State Fault Refusal := .next (s.onDie d (safeOkReadback pad))
/-- TEST_PULSE. -/
def execTestPulse (d : Die) (s : State) : Host.Outcome State Fault Refusal := .next (s.onDie d testPulse)
/-- TEST_PULSE_END: whether the readback stayed high. -/
def execTestPulseEnd (d : Die) (high : Bool) (s : State) : Host.Outcome State Fault Refusal := .next (s.onDie d (testPulseEnd high))

end Sys2Proof.Machine
end

