-- ==== Sys2Proof/Machine/Dram.lean ====
section
/-! DEFINITION. The memory system (spec/07): timetable positions, streams, deliveries, refresh slots, maintenance periods, phase tracking, channel
fences, and the Quill's DRAM window. -/

namespace Sys2Proof.Machine

/-- Change the Memory System. -/
def DieState.onMem (d : DieState) (f : Mem → Mem) : DieState := { d with mem := f d.mem }

/-- The cycle at which position `k` begins (R183). -/
def posCycle (k : Nat) : Nat := 10 * k / 3

/-! ### MR4 (R189, R53) -/

/-- TEMP_CRIT may be recorded again once its clear condition has held (R345). -/
def DieState.noteCool (d : DieState) : DieState :=
  if d.flag rCHK_SAFE_CAUSE 4 && d.cool && !d.chk.rearmed.contains 4 then { d with chk := { d.chk with rearmed := d.chk.rearmed ++ [4] } } else d

/-- The MR4 read of a channel: its refresh requirement (0 to 3); above 4× is REFRESH_OVER and critical temperature. -/
def DieState.mr4 (d : DieState) (ch code : Nat) : DieState :=
  let d := d.setFld (rMEM_CH + 4 * ch) 11 8 code
  let hot := (List.range 16).any (fun c => d.fld (rMEM_CH + 4 * c) 11 8 == 3)
  let d := { d with chk := { d.chk with mr4Over := hot } }
  if code = 3 then (d.raise rSYS_DET_STATUS 3).detect 4 else d.noteCool

/-- The refresh rates of the next step or period are those last reported (R189, R190). -/
def DieState.nextRates (d : DieState) : DieState :=
  d.onMem (fun m => { m with rates := (List.range 16).map (fun c => (c, d.fld (rMEM_CH + 4 * c) 11 8)) })

/-! ### Positions (R183 to R187) -/

/-- The owner of a section runs in this step (R184, R238, R169): the Quill and the Image Pipeline always do. -/
def DieState.ownerRuns (d : DieState) (s : Section) : Bool :=
  if s.owner = 0 then s.set == d.setOf d.inspCtx && d.chgPhase != 3 && !d.blind
  else if 2 ≤ s.owner ∧ s.owner ≤ 17 then d.axState (s.owner - 2) == axRunning
  else if s.owner = 18 then d.ctx.maint
  else s.owner == 19 || s.owner == 20

/-- The entry of position `k` of channel `ch` in this step, with its section's owner and the virtual tile it serves. -/
def DieState.entryAt (d : DieState) (ch k : Nat) : Option (TEntry × Nat × Nat) :=
  d.mem.sects.findSome? (fun s =>
    if d.ownerRuns s then
      (s.entries.find? (fun e => e.ch == ch && e.pos == k && e.frame == tget d.mem.frames s.owner 0 % max 1 s.period)).map (fun e =>
        (e, s.owner, if s.owner = 18 then 512 + e.vtile % 16 else if 2 ≤ s.owner then 16 * d.axBase (s.owner - 2) + e.vtile else e.vtile))
    else none)

/-- A burst goes out: channel, bank, row, column (R180); none on a FENCED channel (R193). -/
def DM.burst (x : DM) (ch a : Nat) (write : Bool) : DM :=
  if x.d.chFenced ch then x else x.onD (fun d => d.send .dram [3, ch, burstBank a, burstRow a, burstCol a, b2n write] [])

/-- What the first burst of a line has brought, or its second has still to write, is held. -/
def DM.hold (x : DM) (key : Nat) (bs : List Byte) : DM := x.onD (fun d => d.onMem (fun m => { m with held := tset m.held key bs }))

/-- It is held no more. -/
def DM.unhold (x : DM) (key : Nat) : DM := x.onD (fun d => d.onMem (fun m => { m with held := tdel m.held key }))

/-- A part of a line is written; MAINT writes only to the region of kind QUILL (R227). -/
def DM.writeLine (x : DM) (vt line off : Nat) (bs : List Byte) : DM :=
  let mayQuill : Bool := match x.d.regionOf line with | some r => r.kind == 10 | none => false
  if 512 ≤ vt ∧ !mayQuill then x else x.store (x.d.lineCells line off bs)

/-- A read of a dual-copy line whose primary lies on a FENCED channel reads the second copy, as a DRAM replay event (R193). -/
def DM.secondCopy (x : DM) (k line : Nat) : DM :=
  match x.d.copyOf line with
  | some l => if x.d.stepping && x.d.chFenced (lineChan line) && !x.d.chFenced (lineChan l) then x.onD (fun d => d.dramEvent (posCycle k) [34 + lineChan line]) else x
  | none => x

/-- A line is read in position `k`: it gets to endpoint MEM 180 active cycles later (R185). -/
def DM.issueRead (x : DM) (k line vt codec tfmt : Nat) (raw : List Byte) (scales : List (Nat × Byte)) : DM :=
  let r : DramRead := { due := x.d.acyc (posCycle k) + 180, line := line, vtile := vt, raw := raw, codec := codec, tfmt := tfmt, scales := scales }
  x.onD (fun d => d.onMem (fun m => { m with reads := m.reads ++ [r] }))

/-- The oldest `n` transfers of a tile that have arrived at endpoint MEM. -/
def DieState.takeXfers (d : DieState) (vt n : Nat) : Option (List Byte × DieState) :=
  let l := (d.tar.inbox.filter (fun t => t.dst == 260 && t.src == vt)).take n
  if l.length < n then none
  else some (l.flatMap (·.data), { d with tar := { d.tar with inbox := l.foldl (fun q t => q.erase t) d.tar.inbox } })

/-- A STATIC position: one of the two bursts of its line. A read takes each burst as it stands at its position; a write takes the line at its first burst
(R185). (DEDUCED, log entry 27.) -/
def DM.staticPos (x : DM) (ch k : Nat) (e : TEntry) (vt : Nat) : DM :=
  let key := 2 * e.line
  let n := firstBytes e.line
  let x := x.burst ch (lineBurst e.line + b2n e.last) e.write
  if e.write then
    if e.last then
      match tget? x.d.mem.held key with
      | some bs => (x.writeLine vt e.line n bs).unhold key
      | none => x
    else
      match x.d.takeXfers vt 1 with
      | some (bs, d) => (({ x with d := d } : DM).writeLine vt e.line 0 (bs.take n)).hold key (bs.drop n)
      | none => x
  else
    let raw := x.lineRaw e.line
    if e.last then
      (((x.unhold key).issueRead k e.line vt 0 0 ((tget? x.d.mem.held key).getD (raw.take 60) ++ raw.drop 60) [])).secondCopy k e.line
    else x.hold key (raw.take 60)

/-- Transfers of a line of a stream. -/
def Stream.per (s : Stream) : Nat := if s.codec = 1 then 2 else 1

/-- The line that a stream is at. -/
def Stream.line (s : Stream) : Nat := s.laddr + s.moved / s.per

/-- Replace a stream. -/
def DM.setStream (x : DM) (key : Nat) (s : Stream) : DM := x.onD (fun d => d.onMem (fun m => { m with streams := tset m.streams key s }))

/-- The first burst of a line that a stream writes, once its transfers have arrived. -/
def DM.beginWrite (x : DM) (key vt : Nat) (s : Stream) : DM :=
  match x.d.takeXfers vt s.per with
  | none => x.setStream key { s with half := false }
  | some (bs, d) =>
    let l := xfersLine s.codec s.tfmt bs
    let n := firstBytes s.line
    ((({ x with d := d } : DM).writeLine vt s.line 0 (l.take n)).hold (2 * key + 1) (l.drop n)).setStream key { s with half := true }

/-- A BOUND write: it ends the line under way, if there is one, and begins the next, whose first burst is the same one unless it begins a parity group. The scale bytes
go with the line's end. -/
def DM.boundWrite (x : DM) (key vt : Nat) (s : Stream) : DM :=
  if !s.half then x.beginWrite key vt s
  else
    let x := (x.writeLine vt s.line (firstBytes s.line) (tget x.d.mem.held (2 * key + 1) [])).unhold (2 * key + 1)
    let n := mxScales s.tfmt
    let x := if s.codec = 2 then
      x.store (x.d.dramStore (64 * s.lscale + n * s.moved) (memRead x.mem (sramBase x.d.die (x.d.ptileOf vt) + s.scaleT + n * s.moved) n)) else x
    let s' := { s with moved := s.moved + s.per, half := false }
    if lineInGroup s.line = 14 ∨ s'.lines ≤ s'.moved then x.setStream key s' else x.beginWrite key vt s'

/-- A BOUND read: likewise; a line goes to endpoint MEM with its second burst. -/
def DM.boundRead (x : DM) (k key vt : Nat) (s : Stream) : DM :=
  let raw := x.lineRaw s.line
  if !s.half then (x.hold (2 * key + 1) (raw.take 60)).setStream key { s with half := true }
  else
    let n := mxScales s.tfmt
    let at_ := s.scaleT + n * s.moved
    let scales := if s.codec = 2 then ((List.range n).map (· + at_)).zip (x.d.dramRead x.mem (64 * s.lscale + n * s.moved) n) else []
    let first := tget x.d.mem.held (2 * key + 1) (raw.take 60)
    let s' := { s with moved := s.moved + s.per, half := lineInGroup s.line != 14 }
    (((x.hold (2 * key + 1) (raw.drop 60)).setStream key s').issueRead k s.line vt s.codec s.tfmt (first ++ raw.drop 60) scales).secondCopy k s.line

/-- A BOUND position: the next burst of a stream; a stream with nothing left delivers zeros, or writes nothing, and sets UNARMED (R187). (DEDUCED, log entry 27.) -/
def DM.boundPos (x : DM) (ch k : Nat) (e : TEntry) (vt : Nat) : DM :=
  let key := 64 * vt + e.stream
  let s := tget x.d.mem.streams key default
  if s.lines ≤ s.moved ∨ (s.dir == 1) ≠ e.write then
    let x := x.onD (·.raise rMEM_STATUS 2)
    if e.write then x else x.issueRead k 0 vt 0 0 (List.replicate 120 0) []
  else
    let x := x.burst ch (lineBurst s.line + b2n s.half) e.write
    if e.write then x.boundWrite key vt s else x.boundRead k key vt s

/-- A QUILL position serves the oldest access that waits, if its burst lies on this channel (R195): a read takes what it wants of the burst; a write reads the burst in one
position and writes it in the next. The access that is complete. (DEDUCED, log entry 27.) -/
def DM.quillPos (x : DM) (ch k : Nat) : DM × Option QAcc :=
  match x.d.mem.quill with
  | [] => (x, none)
  | q :: rest =>
    let g := q.addr / 960
    let n := min (60 - q.addr % 60) q.left
    let set (x : DM) (l : List QAcc) : DM := x.onD (fun d => d.onMem (fun m => { m with quill := l }))
    if g % 16 ≠ ch then (x, none)
    else
      let x := x.burst ch (16 * (g / 16) + q.addr % 960 / 60) (q.write && q.begun)
      let done := decide (q.left ≤ n)
      if q.write then
        if !q.begun then (set x ({ q with begun := true } :: rest), none)
        else
          let x := x.store (x.d.dramStore q.addr (q.data.take n))
          if done then (set x rest, some { q with data := [] })
          else (set x ({ q with addr := q.addr + n, left := q.left - n, data := q.data.drop n, begun := false } :: rest), none)
      else
        let q' := { q with addr := q.addr + n, left := q.left - n, data := q.data ++ x.d.dramRead x.mem q.addr n }
        let x := x.secondCopy k (q.addr / 64)
        if done then (set x rest, some q') else (set x (q' :: rest), none)

/-- A position of the system section (R184): position 0 reads MR4; where the other fifteen stand is free. (DESIGN CHOICE, log entry 27.) -/
def isSystemPos (k : Nat) : Bool := k == 0 || (List.range 15).any (fun i => Config.systemPos (i + 1) % 6000 == k)

/-- TIMETABLE_POSITION: position `k` of channel `ch` issues its burst; outside steps every position but those of the system section is a QUILL position (R190). The
pipeline's positions carry the display and coding writes that served lines have made (R275, R276). `code`: what the device reports where position 0 reads it. An access of the Quill that is
complete. (DEDUCED, log entry 27.) -/
def timetablePos (ch k code : Nat) (x : DM) : DM × Option QAcc :=
  if k = 0 then (if x.d.chFenced ch ∨ x.d.dev = .boot then x else x.onD (fun d => d.mr4 ch code), none)
  else if !x.d.stepping then
    if x.d.dev = .boot ∨ x.d.dev = .halted ∨ isSystemPos k then (x, none)
    else x.quillPos ch k
  else
    let x := x.onD (·.toCycle (posCycle k))
    match x.d.entryAt ch k with
    | none => (x, none)
    | some (e, owner, vt) =>
      if owner = 19 then x.quillPos ch k
      else if owner = 20 then (x, none)
      else if e.bound then (x.boundPos ch k e vt, none) else (x.staticPos ch k e vt, none)

/-- The words of a read's two bursts as they come, with the errors of this read. -/
def DramRead.words (r : DramRead) (err : List Nat) : List Nat × List Nat :=
  let a := lineBurst r.line
  let ch := lineChan r.line
  let flip (k : Nat) (ws : List Nat) : List Nat := (List.range 16).map (fun j => ws.getD j 0 ^^^ err.getD (16 * k + j) 0)
  (flip 0 (burstWords a ch (r.raw.take 60)), flip 1 (burstWords (a + 1) ch (r.raw.drop 60)))

/-- Both bursts of a read pass their checks. -/
def DramRead.ok (r : DramRead) (err : List Nat) : Bool :=
  let w := r.words err
  burstOk (lineBurst r.line) (lineChan r.line) w.1 && burstOk (lineBurst r.line + 1) (lineChan r.line) w.2

/-- The line that a read brings. -/
def DramRead.data (r : DramRead) (err : List Nat) : List Byte :=
  let w := r.words err
  ((((w.1.take 15) ++ (w.2.take 15)).flatMap (leBytes 4)).drop (4 * lineInGroup r.line)).take 64

/-- DRAM_READ_DELIVERY: the oldest read gets to endpoint MEM and goes on to its tile (R185, R113); a second transfer of it follows one cycle later. `err`:
errors in its 32 words; a read that fails its check is read again by the replay event that follows (R48). `parts`: the parts that use the data, which
take DATA_ERROR where a block is outside the format (R200). (DEDUCED, log entry 27.) -/
def readDelivery (err : List Nat) (parts : List (Nat × Nat)) (x : DM) : DM :=
  match x.d.mem.reads with
  | [] => x
  | r :: rest =>
    if !x.d.stepping ∨ (x.d.seq.step + 1) * 20000 ≤ r.due then x
    else
      let x := x.onD (fun d => d.toCycle (d.cycOf r.due))
      if !r.ok err then x
      else
        let l := lineXfers r.codec r.tfmt (r.data err)
        let xs : List Xfer := (List.range l.1.length).map (fun i =>
          { src := 260, dst := r.vtile, due := r.due + 48 + i, data := l.1.getD i [], got := false })
        let x := x.onD (fun d =>
          let d := d.onMem (fun m => { m with reads := rest })
          let d := { d with tar := { d.tar with net := d.tar.net ++ xs } }
          if l.2 then
            (d.raise rMEM_STATUS 3).modParts (fun p => p.held && p.kind != .tail && parts.contains (p.lane, p.num)) (fun p => p.mark 8)
          else d)
        let base := sramBase x.d.die (x.d.ptileOf r.vtile)
        r.scales.foldl (fun x s => x.put (base + s.1) [s.2]) x

/-! ### Refresh, periods, phase (R179, R189, R190) -/

/-- The slot of a bank is used at a refresh rate: every slot at 4×, every second at 2×, every fourth at 1×; every one before a first report. -/
def slotUsed (rate slot : Nat) : Bool := if rate = 0 then slot % 4 == 0 else if rate = 1 then slot % 2 == 0 else true

/-- REFRESH_SLOT: slot `slot` of a bank is used, or left idle. -/
def refreshSlot (ch bank slot : Nat) (d : DieState) : DieState :=
  if d.dev = .boot ∨ d.chFenced ch ∨ !slotUsed (tget d.mem.rates ch 2) slot then d
  else (d.onMem (fun m => { m with refs := tset m.refs (16 * ch + bank) d.clk })).send .dram [0, ch, bank, slot] []

/-- MAINTENANCE_PERIOD: where no step runs, the next period begins. -/
def maintPeriod (d : DieState) : DieState :=
  if d.stepping ∨ d.dev = .boot ∨ d.dev = .halted then d
  else
    let t := d.mem.periodAt + 20000
    (d.at t).nextRates.onMem (fun m => { m with period := m.period + 1, periodAt := t })

/-- Every slot is used until the first report: the periods begin (R190). -/
def DieState.startPeriods (d : DieState) : DieState := d.onMem (fun m => { m with period := 0, periodAt := d.clk, rates := [] })

/-- A channel is to be fenced with a cause (R192). -/
def DieState.askFence (d : DieState) (ch cause : Nat) : DieState :=
  if d.chFenced ch ∨ (tget? d.mem.fences ch).isSome then d else d.onMem (fun m => { m with fences := tset m.fences ch cause })

/-- PHASE_TRACK: the interval oscillators of channel `ch`; `margin`: the correction uses more than half the margin; `out`: the phase leaves it. -/
def phaseTrack (ch : Nat) (margin out : Bool) (d : DieState) : DieState :=
  let turn := if d.stepping then d.seq.step % 1024 == 0 else d.mem.period % 1024 == 0
  if d.dev = .boot ∨ !turn ∨ d.chFenced ch then d
  else
    let d := if margin then d.raise rMEM_STATUS 1 else d
    if out then d.askFence ch 2 else d

/-- One channel becomes FENCED (R192, R193). -/
def DieState.fenceChannel (d : DieState) (ch cause : Nat) : DieState :=
  let d := (d.setFld (rMEM_CH + 4 * ch) 2 0 3).setFld (rMEM_CH + 4 * ch) 15 12 cause
  ((d.raiseWith rMEM_STATUS 0 (some 57) []).life (24 + d.die.num) 1).detect 15

/-- CHANNEL_FENCE: the channels to be fenced are, at a boundary, or at once where no step runs. -/
def channelFence (d : DieState) : DieState :=
  if d.stepping && d.seq.cycle != 0 then d
  else d.mem.fences.foldl (fun d f => d.fenceChannel f.1 f.2) (d.onMem (fun m => { m with fences := [] }))

/-! ### The Quill's window (R195) -/

/-- The logical byte address that offset `off` of the DRAM window maps. -/
def DieState.windowAt (d : DieState) (off : Nat) : Nat := 0x80000000 * min 14 (d.fld rMEM_QWIN 3 0) + off

/-- A Quill access of `n` bytes at offset `off` of the DRAM window, after the firewall: an error, or it waits for QUILL positions. (DEDUCED, log entry 27.) -/
def DM.quillDram (x : DM) (off n : Nat) (write : Bool) (v : Nat) (req : Option (Nat × Nat)) : DM × Bool :=
  let a := x.d.windowAt off
  let q : QAcc := { addr := a, left := n, write := write, data := if write then leBytes n v else [], begun := false, req := req }
  if 64 * dramLines < a + n then (x, true)
  else if write && !(match x.d.regionOf (a / 64) with | some r => r.kind == 8 || r.kind == 10 | none => false) then (x.onD (·.raise rMEM_STATUS 4), true)
  else (x.onD (fun d => d.onMem (fun m => { m with quill := m.quill ++ [q] })), false)

/-- QUILL_DRAM_ACCESS: the word at offset `off` of the window is to be read, or written with `v` (R195, R354); an access that is turned away is answered at once, another one
when its last position has served it. (DEDUCED, log entry 10.) -/
def quillDramAccess (off : Nat) (write : Bool) (v : Nat) (x : DM) : DM :=
  let f := x.d.fwl 20 off x.d.die.num 0 write
  let x := { x with d := f.1 }
  let r := if f.2 then x.quillDram (off / 4 * 4) 4 write v none else (x, true)
  if r.2 then r.1.onD (fun d => d.send .quill [1, 0] []) else r.1

/-! ### The commands -/

/-- REFRESH_SLOT: channel, bank, slot. -/
def execRefreshSlot (d : Die) (ch bank : Fin 16) (slot : Fin 21) (s : State) : Host.Outcome State Fault Refusal :=
  .next (s.onDie d (refreshSlot ch.val bank.val slot.val))
/-- DRAM_READ_DELIVERY: errors in the words read; the parts that use the data. -/
def execDramReadDelivery (d : Die) (err : List (BitVec 32)) (parts : List (BitVec 5 × BitVec 32)) (s : State) : Host.Outcome State Fault Refusal :=
  .next (s.onDM d (fun _ => readDelivery (err.map (·.toNat)) (parts.map (fun p => (p.1.toNat, p.2.toNat)))))
/-- PHASE_TRACK: channel, whether the correction uses more than half the margin, whether the phase leaves it. -/
def execPhaseTrack (d : Die) (ch : Fin 16) (margin out : Bool) (s : State) : Host.Outcome State Fault Refusal :=
  .next (s.onDie d (phaseTrack ch.val margin out))
/-- CHANNEL_FENCE. -/
def execChannelFence (d : Die) (s : State) : Host.Outcome State Fault Refusal := .next (s.onDie d channelFence)
/-- MAINTENANCE_PERIOD. -/
def execMaintenancePeriod (d : Die) (s : State) : Host.Outcome State Fault Refusal := .next (s.onDie d maintPeriod)
/-- QUILL_DRAM_ACCESS: offset in the window, write, value. -/
def execQuillDramAccess (d : Die) (off : BitVec 31) (wr : Bool) (v : BitVec 32) (s : State) : Host.Outcome State Fault Refusal :=
  .next (s.onDM d (fun _ => quillDramAccess off.toNat wr v.toNat))

end Sys2Proof.Machine
end

