-- ==== Sys2Proof/Machine/Ingress.lean ====
section
/-! DEFINITION. The switch (spec/15 R363, R364, R367 to R370, R372): the learning bridge, PTP residence correction, the ingress filter and its
buckets, the relay die, and the check of line-state frames. -/

namespace Sys2Proof.Machine

/-- The relay die (R364). -/
def Whole.relay (w : Whole) : Die := w.mod.sw.relay

/-- Change the switch. -/
def Whole.onSw (w : Whole) (f : Switch → Switch) : Whole := w.onMod (fun m => { m with sw := f m.sw })

/-- Change the relay die. -/
def Whole.onRelay (w : Whole) (f : DieState → DieState) : Whole := w.onDie w.relay f

/-- The relay die's NET unit runs: it is out of reset and of BOOT. -/
def Whole.relayUp (w : Whole) : Bool := let d := w.die w.relay; d.held.isNone && d.dev != .boot

/-! ### Buckets (R368) -/

/-- Rate in frames/s and burst of a bucket: 0, 1 PTP of port A, B; 2 QMP; 3 line state. -/
def bucketRate (k : Nat) : Nat × Nat := if k ≤ 1 then (512, 32) else if k = 2 then (4000, 128) else (200, 16)

/-- What a bucket lacks at instant `t`, in tokens × 10^9. (DEDUCED, log entry 33.) -/
def Bucket.lacks (b : Bucket) (rate t : Nat) : Nat := b.used - rate * (t - b.at_)

/-- Bucket `k` holds a token. -/
def Whole.hasToken (w : Whole) (k : Nat) : Bool :=
  decide ((tget w.mod.sw.buckets k default).lacks (bucketRate k).1 w.now + 1000000000 ≤ (bucketRate k).2 * 1000000000)

/-- A token is taken from bucket `k`. -/
def Whole.useToken (w : Whole) (k : Nat) : Whole :=
  let b : Bucket := { used := (tget w.mod.sw.buckets k default).lacks (bucketRate k).1 w.now + 1000000000, at_ := w.now }
  w.onSw (fun s => { s with buckets := tset s.buckets k b })

/-- A frame finds its bucket empty. -/
def DieState.rateDrop (d : DieState) : DieState := (d.count (rNET_CNT + 24) 1).raise rNET_STATUS 0

/-- A frame of an accepted class goes on where its bucket holds a token, else it is discarded (R368). -/
def Whole.admitFrame (w : Whole) (k : Nat) (f : Whole → Whole) : Whole :=
  if !w.relayUp then w else if w.hasToken k then f (w.useToken k) else w.onRelay (·.rateDrop)

/-! ### Frames -/

/-- The place of a frame's EtherType: after the addresses and at most one VLAN tag. -/
def typeAt (bs : List Byte) : Nat := if beNat ((bs.drop 12).take 2) = 0x8100 then 16 else 12

/-- The EtherType of a frame. -/
def etherType (bs : List Byte) : Nat := beNat ((bs.drop (typeAt bs)).take 2)

/-- The UDP datagram of an IPv4 frame: the place of its IPv4 header and of its UDP header. -/
def udpAt (bs : List Byte) : Option (Nat × Nat) :=
  let i := typeAt bs + 2
  if etherType bs = 0x0800 ∧ bs.getD (i + 9) 0 = 17 then some (i, i + 4 * ((bs.getD i 0).toNat % 16)) else none

/-- An IPv4 frame for the address `ip` (R363). -/
def ipFor (ip : Nat) (bs : List Byte) : Bool := etherType bs == 0x0800 && beNat ((bs.drop (typeAt bs + 18)).take 4) == ip

/-- The UDP destination port of a frame. -/
def udpPort (bs : List Byte) : Option Nat := (udpAt bs).map (fun x => beNat ((bs.drop (x.2 + 2)).take 2))

/-- The place of the PTP header of a PTP frame (R368, R371). -/
def ptpAt (bs : List Byte) : Option Nat :=
  if etherType bs = 0x88F7 then some (typeAt bs + 2)
  else
    match udpAt bs with
    | some x => if udpPort bs = some 319 ∨ udpPort bs = some 320 then some (x.2 + 8) else none
    | none => none

/-- The bucket of a frame addressed to the module, by its class; none: no accepted class (R368). -/
def frameClass (ip : Nat) (portB : Bool) (bs : List Byte) : Option Nat :=
  let mine : Bool := match udpAt bs with | some x => beNat ((bs.drop (x.1 + 16)).take 4) == ip | none => false
  if (ptpAt bs).isSome then some (b2n portB)
  else if udpPort bs = some 48400 ∧ mine then some 2
  else if udpPort bs = some 48402 ∧ mine then some 3
  else none

/-- INGRESS_FILTER: a frame addressed to the module, received on port B or A: of no accepted class, or over its bucket's rate, it is discarded; any other
is handled by the command of its own kind, which takes the token (R368). -/
def ingressFilter (portB : Bool) (bs : List Byte) (w : Whole) : Whole :=
  if !w.relayUp then w
  else
    match frameClass (w.die w.relay).net.ip portB bs with
    | none => w.onRelay (fun d => d.count (rNET_CNT + 20) 1)
    | some k => if w.hasToken k then w else w.onRelay (·.rateDrop)

/-! ### The bridge (R363, R372) -/

/-- A source address is learned on a port, or seen again. (DEDUCED, log entry 33.) -/
def Switch.learn (s : Switch) (mac port t : Nat) : Switch :=
  let rest := s.macs.filter (fun e => e.1 != mac)
  if rest.length < 1024 then { s with macs := rest ++ [(mac, port, t)] } else s

/-- Bytes with the `n` bytes at `i` replaced by a big-endian number. -/
def putBe (bs : List Byte) (i n v : Nat) : List Byte := bs.take i ++ beBytes n v ++ bs.drop (i + n)

/-- `ns` is added to the correctionField of the PTP message at `i`, in 2^-16 ns. -/
def addCorrection (bs : List Byte) (i ns : Nat) : List Byte :=
  putBe bs (i + 8) 8 ((beNat ((bs.drop (i + 8)).take 8) + ns * 65536) % 2 ^ 64)

/-- The UDP checksum of a frame is computed again where it has one. -/
def fixUdp (bs : List Byte) : List Byte :=
  match udpAt bs with
  | none => bs
  | some (i, u) =>
    if beNat ((bs.drop (u + 6)).take 2) = 0 then bs
    else
      let len := beNat ((bs.drop (u + 4)).take 2)
      let z := putBe bs (u + 6) 2 0
      let c := checksum (sum16 ((bs.drop (i + 12)).take 8 ++ beBytes 2 17 ++ beBytes 2 len ++ (z.drop u).take len))
      putBe bs (u + 6) 2 (if c = 0 then 0xFFFF else c)

/-- SWITCH_FORWARD: a frame from port B or A, for the other port; `res`: its residence time in ns; `full`: its priority queue is full. A frame for the
module's MAC or IPv4 address (R363) or for an address on its own side is not forwarded, nor is a peer delay message (R372). (DEDUCED, log entry 33.) -/
def switchForward (fromB : Bool) (bs : List Byte) (res : Nat) (full : Bool) (w : Whole) : Whole :=
  if bs.length < 14 then w
  else
    let d := w.die w.relay
    let dst := beNat (bs.take 6)
    let inP := b2n fromB
    let outP := 1 - inP
    let w := w.onSw (fun s => s.learn (beNat ((bs.drop 6).take 6)) inP w.now)
    let here := w.mod.sw.macs.any (fun e => e.1 == dst && e.2.1 == inP)
    let ptp := ptpAt bs
    let kind := match ptp with | some i => (bs.getD i 0).toNat % 16 | none => 16
    if dst = d.net.mac ∨ ipFor d.net.ip bs ∨ here ∨ kind = 2 ∨ kind = 3 ∨ kind = 10 then w
    else if !d.portUp outP then w.onRelay (fun d => d.count (rNET_CNT + 16) 1)
    else if full then w.onRelay (fun d => d.count (rNET_CNT + 44) 1)
    else
      let out := match ptp with
        | some i =>
          if kind ≤ 1 then fixUdp (addCorrection bs i (res + (if kind = 0 ∧ d.ptp.peer then d.ptp.delay.toNat else 0))) else bs
        | none => bs
      w.onRelay (fun d => d.send .netFrame [outP] out)

/-- BRIDGE_AGEING: the entry seen longest ago reaches 300 s (R363). -/
def bridgeAgeing (w : Whole) : Whole :=
  match sortBy (fun (a b : Nat × Nat × Nat) => decide (a.2.2 < b.2.2)) w.mod.sw.macs with
  | [] => w
  | e :: _ => (w.at (e.2.2 + 300000000000)).onSw (fun s => { s with macs := s.macs.erase e })

/-- RELAY_FAILOVER: the relay die's attachment has carried no heartbeat for 100 µs (R364). -/
def relayFailover (w : Whole) : Whole :=
  let r := w.relay.other
  (w.onSw (fun s => { s with relay := r })).both (fun d => (d.setFlag rNET_PORT 5 (r == .b)).raise rNET_STATUS 5)

/-- T1_LINK_CHANGE: port B or A gains or loses its link (R367). -/
def linkChange (portB up : Bool) (w : Whole) : Whole := w.both (fun d => d.setFlag rNET_PORT (b2n portB) up)

/-! ### Line-state frames (R369, R370) -/

/-- The LINE_STATE key: key slot 5, unless the key store fails its check (R369, R430). -/
def Store.lineKey (s : Store) : Option (List Byte) := if s.keysBad then none else tget? s.keys 5

/-- Bytes that must be zero. -/
def zeroBytes (bs : List Byte) (i n : Nat) : Bool := ((bs.drop i).take n).all (· == 0)

/-- Length, reserved fields and codes, and body ranges of a line-state frame (R369, R370). -/
def lineFormatOk (p : List Byte) : Bool :=
  let b (i : Nat) : Nat := (p.getD i 0).toNat
  p.length == 48 && beNat (p.take 2) == 1 && decide (b 3 < 4) &&
    (match b 2 with
     | 1 => decide (b 20 ≤ 31 ∧ b 21 ≤ 15) && zeroBytes p 22 2
     | 2 => decide (b 20 ≤ 1) && zeroBytes p 21 11
     | 3 => zeroBytes p 22 10
     | _ => false)

/-- What a line-state frame says. -/
def lineBody (p : List Byte) : Payload :=
  let b (i : Nat) : Nat := (p.getD i 0).toNat
  match b 2 with
  | 1 => .recipeSelect (b 20) (b 21) (toSigned 64 (beNat ((p.drop 24).take 8)))
  | 2 => .lineRunning (b 20 == 1)
  | _ => .operatorAck

/-- A line-state frame of TYPE `ty` (UDP payload `p`) at the relay die: its token, then R370's checks in order, then its delivery to each die it addresses.
A frame that names another valid TYPE is another command. -/
def lineFrame (ty : Nat) (p : List Byte) (w : Whole) : Whole :=
  let b (i : Nat) : Nat := (p.getD i 0).toNat
  if p.length = 48 ∧ b 2 ≠ ty ∧ 1 ≤ b 2 ∧ b 2 ≤ 3 then w
  else
    w.admitFrame 3 fun w =>
      let fail (k : Nat) (auth : Bool) : Whole :=
        w.onRelay (fun d => let d := d.count (rNET_CNT + 4 * k) 1; if auth then d.raise rNET_STATUS 1 else d)
      let d := w.die w.relay
      let seq := beNat ((p.drop 4).take 8)
      let sent : Int := beNat ((p.drop 12).take 8)
      let now := d.ptpNow
      let tagOk := match w.mod.store.lineKey with
        | some k => (hmac256 k (p.take 32)).take 16 == p.drop 32
        | none => false
      if !lineFormatOk p then fail 7 false
      else if !tagOk then fail 8 true
      else if (match d.net.hiSeq with | some h => decide (seq ≤ h) | none => false) then fail 9 true
      else if !d.timeLost && decide (now + 2000000000 < sent ∨ sent + 2000000000 < now) then fail 10 true
      else
        let w := w.onRelay (fun d => { d with net := { d.net with hiSeq := some seq } })
        let give (k : Nat) (x : Die) (w : Whole) : Whole := if bit k (b 3) then w.onDie x (fun d => d.post none (lineBody p)) else w
        give 1 .b (give 0 .a w)

/-! ### The commands -/

/-- SWITCH_FORWARD: ingress port, frame, residence time in ns, whether its egress queue is full. -/
def execSwitchForward (fromB : Bool) (f : List (BitVec 8)) (res : BitVec 32) (full : Bool) (s : State) : Host.Outcome State Fault Refusal :=
  .next (s.onWhole (switchForward fromB f res.toNat full))
/-- INGRESS_FILTER: ingress port, frame. -/
def execIngressFilter (portB : Bool) (f : List (BitVec 8)) (s : State) : Host.Outcome State Fault Refusal := .next (s.onWhole (ingressFilter portB f))
/-- BRIDGE_AGEING. -/
def execBridgeAgeing (s : State) : Host.Outcome State Fault Refusal := .next (s.onWhole bridgeAgeing)
/-- RELAY_FAILOVER. -/
def execRelayFailover (s : State) : Host.Outcome State Fault Refusal := .next (s.onWhole relayFailover)
/-- T1_LINK_CHANGE: port, link up. -/
def execT1LinkChange (portB up : Bool) (s : State) : Host.Outcome State Fault Refusal := .next (s.onWhole (linkChange portB up))
/-- RECIPE_SELECT: the UDP payload. -/
def execRecipeSelect (q : List (BitVec 8)) (s : State) : Host.Outcome State Fault Refusal := .next (s.onWhole (lineFrame 1 q))
/-- LINE_RUNNING: the UDP payload. -/
def execLineRunning (q : List (BitVec 8)) (s : State) : Host.Outcome State Fault Refusal := .next (s.onWhole (lineFrame 2 q))
/-- OPERATOR_ACK: the UDP payload. -/
def execOperatorAck (q : List (BitVec 8)) (s : State) : Host.Outcome State Fault Refusal := .next (s.onWhole (lineFrame 3 q))

end Sys2Proof.Machine
end

