-- ==== Sys2Proof/Machine/Changeover.lean ====
section
/-! DEFINITION. The Stem fence (spec/06 R164, R166, R169, R233), recipe changeovers (spec/09 R236 to R240, R480), and the admission of line-state
frames (R32, R352). -/

namespace Sys2Proof.Machine

/-! ### The Stem fence -/

/-- The Stem becomes FENCED: unit state, SPARE_EXHAUSTED, no rotation any more (R164, R169). -/
def DieState.fenceStem (d : DieState) : DieState :=
  let d := (d.setUsw 4 5).uswEvent 4 0xFF 5
  let d := { d with stm := { d.stm with fenced := true, fenceReq := false, rot := { d.stm.rot with hand := none, fencing := none } } }
  (d.raiseWith (Rot.diag true) 1 (some 58) []).life (24 + d.die.num) 1

/-- What the registers show of a Stem fenced before a run (R164): the map as after reset, the lane groups of `failed` FENCED with LAST_FAIL, all others STANDBY. -/
def DieState.showStem (d : DieState) (failed : List Nat) : DieState :=
  let d := (List.range 16).foldl (fun d n => d.wr (Rot.map true n) n) (d.wr (Rot.out true) 0x10)
  (List.range 17).foldl (fun d g =>
    if failed.contains g then (d.setFld (Rot.grp true g) 2 0 6).setFlag (Rot.grp true g) 3 true else d.setFld (Rot.grp true g) 2 0 5) d

/-- The Stem fenced before a run (R164); FENCE_POLICY decides. -/
def DieState.fenceStemEarly (d : DieState) (failed : List Nat) : DieState :=
  let d := d.fenceStem.showStem failed
  if d.flag rSTM_MODE 8 then d.detect 13 else d

/-- A Stem fence is asked for in RUN or SAFE; it may take effect from active cycle `from_` on. -/
def DieState.askStemFence (d : DieState) (from_ : Nat) : DieState :=
  if (d.dev == .run || d.dev == .safe) && !d.stm.fenced && !d.stm.fenceReq then { d with stm := { d.stm with fenceReq := true, fenceFrom := from_ } } else d

/-- A cause on die `die` asks for a Stem fence: in Paired mode on both dies, at the same boundary, with the lead of a freeze request, 32 cycles (R51, R169). (DEDUCED, log
entry 32.) -/
def Whole.askStemFence (w : Whole) (die : Die) : Whole :=
  let d := w.die die
  if w.paired then w.both (fun e => e.askStemFence (d.acyc d.seq.cycle + 32)) else w.onDie die (fun d => d.askStemFence 0)

/-- A value written to STM_MODE (R169): FENCE_POLICY is set; FORCE_REGROUP asks for a fence at the next boundary in RUN and SAFE, fences at once in CONFIG
to ARMED, and does nothing in BOOT, RECOVERY and HALTED. In Paired mode a fence in RUN or SAFE is asked of both dies. -/
def forceRegroup (die : Die) (v : Nat) (w : Whole) : Whole :=
  let w := w.onDie die (fun d => d.setFlag rSTM_MODE 8 (bit 8 v))
  if !bit 31 v then w
  else
    match (w.die die).dev with
    | .run => w.askStemFence die
    | .safe => w.askStemFence die
    | .boot => w
    | .recovery => w
    | .halted => w
    | _ => w.onDie die (fun d => if d.stm.fenced then d else d.fenceStemEarly [])

/-- REG_GROUPS of the active recipe are withdrawn from P2: the contexts on them are reset, contexts now too large for P2 become NO_FIT, and placement follows on the smaller
P2 (R169, R233). (DEDUCED, log entry 25.) (DEDUCED, log entry 32.) -/
def DieState.withdrawGroups (d : DieState) : DieState :=
  let r := min (tget d.ctx.regGroups (d.fld rCTX_CHG 3 0) 0) d.p2Size
  let lo := 16 - d.p2Size
  let d := (List.range 16).foldl (fun d n =>
    let held := decide (2 ≤ d.axState n ∧ d.axState n ≤ 4) && decide (d.axBase n < lo + r)
    if held && decide (0 < r) then d.resetNow (2 + n) else d) d
  let d := d.setFld rCTX_PART 20 16 (d.p2Size - r)
  contextPlace ((List.range 16).foldl (fun d n =>
    if d.axState n = axReady ∧ d.p2Size < d.axGroups n then
      ({ d.setAx n axNoFit with ctx := { d.ctx with queue := d.ctx.queue.filter (· ≠ n) } }).raise rCTX_STATUS 3
    else d) d)

/-- The P1 tiles stop. -/
def DieState.stopP1 (d : DieState) : DieState :=
  d.p1Tiles.foldl (fun d v => d.modTile (d.ptileOf v) (fun t => { t with stat := .switched, wait := .none })) d

/-- STEM_FENCE: the asked fence takes effect at boundary F; where the run has ended before it, as one asked for in ARMED (R169). (DEDUCED, log entry 32.) -/
def stemFence (d : DieState) : DieState :=
  if !d.stm.fenceReq ∨ d.stm.fenced then d
  else if !d.stepping then (if d.dev = .armed then d.fenceStemEarly [] else d)
  else if d.seq.cycle ≠ 0 ∨ d.acyc 0 < d.stm.fenceFrom then d
  else
    let d := d.fenceStem.boundaryUnits
    let d := { d with stm := { d.stm with fenceAt := some d.seq.step } }
    let d := (d.setFlag rSTM_MODE 2 true).wr64 rSTM_SWITCH_STEP_LO d.seq.step
    let d := (d.cut (fun _ => true)).endTails (fun _ => true)
    let d := d.stopP1.withdrawGroups
    if d.flag rSTM_MODE 8 then d.detect 13 else d

/-- The Line Slot Table of program set `k` is in use (R262). -/
def DieState.useLst (d : DieState) (k : Nat) : DieState :=
  let l := tget d.ipp.lsts k []
  let cycles := (l.map (fun e => ((d.groupPorts e.1).map (fun p => (d.width p + 19) / 20)).foldl (· + ·) 0)).foldl (· + ·) 0
  ({ d with ipp := { d.ipp with lst := l } }).wr rIPP_LST (65536 * l.length + min cycles 32767)

/-- The inspection programs of context 0's or 1's set start: their words and barriers take the values of their records, and their tiles begin (R216). -/
def startSet (x : DM) : DM :=
  let c := x.d.inspCtx
  let x := x.onD (fun d => d.installSet (d.setOf c))
  startInspection (x.d.setOf c) (initObjects c x)

/-- REGROUP_SWITCH: at W = F + 16 the die is in regrouped mode (R169); a changeover that waited for W begins to drain (R240). -/
def regroupSwitch (x : DM) : DM :=
  match x.d.stm.fenceAt with
  | none => x
  | some f =>
    if !x.d.stepping ∨ x.d.seq.cycle ≠ 0 ∨ x.d.seq.step < f + 16 then x
    else
      let x := x.onD (fun d =>
        let cur := d.fld rCTX_CHG 3 0
        let d := (d.setFld rSTM_MODE 1 0 1).setFlag rSTM_MODE 2 false
        let d := { d with stm := { d.stm with fenceAt := none } }
        let d := (List.range 32).foldl (fun d n => d.modLane n (fun y => { y with warmW := (tget d.ctx.figs (32 * cur + n) (0, 0)).2 })) d
        d.useLst (2 * cur + 1))
      let x := if x.d.chgPhase = 3 then x else startSet x
      x.onD (fun d => if d.ctx.chg.reached then d.startDrain else d)

/-! ### Recipe selects (R236, R237) -/

/-- The recipe `r` is the active one: its program set, Line Slot Table, class map, tolerances and Stem layers (R159, R236, R337, R338). -/
def DieState.adopt (d : DieState) (r : Nat) : DieState :=
  let d := d.setFld rCTX_CHG 3 0 r
  let d := (d.installSet (d.progSet r)).useLst (d.progSet r)
  let d : DieState := match tget? d.chk.maps r with
    | some l => (List.range 16).foldl (fun (d : DieState) i => d.wr (rCHK_MAP + 4 * i) (l.getD i 0)) d
    | none => d
  let tols := d.chk.tols.filter (fun t => t.1 / 65536 == r)
  let sensors := tols.foldl (fun (t : Tbl SensorCfg) e => tset t (e.1 % 65536) e.2) d.chk.sensors
  { d with
    chk := { d.chk with sensors := sensors }
    stm := { d.stm with rows := [] } }

/-- An Inkwell record of a recipe select (R440): whether it is rejected, pilot, recipe, C, K. -/
def DieState.chgRecord (d : DieState) (bad : Bool) (pilot recipe : Nat) (pos : Int) (k : Nat) : DieState :=
  d.inkNote 7 18 none [b2n bad, pilot, recipe, ofSigned 64 pos, k]

/-- The Drift Adapter's staging area is sealed: its word is FULL (R155). -/
def DieState.driftSealed (d : DieState) : Option (Nat × Nat × Nat) :=
  match d.ptk.drift with
  | some (v, i, src, len, dst) => if d.wordState (d.ptileOf v) i = 1 then some (src, len, dst) else none
  | none => none

/-- A Drift update is logged with the hash of its bytes, the lane and the change position (R155). -/
def DM.driftHash (x : DM) (u : Option (Nat × Nat × Nat)) (pilot : Nat) (pos : Int) : DM :=
  match u with
  | none => x
  | some (src, len, _) =>
    let h := sha384 (x.d.dramRead x.mem src len)
    x.onD (fun d => d.inkNote 6 5 none (pilot :: ofSigned 64 pos :: h.map (·.toNat)))

/-- A Drift update is applied: the statistics and the coreset in use become those of the staging area (R155). -/
def DM.driftApply (x : DM) (u : Option (Nat × Nat × Nat)) : DM :=
  match u with
  | none => x
  | some (src, len, dst) => x.store (x.d.dramPut x.mem dst len (x.d.dramCells x.mem src len))

/-- A recipe select that R236 turns away. -/
def DieState.selectBad (d : DieState) (pilot recipe : Nat) : Bool := !d.ctx.resident.contains recipe || d.laneState pilot != 1 || d.chgPhase != 0

/-- A recipe select takes effect where steps run, or is discarded (R236, R237): discarded, counted and flagged CHG_REJECT unless the recipe is resident, the pilot lane ACTIVE
and no changeover under way; in ARMED it replaces the active recipe at once; where steps run it makes a changeover pending, or begins it at once where the line at C
has already been admitted. (DEDUCED, log entry 18.) -/
def DieState.select (d : DieState) (pilot recipe : Nat) (pos : Int) : DieState :=
  if !d.stepping && d.dev != .armed then d
  else if d.selectBad pilot recipe then
    let d := (d.chgRecord true pilot recipe pos 0).raise rCTX_STATUS 0
    { d with ctx := { d.ctx with discards := d.ctx.discards + 1 } }
  else
    let d := d.setFld rCTX_CHG 20 16 pilot
    if !d.stepping then (d.adopt recipe).chgRecord false pilot recipe pos 0
    else
      let cur := d.fld rCTX_CHG 3 0
      let pair := (d.ctx.pairs.find? (fun x => x.old == cur && x.new == recipe)).getD default
      let d := (d.setFld rCTX_CHG 7 4 recipe).setFld rCTX_CHG 10 8 1
      let d := { d with ctx := { d.ctx with chg := { (default : Chg) with pos := pos, pair := pair } } }
      let d := d.chgRecord false pilot recipe pos d.seq.step
      if (match (d.laneDyn pilot).top with | some t => decide (pos ≤ t) | none => false) then
        let d := d.raise rCTX_STATUS 1
        if d.blind then { d with ctx := { d.ctx with chg := { d.ctx.chg with reached := true } } } else d.startDrain
      else d

/-- A recipe select on a die; one that replaces the recipe in ARMED is a change point, at which a sealed Drift update is applied (R155, R236). -/
def DM.select (x : DM) (pilot recipe : Nat) (pos : Int) : DM :=
  let u := if x.d.dev = .armed ∧ !x.d.stepping ∧ !x.d.selectBad pilot recipe then x.d.driftSealed else none
  ((x.driftHash u pilot pos).driftApply u).onD (fun d => d.select pilot recipe pos)

/-- RECIPE_SELECT_ADMIT: the oldest recipe select that is due. -/
def selectAdmit (x : DM) : DM :=
  match x.d.due (fun p => match p with | .recipeSelect _ _ _ => true | _ => false) with
  | some i => match i.body with | .recipeSelect pilot r pos => (x.onD (fun d => d.without i)).select pilot r pos | _ => x
  | none => x

/-! ### Line running and acknowledges (R32, R33, R352) -/

/-- The die leaves RUN for ARMED: its outputs are de-energised, SAFE_OK is energised, pending events go, steps no longer run (R32, R33, R40). -/
def Whole.endRun (w : Whole) (die : Die) : Whole :=
  let w := w.onDie die (fun d =>
    let d := posArmed ((d.setDev .armed).dropActions).startPeriods
    { d with
      seq := { d.seq with on := false }, line := false, net := { d.net with seq := 0 }, ctx := { d.ctx with chg := { d.ctx.chg with stopPend := false } }
      chk := { d.chk with okCmd := true, okMiss := 0 } })
  w.deEnergise w.now die

/-- A change of line running takes effect on a die: in ARMED it joins the start barrier or withdraws; in RUN, when cleared, it ends the run, after N where
a changeover is under way (R32, R240, R396). (DEDUCED, log entry 18.) -/
def Whole.lineRunning (w : Whole) (die : Die) (on : Bool) : Whole :=
  let d := w.die die
  if d.dev = .armed then
    let w := w.onDie die (fun d => { d with line := on })
    if on then w.joinBarrier else w.withdraw
  else if d.dev = .run ∧ !on then
    if 1 ≤ d.chgPhase ∧ d.chgPhase ≤ 3 then w.onDie die (fun d => { d with ctx := { d.ctx with chg := { d.ctx.chg with stopPend := true } } })
    else w.endRun die
  else w

/-- LINE_RUNNING_ADMIT: the oldest line-running frame that is due. -/
def runningAdmit (die : Die) (w : Whole) : Whole :=
  match (w.die die).due (fun p => match p with | .lineRunning _ => true | _ => false) with
  | some x => match x.body with | .lineRunning on => (w.onDie die (fun d => d.without x)).lineRunning die on | _ => w
  | none => w

/-- An acknowledge is discarded and logged (R352). -/
def DieState.ackLost (d : DieState) : DieState := d.inkNote 8 9 none [2, d.rd rCHK_SAFE_CAUSE]

/-- A SAFE cause was detected during the step that ends at this boundary (R32). -/
def DieState.causeNew (d : DieState) : Bool := d.stepping && decide (0 < d.seq.step) && d.chk.newAt == some (d.seq.step - 1)

/-- An acknowledge takes effect (R352): the die leaves SAFE for ARMED where every recorded cause is non-latched and clear, none is waiting to act, and the step that ends at
this boundary has detected none (R32). -/
def Whole.acknowledge (w : Whole) (die : Die) : Whole :=
  let d := w.die die
  if d.dev ≠ .safe then w
  else if d.chk.pending || d.causeNew || !d.causesClear then w.onDie die (·.ackLost)
  else
    (w.onDie die (fun d =>
      let cause := d.rd rCHK_SAFE_CAUSE
      let d := d.wr rCHK_SAFE_CAUSE (cause - (cause &&& nonLatchedMask))
      let d := { d with chk := { d.chk with window := [], okCmd := true, okMiss := 0, rearmed := [], firstStep := none } }
      let d := posArmed ((d.setFld rCHK_WINDOW 15 0 0).setDev .armed).startPeriods
      { d with seq := { d.seq with on := false }, line := false, net := { d.net with seq := 0, safeDue := none, safeSent := false } })).deEnergise w.now die

/-- OPERATOR_ACK_ADMIT: the oldest acknowledge that is due. -/
def ackAdmit (die : Die) (w : Whole) : Whole :=
  match (w.die die).due (fun p => match p with | .operatorAck => true | _ => false) with
  | some x => (w.onDie die (fun d => d.without x)).acknowledge die
  | none => w

/-! ### The changeover (R238, R480) -/

/-- An old part that still holds a descriptor. -/
def Part.old (p : Part) : Bool := p.held && !p.change && p.kind != .tail

/-- CHANGEOVER_DRAIN_END: at D, the first boundary at which no old part holds a descriptor, or K + DRAIN_STEPS. `xs`: the old recipe's samples still
undecided, which are published INVALID, cause INCOMPLETE (R480). Lines after D of a web lane's segment may open a new change ghost. -/
def drainEnd (xs : List SampleIn) (d : DieState) : DieState :=
  if !d.stepping ∨ d.seq.cycle ≠ 0 ∨ d.chgPhase ≠ 2 then d
  else
    let n := (d.ptk.parts.filter (·.old)).length
    if 0 < n ∧ d.seq.step < d.ctx.chg.k + d.ctx.chg.pair.drain then d
    else
      let d := if n = 0 then d else ((d.cut (·.old)).chgIncomplete n).raise rCTX_STATUS 2
      let d := d.endTails (fun _ => true)
      let d := d.modParts (fun p => p.change && p.isOpen) (fun p => { p with closing := true })
      let d := (d.ptk.cfg.map (·.1)).foldl (fun d l => d.modLane l (fun y => { y with tried := none })) d
      let d := xs.foldl (fun d x => d.compareSample { x with cause := some 7 }) d
      let dd := d.seq.step
      let d := { d with ctx := { d.ctx with chg := { d.ctx.chg with d := dd, n := dd + d.ctx.chg.pair.tr + 1 } } }
      d.stopP1.setFld rCTX_CHG 10 8 3

/-- CHANGEOVER_SETUP: at D + T_r the words of INSP_NEXT take their first values, and a Drift update that is sealed by then is taken, and logged with its hash (R155,
R238). (DEDUCED, log entry 25.) -/
def changeSetup (x : DM) : DM :=
  let c := x.d.ctx.chg
  if !x.d.stepping ∨ x.d.seq.cycle ≠ 0 ∨ x.d.chgPhase ≠ 3 ∨ c.setup ∨ x.d.seq.step < c.d + c.pair.tr then x
  else
    let u := x.d.driftSealed
    let x := x.onD (fun d => ({ d with ctx := { d.ctx with chg := { c with setup := true, drift := u } } }).installSet (d.setOf 1))
    (initObjects 1 x).driftHash u (x.d.fld rCTX_CHG 20 16) c.pos

/-- The new recipe runs from this boundary, with the Drift update that setup took (R238, R155). -/
def newRecipe (x : DM) : DM :=
  let x := x.driftApply x.d.ctx.chg.drift
  let set_ := x.d.setOf 1
  let x := x.onD (fun d =>
    let warm := d.ctx.chg.pair.warm
    let d := (d.adopt (d.fld rCTX_CHG 7 4)).wr64 rCTX_CHG_STEP_LO d.seq.step
    let d := { d with mem := { d.mem with frames := tdel d.mem.frames 0 } }
    let d := (List.range 32).foldl (fun d n => d.modLane n (fun y => { y with warmN := warm, chgTo := some (y.serial + warm) })) d
    d.setFld rCTX_CHG 10 8 4)
  if x.d.blind then x else startInspection set_ x

/-- CHANGEOVER_NEW_RECIPE: at N the new recipe runs as INSP_CUR; a cleared line running that waited acts (R238, R240). -/
def changeNew (die : Die) (w : Whole) : Whole :=
  let d := w.die die
  if !d.stepping ∨ d.seq.cycle ≠ 0 ∨ d.chgPhase ≠ 3 ∨ d.seq.step < d.ctx.chg.n then w
  else
    let x := newRecipe ⟨d.sync w.now, w.mem, []⟩
    let w := (w.onDie die (fun _ => x.d)).store x.stores
    if (w.die die).ctx.chg.stopPend then
      let w := w.onDie die (fun d => { d with ctx := { d.ctx with chg := { d.ctx.chg with stopPend := false } } })
      if (w.die die).dev = .run then w.endRun die else w
    else w

/-- CHANGEOVER_WARM_END: at the end of the step in which the WARM-th line of the pilot lane at or after N is admitted (R238). -/
def warmEnd (d : DieState) : DieState :=
  if !d.stepping ∨ d.chgPhase ≠ 4 ∨ (d.laneDyn (d.fld rCTX_CHG 20 16)).warmN ≠ 0 then d
  else (d.toCycle 19999).setFld rCTX_CHG 10 8 0

/-! ### The commands -/

/-- FORCE_REGROUP: the value written to STM_MODE. -/
def execForceRegroup (d : Die) (v : BitVec 32) (s : State) : Host.Outcome State Fault Refusal := .next (s.onWhole (forceRegroup d v.toNat))
/-- STEM_FENCE. -/
def execStemFence (d : Die) (s : State) : Host.Outcome State Fault Refusal := .next (s.onDie d stemFence)
/-- REGROUP_SWITCH. -/
def execRegroupSwitch (d : Die) (s : State) : Host.Outcome State Fault Refusal := .next (s.onDM d (fun _ => regroupSwitch))
/-- RECIPE_SELECT_ADMIT. -/
def execRecipeSelectAdmit (d : Die) (s : State) : Host.Outcome State Fault Refusal := .next (s.onDM d (fun _ => selectAdmit))
/-- CHANGEOVER_DRAIN_END: the old recipe's samples still undecided. -/
def execChangeoverDrainEnd (d : Die) (xs : List SampleIn) (s : State) : Host.Outcome State Fault Refusal := .next (s.onDie d (drainEnd xs))
/-- CHANGEOVER_SETUP. -/
def execChangeoverSetup (d : Die) (s : State) : Host.Outcome State Fault Refusal := .next (s.onDM d (fun _ => changeSetup))
/-- CHANGEOVER_WARM_END. -/
def execChangeoverWarmEnd (d : Die) (s : State) : Host.Outcome State Fault Refusal := .next (s.onDie d warmEnd)

end Sys2Proof.Machine
end

