-- ==== Sys2Proof/Machine/Clock.lean ====
section
/-! DEFINITION. Network time (spec/15 R371 to R374; R470): the PTP servo of the relay die, the other die's timer that follows it, delay measurement, and
PPS_OUT. -/

namespace Sys2Proof.Machine

/-- Servo states (R373). -/
def ptpFree : Nat := 0
/-- ACQUIRING. -/
def ptpAcquiring : Nat := 1
/-- LOCKED. -/
def ptpLocked : Nat := 2
/-- LOST. -/
def ptpLost : Nat := 3

/-- The servo state. -/
def DieState.servo (d : DieState) : Nat := d.fld rNET_PTP_STAT 2 0

/-- The servo takes a state; entering LOST sets TIME_LOST. -/
def DieState.setServo (d : DieState) (k : Nat) : DieState :=
  let d' := d.setFld rNET_PTP_STAT 2 0 k
  if k = ptpLost ∧ d.servo ≠ ptpLost then d'.raise rNET_STATUS 4 else d'

/-- The timer is stepped by the offset, in a new epoch (R373). -/
def DieState.stepTimer (d : DieState) (off : Int) : DieState :=
  let d := { d with ptp := { d.ptp with time := d.ptpNow - off, at_ := d.clk, good := 0 } }
  (d.setFld rNET_PTP_STAT 31 16 (d.epoch + 1)).setServo ptpAcquiring

/-- The rate adjustment becomes `r`, within ±500 ppm; the time goes on from where it stands (R373). -/
def DieState.setRate (d : DieState) (r : Int) : DieState :=
  let r := clampZ (-500000) 500000 r
  ({ d with ptp := { d.ptp with time := d.ptpNow, at_ := d.clk, rate := r } }).wr rNET_PTP_RATE (ofSigned 32 r)

/-- The rate adjustment that a servo makes from a measurement: the spec states its bound alone (DESIGN CHOICE, log entry 8). -/
def freeRate (fv : Nat) : Int := ((Config.freeNat fv 0 % 1000001 : Nat) : Int) - 500000

/-- One valid measurement `off` = local time less master time (R373). -/
def DieState.measure (d : DieState) (fv : Nat) (off : Int) : DieState :=
  let d := { d.wr rNET_PTP_OFFSET (ofSigned 32 (clampZ (-2147483648) 2147483647 off)) with ptp := { d.ptp with lastSync := d.clk } }
  let big := decide (100000 < off.natAbs)
  let good := if off.natAbs ≤ 1000 then d.ptp.good + 1 else 0
  let adjust (d : DieState) : DieState :=
    let d := { d.setRate (freeRate fv) with ptp := { (d.setRate (freeRate fv)).ptp with good := good } }
    if 8 ≤ good then d.setServo ptpLocked else d
  match d.servo with
  | 0 => d.stepTimer off
  | 2 => if big then { d.setServo ptpLost with ptp := { d.ptp with good := 0 } } else adjust d
  | 3 => if big then d.stepTimer off else adjust d
  | _ => adjust d

/-- The other die's timer follows the relay die's within 8 ns (R373): its offset is free (DESIGN CHOICE, log entry 8). -/
def DieState.follow (d : DieState) (fv : Nat) (r : DieState) : DieState :=
  let slip : Int := ((Config.freeNat fv 1 % 17 : Nat) : Int) - 8
  let d := { d with ptp := { d.ptp with
    time := r.ptpNow + slip, at_ := r.clk, rate := r.ptp.rate, good := r.ptp.good, lastSync := r.ptp.lastSync, sync := r.ptp.sync, delay := r.ptp.delay,
    reqAt := r.ptp.reqAt } }
  let d := d.setServo r.servo
  ((d.wr rNET_PTP_STAT (r.rd rNET_PTP_STAT)).wr rNET_PTP_OFFSET (r.rd rNET_PTP_OFFSET)).wr rNET_PTP_RATE (r.rd rNET_PTP_RATE)

/-- After the relay die's timer has changed: the other die follows, and PPS_OUT falls unless the servo is LOCKED (R470). -/
def Whole.followers (w : Whole) : Whole :=
  let r := w.die w.relay
  let o := w.relay.other
  let w := if (w.die o).held.isSome ∨ (w.die o).dev = .boot then w else w.onDie o (fun d => d.follow w.free r)
  if r.servo = ptpLocked then w else w.onSw (fun s => { s with pps := none })

/-- The slave port: 0 A, 1 B. -/
def DieState.slavePort (d : DieState) : Nat := d.fld rNET_PORT 4 4

/-- A PTP message for the relay die's clock over port B or A: its token, and only on the slave port. -/
def Whole.ptpMessage (w : Whole) (portB : Bool) (f : DieState → DieState) : Whole :=
  w.admitFrame (b2n portB) fun w => if (w.die w.relay).slavePort = b2n portB then (w.onRelay f).followers else w

/-- PTP_SYNC: `master` is the master's time of sending, corrections included (with its Follow_Up where it has two steps); the offset is the local time less
the measured delay, less that (R372, R373). (DEDUCED, log entry 33.) -/
def ptpSync (portB : Bool) (master : Nat) (w : Whole) : Whole :=
  let fv := w.free
  w.ptpMessage portB fun d =>
    let here := d.ptpNow
    let off := here - d.ptp.delay - master
    ({ d with ptp := { d.ptp with sync := some (master, here) } }).measure fv off

/-- PTP_DELAY_REQ: the request falls due one interval after the last (R372). -/
def ptpDelayReq (w : Whole) : Whole :=
  if !w.relayUp then w
  else
    let every := (w.die w.relay).ptp.every
    let w := match w.mod.sw.reqAt with | some t => w.at (t + every) | none => w
    let w := w.onRelay (fun d =>
      { d.send .ptpRequest [d.slavePort, b2n d.ptp.peer] [] with ptp := { d.ptp with reqAt := some d.ptpNow } })
    w.onSw (fun s => { s with reqAt := some w.now })

/-- PTP_DELAY_RESPONSE: `v` is the master's time of receipt of the request, or, under peer delay, the peer's turnaround in ns (R372). (DEDUCED, log entry 33.) -/
def ptpDelayResponse (portB : Bool) (v : Nat) (w : Whole) : Whole :=
  w.ptpMessage portB fun d =>
    match d.ptp.reqAt with
    | none => d
    | some t3 =>
      let put (x : Int) : DieState := { d with ptp := { d.ptp with delay := x.fdiv 2, reqAt := none } }
      if d.ptp.peer then put (d.ptpNow - t3 - v)
      else match d.ptp.sync with | some (t1, t2) => put ((t2 - t1) + (v - t3)) | none => d

/-- SYNC_TIMEOUT: more than SYNC_TIMEOUT, 3 s by default, since the last valid Sync (R373). -/
def syncTimeout (w : Whole) : Whole :=
  let d := w.die w.relay
  if d.servo ≠ ptpLocked then w
  else
    let s := if d.ptp.timeout = 0 then 3 else d.ptp.timeout
    ((w.at (d.ptp.lastSync + 1000000000 * s + 1)).onRelay (fun d => { d.setServo ptpLost with ptp := { d.ptp with good := 0 } })).followers

/-- PPS_OUT_EDGE: the next whole second of the relay die's timer (R470). -/
def ppsEdge (w : Whole) : Whole :=
  let d := w.die w.relay
  if d.servo ≠ ptpLocked then w
  else
    let w := w.onRelay (fun d => (d.untilPtp ((d.ptpNow / 1000000000 + 1) * 1000000000).toNat).send .pin [0] [])
    w.onSw (fun s => { s with pps := some (w.now + 100000000) })

/-! ### The commands -/

/-- PTP_SYNC: port, the master's time in ns. -/
def execPtpSync (portB : Bool) (m : BitVec 64) (s : State) : Host.Outcome State Fault Refusal := .next (s.onWhole (ptpSync portB m.toNat))
/-- PTP_DELAY_REQ. -/
def execPtpDelayReq (s : State) : Host.Outcome State Fault Refusal := .next (s.onWhole ptpDelayReq)
/-- PTP_DELAY_RESPONSE: port, time in ns. -/
def execPtpDelayResponse (portB : Bool) (v : BitVec 64) (s : State) : Host.Outcome State Fault Refusal :=
  .next (s.onWhole (ptpDelayResponse portB v.toNat))
/-- SYNC_TIMEOUT. -/
def execSyncTimeout (s : State) : Host.Outcome State Fault Refusal := .next (s.onWhole syncTimeout)
/-- PPS_OUT_EDGE. -/
def execPpsOutEdge (s : State) : Host.Outcome State Fault Refusal := .next (s.onWhole ppsEdge)

end Sys2Proof.Machine
end

