-- ==== Sys2Proof/Machine/Links.lean ====
section
/-! DEFINITION. Twill ports (spec/16 R385 to R393, R403): frames received, link retry, bring-up, retraining, frequency lock; BULK messages (R400). -/

namespace Sys2Proof.Machine

/-- Change the Twill unit. -/
def DieState.onTwl (d : DieState) (f : Twl → Twl) : DieState := { d with twl := f d.twl }

/-- Change the die of module port `p`. -/
def Whole.onPort (w : Whole) (p : Nat) (f : DieState → DieState) : Whole := w.onDie (portDie p) f

/-- A CTRL message whose payload the spec does not lay out: its opcode, what it carries (DESIGN CHOICE, log entry 22). -/
def DieState.sendCtrl (d : DieState) (op : Nat) (args : List Nat) (data : List Byte) : DieState := d.send .twlControl (0 :: op :: args) data

/-! ### Link retry (R387) -/

/-- An LCTL block on port `p`: kind 1 ACK or 2 NAK, the sequence number; a frame leaves its buffer as it is routed, so that 16 stand free. (DEDUCED, log entry 34.) -/
def DieState.lctl (d : DieState) (p kind seq : Nat) : DieState := d.send .twlControl [1, p, kind, seq % 256, 16, 16] []

/-- Frames go out again, oldest first, each counted as RETRY. -/
def DieState.resend (d : DieState) (p : Nat) : DieState :=
  (d.tport p).out.foldl (fun d o => (d.txFrame p o.1 o.2.1).twlCount p 1 1)
    (d.modTport p (fun x => { x with out := x.out.map (fun o => (o.1, o.2.1, o.2.2 + 1)) }))

/-- A frame has been resent 16 times. -/
def TPort.worn (x : TPort) : Bool := x.out.any (fun o => decide (16 ≤ o.2.2))

/-- The outstanding frames up to and with `seq` are released, where `seq` is outstanding. -/
def TPort.acked (x : TPort) (seq : Nat) : TPort :=
  if x.out.any (fun o => o.1 == seq) then { x with out := (x.out.dropWhile (fun o => o.1 != seq)).drop 1 } else x

/-- The frames of a port that is not ACTIVE any more are looked up again (R403). -/
def Whole.reroute (w : Whole) (p : Nat) : Whole :=
  let die := portDie p
  let x := (w.die die).tport p
  let fs := x.out.map (fun o => o.2.1) ++ x.queue
  let w := w.onDie die (fun d => d.setTport p { x with out := [], queue := [] })
  fs.foldl (fun w f => w.forward 4 die (some p) { f with hops := f.hops - 1 }) w

/-- A port leaves ACTIVE for `st` (R392, R403); for TRAIN, training at the lowest rate begins (R384, R391). -/
def Whole.leaveActive (w : Whole) (p st : Nat) : Whole :=
  let w := w.onPort p (fun d =>
    let d := ((d.setTpState p st).modTport p (fun x => { x with since := d.clk, lock := false })).raise rTWL_STATUS 0
    if st = 2 then d.train p 0 else d)
  w.reroute p

/-- RETRAIN: port `p` has lost codeword lock or reached the retry limit (R392). -/
def retrain (p : Nat) (w : Whole) : Whole :=
  if (w.die (portDie p)).tpState p ≠ 5 then w
  else
    let w := w.onPort p (fun d => (((d.twlCount p 4 1).raise rTWL_STATUS 1).life 30 1).hist 10 (32 + p))
    w.leaveActive p 2

/-- TWILL_FRAME_RECEIVE: header and payload `bs` with CRC `crc` come over port `p`; `ratio`: the neighbour rate ratio with 40 fraction bits; symbols corrected
and codewords not corrected since the last frame (R385 to R387, R395, R398). (DEDUCED, log entry 34.) -/
def frameReceive (p : Nat) (bs : List Byte) (crc ratio corr uncorr : Nat) (w : Whole) : Whole :=
  if (w.die (portDie p)).tpState p ≠ 5 then w
  else
    let w := w.onPort p (fun d => (d.twlCount p 2 corr).twlCount p 3 uncorr)
    let d := w.die (portDie p)
    let nak (w : Whole) : Whole := w.onPort p (fun d => d.lctl p 2 (d.tport p).rxSeq)
    match (if crc32 bs = crc then frameOf? bs else none) with
    | none => nak (w.onPort p (fun d => d.twlCount p 0 1))
    | some (seq, f) =>
      if seq ≠ (d.tport p).rxSeq then nak w
      else
        let w := w.onPort p (fun d => d.modTport p (fun x => { x with rxSeq := (x.rxSeq + 1) % 256 }))
        if 5 ≤ f.cls ∨ (f.cls = 3 ∧ f.data.length ≠ 32) then w
        else
          let rho := leNat ((f.data.drop 16).take 8) * ratio / 2 ^ 40
          let count := toSigned 64 (leNat ((f.data.drop 8).take 8))
          let ref := if f.cls = 3 then some (count - ((d.fld (rTWL_DELAY + 4 * p) 23 0 * rho / 2 ^ 40 : Nat) : Int), rho, w.now) else none
          w.forward 4 (portDie p) (some p) { f with ref := ref }

/-- LCTL_ACK: frames up to `seq` have been accepted; the receiver's free buffers. -/
def lctlAck (p seq cr0 cr1 : Nat) (w : Whole) : Whole :=
  w.onPort p (fun d => if d.tpState p ≠ 5 then d else (d.modTport p (fun x => { x.acked seq with cr0 := cr0, cr1 := cr1 })).pump p)

/-- After a resending: the port retrains where a frame has been resent 16 times. -/
def Whole.resent (w : Whole) (p : Nat) : Whole := if ((w.die (portDie p)).tport p).worn then retrain p w else w

/-- LCTL_NAK: the frame `seq` is expected: those before it have been accepted, it and those after it are sent again. -/
def lctlNak (p seq : Nat) (w : Whole) : Whole :=
  let d := w.die (portDie p)
  if d.tpState p ≠ 5 ∨ !(d.tport p).out.any (fun o => o.1 == seq) then w
  else (w.onPort p (fun d => (d.modTport p (fun x => { x with out := x.out.dropWhile (fun o => o.1 != seq) })).resend p)).resent p

/-- ACK_TIMER. -/
def ackTimer (p : Nat) (w : Whole) : Whole :=
  w.onPort p (fun d => if d.tpState p ≠ 5 then d else d.lctl p 1 ((d.tport p).rxSeq + 255))

/-- RETRY_TIMEOUT: 2 µs without an acknowledgement while frames are outstanding. -/
def retryTimeout (p : Nat) (w : Whole) : Whole :=
  let d := w.die (portDie p)
  if d.tpState p ≠ 5 ∨ (d.tport p).out.isEmpty then w else (w.onPort p (fun d => d.resend p)).resent p

/-! ### Bring-up (R389, R390) -/

/-- A port fails with a cause. -/
def DieState.failPort (d : DieState) (p cause : Nat) : DieState := (d.setTpState p 6).setFld (rTWL_PORT + 4 * p) 10 8 cause

/-- DETECT_PATTERN: TRAIN at the lowest rate begins. -/
def detectPattern (p : Nat) (w : Whole) : Whole :=
  w.onPort p (fun d => if d.tpState p ≠ 1 then d else ((d.setTpState p 2).modTport p (fun x => { x with since := d.clk })).train p 0)

/-- CODEWORD_LOCK (R385). -/
def codewordLock (p : Nat) (w : Whole) : Whole :=
  w.onPort p (fun d => if 2 ≤ d.tpState p ∧ d.tpState p ≤ 5 then d.modTport p (fun x => { x with lock := true }) else d)

/-- LINK_TIMEOUT: 500 ms by default. -/
def linkTimeout (p : Nat) (w : Whole) : Whole :=
  w.onPort p (fun d =>
    let x := d.tport p
    if 1 ≤ d.tpState p ∧ d.tpState p ≤ 4 then
      (d.at (x.since + 1000000 * (if x.cfg.timeout = 0 then 500 else x.cfg.timeout))).failPort p 1
    else d)

/-- NEGOTIATE: the peer's word: generation, rate, equalisation ID, role (R390). -/
def negotiate (p gen rate eq role : Nat) (w : Whole) : Whole :=
  w.onPort p (fun d =>
    if d.tpState p ≠ 2 ∧ d.tpState p ≠ 3 then d
    else
      let x := d.tport p
      if gen = 0 then d.failPort p 2
      else if eq ≠ x.cfg.eqId then d.failPort p 3
      else
        let d := (d.setTpState p 4).modTport p (fun x => { x with agreed := min rate x.cfg.maxRate, fref := bit 1 role })
        d.setFld (rTWL_PORT + 4 * p) 31 16 eq)

/-- Frames that waited at port `p` and may go now: the tables have a route for them that is another port's or the die's, or the port is ACTIVE. (DEDUCED, log entry 34.) -/
def Whole.unpark (w : Whole) (p : Nat) : Whole :=
  let d := w.die (portDie p)
  let go (x : TFrame × Nat) : Bool := decide (d.route x.1.dest ≤ 5) && (d.tpState p == 5 || d.route x.1.dest != p)
  let l := (d.tport p).parked.filter go
  let w := w.onPort p (fun d => d.modTport p (fun x => { x with parked := x.parked.filter (fun y => !go y) }))
  l.foldl (fun w x => w.forward 4 (portDie p) (some p) { x.1 with hops := x.1.hops - 1 }) w

/-- STEP_UP: the port has trained at each higher rate in turn with that rate's settings; `rate` is the highest rate that passed; `delay` the link delay measured just after
ACTIVE (R390, R391, R395). -/
def stepUp (p rate delay : Nat) (w : Whole) : Whole :=
  if (w.die (portDie p)).tpState p ≠ 4 then w
  else
    let w := w.onPort p (fun d =>
      let x := d.tport p
      let r := min rate x.agreed
      let d := ((List.range x.agreed).foldl (fun (d : DieState) k => d.train p (k + 1)) d).equalise p r
      let d := d.setFld (rTWL_PORT + 4 * p) 5 4 r
      let d := if r < x.agreed then (d.setFlag (rTWL_PORT + 4 * p) 11 true).raise rTWL_STATUS 2 else d.setFlag (rTWL_PORT + 4 * p) 11 false
      if r < x.cfg.minRate then d.failPort p 4
      else
        ((d.setTpState p 5).setFld (rTWL_DELAY + 4 * p) 23 0 delay).modTport p
          (fun x => { x with txSeq := 0, rxSeq := 0, out := [], cr0 := 16, cr1 := 16, lock := true }))
    if (w.die (portDie p)).tpState p = 5 then w.unpark p else w

/-! ### Frequency lock (R393) -/

/-- FREQUENCY_LOCK: with the reference port ACTIVE and offered, the core reference locks, or not within 10 ms. -/
def frequencyLock (ok : Bool) (w : Whole) : Whole :=
  let c := w.die w.carrier
  let p := c.fld rTWL_CFG 29 27
  let d := w.die (portDie p)
  if c.dev ≠ .linkTrain ∨ 3 < p ∨ d.tpState p ≠ 5 ∨ !(d.tport p).fref then w
  else w.both (fun d => if ok then d.setFlag rTWL_SYNC 29 true else d.raise rTWL_STATUS 7)

/-- FREF_LOSS: the reference link has left ACTIVE in ARMED, RUN or SAFE. -/
def frefLoss (w : Whole) : Whole :=
  let c := w.die w.carrier
  let p := c.fld rTWL_CFG 29 27
  let live := c.dev == .armed || c.dev == .run || c.dev == .safe
  if !live ∨ 3 < p ∨ !c.flag rTWL_SYNC 29 ∨ (w.die (portDie p)).tpState p = 5 then w
  else w.both (fun d => (d.setFlag rTWL_SYNC 29 false).raise rTWL_STATUS 7)

/-! ### Waiting frames (R403) -/

/-- ROUTE_WAIT_TIMEOUT: the frame of port `p` that has waited longest is discarded after 10 ms, and its source is told. -/
def routeWait (p : Nat) (w : Whole) : Whole :=
  let die := portDie p
  match ((w.die die).tport p).parked with
  | [] => w
  | (f, t) :: rest =>
    let w := w.onDie die (fun d => ((d.at (t + 10000000)).modTport p (fun x => { x with parked := rest })).discardFrame p)
    if f.cls = 0 ∧ f.data.head? = some ctrlUnreachable then w
    else w.forward 4 die none ((w.die die).ctrlFrame f.src f.srcDie [ctrlUnreachable])

/-! ### BULK (R400) -/

/-- The first message of a class that a die has received and not acted on, and the die without it. -/
def DieState.takeMsg (d : DieState) (c : TMsg → Bool) : Option (TMsg × DieState) :=
  match d.twl.inbox.find? c with
  | none => none
  | some m => some (m, d.onTwl (fun t => { t with inbox := t.inbox.erase m }))

/-- BULK: the oldest BULK message is written into its UPDATE_STAGING or QUILL region, or discarded whole with a BULK_NAK,
as is a write to a locked staging area (R423). (DEDUCED, log entry 10.) -/
def bulk (x : DM) : DM :=
  match x.d.takeMsg (fun m => m.cls == 1) with
  | none => x
  | some (m, d) =>
    let b (i n : Nat) : Nat := leNat ((m.data.drop i).take n)
    let kind := b 0 1
    let off := b 4 8
    let total := b 12 4
    let nak (d : DieState) : DM := { x with d := d.sendCtrl 6 [m.src, m.srcDie] [] }
    match d.mem.regions.find? (fun r => r.kind == kind) with
    | none => nak d
    | some r =>
      let at_ := 960 * r.base + off
      if (kind ≠ 8 ∧ kind ≠ 10) ∨ (kind = 8 ∧ d.flag rQLL_STAGE 3) ∨ b 1 3 ≠ 0 ∨ m.data.length ≠ 16 + total ∨ 960 * r.len < off + total then nak d
      else
        let f := d.fwl 20 (at_ % 2 ^ 32) 0x70 7 true
        let g := if f.2 then f.1.fwl 20 ((at_ + total - 1) % 2 ^ 32) 0x70 7 true else f
        if g.2 then ({ x with d := g.1 } : DM).writeDram at_ (m.data.drop 16) else nak g.1

/-- BULK_NAK: a BULK message of this die was discarded: the Quill is told. -/
def bulkNak (d : DieState) : DieState := d.send .irq [0, 6] []

/-! ### The commands -/

/-- TWILL_FRAME_RECEIVE: port, header and payload, CRC-32, neighbour rate ratio, symbols corrected, codewords not corrected. -/
def execTwillFrameReceive (p : Fin 4) (bs : List (BitVec 8)) (crc : BitVec 32) (ratio : BitVec 64) (corr uncorr : BitVec 16) (s : State) :
    Host.Outcome State Fault Refusal := .next (s.onWhole (frameReceive p.val bs crc.toNat ratio.toNat corr.toNat uncorr.toNat))
/-- LCTL_ACK: port, last SEQ accepted, free buffers of VC0 and VC1. -/
def execLctlAck (p : Fin 4) (seq : BitVec 8) (c0 c1 : BitVec 8) (s : State) : Host.Outcome State Fault Refusal :=
  .next (s.onWhole (lctlAck p.val seq.toNat c0.toNat c1.toNat))
/-- LCTL_NAK: port, SEQ expected. -/
def execLctlNak (p : Fin 4) (seq : BitVec 8) (s : State) : Host.Outcome State Fault Refusal := .next (s.onWhole (lctlNak p.val seq.toNat))
/-- ACK_TIMER. -/
def execAckTimer (p : Fin 4) (s : State) : Host.Outcome State Fault Refusal := .next (s.onWhole (ackTimer p.val))
/-- RETRY_TIMEOUT. -/
def execRetryTimeout (p : Fin 4) (s : State) : Host.Outcome State Fault Refusal := .next (s.onWhole (retryTimeout p.val))
/-- RETRAIN. -/
def execRetrain (p : Fin 4) (s : State) : Host.Outcome State Fault Refusal := .next (s.onWhole (retrain p.val))
/-- DETECT_PATTERN. -/
def execDetectPattern (p : Fin 4) (s : State) : Host.Outcome State Fault Refusal := .next (s.onWhole (detectPattern p.val))
/-- CODEWORD_LOCK. -/
def execCodewordLock (p : Fin 4) (s : State) : Host.Outcome State Fault Refusal := .next (s.onWhole (codewordLock p.val))
/-- LINK_TIMEOUT. -/
def execLinkTimeout (p : Fin 4) (s : State) : Host.Outcome State Fault Refusal := .next (s.onWhole (linkTimeout p.val))
/-- NEGOTIATE: port; the peer's generation, rate, equalisation ID, role. -/
def execNegotiate (p : Fin 4) (gen : BitVec 8) (rate : Fin 4) (eq : BitVec 16) (role : BitVec 2) (s : State) : Host.Outcome State Fault Refusal :=
  .next (s.onWhole (negotiate p.val gen.toNat rate.val eq.toNat role.toNat))
/-- STEP_UP: port, highest rate that passed, measured delay in 1/16 cycle. -/
def execStepUp (p rate : Fin 4) (dl : BitVec 24) (s : State) : Host.Outcome State Fault Refusal := .next (s.onWhole (stepUp p.val rate.val dl.toNat))
/-- FREQUENCY_LOCK: whether the lock succeeds. -/
def execFrequencyLock (ok : Bool) (s : State) : Host.Outcome State Fault Refusal := .next (s.onWhole (frequencyLock ok))
/-- FREF_LOSS. -/
def execFrefLoss (s : State) : Host.Outcome State Fault Refusal := .next (s.onWhole frefLoss)
/-- ROUTE_WAIT_TIMEOUT. -/
def execRouteWaitTimeout (p : Fin 4) (s : State) : Host.Outcome State Fault Refusal := .next (s.onWhole (routeWait p.val))
/-- BULK. -/
def execBulk (d : Die) (s : State) : Host.Outcome State Fault Refusal := .next (s.onDM d (fun _ => bulk))
/-- BULK_NAK. -/
def execBulkNak (d : Die) (s : State) : Host.Outcome State Fault Refusal := .next (s.onDie d bulkNak)

end Sys2Proof.Machine
end

