-- ==== Sys2Proof/Machine/Fabric.lean ====
section
/-! DEFINITION. The Twill fabric (spec/16 R394 to R397, R401 to R407): discovery and routes, the start barrier and alignment, lock-step
signatures, die failure and re-mapping. -/

namespace Sys2Proof.Machine

/-! ### Discovery (R401, R402) -/

/-- The architecture generation of the silicon (R416). -/
def archGen : Nat := 1

/-- The member code of the AE7D (R415). -/
def memberCode : Nat := 0x000F

/-- The states of the module's four ports. -/
def Whole.portStates (w : Whole) : List Nat := (List.range 4).map (fun p => (w.die (portDie p)).tpState p)

/-- A module found: where its ACTIVE ports are. -/
def DiscMod.active (m : DiscMod) : List Nat := (List.range 4).filter (fun p => m.ports.getD p 0 == 5)

/-- The first probe still to be answered is sent along its path, unless the path is longer than 64 codes. -/
def DieState.sendProbe (d : DieState) : DieState :=
  match d.twl.probes with
  | [] => d
  | t :: _ => d.sendCtrl 1 (t :: ((d.twl.found.getD (t / 4) default).path ++ [t % 4])) []

/-- The probes of the module last found, by increasing port number. -/
def Twl.addProbes (t : Twl) : Twl :=
  let i := t.found.length - 1
  let m := t.found.getD i default
  if 64 ≤ m.path.length then t else { t with probes := t.probes ++ m.active.map (fun p => 4 * i + p) }

/-- The regions, by module: up to 2,048 modules form region 0; otherwise each region grows from its seed over adjacent modules, in discovery order
(R401). `left` the modules not assigned, `n` the region to be formed. -/
def formRegions (found : List DiscMod) (fuel n : Nat) (left : List Nat) (acc : Tbl (Nat × Nat)) : Tbl (Nat × Nat) :=
  match fuel with
  | 0 => acc
  | k + 1 =>
    match left with
    | [] => acc
    | seed :: _ =>
      let grow (g : List Nat) (_ : Nat) : List Nat :=
        if 2048 ≤ g.length then g
        else
          match left.find? (fun m => !g.contains m && (found.getD m default).links.any (fun l => g.contains l.2)) with
          | some m => g ++ [m]
          | none => g
      let g := (List.range (min 2047 left.length)).foldl grow [seed]
      let acc := (g.zip (List.range g.length)).foldl (fun a x => tset a x.1 (n, x.2)) acc
      formRegions found k (n + 1) (left.filter (fun m => !g.contains m)) acc

/-- Region and node by module found. -/
def Twl.places (t : Twl) : Tbl (Nat × Nat) :=
  let ms := List.range t.found.length
  if t.found.length ≤ 2048 then ms.map (fun m => (m, 0, m)) else formRegions t.found 128 0 ms []

/-- The least of some numbers. -/
def minOf (l : List (Option Nat)) : Option Nat :=
  l.foldl (fun a b => match a, b with | some x, some y => some (min x y) | none, y => y | x, none => x) none

/-- The distances to module `t` over the modules `s` (in rising order): over links that lead down the discovery tree alone, and by any path that goes up and then
down (R401). A link leads down where it leads to a module found later. -/
def distances (found : List DiscMod) (s : List Nat) (t : Nat) : Tbl (Option Nat) × Tbl (Option Nat) :=
  let nb (m : Nat) : List Nat := ((found.getD m default).links.map (·.2)).filter (fun u => s.contains u)
  let plus (x : Option Nat) : Option Nat := x.map (· + 1)
  let down := s.reverse.foldl (fun (a : Tbl (Option Nat)) m =>
    tset a m (if m = t then some 0 else minOf (((nb m).filter (fun u => decide (m < u))).map (fun u => plus (tget a u none))))) []
  let all := s.foldl (fun (a : Tbl (Option Nat)) m =>
    tset a m (match tget down m none with
      | some x => some x
      | none => minOf (((nb m).filter (fun u => decide (u < m))).map (fun u => plus (tget a u none))))) []
  (down, all)

/-- The port of module `m` towards module `t`: of the links on a shortest such path, the lowest port. -/
def portTo (found : List DiscMod) (dist : Tbl (Option Nat) × Tbl (Option Nat)) (m : Nat) : Option Nat :=
  let links := (found.getD m default).links
  match tget dist.1 m none with
  | some k => (links.find? (fun l => decide (m < l.2) && (tget dist.1 l.2 none).map (· + 1) == some k)).map (·.1)
  | none =>
    match tget dist.2 m none with
    | some k => (links.find? (fun l => decide (l.2 < m) && (tget dist.2 l.2 none).map (· + 1) == some k)).map (·.1)
    | none => none

/-- The tables of every module: by module, its codes as ports (8: none, own: 5) for regions and for nodes; none where a route is missing. -/
def Twl.tables (t : Twl) : Option (List (Tbl Nat × Tbl Nat)) :=
  let places := t.places
  let ms := List.range t.found.length
  let reg (m : Nat) : Nat := (tget places m (0, 0)).1
  let inReg (r : Nat) : List Nat := ms.filter (fun m => reg m == r)
  let near := ms.map (fun x => distances t.found (inReg (reg x)) x)
  let far := (ms.filter (fun x => (tget places x (0, 0)).2 == 0)).map (fun x => (x, distances t.found ms x))
  let rows := ms.map fun m =>
    let nodes := (inReg (reg m)).map (fun x => ((tget places x (0, 0)).2, if x = m then some 5 else portTo t.found (near.getD x ([], [])) m))
    let regs := (far.filter (fun x => reg x.1 != reg m)).map (fun x => (reg x.1, portTo t.found x.2 m))
    (regs, nodes)
  if rows.any (fun r => (r.1 ++ r.2).any (fun x => x.2.isNone)) then none
  else some (rows.map (fun r => (r.1.map (fun x => (x.1, x.2.getD 6)), r.2.map (fun x => (x.1, x.2.getD 6)))))

/-- The table words of die `k` for a table: ports of the other die are reached over the die-to-die link; what is not listed is DROP (R398). -/
def routeWords (k n : Nat) (t : Tbl Nat) : List Nat :=
  let code (i : Nat) : Nat :=
    let c := tget t i 6
    if c ≤ 3 ∧ (portDie c).num ≠ k then 4 else c
  (List.range n).map (fun j => (List.range 8).foldl (fun a i => a + code (8 * j + i) * 2 ^ (3 * i)) 0)

/-- A die takes its address and its tables (R401). -/
def DieState.setRoutes (d : DieState) (addr : Nat) (rs ns : List Nat) : DieState :=
  let put (base : Nat) (ws : List Nat) (d : DieState) : DieState :=
    (ws.zip (List.range ws.length)).foldl (fun d x => d.wr (base + 4 * x.2) (x.1 % 2 ^ 24)) d
  put rTWL_ROUTE_N (ns.take 256) (put rTWL_ROUTE_R (rs.take 16) (d.setFld rTWL_CFG 17 0 addr))

/-- Frames that wait at a die's ports are looked up in its new tables (R403). -/
def Whole.unparkAll (w : Whole) : Whole := (List.range 4).foldl (fun w p => w.unpark p) w

/-- The root writes every die's address and tables and ends discovery; where a route is missing, DISCOVERY_FAIL (R401). -/
def Whole.endDiscovery (w : Whole) : Whole :=
  let c := w.carrier
  let t := (w.die c).twl
  match t.tables with
  | none => w.both (fun d => d.raise rTWL_STATUS 9)
  | some rows =>
    let places := t.places
    let w := (rows.zip (List.range rows.length)).foldl (fun w x =>
      let a := tget places x.2 (0, 0)
      let addr := 2048 * a.1 + a.2
      let one (w : Whole) (k : Die) : Whole :=
        let rs := routeWords k.num 16 x.1.1
        let ns := routeWords k.num 256 x.1.2
        if x.2 = 0 then w.onDie k (fun d => d.setRoutes addr rs ns)
        else w.onDie c (fun d => d.sendCtrl 3 [x.2, k.num, addr] ((rs ++ ns).flatMap (leBytes 4)))
      one (one w .a) .b) w
    let w := (List.range (rows.length - 1)).foldl (fun w i => w.onDie c (fun d => d.sendCtrl 4 [i + 1] [])) w
    (w.both (fun d => d.onTwl (fun t => { t with done := true }))).unparkAll

/-- The next probe goes out, or discovery ends. -/
def Whole.nextProbe (w : Whole) : Whole :=
  if (w.die w.carrier).twl.probes.isEmpty then w.endDiscovery else w.onDie w.carrier (fun d => d.sendProbe)

/-- DISCOVERY: the root begins, in LINK_TRAIN once every configured port is ACTIVE or FAILED, or later to compute the routes anew (R403); while it waits for an
answer, it gives up the probe that has none. (DEDUCED, log entry 34.) -/
def discovery (w : Whole) : Whole :=
  let c := w.die w.carrier
  let settled := w.portStates.all (fun s => s == 0 || s == 5 || s == 6)
  let live := (c.dev == .linkTrain && settled) || c.dev == .armed || c.dev == .run || c.dev == .safe
  if !c.flag rTWL_CFG 31 ∨ c.flag rTWL_CFG 30 ∨ !live then w
  else if c.twl.probes.isEmpty then
    let own : DiscMod := { serial := w.mod.store.serial, member := memberCode, gen := archGen, ports := w.portStates, path := [], links := [] }
    (w.onDie w.carrier (fun d => d.onTwl (fun t => Twl.addProbes { t with found := [own] }))).nextProbe
  else (w.onDie w.carrier (fun d => d.onTwl (fun t => { t with probes := t.probes.drop 1 }))).nextProbe

/-- PROBE: it comes over port `p` with the port codes that are left; the module it names answers IDENT, others pass it on (R401). -/
def probe (p tag : Nat) (rest : List Nat) (w : Whole) : Whole :=
  if (w.die (portDie p)).tpState p ≠ 5 then w
  else
    match rest with
    | q :: more => if 3 < q ∨ (w.die (portDie q)).tpState q ≠ 5 then w else w.onPort q (fun d => d.sendCtrl 1 ((256 + q) :: tag :: more) [])
    | [] =>
      w.onPort p (fun d => d.sendCtrl 2 ([256 + p, tag, memberCode, archGen] ++ w.portStates ++ [d.fld rTWL_CFG 17 0]) w.mod.store.serial)

/-- An answer to the probe under way: a module not yet found is recorded with this path; a link to it is known in any case (R401). -/
def Twl.found_ (t : Twl) (serial : List Byte) (member gen : Nat) (ports : List Nat) : Twl :=
  match t.probes with
  | [] => t
  | tag :: rest =>
    let i := tag / 4
    let link (k : Nat) : List DiscMod :=
      (t.found.zip (List.range t.found.length)).map (fun x => if x.2 = i then { x.1 with links := tset x.1.links (tag % 4) k } else x.1)
    match (List.range t.found.length).find? (fun k => (t.found.getD k default).serial == serial) with
    | some k => { t with probes := rest, found := link k }
    | none =>
      let m : DiscMod :=
        { serial := serial, member := member, gen := gen, ports := ports, path := (t.found.getD i default).path ++ [tag % 4], links := [] }
      Twl.addProbes { t with probes := rest, found := link t.found.length ++ [m] }

/-- IDENT: at the root, the answer to its probe; under static addresses, the word of the peer of port `p`, checked against PEER_ADDR (R401, R402). -/
def ident (p tag : Nat) (serial : List Byte) (member gen : Nat) (ports : List Nat) (addr : Nat) (w : Whole) : Whole :=
  let c := w.die w.carrier
  if c.flag rTWL_CFG 30 then
    let d := w.die (portDie p)
    if d.tpState p ≠ 5 ∨ addr = (d.tport p).cfg.peer then w else (w.leaveActive p 6).onPort p (fun d => d.failPort p 5)
  else if c.twl.probes.head? ≠ some tag then w
  else (w.onDie w.carrier (fun d => d.onTwl (fun t => t.found_ serial member gen ports))).nextProbe

/-- ROUTE_WRITE: the die's address and tables from the root. -/
def routeWrite (die : Die) (addr : Nat) (rs ns : List Nat) (w : Whole) : Whole := (w.onDie die (fun d => d.setRoutes addr rs ns)).unparkAll

/-- DONE: discovery has ended. -/
def discoveryDone (w : Whole) : Whole := w.both (fun d => d.onTwl (fun t => { t with done := true }))

/-! ### The start barrier and alignment (R396, R397) -/

/-- Act on the first BARRIER message of a kind that the group's die holds. -/
def Whole.withBarrier (w : Whole) (kind : Nat) (f : TMsg → Whole → Whole) : Whole :=
  match (w.die w.carrier).takeMsg (fun m => m.cls == 3 && m.data.head? == some (BitVec.ofNat 8 kind)) with
  | none => w
  | some (m, d) => f m (w.onDie w.carrier (fun _ => d.sync w.now))

/-- ARRIVE: the master counts a member. -/
def arrive (w : Whole) : Whole :=
  w.withBarrier 1 fun m w =>
    if w.isMaster then (w.onGrp (fun g => { g with addrs := if g.addrs.contains m.src then g.addrs else g.addrs ++ [m.src] })).startGroup 0 else w

/-- WITHDRAW: the master counts a member no more. -/
def withdrawMsg (w : Whole) : Whole := w.withBarrier 4 fun m w => w.onGrp (fun g => { g with addrs := g.addrs.filter (· ≠ m.src) })

/-- The local instant that a message names: its arrival and COUNT / ρ, to the first cycle not before it (R395, R396). (DEDUCED, log entry 34.) -/
def TMsg.instant (m : TMsg) : Int :=
  let den : Int := 16 * (max m.rho 1 : Nat)
  (m.at_ : Int) + -((-(m.count * 2 ^ 40)).fdiv den)

/-- START: the module's release instant, or START_LATE with a report to the master (R396). -/
def startMsg (w : Whole) : Whole :=
  w.withBarrier 2 fun m w =>
    if !w.mod.grp.arrived then w
    else if m.count < 0 then
      (w.both (fun d => d.raise rTWL_STATUS 8)).onDie w.carrier (fun d => d.send .twlControl [2, d.fld rTWL_SYNC 17 0] [])
    else w.onGrp (fun g => { g with release := some m.instant.toNat })

/-- START_LATE_REPORT from member `addr`: a new START with a later instant to every member that has not released: all of them while the instant lies
ahead, then the late one (R396). (DEDUCED, log entry 34.) -/
def startLate (addr : Nat) (w : Whole) : Whole :=
  if !w.isMaster then w
  else
    match w.mod.grp.release with
    | some t =>
      if w.now < t then (w.onGrp (fun g => { g with release := none })).startGroup (t - w.now)
      else w.twlSend w.carrier addr 0 3 (barrierBytes 2 0) (some (((16 * (2 * w.margin) : Nat) : Int), rhoOne, w.now))
    | none =>
      if w.mod.grp.running.contains addr then
        w.twlSend w.carrier addr 0 3 (barrierBytes 2 0) (some (((16 * (2 * w.margin) : Nat) : Int), rhoOne, w.now))
      else w

/-- The trim in parts per 10^9 with which the offset `o` would be gone after 1,024 more steps, from the trim in use and ρ (R397). -/
def trimFor (trim : Int) (rho : Nat) (o : Int) : Int :=
  let n : Int := 20480000
  if n ≤ o then 300000
  else clampZ (-300000) 300000 (((1000000000 + trim) * rho * n).fdiv (2 ^ 40 * (n - o)) - 1000000000)

/-- A die aligns itself to the master's boundary `s` at the local instant `t` (R397). (DEDUCED, log entry 34.) -/
def DieState.align (d : DieState) (s : Nat) (t : Int) (rho : Nat) : DieState :=
  if !d.stepping ∨ s % 1024 ≠ 0 ∨ s = 0 then d
  else
    let own : Int := if s / 1024 = d.seq.step / 1024 then d.twl.mark else (d.seq.stepAt : Int) + 20000 * ((s : Int) - d.seq.step)
    let o := own - t
    let d := (d.wr rTWL_ALIGN (ofSigned 32 (clampZ (-2147483648) 2147483647 o))).onTwl (fun x => { x with aligned := max x.aligned (s / 1024) })
    let d :=
      if d.flag rTWL_SYNC 29 then (if 4 < o.natAbs then d.raise rTWL_STATUS 6 else d)
      else d.wr rTWL_TRIM (ofSigned 32 (trimFor (toSigned 32 (d.rd rTWL_TRIM)) rho o))
    if 20000 ≤ o.natAbs then d.raise rTWL_STATUS 5 else d

/-- ALIGN. -/
def alignMsg (w : Whole) : Whole := w.withBarrier 3 fun m w => w.both (fun d => d.align (leNat ((m.data.drop 24).take 8)) m.instant m.rho)

/-- The steps between the messages of a member's alignment have run out: at boundary 1,024j + 16 no ALIGN of 1,024j has come (R397). -/
def alignMiss (w : Whole) : Whole :=
  if w.isMaster then w
  else
    w.both fun d =>
      let s := d.seq.step
      if !d.stepping ∨ d.seq.cycle ≠ 0 ∨ s < 1024 ∨ s % 1024 ≠ 16 ∨ s / 1024 ≤ d.twl.aligned then d else d.raise rTWL_STATUS 4

/-! ### Lock-step signatures (R404, R405) -/

/-- The CRC-64 over the CRCs of some physical tiles. -/
def DieState.crcOver (d : DieState) (ps : List Nat) : Nat := crc64 0 (ps.flatMap (fun p => leBytes 8 (d.slotOf p).cur.crc))

/-- The SIGN message of the step that ends: the step signature over P1's and P2's tiles in virtual order; by physical group, the signature of the virtual
group it carries, or of MAINT, or zero; the map. -/
def DieState.sign (d : DieState) : Sign :=
  { step := d.seq.step
    sig := d.crcOver ((List.range 256).map (fun v => d.ptileOf v))
    groups := (List.range 17).map (fun g =>
      if (d.virtGroup g).isSome ∨ (d.ctx.maint ∧ g = d.outGroup) then d.crcOver ((List.range 16).map (fun i => 16 * g + i)) else 0)
    map := (List.range 16).map (fun vg => d.physGroup vg)
    outg := d.outGroup }

/-- The 169 bytes of a SIGN message (R404). -/
def Sign.bytes (s : Sign) : List Byte :=
  leBytes 8 s.step ++ leBytes 8 s.sig ++ s.groups.flatMap (leBytes 8) ++ s.map.flatMap (leBytes 1) ++ leBytes 1 s.outg

/-- The lowest virtual group whose signatures differ, with both dies' physical groups for it. -/
def signDiffer (own peer : Sign) : Option (Nat × Nat × Nat) :=
  let at_ (s : Sign) (vg : Nat) : Nat := s.groups.getD (s.map.getD vg 0) 0
  ((List.range 16).find? (fun vg => at_ own vg != at_ peer vg)).map (fun vg => (vg, own.map.getD vg 0, peer.map.getD vg 0))

/-- SIGN: at step S + 2 a die of a pair compares the peer's signature of S with its own; `miss`: the peer's message missed admission (R405). (DEDUCED, log entry 26.) (DEDUCED, log entry 32.) -/
def signCompare (die : Die) (miss : Bool) (w : Whole) : Whole :=
  let d := w.die die
  if !d.paired ∨ !d.stepping ∨ d.seq.step < 2 ∨ d.fld rTWL_PEER 1 0 ≠ 1 then w
  else
    let s := d.seq.step - 2
    match d.twl.signs.find? (fun x => x.step == s) with
    | none => w
    | some own =>
      match (if miss then none else (w.die die.other).twl.signs.find? (fun x => x.step == s)) with
      | none => w.both (fun d => (d.toCycle 1).detect 3)
      | some peer =>
        if own.sig = peer.sig then w
        else
          let w := w.onDie die (fun d =>
            let d := d.raise rTWL_STATUS 11
            if d.flag rTWL_SIGN_DIFF 31 then d
            else
              let x := (signDiffer own peer).getD (0, own.map.getD 0 0, peer.map.getD 0 0)
              (d.wr rTWL_SIGN_DIFF (2 ^ 31 + 65536 * x.2.2 + 256 * x.2.1 + x.1)).wr64 rTWL_SIGN_DIFF_STEP_LO s)
          w.both (fun d => (d.toCycle 1).detect 3)

/-! ### Die failure and re-mapping (R406, R407) -/

/-- The standby reservation of this die for a context of die `die` of the module `addr`, where it is OFF. -/
def DieState.reservation (d : DieState) (addr die c : Nat) : Option Nat :=
  (List.range 16).find? (fun n => (d.aux n).standby == some (addr, die, c) && d.axState n == axOff && (d.aux n).defined)

/-- An accepted context joins the ready queue at the first boundary after acceptance. (DEDUCED, log entry 19.) -/
def DieState.acceptRemap (d : DieState) (n : Nat) : DieState := d.request (auxReg n) 1 (fun d => d.enqueue n)

/-- The offers go on: the survivor itself, then a host by message; without a candidate the context is lost. `fuel` bounds the candidates. (DEDUCED, log entry 34.) -/
def remapNext (fuel : Nat) (d : DieState) : DieState :=
  match fuel with
  | 0 => d
  | k + 1 =>
    match d.twl.remaps with
    | [] => d
    | r :: rest =>
      let own := d.fld rTWL_CFG 17 0
      match r.cands with
      | [] => remapNext k ((d.onTwl (fun t => { t with remaps := rest })).raise rTWL_STATUS 10)
      | none :: more =>
        match d.reservation own d.die.other.num (2 + r.ctx) with
        | some n => remapNext k ((d.onTwl (fun t => { t with remaps := rest })).acceptRemap n)
        | none => remapNext k (d.onTwl (fun t => { t with remaps := { r with cands := more } :: rest }))
      | some a :: _ =>
        (d.onTwl (fun t => { t with remaps := { r with at_ := d.clk } :: rest })).sendCtrl 7 [a, own, d.die.other.num, 2 + r.ctx] []

/-- Enough fuel for every candidate and every context. -/
def DieState.offers (d : DieState) : DieState := remapNext ((d.twl.remaps.map (fun r => r.cands.length + 1)).foldl (· + ·) 1) d

/-- The offer under way was not taken: the next candidate. -/
def DieState.offerOn (d : DieState) : DieState :=
  match d.twl.remaps with
  | [] => d
  | r :: rest => (d.onTwl (fun t => { t with remaps := { r with cands := r.cands.drop 1 } :: rest })).offers

/-- The contexts of a failed die to be offered: REMAP not 0, in increasing number. -/
def DieState.remapList (peer : DieState) : List Remap :=
  ((List.range 16).filter (fun n => (peer.aux n).remap != 0)).map fun n =>
    let a := peer.aux n
    { ctx := n, cands := (if a.remap = 1 then [none] else []) ++ (a.hosts.take 4).map some, at_ := 0 }

/-- Die B's Quill becomes the primary one (R409). -/
def Whole.quillB (w : Whole) : Whole :=
  if w.b.qll.primary then w
  else (w.onDie .b (fun d => { d.raise rQLL_STATUS 5 with qll := { d.qll with primary := true } })).onDie .a
    (fun d => { d with qll := { d.qll with primary := false } })

/-- Die B's INK unit becomes the writer (R439). -/
def Whole.writerB (w : Whole) : Whole :=
  let k := w.mod.ink
  ((w.onInk (fun k => { k with writer := .b })).onDie .b (fun d => (d.setFlag rINK_STATUS 0 true).wr64 rINK_SEQ_LO k.seq)).onDie .a
    (fun d => d.setFlag rINK_STATUS 0 false)

/-- PEER_FAILURE: `silent`: no block for 4 µs; else the peer has reported SAFE, RECOVERY or HALTED (R406). -/
def peerFailure (die : Die) (silent : Bool) (w : Whole) : Whole :=
  let peer := w.die die.other
  let told := peer.dev == .safe || peer.dev == .recovery || peer.dev == .halted
  if (w.die die).fld rTWL_PEER 1 0 ≠ 1 ∨ !(silent || told) then w
  else
    let w := w.onDie die (fun d => (d.at (if silent then d.clk + 4000 else d.clk)).setFld rTWL_PEER 1 0 2)
    let w := if die = .b then w.quillB.writerB else w
    if !(w.die die).paired then
      w.onDie die (fun d => ((d.raise rTWL_STATUS 12).onTwl (fun t => { t with remaps := peer.remapList })).offers)
    else if die = .a then w.onDie .a (fun d => d.raise rTWL_STATUS 12)
    else w.onDie .b (fun d => d.onTwl (fun t => { t with failAt := some d.clk }))

/-- TAKEOVER_TIMEOUT: the silicon has not accepted within 2 ms of detection. -/
def takeoverTimeout (w : Whole) : Whole :=
  match w.b.twl.failAt with
  | none => w
  | some t =>
    if w.mod.field.taken then w
    else w.onDie .b (fun d => ((d.at (t + 2000000)).onTwl (fun x => { x with failAt := none })).detect 3)

/-- UNREACHABLE: no route to `addr`: the Quill is told, and an offer to that host passes on (R403, R407). -/
def unreachable (addr : Nat) (d : DieState) : DieState :=
  let d := d.send .irq [0, 5, addr] []
  match d.twl.remaps with
  | r :: _ => if r.cands.head? = some (some addr) then d.offerOn else d
  | [] => d

/-- REMAP_OFFER from another module. -/
def remapOffer (addr die c : Nat) (d : DieState) : DieState :=
  match d.reservation addr die c with
  | some n => (d.sendCtrl 8 [addr, c] []).acceptRemap n
  | none => d.sendCtrl 9 [addr, c] []

/-- A host's offer is under way for context `c`. -/
def DieState.offering (d : DieState) (c : Nat) : Bool :=
  match d.twl.remaps with
  | r :: _ => 2 + r.ctx == c && (match r.cands with | some _ :: _ => true | _ => false)
  | [] => false

/-- REMAP_ACCEPT. -/
def remapAccept (c : Nat) (d : DieState) : DieState := if d.offering c then (d.onTwl (fun t => { t with remaps := t.remaps.drop 1 })).offers else d

/-- REMAP_REJECT. -/
def remapReject (c : Nat) (d : DieState) : DieState := if d.offering c then d.offerOn else d

/-- REMAP_TIMEOUT: no answer within 10 ms. -/
def remapTimeout (d : DieState) : DieState :=
  match d.twl.remaps with
  | r :: _ => (d.at (r.at_ + 10000000)).offerOn
  | [] => d

/-! ### The commands -/

/-- DISCOVERY. -/
def execDiscovery (s : State) : Host.Outcome State Fault Refusal := .next (s.onWhole discovery)
/-- PROBE: port, tag, the port codes left. -/
def execProbe (p : Fin 4) (tag : BitVec 32) (rest : List (BitVec 3)) (s : State) : Host.Outcome State Fault Refusal :=
  .next (s.onWhole (probe p.val tag.toNat (rest.map (·.toNat))))
/-- IDENT: port, tag, serial number, member, generation, port states, address. -/
def execIdent (p : Fin 4) (tag : BitVec 32) (serial : List (BitVec 8)) (member : BitVec 16) (gen : BitVec 8) (ports : List (BitVec 3)) (addr : BitVec 18)
    (s : State) : Host.Outcome State Fault Refusal :=
  .next (s.onWhole (ident p.val tag.toNat serial member.toNat gen.toNat (ports.map (·.toNat)) addr.toNat))
/-- ROUTE_WRITE: address, region words, node words. -/
def execRouteWrite (d : Die) (addr : BitVec 18) (rs ns : List (BitVec 24)) (s : State) : Host.Outcome State Fault Refusal :=
  .next (s.onWhole (routeWrite d addr.toNat (rs.map (·.toNat)) (ns.map (·.toNat))))
/-- DONE. -/
def execDone (s : State) : Host.Outcome State Fault Refusal := .next (s.onWhole discoveryDone)
/-- ARRIVE. -/
def execArrive (s : State) : Host.Outcome State Fault Refusal := .next (s.onWhole arrive)
/-- WITHDRAW. -/
def execWithdraw (s : State) : Host.Outcome State Fault Refusal := .next (s.onWhole withdrawMsg)
/-- START. -/
def execStart (s : State) : Host.Outcome State Fault Refusal := .next (s.onWhole startMsg)
/-- START_LATE_REPORT: the late member. -/
def execStartLateReport (addr : BitVec 18) (s : State) : Host.Outcome State Fault Refusal := .next (s.onWhole (startLate addr.toNat))
/-- ALIGN. -/
def execAlign (s : State) : Host.Outcome State Fault Refusal := .next (s.onWhole alignMsg)
/-- ALIGN_MISS. -/
def execAlignMiss (s : State) : Host.Outcome State Fault Refusal := .next (s.onWhole alignMiss)
/-- SIGN: whether the peer's message missed admission. -/
def execSign (d : Die) (miss : Bool) (s : State) : Host.Outcome State Fault Refusal := .next (s.onWhole (signCompare d miss))
/-- PEER_FAILURE: whether the link is silent. -/
def execPeerFailure (d : Die) (silent : Bool) (s : State) : Host.Outcome State Fault Refusal := .next (s.onWhole (peerFailure d silent))
/-- TAKEOVER_TIMEOUT. -/
def execTakeoverTimeout (s : State) : Host.Outcome State Fault Refusal := .next (s.onWhole takeoverTimeout)
/-- UNREACHABLE: the address without a route. -/
def execUnreachable (d : Die) (addr : BitVec 18) (s : State) : Host.Outcome State Fault Refusal := .next (s.onDie d (unreachable addr.toNat))
/-- REMAP_OFFER: source module, die, context code. -/
def execRemapOffer (d : Die) (addr : BitVec 18) (die : Die) (c : Fin 20) (s : State) : Host.Outcome State Fault Refusal :=
  .next (s.onDie d (remapOffer addr.toNat die.num c.val))
/-- REMAP_ACCEPT: context code. -/
def execRemapAccept (d : Die) (c : Fin 20) (s : State) : Host.Outcome State Fault Refusal := .next (s.onDie d (remapAccept c.val))
/-- REMAP_REJECT: context code. -/
def execRemapReject (d : Die) (c : Fin 20) (s : State) : Host.Outcome State Fault Refusal := .next (s.onDie d (remapReject c.val))
/-- REMAP_TIMEOUT. -/
def execRemapTimeout (d : Die) (s : State) : Host.Outcome State Fault Refusal := .next (s.onDie d remapTimeout)

end Sys2Proof.Machine
end

