-- ==== Sys2Proof/Machine/Boot.lean ====
section
/-! DEFINITION. Resets, BOOT, CONFIG, LINK_TRAIN and SELF_TEST (spec/17 R411 to R421, R427; spec/14 R357; spec/04 R116; spec/06 R164, R168; spec/19
R465, R466). -/

namespace Sys2Proof.Machine

/-! ### Resets (R465, R466) -/

/-- The rank of a reset cause among those that act while a die is in reset (R466): THERMAL, POWER_FAIL, PAD, REJECT, QMP, then POWER_ON. -/
def causeRank (c : Nat) : Nat :=
  match c with | 5 => 0 | 1 => 1 | 2 => 2 | 4 => 3 | 3 => 4 | _ => 5

/-- The die in reset: BOOT, registers at reset; its record queue and tallies stand on the hold-up rail (R455); what it has sent stays sent (DESIGN CHOICE, log entry 4). `alone`: its peer is not reset with it;
`rail`: a rail out of window is what resets it. (DESIGN CHOICE, log entry 1.) -/
def DieState.inReset (d : DieState) (cause : Nat) (alone : Bool) (rail : Option Nat) : DieState :=
  let c := match d.held with | some h => if causeRank h ≤ causeRank cause then h else cause | none => cause
  let n := d.ink.queue.length
  let x := { DieState.reset d.die with held := some c, clk := d.clk, ink := d.ink, wire := d.wire }
  let x := { x with qll := { x.qll with bootAt := d.clk } }
  let x := (x.setFld rINK_QUEUE 8 0 n).setFld rINK_QUEUE 24 16 n
  let x := x.wr rSYS_RESET (c + 256 * b2n alone)
  let x := x.setFld rSYS_PWR 15 12 (match rail with | some k => k | none => d.fld rSYS_PWR 15 12)
  x.setFlag rSYS_PWR 2 rail.isSome

/-- A reset of some dies (R465): one that reaches both resets the switch and the field interface silicon with them, and makes die A the relay, the writer
and the primary again. -/
def Whole.resetDies (w : Whole) (a b : Bool) (cause : Nat) (rail : Option (Die × Nat)) : Whole :=
  let rl (d : Die) : Option Nat := match rail with | some (e, k) => if e = d then some k else none | none => none
  let one (d : Die) (on other : Bool) (w : Whole) : Whole := if on then w.onDie d (fun x => x.inReset cause (!other) (rl d)) else w
  let w := one .b b a (one .a a b w)
  if a && b then
    w.onMod (fun m => { m with field := default, sw := default, grp := default, ink := { m.ink with writer := .a, turn := .a } })
  else w.withdraw

/-! ### BOOT (R411, R412) -/

/-- The first cause of R412 that a stored image meets: none where it is accepted. (DEDUCED, log entry 35.) -/
def Store.rejects (s : Store) (nandOk : Bool) : Option Nat :=
  match s.image with
  | none => some 1
  | some i =>
    let h := i.head
    if (match s.rejected with | some r => r.1 == i.digest | none => false) then some 2
    else if !nandOk then some 3
    else if h.magic ≠ 0x48544541 ∨ h.fmtMajor ≠ 1 ∨ h.rsv ≠ 0 ∨ 4 ≤ h.flags ∨ h.records = 0 ∨ 65535 < h.records ∨ 64 < h.svn ∨ 3 < h.keySlot ∨
        h.length < 64 * (h.records + 1) + 128 then some 4
    else if h.member ≠ memberCode then some 5
    else if archGen < h.genMin ∨ h.genMax < archGen then some 6
    else if s.badSlots.contains h.keySlot then some 7
    else if h.svn < s.svnFloor then some 8
    else if !i.sigOk then some 9
    else none

/-- Change the store. -/
def Whole.onStore (w : Whole) (f : Store → Store) : Whole := w.onMod (fun m => { m with store := f m.store })

/-- The Boot Log entry of this boot, changed; its bytes are free: the manual does not lay them out (DESIGN CHOICE, log entry 8). -/
def Whole.bootLog (w : Whole) (f : BootEnt → BootEnt) : Whole :=
  let i := w.mod.ink.boots % 62
  let w := w.onStore (fun s => { s with bootLog := tmod s.bootLog i default f })
  w.mram (0x10800 + 1024 * i) ((Config.freeBytes w.free (2 ^ 20 + i) ++ List.replicate 1024 (0 : Byte)).take 1024)

/-- The Boot Log header is committed into the copy of the lower SEQ (R445, R449); its content is free: the manual does not lay it out (DESIGN CHOICE, log entry 8). -/
def Whole.bootHeader (w : Whole) : Whole :=
  let n := w.mod.ink.heads
  let content := (Config.freeBytes w.free (2 ^ 21) ++ List.replicate 960 (0 : Byte)).take 960
  (w.mram (0x10000 + 1024 * (n % 2)) (inkBlock (n + 1) content)).onInk (fun k => { k with heads := k.heads + 1 })

/-- The highest state reached stands in the Boot Log entry. -/
def Whole.reached (w : Whole) (d : Die) : Whole := w.bootLog (fun e => { e with top := max e.top (w.die d).dev.code })

/-- A rejection of the image: its cause and digest go to the Boot Log header and entry, and to a record (R412, R413). (DEDUCED, log entry 35.) -/
def Whole.reject (w : Whole) (d : Die) (cause : Nat) : Whole :=
  let dg := match w.mod.store.image with | some i => i.digest | none => (match w.mod.store.rejected with | some r => r.1 | none => [])
  let w := (w.onStore (fun s => { s with rejected := some (dg, cause) })).bootHeader
  let w := w.bootLog (fun e => { e with reject := cause, digest := dg })
  w.onDie d (fun x => (x.setFld rQLL_BOOT 11 8 cause).inkNote 8 15 (some 59) (0 :: cause :: dg.map (·.toNat)))

/-- The network as the fallback entry states it, or the ROM's defaults (R427); BOARD_ID is `board`. -/
def DieState.fallbackNet (d : DieState) (f : Option Fallback) (board : Nat) : DieState :=
  match f with
  | some f =>
    let d : DieState := { d.wr rNET_PORT f.roles with net := { d.net with ip := f.ip, dests := f.dests.map (fun (x : Nat × Dest × Nat) => (x.1, x.2.1)) } }
    (f.dests.foldl (fun (d : DieState) (x : Nat × Dest × Nat) => d.wr (rNET_DEST + 4 * x.1) x.2.2) d).setFld rNET_RES_CFG 11 0 f.period
  | none => { d with net := { d.net with ip := 0xA9FE0101 + board } }

/-- Every unit but the Quill is OFF (R31). -/
def DieState.unitsOff (d : DieState) : DieState := (List.range 19).foldl (fun d u => if u = 15 then d else d.setUsw u 0) d

/-- A die enters RECOVERY (R427). -/
def Whole.recovery (w : Whole) (d : Die) (cause board : Nat) : Whole :=
  let w := w.reject d cause
  ((w.onDie d (fun x => (x.setDev .recovery).fallbackNet w.mod.store.fallback board)).reached d).commit false

/-- The boot ROM of a die (R412), after the boot count. (DEDUCED, log entry 35.) -/
def Whole.bootDie (w : Whole) (d : Die) (i : BootIn) : Whole :=
  if !i.romOk || !i.otpOk then ((w.onDie d (fun x => (x.setDev .halted).unitsOff)).reached d).commit false
  else
    let s := w.mod.store
    let boots := w.mod.ink.boots
    let w := w.onDie d (fun x => ((x.wr64 rQLL_BOOT_COUNT_LO boots).setFld rQLL_BOOT 31 24 s.svnFloor).when s.keysBad (fun x => x.raise rQLL_STATUS 4))
    match s.rejects i.nandOk, s.image with
    | none, some img =>
      let w := w.bootLog (fun e => { e with digest := img.digest })
      (w.onDie d (fun x =>
        let x := (x.setFld rQLL_BOOT 23 16 img.head.svn).setFld rQLL_BOOT 1 0 img.head.flags
        let x := { x with qll := { x.qll with run := some img } }
        ((posConfig (x.setDev .config)).startPeriods))).reached d
    | some c, _ => w.recovery d c i.board
    | none, none => w

/-- A die leaves reset: BOOT begins. -/
def Whole.leaveReset (w : Whole) (d : Die) : Whole :=
  w.onDie d (fun x =>
    let k := w.mod.ink
    let up : Bool := !(w.die d.other).held.isSome && (w.die d.other).dev != .boot
    let x : DieState := { x with held := none, rejoin := up, qll := { x.qll with bootAt := x.clk, primary := d == .a } }
    let x := (x.setFlag rSYS_PWR 3 true).setFlag rINK_STATUS 0 (k.writer == d)
    let x := (x.wr64 rINK_SEQ_LO k.seq).setFld rNET_PORT 5 5 (w.relay.num)
    if x.fld rSYS_RESET 7 0 = 5 then x.inkNote 8 15 (some 61) [1, 5] else x)

/-- A boot of the dies that `held` selects: one count for the boots that begin together, a Boot Log entry, and the checks of each die that has its bytes. (DEDUCED, log entry 35.) -/
def Whole.boot (w : Whole) (sel : Die → Nat → Bool) (a b : Option BootIn) : Whole :=
  let on (d : Die) : Bool := match (w.die d).held with | some c => sel d c | none => false
  let aOn := on .a
  let bOn := on .b
  if !aOn && !bOn then w
  else
    let cause := (w.die (if aOn then .a else .b)).held.getD 0
    let w := if aOn then w.leaveReset .a else w
    let w := if bOn then w.leaveReset .b else w
    let w := w.onInk (fun k => { k with boots := k.boots + 1 })
    let w := w.bootLog (fun _ => { (default : BootEnt) with boots := w.mod.ink.boots, cause := cause })
    let w := match aOn, a with | true, some i => w.bootDie .a i | _, _ => w
    match bOn, b with | true, some i => w.bootDie .b i | _, _ => w

/-- NAND_TAKEOVER: die A has delivered no byte within 2 s: die B reads the store itself (R411). -/
def nandTakeover (i : BootIn) (w : Whole) : Whole :=
  let b := w.b
  if b.held.isSome ∨ b.dev ≠ .boot then w else (w.at (b.qll.bootAt + 2000000000)).bootDie .b i

/-! ### Records (R417 to R420) -/

/-- The kinds of each owner (R419). -/
def kindsOf (owner : Nat) : Nat :=
  match owner with
  | 0x00 => 1 | 0x01 => 3 | 0x02 => 2 | 0x03 => 5 | 0x04 => 2 | 0x05 => 2 | 0x06 => 1 | 0x07 => 3 | 0x08 => 3 | 0x09 => 1
  | 0x0A => 3 | 0x0B => 4 | 0x0C => 2 | 0x0D => 5 | 0x0E => 3 | 0x11 => 1 | 0x12 => 2 | 0x20 => 2 | 0x21 => 1 | 0x22 => 1
  | _ => 0

/-- The EXPERT bit. -/
def Rec.expert (r : Rec) : Bool := bit 7 r.ty

/-- A known TYPE. -/
def Rec.known (r : Rec) : Bool := decide (1 ≤ r.ty % 128 ∧ r.ty % 128 ≤ kindsOf (r.ty / 256))

/-- The units that take Expert records (R241). -/
def expertUnit (owner : Nat) : Bool := decide (owner = 3 ∨ owner = 14 ∨ owner = 11 ∨ owner = 9 ∨ owner = 8)

/-- The kinds that define one instance. -/
def singleKind (ty : Nat) : Bool :=
  [0x0001, 0x0401, 0x0402, 0x0502, 0x0601, 0x0801, 0x0803, 0x0901, 0x0D01, 0x0D03, 0x0D04, 0x0D05, 0x0E02, 0x0E03, 0x1201].contains ty

/-- The cause that one record meets, in the order of R412's codes: none where it is accepted or skipped. -/
def Rec.rejects (r : Rec) (expert : Bool) : Option Nat :=
  if !r.hashOk then some 10
  else if r.known then
    if r.expert && (!expert || !expertUnit (r.ty / 256)) then some 12
    else if !r.sound || !r.items.all (itemOk r.expert) then some 11 else none
  else if r.skip then none
  else some 11

/-- What the records state, in the order of its effect: the Basic records in directory order, then the Expert records, whose fields override (R241, R419). -/
def recordItems (rs : List Rec) : List RecItem :=
  let known := rs.filter (·.known)
  (known.filter (fun r => !r.expert) ++ known.filter (·.expert)).flatMap (·.items)

/-- The rules over the whole image that its parsed content shows: one SYS MODULE, single kinds and indices once (R419); a recovery image without Stem mode and
layers (R420); a Stem layer table that fits for each recipe; and those of its ports, groups, lanes, rules, memory, STTs, barriers, contexts and Twill tables. -/
def imageOk (die : Die) (recoveryImage : Bool) (rs : List Rec) : Bool :=
  let known := rs.filter (fun r => r.known && !r.expert)
  let items := recordItems rs
  let layers := items.filterMap (fun c => match c with | .layer l => some l | _ => none)
  let stemSet := !layers.isEmpty || items.any (fun c => match c with | .stemData _ _ _ => true | _ => false)
  let paired := items.any (fun c => match c with | .mode p _ => p | _ => false)
  decide ((known.filter (fun r => r.ty == 0x0001)).length = 1) &&
    pairsAll (fun (a b : Rec) => a.ty != b.ty || (!singleKind a.ty && a.index != b.index)) known &&
    !(recoveryImage && (stemSet || known.any (fun r => r.ty == 0x0401))) &&
    (List.range 16).all (fun r => stemTableOk (layers.filter (fun l => l.recipe == r))) &&
    portsOk die paired items && groupsOk items && encodersOk die paired items && storesOk items && slotsOk items && imagesOk items && lanesOk items && rulesOk die paired items && memoryOk items && sttsOk items &&
    barriersOk items && contextsOk items && twillOk die items && netOk items

/-- The first cause that CONFIG finds in the image's records (R413). (DESIGN CHOICE, log entry 5.) -/
def configRejects (die : Die) (head : ImgHead) (rs : List Rec) : Option Nat :=
  match rs.findSome? (fun r => r.rejects (bit 0 head.flags)) with
  | some c => some c
  | none => if rs.length = head.records ∧ imageOk die (bit 1 head.flags) rs then none else some 11

/-! ### CONFIG (R413, R419) -/

/-- The place of a rule that the image does not define: of no lane (R312). -/
def noRule : Rule := { (default : Rule) with lane := 32 }

/-- A record's content takes effect on a die; of the Twill ports, the die has its own two (R383). -/
def applyItem (c : RecItem) (x : DM) : DM :=
  match c with
  | .reg off v => x.onD (fun d =>
      match d.recPlace off with
      | some o => d.wr o ((d.rd o &&& (0xFFFFFFFF ^^^ cfgMask off)) ||| (v &&& cfgMask off))
      | none => d)
  | .mode p pass => x.onD (fun d => { d.setFlag rSYS_STATE 8 p with paired := p, twl := { d.twl with linkPass := pass } })
  | .lane n c => x.onD (fun d => ({ d with ptk := { d.ptk with cfg := tset d.ptk.cfg n c } }).setFld (rPTK_LANE + 4 * n) 2 0 1)
  | .camera p c => x.onD (fun d => { d with cxp := { d.cxp with cams := tset d.cxp.cams p c } })
  | .image p c => x.onD (fun d => { d with ipp := { d.ipp with imgs := tset d.ipp.imgs p c } })
  | .outputs g c => x.onD (fun d => { d with ipp := { d.ipp with grps := tset d.ipp.grps g c } })
  | .layer c => x.onD (fun d => { d with stm := { d.stm with layers := d.stm.layers ++ [c] } })
  | .stemData r a n => x.onD (fun d => { d with stm := { d.stm with loads := tset d.stm.loads r (a, n) } })
  | .seed v => x.onD (fun d => { d with ptk := { d.ptk with seed := v } })
  | .stt s g v => x.onD (fun d => { d with syn := { d.syn with stts := tset d.syn.stts s (tset (tget d.syn.stts s []) g v) } })
  | .barrier s i r m => x.onD (fun d => { d with syn := { d.syn with barSets := tset d.syn.barSets s (tget d.syn.barSets s [] ++ [(i, r, m)]) } })
  | .sync c => x.onD (fun d => { d with syn := { d.syn with recs := d.syn.recs ++ [c] } })
  | .region c => x.onD (fun d => d.onMem (fun m => { m with regions := m.regions ++ [c] }))
  | .section_ c => x.onD (fun d => d.onMem (fun m => { m with sects := m.sects ++ [c] }))
  | .data a bs => x.writeDram a bs
  | .tolerance r s c => x.onD (fun d => { d with chk := { d.chk with tols := tset d.chk.tols (65536 * r + s) c } })
  | .classMap r l => x.onD (fun d => { d with chk := { d.chk with maps := tset d.chk.maps r l } })
  | .rule k c => x.onD (fun d => { d with nib := { d.nib with rules := (d.nib.rules ++ List.replicate (k + 1 - d.nib.rules.length) noRule).set k c } })
  | .remote k c => x.onD (fun d => { d with nib := { d.nib with remotes := tset d.nib.remotes k c } })
  | .inputTile r v => x.onD (fun d => { d with nib := { d.nib with inTiles := d.nib.inTiles ++ [(r, v)] } })
  | .dest k c => x.onD (fun d => { d with net := { d.net with dests := tset d.net.dests k c } })
  | .address mac ip => x.onD (fun d => { d with net := { d.net with mac := mac, ip := ip } })
  | .ptp t p e => x.onD (fun d => { d with ptp := { d.ptp with timeout := t, peer := p, every := e } })
  | .twlPort p c => x.onD (fun d => if portDie p = d.die then d.modTport p (fun t => { t with cfg := c }) else d)
  | .group _ _ _ => x
  | .aux n a =>
    x.onD (fun d =>
      (d.setAux n { (default : Aux) with
        defined := true, saveBytes := a.save, loadBytes := a.load, restart := a.restart, remap := a.remap, hosts := a.hosts, standby := a.standby
        saveAt := (d.aux n).saveAt, saveLen := (d.aux n).saveLen }).setFld (auxReg n) 12 8 a.groups)
  | .saveArea n a l => x.onD (fun d => d.setAux n { d.aux n with saveAt := a, saveLen := l })
  | .resident r => x.onD (fun d => { d with ctx := { d.ctx with resident := d.ctx.resident ++ [r] } })
  | .pair c => x.onD (fun d => { d with ctx := { d.ctx with pairs := d.ctx.pairs ++ [c] } })
  | .figs r n a b => x.onD (fun d => { d with ctx := { d.ctx with figs := tset d.ctx.figs (32 * r + n) (a, b) } })
  | .regGroups r n => x.onD (fun d => { d with ctx := { d.ctx with regGroups := tset d.ctx.regGroups r n } })
  | .program c => x.onD (fun d => { d with ctx := { d.ctx with progs := d.ctx.progs ++ [c] } })
  | .lineSlots s l => x.onD (fun d => { d with ipp := { d.ipp with lsts := tset d.ipp.lsts s l } })
  | .drift v i s l t => x.onD (fun d => { d with ptk := { d.ptk with drift := some (v, i, s, l, t) } })
  | .recipeGroups _ _ => x
  | .recipeLane _ _ _ _ _ _ => x
  | .speedGrade e => x.onD (fun d => d.onMem (fun m => { m with timing := Config.timingSet e }))
  | .timing i v => x.onD (fun d => d.onMem (fun m => { m with timing := m.timing.set i v }))
  | .eqEntry i l => x.onD (fun d => { d with twl := { d.twl with eqs := tset d.twl.eqs i l } })
  | .eqPort p r c => x.onD (fun d => if (tget? d.twl.ports p).isSome then d.modTport p (fun t => { t with eqOver := tset t.eqOver r c }) else d)
  | .ring a n l => x.onD (fun d => { d with ptk := { d.ptk with ring := some (a, n, l) } })
  | .known ls v => x.onD (fun d => { d with stm := { d.stm with known := some (ls, v) } })

/-- The records take effect on a die; the regions first, for the bytes of a dual-copy region go to both copies (R191). -/
def applyItems (items : List RecItem) (x : DM) : DM :=
  let isRegion (c : RecItem) : Bool := match c with | .region _ => true | _ => false
  (items.filter isRegion ++ items.filter (fun c => !isRegion c)).foldl (fun x c => applyItem c x) x

/-- Every record has taken effect: P2, the active recipe, windows, the peer, uplinks; Twill and camera ports begin (R225, R236, R355, R390, R247). (DEDUCED, log entry 25.) -/
def DieState.configured (d : DieState) : DieState :=
  let d := d.setFld rCTX_PART 20 16 (16 - d.fld rCTX_PART 4 0)
  let d := { d with chk := { d.chk with fwlLoaded := true } }
  let d := match d.ptk.cfg with | (_, c) :: _ => d.adopt c.recipe | [] => d.adopt 0
  let d := d.setFld rTWL_PEER 1 0 1
  let d : DieState := { d with cxp := { d.cxp with driving := !d.paired || d.die == .a } }
  let d := d.twl.ports.foldl (fun (d : DieState) (p : Nat × TPort) => (d.setTpState p.1 1).modTport p.1 (fun x => { x with since := d.clk })) d
  (List.range 8).foldl (fun d p => if d.portOn p then d.setPortState p 1 else d) d

/-- The fallback entry that CONFIG writes (R427). -/
def DieState.fallback (d : DieState) : Fallback :=
  { ip := d.net.ip, roles := d.rd rNET_PORT, dests := d.net.dests.map (fun x => (x.1, x.2, d.rd (rNET_DEST + 4 * x.1))), period := d.fld rNET_RES_CFG 11 0 }

/-- A channel after training (R179): `ok`, or to be fenced with cause 1; a FENCED channel stays so until reset (R193). -/
def DieState.trained (d : DieState) (ch : Nat) (ok : Bool) : DieState :=
  if d.chFenced ch then d else if ok then d.setFld (rMEM_CH + 4 * ch) 2 0 2 else d.fenceChannel ch 1

/-- CONFIG_COMPLETE: `train` has a bit for each channel that has passed training; the records, in directory order. A rejected one resets the module, cause
REJECT (R413). -/
def configComplete (die : Die) (train : Nat) (rs : List Rec) (w : Whole) : Whole :=
  let d := w.die die
  if d.dev ≠ .config ∨ d.held.isSome then w
  else
    let w := w.onDie die (fun d => (List.range 16).foldl (fun d ch => d.trained ch (bit ch train)) d)
    if (w.die die).chk.pending then w
    else
      let head := match d.qll.run with | some i => i.head | none => default
      match configRejects die head rs with
      | some c => ((w.reject die c).commit false).resetDies true true 4 none
      | none =>
        let items := recordItems rs
        let x := applyItems items (⟨(w.die die).sync w.now, w.mem, []⟩ : DM)
        let w := (w.onDie die (fun _ => x.d)).store x.stores
        let w := items.foldl (fun w c => match c with
          | .group m g s => w.onGrp (fun x => { x with members := m, margin := g, signDest := s })
          | _ => w) w
        let w := w.onDie die (fun d =>
          let d := d.configured
          { d.setDev .linkTrain with qll := { d.qll with skipped := (rs.filter (fun r => !r.known)).length } })
        ((w.onStore (fun s => { s with fallback := some (w.die die).fallback })).bootHeader).reached die

/-! ### LINK_TRAIN (R32, R390, R401) -/

/-- Every configured link of the die is trained, or has failed where the link policy lets it pass. (DEDUCED, log entry 34.) -/
def DieState.linksDone (d : DieState) : Bool :=
  let pass := d.twl.linkPass
  let twl := d.twl.ports.all (fun p => d.tpState p.1 == 5 || (pass && d.tpState p.1 == 6))
  let cams := (List.range 8).all (fun p => !d.portOn p || d.portState p == 2 || (pass && d.portState p == 4))
  let disc := d.flag rTWL_CFG 30 || d.twl.ports.isEmpty || d.twl.done || (pass && d.flag rTWL_STATUS 9)
  twl && cams && disc

/-- LINK_TRAIN_COMPLETE. -/
def linkTrainComplete (die : Die) (w : Whole) : Whole :=
  let d := w.die die
  if d.dev ≠ .linkTrain ∨ d.chk.pending ∨ !d.linksDone then w else (w.onDie die (fun d => d.setDev .selfTest)).reached die

/-! ### SELF_TEST (R116, R164, R168, R357) -/

/-- Every group but those of `failed` has passed a test since reset (R126, R165). -/
def DieState.countPasses (d : DieState) (u : Rot) (failed : List Nat) : DieState :=
  (List.range 17).foldl (fun d g => if failed.contains g then d else d.countFld (Rot.grp u g) 31 16 1) d

/-- Tile groups or Stem lane groups after their start-up tests: all passed, or one failed (R116, R164). -/
def DieState.settleGroups (d : DieState) (u : Rot) (failed : List Nat) : DieState :=
  let out := failed.headD 16
  let rest := (List.range 17).filter (· ≠ out)
  let d := (List.range 16).foldl (fun d vg => d.wr (Rot.map u vg) (rest.getD vg 0)) d
  let d := rest.foldl (fun d g => d.setFld (Rot.grp u g) 2 0 1) ((d.countPasses u failed).setFld (Rot.out u) 4 0 out)
  if failed.isEmpty then d.setFld (Rot.grp u out) 2 0 5 else d.fenceGroup u out true

/-- Two or more tile groups failed (R116). -/
def DieState.tilesLost (d : DieState) (failed : List Nat) : DieState :=
  let d := (List.range 17).foldl (fun d g =>
    if failed.contains g then (d.setFld (Rot.grp false g) 2 0 6).setFlag (Rot.grp false g) 3 true
    else d.setFld (Rot.grp false g) 2 0 5) (d.countPasses false failed)
  let d := d.raiseWith (Rot.diag false) 1 (some 58) []
  (((d.setUsw 6 5).uswEvent 6 0xFF 5).life (24 + d.die.num) failed.length).detect 11

/-- The die enters ARMED at the end of SELF_TEST: units that passed show RUN, SAFE_OK is energised, test ages begin (R477, R33, R121). -/
def DieState.armedFirst (d : DieState) : DieState :=
  let d := (List.range 19).foldl (fun d u => if d.fld (rSYS_USW + 4 * u) 2 0 = 1 then d.setUsw u 2 else d) d
  let d := { d with chk := { d.chk with okCmd := true, okMiss := 0 } }
  posArmed (((d.setRot false { d.rot false with tested := [] }).setRot true { d.rot true with tested := [] }).setDev .armed)

/-- The Stem lane groups after their tests, and the Stem's known-answer run: where the image has a known-answer record, a Stem-mode digest that differs while the
regrouped one matches fences the Stem; it is not made on a Stem that FORCE_REGROUP has fenced, whose failed groups are shown all the same (R164, R168, R169). -/
def DieState.settleStem (d : DieState) (failed : List Nat) (r : SelfIn) : DieState :=
  let differs : Bool := match d.stm.known with | some (_, k) => r.kaStem != k && r.kaRegrouped == k | none => false
  if d.stm.fenced then (d.countPasses true failed).showStem failed
  else if 2 ≤ failed.length ∨ differs then (d.countPasses true failed).fenceStemEarly failed
  else d.settleGroups true failed

/-- A regrouped digest that differs from the known-answer record's is the latched cause 14 (R168). -/
def DieState.knownAnswer (d : DieState) (r : SelfIn) : DieState :=
  match d.stm.known with | some (_, k) => if r.kaRegrouped ≠ k then d.detect 14 else d | none => d

/-- SELF_TEST_COMPLETE: the die enters ARMED, or, at the first failure that leads there, SAFE. (DEDUCED, log entry 32.) -/
def selfTestComplete (die : Die) (r : SelfIn) (w : Whole) : Whole :=
  if (w.die die).dev ≠ .selfTest ∨ (w.die die).chk.pending then w
  else
    let w := w.onDie die (fun d =>
      let ts := (List.range 17).filter (fun g => r.tiles.contains g)
      let ss := (List.range 17).filter (fun g => r.stem.contains g)
      let go (d : DieState) (f : DieState → DieState) : DieState := if d.chk.pending then d else f d
      let d := if 2 ≤ ts.length then d.tilesLost ts else d.settleGroups false ts
      let d := go d (fun d => d.settleStem ss r)
      let d := go d (fun d => d.knownAnswer r)
      let d := r.causes.foldl (fun d c => go d (fun d => if c < 19 then d.detect c else d)) d
      go d (fun d => d.armedFirst))
    if (w.die die).chk.pending then w
    else (w.bootLog (fun e => { e with ms := (w.now - (w.die die).qll.bootAt) / 1000000 })).reached die

/-! ### Heartbeats of the Quills (R409) -/

/-- QUILL_HEARTBEAT_LOSS: die A's heartbeat has been absent for 10 ms. -/
def quillHeartbeatLoss (w : Whole) : Whole := if w.b.held.isSome then w else w.quillB

/-! ### The commands -/

/-- NAND_TAKEOVER: what die B's ROM finds. -/
def execNandTakeover (i : BootIn) (s : State) : Host.Outcome State Fault Refusal := .next (s.onWhole (nandTakeover i))
/-- CONFIG_COMPLETE: the channels that passed training, the records. (DESIGN CHOICE, log entry 5.) -/
def execConfigComplete (d : Die) (train : BitVec 16) (rs : List Rec) (s : State) : Host.Outcome State Fault Refusal :=
  .next (s.onWhole (configComplete d train.toNat rs))
/-- LINK_TRAIN_COMPLETE. -/
def execLinkTrainComplete (d : Die) (s : State) : Host.Outcome State Fault Refusal := .next (s.onWhole (linkTrainComplete d))
/-- SELF_TEST_COMPLETE: the outcome of the tests. -/
def execSelfTestComplete (d : Die) (r : SelfIn) (s : State) : Host.Outcome State Fault Refusal := .next (s.onWhole (selfTestComplete d r))
/-- QUILL_HEARTBEAT_LOSS. -/
def execQuillHeartbeatLoss (s : State) : Host.Outcome State Fault Refusal := .next (s.onWhole quillHeartbeatLoss)

end Sys2Proof.Machine
end

