-- ==== Sys2Proof/Machine/Power.lean ====
section
/-! DEFINITION. Power and temperature (spec/19 R452 to R459, R465 to R467; spec/17 R410; spec/18 R450): the 12 V input, the hold-up rail, rails out of window,
RESET_N, and the junction sensors. -/

namespace Sys2Proof.Machine

/-- Change the supply. -/
def Whole.onPwr (w : Whole) (f : Power → Power) : Whole := w.onMod (fun m => { m with pwr := f m.pwr })

/-- The input as last sampled, in mV (DESIGN CHOICE, log entry 6). -/
def Whole.vin (w : Whole) (mv : Nat) : Whole := w.both (fun d => d.setFld rSYS_PWR 31 16 mv)

/-- The counters and bins of the current copies in the MRAM are loaded into the writer's SRAM (R445, R446). -/
def Whole.reload (w : Whole) : Whole :=
  let k := w.mod.ink
  if k.commits = 0 then w.onInk (fun k => { k with cnt := [], hist := [] })
  else
    let c := (k.commits - 1) % 2
    let m := Space.mram.base
    let read (at_ size n : Nat) : Tbl Nat :=
      ((List.range n).map (fun i => (i, leNat (memRead w.mem (m + at_ + 64 + size * i) size)))).filter (fun x => x.2 != 0)
    w.onInk (fun k => { k with cnt := read (0x20000 + 4096 * c) 8 256, hist := read (0x30000 + 32768 * c) 4 4096 })

/-- A record ahead of every queued one (R450). -/
def DieState.inkFirst (d : DieState) (cls unit code : Nat) (fault : Option Nat) (payload : List Byte) : DieState :=
  let e := d.inkPut cls unit code fault payload
  if e.ink.queue.length = d.ink.queue.length + 1 then
    { e with ink := { e.ink with queue := (e.ink.queue.drop d.ink.queue.length) ++ d.ink.queue } }
  else e

/-! ### Supply (R452 to R456) -/

/-- POWER_ON: 12 V is applied while both dies are in reset: the power-on reset of the module begins. -/
def powerOn (mv : Nat) (w : Whole) : Whole :=
  if w.a.held.isNone ∨ w.b.held.isNone then w
  else ((w.resetDies true true 0 none).onPwr (fun _ => { (default : Power) with rail := true })).vin mv

/-- RESET_RELEASE: the input has been at or above 10.8 V for 50 ms with the hold-up store charged: the dies held by the supply or by a reset request boot.
What each die's ROM finds; none where its bytes have not come. -/
def resetRelease (mv : Nat) (a b : Option BootIn) (w : Whole) : Whole :=
  let w := w.onPwr (fun _ => { (default : Power) with rail := true })
  (w.boot (fun _ c => c != 2 && c != 5) a b).vin mv

/-- SUPPLY_WARNING: below 10.5 V for 2 µs: one DIP record ahead of every queued one, and a commit of the lifetime blocks (R454, R450). (DEDUCED, log entry 35.) -/
def supplyWarning (mv : Nat) (w : Whole) : Whole :=
  if w.mod.pwr.warnAt.isSome ∨ w.a.held.isSome ∧ w.b.held.isSome then w
  else
    let w := (w.onPwr (fun p => { p with warnAt := some w.now, warnMin := mv })).vin mv
    let w := w.onDie w.mod.ink.writer (fun d => d.inkFirst 4 0 (recNote 4 [mv, 2]).1 none (recNote 4 [mv, 2]).2)
    let w := w.commit false
    w.both (fun d => ((d.setFlag rSYS_PWR 0 true).raise rSYS_PWR 1).setFlag rINK_STATUS 1 true)

/-- floor(log2 n), 0 for 0. -/
def log2 (n : Nat) : Nat := Nat.log2 n

/-- SUPPLY_WARNING_CLEAR: at or above 10.7 V for 1 ms; `low`: the lowest voltage of the warning. It counts as a dip that recovered (R447, R448, R450). (DEDUCED, log entry 35.) -/
def supplyClear (mv low : Nat) (w : Whole) : Whole :=
  match w.mod.pwr.warnAt with
  | none => w
  | some t =>
    if w.a.held.isSome ∧ w.b.held.isSome then w
    else
      let w := w.at (t + 1000000)
      let v := min low w.mod.pwr.warnMin
      let us := (w.now - t) / 1000
      let w := (w.onPwr (fun p => { p with warnAt := none, warnMin := 0 })).vin mv
      let w := w.onDie w.mod.ink.writer (fun d => ((d.life 2 1).hist 2 (min 35 ((10500 - v) / 25))).hist 3 (min 63 (log2 us)))
      w.both (fun d => (d.setFlag rSYS_PWR 0 false).setFlag rINK_STATUS 1 false)

/-- The POWER_FAIL record, while the hold-up lasts (R450). -/
def Whole.failRecord (w : Whole) : Whole := if w.mod.pwr.rail then w.onDie w.mod.ink.writer (fun d => d.inkNote 10 0 (some 60) []) else w

/-- POWER_FAIL: below 9.6 V for 2 µs: the module is reset; the hold-up rail stays. -/
def powerFail (mv : Nat) (w : Whole) : Whole :=
  if w.a.held = some 1 ∧ w.b.held = some 1 then w
  else (((w.onDie w.mod.ink.writer (fun d => d.life 3 1)).failRecord).resetDies true true 1 none).vin mv

/-- RAIL_FAULT: rail `k` of die `die` out of its window for more than 10 µs: reset as by POWER_FAIL, with a DIP record whose code names the rail; its payload is free (R456,
DESIGN CHOICE, log entry 8). (DEDUCED, log entry 35.) -/
def railFault (die : Die) (k : Nat) (w : Whole) : Whole :=
  if (w.die die).held.isSome ∨ k = 0 ∨ 5 < k then w
  else
    let w := w.onDie w.mod.ink.writer (fun d => d.inkPut 4 0 k none (recNote 4 [k]).2)
    let w := if w.mod.pwr.warnAt.isSome then w.failRecord else w
    w.resetDies true true 1 (some (die, k))

/-- HOLD_UP_END: the hold-up store is exhausted while the dies are in reset: queues and tallies are lost, and the counters fall back to the copies last
committed (R446, R455). -/
def holdUpEnd (w : Whole) : Whole :=
  if !w.mod.pwr.rail ∨ w.a.held.isNone ∨ w.b.held.isNone then w
  else
    let w := w.both (fun d => ({ d with ink := default }).wr rINK_QUEUE 0)
    ((w.onPwr (fun p => { p with rail := false })).onInk (fun k => { k with part := 0 })).reload

/-- RESET_N: low for 10 µs. -/
def resetN (w : Whole) : Whole := w.resetDies true true 2 none

/-- RESET_N_RELEASE: 1 ms after RESET_N is high again the dies held by it boot (R466). -/
def resetNRelease (a b : Option BootIn) (w : Whole) : Whole :=
  if w.a.held ≠ some 2 ∧ w.b.held ≠ some 2 then w else (w.at (w.now + 1000000)).boot (fun _ c => c == 2) a b

/-! ### Temperature (R410, R458, R459) -/

/-- TEMP_SAMPLE: sensor `n` reads `t` sixteenths of a degree. (DEDUCED, log entry 35.) -/
def tempSample (n : Nat) (t : Int) (d : DieState) : DieState :=
  if d.held.isSome then d
  else
    let reg := rQLL_TEMP + 4 * n
    let seen := (tget? d.chk.temps (64 + n)).isSome
    let top := if seen then max (toSigned 16 (d.fld reg 31 16)) t else t
    let d := d.wr reg (65536 * ofSigned 16 top + ofSigned 16 t)
    let d : DieState := { d with chk := { d.chk with temps := tset d.chk.temps (64 + n) 1 } }
    let d : DieState := { d with ink := { d.ink with life := tmod d.ink.life (28 + d.die.num) 0 (fun c => max c t.toNat) } }
    let hot := (tget d.chk.temps n 0) == 1
    let d : DieState :=
      if 1600 ≤ t ∧ !hot then
        ({ d with chk := { d.chk with temps := tset d.chk.temps n 1 } }.inkNote 5 15 none [n, ofSigned 32 t]).life (26 + d.die.num) 1
      else if t < 1520 ∧ hot then { d with chk := { d.chk with temps := tset d.chk.temps n 0 } }
      else d
    if 1840 ≤ t then d.detect 4 else d.noteCool

/-- THERMAL_SHUTDOWN: the comparator at 125 °C holds the die in reset. -/
def thermalShutdown (die : Die) (w : Whole) : Whole := w.resetDies (die == .a) (die == .b) 5 none

/-- THERMAL_RELEASE: 10 s have passed and the always-on sensor reads below 100 °C. -/
def thermalRelease (die : Die) (i : Option BootIn) (w : Whole) : Whole :=
  if (w.die die).held ≠ some 5 then w
  else (w.at ((w.die die).qll.bootAt + 10000000000)).boot (fun d c => d == die && c == 5) i i

/-! ### The commands -/

/-- POWER_ON: the input in mV. -/
def execPowerOn (mv : BitVec 16) (s : State) : Host.Outcome State Fault Refusal := .next (s.onWhole (powerOn mv.toNat))
/-- RESET_RELEASE: the input in mV; what each die's ROM finds. -/
def execResetRelease (mv : BitVec 16) (a b : Option BootIn) (s : State) : Host.Outcome State Fault Refusal := .next (s.onWhole (resetRelease mv.toNat a b))
/-- SUPPLY_WARNING: the input in mV. -/
def execSupplyWarning (mv : BitVec 16) (s : State) : Host.Outcome State Fault Refusal := .next (s.onWhole (supplyWarning mv.toNat))
/-- SUPPLY_WARNING_CLEAR: the input and its lowest value in the warning, in mV. -/
def execSupplyWarningClear (mv low : BitVec 16) (s : State) : Host.Outcome State Fault Refusal := .next (s.onWhole (supplyClear mv.toNat low.toNat))
/-- POWER_FAIL: the input in mV. -/
def execPowerFail (mv : BitVec 16) (s : State) : Host.Outcome State Fault Refusal := .next (s.onWhole (powerFail mv.toNat))
/-- RAIL_FAULT: die, rail code. -/
def execRailFault (d : Die) (k : BitVec 4) (s : State) : Host.Outcome State Fault Refusal := .next (s.onWhole (railFault d k.toNat))
/-- HOLD_UP_END. -/
def execHoldUpEnd (s : State) : Host.Outcome State Fault Refusal := .next (s.onWhole holdUpEnd)
/-- RESET_N. -/
def execResetN (s : State) : Host.Outcome State Fault Refusal := .next (s.onWhole resetN)
/-- RESET_N_RELEASE: what each die's ROM finds. -/
def execResetNRelease (a b : Option BootIn) (s : State) : Host.Outcome State Fault Refusal := .next (s.onWhole (resetNRelease a b))
/-- TEMP_SAMPLE: sensor, reading in 1/16 °C. -/
def execTempSample (d : Die) (n : Fin 16) (t : BitVec 16) (s : State) : Host.Outcome State Fault Refusal := .next (s.onDie d (tempSample n.val t.toInt))
/-- THERMAL_SHUTDOWN. -/
def execThermalShutdown (d : Die) (s : State) : Host.Outcome State Fault Refusal := .next (s.onWhole (thermalShutdown d))
/-- THERMAL_RELEASE: what the die's ROM finds. -/
def execThermalRelease (d : Die) (i : Option BootIn) (s : State) : Host.Outcome State Fault Refusal := .next (s.onWhole (thermalRelease d i))

end Sys2Proof.Machine
end

