-- ==== Sys2Proof/Machine/Usw.lean ====
section
/-! DEFINITION. Run-time requests and Unit State requests (spec/01 R35 to R38, spec/02 R57, spec/17 R434 to R437): disabling and enabling ports, lanes,
outputs, contexts, Twill ports and encoders, the end of a drain, hardware transitions, reconciliation, and the responses of QMP. -/

namespace Sys2Proof.Machine

/-! ### QMP responses (R428 to R430) -/

/-- The key that QMP accepts for a role: the initial KEYMASTER key for every role until a KEYMASTER key is set, and while the key store fails its check
(R430). -/
def Store.roleKey (s : Store) (role : Nat) : Option (List Byte) :=
  if s.keysBad || (tget? s.keys 4).isNone then some s.initKey else tget? s.keys role

/-- The first 16 bytes of HMAC-SHA-256 (R428). -/
def qmpTag (key bs : List Byte) : List Byte := (hmac256 key bs).take 16

/-- A response leaves the relay die: of die `d`, to operation `op` of `role` with SEQ `seq` (R428, R429). -/
def Whole.respond (w : Whole) (d : Die) (op role seq status : Nat) (payload : List Byte) : Whole :=
  let head := beBytes 2 1 ++ beBytes 1 op ++ beBytes 1 (d.num + 2) ++ beBytes 1 role ++ beBytes 1 status ++ beBytes 2 payload.length ++ beBytes 8 seq
  let key := (w.mod.store.roleKey role).getD []
  let bs := head ++ payload
  w.onDie w.relay (fun x => x.send .qmpResponse [d.num, op, role, status] (bs ++ qmpTag key bs))

/-! ### What a request does to an instance (R35 to R38); the result: 1 APPLIED, 2 NOOP, 3 REJECTED -/

/-- The state of an instance changes: an Inkwell record of class USW (kind 1). -/
def DieState.noteInst (d : DieState) (u i st : Nat) : DieState := d.inkNote 3 u none [1, i, st]

/-- The first line of the next frame of a port (R263). -/
def DieState.nextFrame (d : DieState) (p : Nat) : Nat :=
  let g := d.groupOf p
  let l := max 1 (d.out g).lines
  let k := (d.port p).nextK
  match (d.group g).k0 with
  | none => k
  | some k0 => k0 + (k - k0 + l - 1) / l * l

/-- Camera port `p` (R36, R38). (DEDUCED, log entry 9.) -/
def DieState.portSwitch (d : DieState) (p : Nat) (off : Bool) : DieState × Nat :=
  let st := d.portState p
  if 8 ≤ p ∨ !d.portOn p then (d, 3)
  else if off then
    if st = 0 ∨ d.draining p then (d, 2)
    else if d.stepping ∧ (st = 2 ∨ st = 3) then ((d.modPort p (fun x => { x with offAt := some (d.nextFrame p) })).noteInst 1 p 6, 1)
    else (((d.modPort p (fun x => { x with rediscovered := false })).setPortState p 0).noteInst 1 p 0, 1)
  else if st = 0 then (((d.modPort p (fun x => { x with rediscovered := false })).setPortState p 1).noteInst 1 p 1, 1)
  else if d.draining p then ((d.modPort p (fun x => { x with offAt := none })).noteInst 1 p 2, 1)
  else (d, 2)

/-- Inspection Lane `n` (R36, R38). A lane in FAULT stays there until it is enabled again or the die restarts (R138): a request to disable it is refused. (DEDUCED, log
entry 9.) -/
def DieState.laneSwitch (d : DieState) (n : Nat) (off : Bool) : DieState × Nat :=
  let st := d.laneState n
  let set (v : Nat) : DieState := (d.setFld (rPTK_LANE + 4 * n) 2 0 v).setFld (rPTK_LANE + 4 * n) 7 4 0
  if 32 ≤ n ∨ (tget? d.ptk.cfg n).isNone then (d, 3)
  else if off then
    if st = 0 ∨ st = 2 then (d, 2)
    else if st = 3 then (d, 3)
    else if d.stepping then ((set 2).noteInst 5 n 6, 1)
    else ((set 0).noteInst 5 n 0, 1)
  else if st = 1 then (d, 2)
  else ((set 1).noteInst 5 n 2, 1)

/-- The channel that a request for instance `i` means on this die; in Paired mode each die acts on its own copy of the encoder (R286, R57). -/
def DieState.reqChan (d : DieState) (i : Nat) : Nat := if d.paired then i % 4 + 4 * d.die.num else i

/-- Encoder `i` (R36, R38, R302). (DEDUCED, log entry 9.) -/
def DieState.encSwitch (d : DieState) (i : Nat) (off : Bool) : DieState × Nat :=
  let c := d.reqChan i
  let ch := d.chan c
  if 8 ≤ i ∨ !d.samples c ∨ d.chMode c = 0 ∨ 4 ≤ d.chMode c then (d, 3)
  else if off = ch.frozen then (d, 2)
  else if off then
    let d := d.setChan c { ch with frozen := true, v := 0 }
    let d := d.cancelEvents (fun e => d.laneChan e.lane == c)
    let d := (d.ptk.cfg.map (·.1)).foldl (fun (d : DieState) n => if d.laneChan n = c then d.laneFault n 1 else d) d
    (d.noteInst 10 i 0, 1)
  else (((d.setChan c { ch with frozen := false, reenable := true }).uncertain c false).noteInst 10 i 2, 1)

/-- Auxiliary context `n`: a disabled context that runs stops at its next Stroke boundary, any other at once (R36, R214, R229, R232). (DEDUCED, log entry 9.) -/
def DieState.ctxSwitch (d : DieState) (n : Nat) (off : Bool) : DieState × Nat :=
  let a := d.aux n
  let st := d.axState n
  if 16 ≤ n ∨ !a.defined then (d, 3)
  else if off then
    if a.disabled then (d, 2)
    else
      let d := d.setAux n { a with disabled := true }
      if d.stepping ∧ (st = axRunning ∨ st = axStopping) then
        let d := (d.setAx n axStopping).setAux n { d.aux n with sliceEnd := d.seq.step }
        (((d.axTiles n).foldl (fun (d : DieState) p => d.betweenStop p) d).noteInst 18 n 6, 1)
      else ((contextPlace (d.resetNow (2 + n))).noteInst 18 n 0, 1)
  else if !a.disabled ∧ st ≠ axOff then (d, 2)
  else
    let d := d.setAux n { a with disabled := false }
    ((if d.stepping ∧ st = axOff then d.enqueue n else d).noteInst 18 n 2, 1)

/-- Output `n`: its events are cancelled and it goes to its safe action (R36, R324). (DEDUCED, log entry 9.) -/
def Whole.outSwitch (w : Whole) (die : Die) (n : Nat) (off : Bool) : Whole × Nat :=
  let d := w.die die
  let listed := d.nib.outOff.contains n
  if 64 ≤ n ∨ (!w.paired && w.owner n != die) then (w, 3)
  else if off = listed then (w, 2)
  else if off then
    let w := w.onDie die (fun d =>
      let d := d.cancelEvents (d.onOutput (· == n))
      ({ d with nib := { d.nib with outOff := d.nib.outOff ++ [n] } }).noteInst 11 n 0)
    if d.dev != .run && d.dev != .safe then (w, 1)
    else if w.owner n == die then (w.force w.now (· == n) w.safeAction, 1)
    else (w.onField (fun f => { f with shadow := tset f.shadow n ((tget f.shadow n default).force w.now (w.safeAction n)) }), 1)
  else (w.onDie die (fun d => ({ d with nib := { d.nib with outOff := d.nib.outOff.filter (· ≠ n) } }).noteInst 11 n 2), 1)

/-- Twill port `p`, of the die that has it (R36, R403). (DEDUCED, log entry 9.) -/
def Whole.twlSwitch (w : Whole) (die : Die) (p : Nat) (off : Bool) : Whole × Nat :=
  let st := (w.die die).tpState p
  if 4 ≤ p ∨ portDie p ≠ die ∨ (tget? (w.die die).twl.ports p).isNone then (w, 3)
  else if off = (st == 0) then (w, 2)
  else if off then
    let w := if st = 5 then w.leaveActive p 0 else w.onDie die (fun d => d.setTpState p 0)
    (w.onDie die (fun d => d.noteInst 14 p 0), 1)
  else (w.onDie die (fun d => ((d.setTpState p 1).modTport p (fun x => { x with since := d.clk })).noteInst 14 p 1), 1)

/-- A request acts on one instance of a unit; a unit that R36 does not list is refused. (DEDUCED, log entry 9.) -/
def Whole.switch (w : Whole) (die : Die) (unit i : Nat) (off : Bool) : Whole × Nat :=
  let on (f : DieState → DieState × Nat) : Whole × Nat := (w.onDie die (fun d => (f d).1), (f ((w.die die).sync w.now)).2)
  match unit with
  | 1 => on (fun d => d.portSwitch i off)
  | 5 => on (fun d => d.laneSwitch i off)
  | 10 => on (fun d => d.encSwitch i off)
  | 11 => w.outSwitch die i off
  | 14 => w.twlSwitch die i off
  | 18 => on (fun d => d.ctxSwitch i off)
  | _ => (w, 3)

/-- The configured instances of a unit (R35). -/
def Whole.instances (w : Whole) (die : Die) (unit : Nat) : List Nat :=
  let d := w.die die
  match unit with
  | 1 => (List.range 8).filter d.portOn
  | 5 => d.ptk.cfg.map (·.1)
  | 10 => (List.range 8).filter (fun c => d.samples c && decide (1 ≤ d.chMode c ∧ d.chMode c ≤ 3))
  | 11 => (List.range 64).filter (fun n => w.paired || w.owner n == die)
  | 14 => (d.twl.ports.map (·.1)).filter (fun p => portDie p == die)
  | 18 => (List.range 16).filter (fun n => (d.aux n).defined)
  | _ => []

/-- The units of the table of R36, in its order. -/
def drainUnits : List Nat := [1, 5, 11, 18, 14, 10]

/-- A request acts on an instance, or on every configured one (R35). (DEDUCED, log entry 9.) -/
def Whole.uswRun (w : Whole) (die : Die) (v : Nat) : Whole × Nat :=
  let unit := bits 20 16 v
  let act := bits 1 0 v
  if (act ≠ 1 ∧ act ≠ 2) ∨ !drainUnits.contains unit then (w, 3)
  else if bits 15 8 v ≠ 0xFF then w.switch die unit (bits 15 8 v) (act == 1)
  else
    (w.instances die unit).foldl (fun (r : Whole × Nat) i =>
      let x := r.1.switch die unit i (act == 1)
      (x.1, if x.2 = 1 then 1 else r.2)) (w, 2)

/-- The hardware has decided the PENDING request `v` of a die: the result, and the QMP response that waits for it (R434, R475). -/
def Whole.uswDone (w : Whole) (die : Die) (v res : Nat) : Whole :=
  match (w.die die).qll.req with
  | none => w
  | some (v', _) =>
    if v' ≠ v then w
    else
      let ans := (w.die die).qll.ans
      let w := w.onDie die (fun d =>
        let d := d.wr rQLL_USW_RESULT res
        let d := if res = 3 then (d.countFld rQLL_RECON 15 0 1).inkNote 3 (bits 20 16 v) none [2, bits 15 8 v, bits 1 0 v] else d
        { d with qll := { d.qll with req := none, ans := none } })
      match ans with
      | some (role, seq) => w.respond die 5 role seq 0 [BitVec.ofNat 8 res]
      | none => w

/-- A Unit State request takes effect on a die (R35, R434). -/
def Whole.uswApply (w : Whole) (die : Die) (v : Nat) : Whole :=
  let r := w.uswRun die v
  r.1.uswDone die v r.2

/-! ### HALTED (R32) -/

/-- The die becomes HALTED: the Quill alone runs on; outputs and SAFE_OK are de-energised, SEQ counts from 0 (R378), and the lifetime blocks are committed
(R31 to R33, R446). -/
def Whole.halt (w : Whole) (die : Die) : Whole :=
  let w := (w.onDie die (fun d =>
    let d := (d.setDev .halted).unitsOff.safeOkOff
    { d with seq := { d.seq with on := false }, net := { d.net with seq := 0 } })).deEnergise w.now die
  (w.reached die).commit false

/-! ### Run-time requests (R57) -/

/-- What a register's request does when it takes effect. (DEDUCED, log entry 19.) -/
def Whole.applyReq (w : Whole) (die : Die) (off v : Nat) : Whole :=
  if off = rQLL_USW_REQ then w.uswApply die v
  else if off = rSYS_STATE then (if (w.die die).dev = .safe then w.halt die else w)
  else if off = rTAR_FENCE_REQ then w.onDie die (fenceRequest false v)
  else if off = rSTM_FENCE_REQ then w.onDie die (fenceRequest true v)
  else if off = rPOS_SWCAP then w.onDie die (swcap v)
  else if rPOS_STAT ≤ off ∧ off < rPOS_STAT + 32 then w.onDie die (fun d => uncertainClear (d.reqChan ((off - rPOS_STAT) / 4)) d)
  else if rCTX_AUX ≤ off ∧ off < rCTX_AUX + 64 then w.onDie die (fun d => d.enqueue ((off - rCTX_AUX) / 4))
  else w

/-- A request waits on a die from boundary `n` on. -/
def DieState.queueReq (d : DieState) (off v n : Nat) : DieState := { d with reqs := d.reqs ++ [(off, v, n)] }

/-- A die's Quill hands a request to the hardware: it takes effect at the next step boundary, in Paired mode at the same one on both dies; where no step
runs, at once (R35, R57). (DEDUCED, log entry 19.) -/
def Whole.ask (w : Whole) (die : Die) (off v : Nat) : Whole :=
  let x := w.die die
  let y := w.die die.other
  if !x.stepping then w.applyReq die off v
  else if w.paired && y.stepping then w.both (fun d => d.queueReq off v (max x.seq.step y.seq.step + 1))
  else w.onDie die (fun d => d.queueReq off v (x.seq.step + 1))

/-- The place of a request among those of one boundary: the row nearer the foot of R36's table acts last, and so governs (R37). (DEDUCED, log entry 9.) -/
def reqRank (r : Nat × Nat × Nat) : Nat := if r.1 = rQLL_USW_REQ then drainUnits.length - drainUnits.idxOf (bits 20 16 r.2.1) else 0

/-- The requests that take effect at this boundary do so. (DEDUCED, log entry 19.) -/
def Whole.runReqs (w : Whole) (die : Die) : Whole :=
  let d := w.die die
  let due := d.reqs.filter (fun r => decide (r.2.2 ≤ d.seq.step))
  let w := w.onDie die (fun d => { d with reqs := d.reqs.filter (fun r => !decide (r.2.2 ≤ d.seq.step)) })
  (sortBy (fun a b => decide (reqRank b < reqRank a)) due).foldl (fun w r => w.applyReq die r.1 r.2.1) w

/-- Where no step runs (any more), every request that waits acts at once. (DEDUCED, log entry 19.) -/
def Whole.settleReqs (w : Whole) (die : Die) : Whole :=
  if (w.die die).stepping then w
  else (w.onDie die (fun d => { d with reqs := d.reqs.map (fun r => (r.1, r.2.1, 0)) })).runReqs die

/-- CHK_SAFE_REQ: FORCED, in Paired mode of both dies (R344, R57). (DEDUCED, log entry 19.) -/
def chkSafeAsk (die : Die) (v : Nat) (w : Whole) : Whole :=
  if w.paired && (w.die die).stepping && (w.die die.other).stepping then w.both (chkSafeReq v) else w.onDie die (chkSafeReq v)

/-- QLL_USW_REQ is written: GO is ignored while a request is PENDING (R434). (DEDUCED, log entry 19.) -/
def uswWrite (die : Die) (v : Nat) (w : Whole) : Whole :=
  if !bit 31 v || (w.die die).flag rQLL_USW_RESULT 31 then w else (w.onDie die (fun d => d.uswPend v)).ask die rQLL_USW_REQ v

/-- The value of a request for QLL_USW_REQ. -/
def uswValue (unit inst act : Nat) : Nat := 0x80000000 + unit % 32 * 0x10000 + inst % 256 * 0x100 + act

/-! ### The end of a drain (R36) -/

/-- DRAIN_COMPLETE: instance `i` of unit `u` reaches its frame boundary, its last retirement, or its Stroke boundary. -/
def drainComplete (u i : Nat) (d : DieState) : DieState :=
  if u = 1 then
    match (d.port i).offAt with
    | some b =>
      if d.draining i ∧ b < (d.port i).nextK then
        ((d.modPort i (fun x => { x with rediscovered := false, offAt := if d.portState i = 2 then some b else none })).setPortState i 0).uswEvent 1 i 0
          |>.noteInst 1 i 0
      else d
    | none => d
  else if u = 5 then
    if d.laneState i = 2 ∧ d.ptk.parts.all (fun p => p.lane != i || p.kind == .tail || !p.held) then
      ((d.setFld (rPTK_LANE + 4 * i) 2 0 0).uswEvent 5 i 0).noteInst 5 i 0
    else d
  else if u = 18 then
    if i < 16 ∧ (d.aux i).disabled ∧ d.axState i = axStopping ∧ d.seq.cycle = 0 ∧ (d.axTiles i).all (fun p => (d.slotOf p).cur.stat != .running) then
      ((contextPlace (d.resetNow (2 + i))).uswEvent 18 i 0).noteInst 18 i 0
    else d
  else d

/-- USW_EVT_POP: a read of QLL_USW_EVT (R435). -/
def DieState.popEvt (d : DieState) : DieState × Nat :=
  match d.qll.evts with
  | [] => (d, 0)
  | (v, t) :: r => (({ d with qll := { d.qll with evts := r } }).wr64 rQLL_USW_EVT_STEP_LO t, v)

/-! ### Reconciliation (R436, R437) -/

/-- The safety units (R437). -/
def safetyUnit (u : Nat) : Bool := decide (u ≤ 18) && !(u == 0 || u == 15 || u == 16)

/-- A disagreement on unit `u` is counted, logged, and known from now on (R436). (DEDUCED, log entry 38.) -/
def DieState.disagree (d : DieState) (u : Nat) : DieState :=
  let d := ((d.countFld rQLL_RECON 31 16 1).raise rQLL_STATUS 1).inkNote 3 u none [3]
  if (tget? d.qll.differ u).isSome then d else { d with qll := { d.qll with differ := tset d.qll.differ u d.clk } }

/-- RECONCILE: the next millisecond's reconciliation. `units` has a bit for each unit whose shadow, after the events, the completed requests and any
reload, differs from the hardware (DESIGN CHOICE, log entry 6). (DEDUCED, log entry 38.) -/
def reconcile (units : Nat) (d : DieState) : DieState :=
  if d.held.isSome ∨ d.dev = .boot then d
  else
    let d := d.at (d.qll.reconAt + 1000000)
    let d := d.qll.evts.foldl (fun (d : DieState) _ => d.popEvt.1) d
    let lost := match d.qll.req with | some (v, t) => if t + 3000000 ≤ d.clk then some (bits 20 16 v) else none | none => none
    let d := if lost.isSome then d.raise rQLL_STATUS 2 else d
    let us := (List.range 19).filter (fun u => bit u units || lost == some u)
    let d := us.foldl DieState.disagree d
    let d := { d with qll := { d.qll with differ := d.qll.differ.filter (fun x => us.contains x.1), reconAt := d.clk, gapped := false } }
    if d.qll.differ.any (fun x => safetyUnit x.1 && decide (x.2 + 3000000 < d.clk)) then d.detect 8 else d

/-- RECONCILE_GAP: more than 3 ms since the last reconciliation: a disagreement on every unit, once for the gap. (DEDUCED, log entry 38.) -/
def reconcileGap (d : DieState) : DieState :=
  if d.held.isSome ∨ d.dev = .boot ∨ d.qll.gapped then d
  else
    let d := (List.range 19).foldl DieState.disagree (d.at (d.qll.reconAt + 3000001))
    { d with qll := { d.qll with gapped := true } }

/-! ### The commands -/

/-- LINE_RUNNING_ADMIT. -/
def execLineRunningAdmit (d : Die) (s : State) : Host.Outcome State Fault Refusal := .next (s.onWhole (fun w => (runningAdmit d w).settleReqs d))
/-- OPERATOR_ACK_ADMIT. -/
def execOperatorAckAdmit (d : Die) (s : State) : Host.Outcome State Fault Refusal := .next (s.onWhole (fun w => (ackAdmit d w).settleReqs d))
/-- CHANGEOVER_NEW_RECIPE. -/
def execChangeoverNewRecipe (d : Die) (s : State) : Host.Outcome State Fault Refusal := .next (s.onWhole (fun w => (changeNew d w).settleReqs d))
/-- USW_DISABLE: unit and instance (0xFF: the whole unit) of a QLL_USW_REQ with ACTION DISABLE. -/
def execUswDisable (d : Die) (u : BitVec 5) (i : BitVec 8) (s : State) : Host.Outcome State Fault Refusal :=
  .next (s.onWhole (uswWrite d (uswValue u.toNat i.toNat 1)))
/-- USW_ENABLE: the same with ACTION ENABLE. -/
def execUswEnable (d : Die) (u : BitVec 5) (i : BitVec 8) (s : State) : Host.Outcome State Fault Refusal :=
  .next (s.onWhole (uswWrite d (uswValue u.toNat i.toNat 2)))
/-- DRAIN_COMPLETE: unit and instance. -/
def execDrainComplete (d : Die) (u : Fin 19) (i : BitVec 8) (s : State) : Host.Outcome State Fault Refusal :=
  .next (s.onDie d (drainComplete u.val i.toNat))
/-- USW_EVT_POP. -/
def execUswEvtPop (d : Die) (s : State) : Host.Outcome State Fault Refusal :=
  .next (s.onDie d (fun x => x.popEvt.1.send .quill [0, x.popEvt.2] []))
/-- RECONCILE: the units that differ. -/
def execReconcile (d : Die) (units : BitVec 19) (s : State) : Host.Outcome State Fault Refusal :=
  .next (s.onWhole (fun w => (w.settleReqs d).onDie d (reconcile units.toNat)))
/-- RECONCILE_GAP. -/
def execReconcileGap (d : Die) (s : State) : Host.Outcome State Fault Refusal := .next (s.onDie d reconcileGap)
/-- POS_SWCAP with the value written. -/
def execPosSwcap (d : Die) (v : BitVec 32) (s : State) : Host.Outcome State Fault Refusal := .next (s.onWhole (fun w => w.ask d rPOS_SWCAP v.toNat))
/-- UNCERTAIN_CLEAR of channel `c`: a 1 written to UNCERTAIN of POS_STATn. -/
def execUncertainClear (d : Die) (c : Fin 8) (s : State) : Host.Outcome State Fault Refusal :=
  .next (s.onWhole (fun w => w.ask d (rPOS_STAT + 4 * c.val) (2 ^ 9)))
/-- TAR_FENCE_REQ with the value written. -/
def execTarFenceReq (d : Die) (v : BitVec 32) (s : State) : Host.Outcome State Fault Refusal :=
  .next (s.onWhole (fun w => w.ask d rTAR_FENCE_REQ v.toNat))
/-- STM_FENCE_REQ with the value written. -/
def execStmFenceReq (d : Die) (v : BitVec 32) (s : State) : Host.Outcome State Fault Refusal :=
  .next (s.onWhole (fun w => w.ask d rSTM_FENCE_REQ v.toNat))
/-- CHK_SAFE_REQ: the value written. -/
def execChkSafeReq (d : Die) (v : BitVec 32) (s : State) : Host.Outcome State Fault Refusal := .next (s.onWhole (chkSafeAsk d v.toNat))

end Sys2Proof.Machine
end

