-- ==== Sys2Proof/Machine/Access.lean ====
section
/-! DEFINITION. The address map of a die as its Quill sees it (spec/20 R471 to R479, spec/00 R15 to R17): register reads with their computed fields and the
capture of `_LO`, register writes, the tile SRAM debug window, and the other windows. -/

namespace Sys2Proof.Machine

/-! ### Reading registers -/

/-- The `_LO` registers: places, stride, count (R16). -/
def loRegs : List (Nat × Nat × Nat) :=
  [(rSYS_STEP_COUNT_LO, 8, 1), (rSYS_FREEZE_CYCLES_LO, 8, 1), (rCXP_TRIG_LO, 8, 8), (rRGN_ORIGIN_LO, 8, 8), (rSTM_SWITCH_STEP_LO, 8, 1),
   (rPTK_DUP_STEP_LO, 8, 1), (rTAR_FAULT_STEP_LO, 8, 1), (rTAR_NUM_FIRST_STEP_LO, 8, 1), (rSYN_ERR_STEP_LO, 8, 1), (rCHK_SAFE_STEP_LO, 8, 1)] ++
  [(rPOS_COUNT_LO, 8, 8), (rPOS_INDEX_LATCH_LO, 8, 8), (rPOS_LIMIT_LO_LO, 8, 8), (rPOS_LIMIT_HI_LO, 8, 8), (rPOS_PRESET_LO, 8, 8),
   (rPOS_CAP_POS_LO, 32, 8), (rPOS_CAP_TIME_LO, 32, 8), (rPOS_CAP_STEP_LO, 32, 8), (rNET_TIME_LO, 8, 1), (rTWL_SIGN_DIFF_STEP_LO, 8, 1)] ++
  [(rQLL_USW_EVT_STEP_LO, 8, 1), (rQLL_BOOT_COUNT_LO, 8, 1), (rINK_SEQ_LO, 8, 1), (rCTX_CHG_STEP_LO, 8, 1)]

/-- The register at `off` is a `_LO` register. -/
def isLo (off : Nat) : Bool := loRegs.any (fun r => decide (r.1 ≤ off ∧ (off - r.1) % r.2.1 = 0 ∧ (off - r.1) / r.2.1 < r.2.2))

/-- One half of a 64-bit value. -/
def half (hi : Bool) (v : Nat) : Nat := if hi then v / 2 ^ 32 % 2 ^ 32 else v % 2 ^ 32

/-- POS_COUNTn and POS_STATn (R311), of a channel of the die, or of the other die as the last admitted tag has it. -/
def DieState.posRead (d : DieState) (c off : Nat) : Nat :=
  let x := off - rPOS_CFG
  let count := decide (0x100 ≤ x ∧ x < 0x140)
  let stat := decide (0x140 ≤ x ∧ x < 0x160)
  if d.samples c then
    let ch := d.chan c
    if count then half (x % 8 == 4) (ofSigned 64 ch.count)
    else if stat then
      let sub := (d.p256 c d.sampleNow % 256).toNat
      d.rd off % 2 ^ 22 / 2 ^ 16 * 2 ^ 16 + 2 ^ 12 * b2n ch.frozen + 2 ^ 11 * b2n (ch.level == 2) + 2 ^ 10 * b2n (ch.level == 1) +
        2 ^ 9 * b2n (d.flag off 9) + 2 ^ 8 * b2n ch.rev + sub
    else d.rd off
  else
    let e := match d.pos.last with | some t => tget t.ents c default | none => default
    if count then half (x % 8 == 4) (ofSigned 64 e.count)
    else if stat then
      2 ^ 20 * b2n e.limit + 2 ^ 13 + 2 ^ 12 * b2n e.frozen + 2 ^ 9 * b2n e.uncertain + 2 ^ 8 * b2n e.dir + e.sub % 256
    else 0

/-- FIO_OUT_STATn: the register with the pad, the command and the L+ group (R328). -/
def Whole.outRead (w : Whole) (d : DieState) (n : Nat) : Nat :=
  let o := w.mod.field.out n
  let v := d.rd (outStat n)
  setBit 0 o.level (setBit 1 o.pad (setBit 5 (d.flag rFIO_LPLUS (n / 8)) v))

/-- What a register shows now (R17): its content, with the fields that show live state computed. -/
def Whole.regShow (w : Whole) (die : Die) (off : Nat) : Nat :=
  let d := w.die die
  if off / 0x10000 = 0 then
    if off = rSYS_ID then setBit 0 (die == .b) (d.rd off)
    else if rSYS_USW ≤ off ∧ off < rSYS_USW + 76 then (if d.stepping then tget d.qll.snap ((off - rSYS_USW) / 4) (d.rd off) else d.rd off)
    else if off = rSYS_STEP_COUNT_LO then half false d.seq.step
    else if off = rSYS_STEP_COUNT_HI then half true d.seq.step
    else if off = rSYS_FREEZE_CYCLES_LO then half false d.seq.freeze
    else if off = rSYS_FREEZE_CYCLES_HI then half true d.seq.freeze
    else if off = rSYS_CYCLE_IN_STEP then d.seq.cycle % 2 ^ 15
    else if off = rSYS_FREEZE_MAX then min 0xFF d.seq.maxEv * 2 ^ 24 + min 0xFFFFFF d.seq.maxCyc
    else d.rd off
  else if rPTK_LANE ≤ off ∧ off < rPTK_LANE + 128 then
    setBits 31 16 (min 0xFFFF (d.ptk.parts.filter (fun p => p.lane == (off - rPTK_LANE) / 4 && p.held)).length) (d.rd off)
  else if rPTK_POOL ≤ off ∧ off < rPTK_POOL + 128 then
    match tget? d.ptk.cfg ((off - rPTK_POOL) / 4) with | some c => c.poolBase * 2 ^ 16 + c.poolCount | none => 0
  else if off / 0x10000 = 10 then
    match posChan (off % 0x10000) with | some c => d.posRead c off | none => d.rd off
  else if rFIO_OUT_STAT ≤ off ∧ off < rFIO_OUT_STAT + 256 then w.outRead d ((off - rFIO_OUT_STAT) / 4)
  else if rFIO_IN_CFG ≤ off ∧ off < rFIO_IN_CFG + 128 then (if inputDie ((off - rFIO_IN_CFG) / 4) = die then d.rd off else 0)
  else if off = rNET_TIME_LO then half false (d.ptpNow.toNat)
  else if off = rNET_TIME_HI then half true (d.ptpNow.toNat)
  else if off = rQLL_USW_EVT then 0
  else d.rd off

/-- A Quill read of the register at `off`: a `_LO` register captures, a `_HI` register takes what was captured, QLL_USW_EVT pops (R16, R435); an offset
with no register reads zero (R472). (DEDUCED, log entry 37.) -/
def Whole.regRead (w : Whole) (die : Die) (off : Nat) : Whole × Nat :=
  if (regDef? off).isNone then (w, 0)
  else if off = rQLL_USW_EVT then (w.onDie die (fun d => d.popEvt.1), (w.die die).popEvt.2)
  else if isLo off then
    (w.onDie die (fun d => { d with cap := tset d.cap off (die.num, w.regShow die (off + 4)) }), w.regShow die off)
  else if 4 ≤ off ∧ isLo (off - 4) then
    match tget? (w.die die).cap (off - 4) with
    | some (_, v) => (w.onDie die (fun d => { d with cap := tdel d.cap (off - 4) }), v)
    | none => (w, w.regShow die off)
  else (w, w.regShow die off)

/-! ### Writing registers -/

/-- RW fields that take a value in CONFIG alone (R126, R311). (DEDUCED, log entry 37.) -/
def configOnly (off : Nat) : Bool :=
  (off / 0x10000 == 10) || (off == Rot.cfg false || off == Rot.dwell false || off == Rot.limit false || off == Rot.cfg true || off == Rot.dwell true || off == Rot.limit true)

/-- The plain effect of a write: RW bits take the value, W1C bits written 1 are cleared, everything else stays (R17). (DEDUCED, log entry 37.) -/
def DieState.plainWrite (d : DieState) (off v : Nat) : DieState :=
  match regDef? off with
  | none => d
  | some r =>
    let v := v % 2 ^ 32
    let rw := if configOnly off && d.dev != .config then 0 else r.rw
    let old := d.rd off
    d.wr off (((old &&& (0xFFFFFFFF ^^^ rw)) ||| (v &&& rw)) &&& (0xFFFFFFFF ^^^ (v &&& r.w1c)))

/-- A record register whose VALID is written 1 is cleared with the registers that belong to it. (DEDUCED, log entry 37.) -/
def DieState.clearRec (d : DieState) (offs : List Nat) (v : Nat) : DieState := if bit 31 v then offs.foldl (fun d o => d.wr o 0) d else d

/-- POS_STATn of channel `c`: the flags clear at once; a clear of UNCERTAIN is a run-time request (R57, R301). -/
def Whole.posStatWrite (w : Whole) (die : Die) (c v : Nat) : Whole :=
  if !(w.die die).samples c then w
  else
    let w := w.onDie die (fun d => d.plainWrite (posStat c) (v &&& 0x3F0000))
    if bit 9 v then w.ask die (posStat c) (2 ^ 9) else w

/-- A Quill write of the register at `off` (R17, R57): the registers that submit a request do so; a record is cleared whole. (DEDUCED, log entry 37.) -/
def Whole.regWrite (w : Whole) (die : Die) (off v : Nat) : Whole :=
  let d := w.die die
  if off = rQLL_USW_REQ then uswWrite die v w
  else if off = rTAR_FENCE_REQ ∨ off = rSTM_FENCE_REQ then (if bit 31 v then w.ask die off v else w)
  else if off = rPOS_SWCAP then (if v % 256 = 0 then w else w.ask die off v)
  else if off = rSTM_MODE then forceRegroup die v w
  else if off = rCHK_SAFE_REQ then chkSafeAsk die v w
  else if off = rINK_MSG_GO then w.onDie die (inkMsgGo v)
  else if off = rTAR_FAULT then w.onDie die (fun d => d.clearRec [rTAR_FAULT, rTAR_FAULT_PC, rTAR_FAULT_STEP_LO, rTAR_FAULT_STEP_HI] v)
  else if off = rSYN_ERR then w.onDie die (fun d => d.clearRec [rSYN_ERR, rSYN_ERR_SRC, rSYN_ERR_STEP_LO, rSYN_ERR_STEP_HI] v)
  else if off = rFWL_VIOL then w.onDie die (fun d => d.clearRec [rFWL_VIOL, rFWL_VIOL_ADDR] v)
  else if rPOS_STAT ≤ off ∧ off < rPOS_STAT + 32 then w.posStatWrite die ((off - rPOS_STAT) / 4) v
  else if off / 0x10000 = 10 then
    match posChan (off % 0x10000) with
    | some c => if d.samples c then w.onDie die (fun d => d.plainWrite off v) else w
    | none => w.onDie die (fun d => d.plainWrite off v)
  else w.onDie die (fun d => d.plainWrite off v)

/-! ### The windows (R471) -/

/-- What an address of the map reaches: a register, the debug window, Inkwell, DRAM, the Quill's ROM or SRAM; none: no row covers it. -/
inductive Place where
  | reg (off : Nat) | tile (off : Nat) | ink (off : Nat) | dram (off : Nat) | rom (off : Nat) | quill (off : Nat)
deriving DecidableEq, Repr

/-- The address map. -/
def place (a : Nat) : Option Place :=
  if a < 0x10000 then some (.rom a)
  else if 0x100000 ≤ a ∧ a < 0x200000 then some (.quill (a - 0x100000))
  else if 0x10000000 ≤ a ∧ a < 0x10000000 + 19 * 0x10000 then some (.reg (a - 0x10000000))
  else if 0x20000000 ≤ a ∧ a < 0x20000000 + 272 * 0x80000 then some (.tile (a - 0x20000000))
  else if 0x30000000 ≤ a ∧ a < 0x31000000 then some (.ink (a - 0x30000000))
  else if 0x80000000 ≤ a ∧ a < 0x100000000 then some (.dram (a - 0x80000000))
  else none

/-- The firewall target of a place, with the offset in it (R353); the Quill's own memories are no target. -/
def Place.target (p : Place) : Option (Nat × Nat) :=
  match p with
  | .reg off => some (off / 0x10000, off % 0x10000)
  | .tile off => some (19, off)
  | .dram off => some (20, off)
  | .ink off => some (21, off)
  | .rom _ => none
  | .quill _ => none

/-- How an access ends: done, denied by the firewall, with an error, or not yet: it waits for QUILL positions (R195). -/
inductive AccEnd where
  | ok | denied | error | waits
deriving DecidableEq, Repr

/-- The debug window takes a write: in CONFIG to SELF_TEST; later only to a tile of the STANDBY group while MAINT does not run (R474). -/
def DieState.debugWrites (d : DieState) (p : Nat) : Bool :=
  match d.dev with
  | .config => true
  | .linkTrain => true
  | .selfTest => true
  | .armed => p / 16 == d.outGroup && d.grpState false d.outGroup == 5 && !d.ctx.maint
  | .run => p / 16 == d.outGroup && d.grpState false d.outGroup == 5 && !d.ctx.maint
  | .safe => p / 16 == d.outGroup && d.grpState false d.outGroup == 5 && !d.ctx.maint
  | _ => false

/-- An access of `n` bytes at `off` of the debug window: a read of a word that fails its parity gives zero with an error; a write where none is taken is discarded (R474). (DEDUCED, log entry 37.) -/
def Whole.debugAcc (w : Whole) (die : Die) (off n : Nat) (write : Bool) (v : Nat) (bad : Bool) : Whole × AccEnd × Nat :=
  let p := off / 0x80000
  let a := sramBase die p + off % 0x80000
  if !write then (if bad then (w, .error, 0) else (w, .ok, leNat (memRead w.mem a n)))
  else if (w.die die).debugWrites p then (w.store (cellsAt a (leBytes n v)), .ok, 0)
  else (w, .error, 0)

/-- The die of a whole after `f` on it, memory and its stores. -/
def Whole.onDM (w : Whole) (die : Die) (f : DM → DM) : Whole :=
  let x := f ⟨(w.die die).sync w.now, w.mem, []⟩
  (w.onDie die (fun _ => x.d)).store x.stores

/-- An access of `n` bytes of the die's Quill at address `a` (R15, R471, R354): the state after it, how it ends, what was read. A register block takes aligned 32-bit accesses
alone; in a memory window an access lies where its address says. What the tiles do up to this cycle has been done (log entry 14). `req`: the QMP request that it
serves. (DEDUCED, log entry 10.) (DEDUCED, log entry 37.) -/
def Whole.access (w : Whole) (die : Die) (a n : Nat) (write : Bool) (v : Nat) (req : Option (Nat × Nat)) : Whole × AccEnd × Nat :=
  let w := w.onDM die DM.caughtUp
  match place a with
  | none => (w, .error, 0)
  | some p =>
    let misplaced : Bool := match p with | .reg off => off % 4 != 0 || n != 4 | _ => place (a + (n - 1)) == none
    if misplaced then (w, .error, 0)
    else
      let f := match p.target with
        | some (t, off) => ((w.die die).sync w.now).fwl t off die.num 0 write
        | none => ((w.die die).sync w.now, true)
      let w := w.onDie die (fun _ => f.1)
      if !f.2 then (w, .denied, 0)
      else
        match p with
        | .reg off => if write then (w.regWrite die off v, .ok, 0) else let r := w.regRead die off; (r.1, .ok, r.2)
        | .tile off => w.debugAcc die off n write v false
        | .dram off =>
          let r := (⟨w.die die, w.mem, []⟩ : DM).quillDram off n write v req
          ((w.onDie die (fun _ => r.1.d)).store r.1.stores, if r.2 then .error else .waits, 0)
        | .ink off => if write then (w, .error, 0) else (w, .ok, leNat (memRead w.mem (Space.mram.base + off) n))
        | .rom off =>
          if write then (w, .error, 0)
          else (w, .ok, leNat ((List.range n).map (fun i => BitVec.ofNat 8 (Config.romWord ((off + i) / 4) / 256 ^ ((off + i) % 4)))))
        | .quill off =>
          let at_ := (Space.quill die).base + off
          if write then (w.store (cellsAt at_ (leBytes n v)), .ok, 0) else (w, .ok, leNat (memRead w.mem at_ n))

/-- The answer to the Quill: whether it is an error, and what was read; none to an access that waits. -/
def Whole.answer (w : Whole) (die : Die) (e : AccEnd) (v : Nat) : Whole :=
  if e = .waits then w else w.onDie die (fun d => d.send .quill [b2n (e != .ok), v] [])

/-- LO_REGISTER_READ: the Quill reads 2^`sz` bytes at an aligned address of its map; one that is not aligned is an error. (DEDUCED, log entry 37.) -/
def quillRead (die : Die) (a sz : Nat) (w : Whole) : Whole :=
  if a % 2 ^ sz ≠ 0 then w.answer die .error 0
  else let r := w.access die a (2 ^ sz) false 0 none; r.1.answer die r.2.1 r.2.2

/-- REGISTER_WRITE: the Quill writes 2^`sz` bytes at an aligned address of its map. (DEDUCED, log entry 37.) -/
def quillWrite (die : Die) (a sz v : Nat) (w : Whole) : Whole :=
  if a % 2 ^ sz ≠ 0 then w.answer die .error 0
  else let r := w.access die a (2 ^ sz) true v none; r.1.answer die r.2.1 0

/-- DEBUG_WINDOW_ACCESS: an access at `off` of the window, once the tiles have done what they do up to this cycle (log entry 14); `bad`: the word read fails its parity
check. (DEDUCED, log entry 10.) -/
def debugWindow (die : Die) (off : Nat) (write : Bool) (v : Nat) (bad : Bool) (w : Whole) : Whole :=
  if 272 * 0x80000 ≤ off then w.answer die .error 0
  else
    let w := w.onDM die DM.caughtUp
    let f := ((w.die die).sync w.now).fwl 19 off die.num 0 write
    let w := w.onDie die (fun _ => f.1)
    if !f.2 then w.answer die .denied 0
    else let r := w.debugAcc die (off / 4 * 4) 4 write v bad; r.1.answer die r.2.1 r.2.2

/-! ### The commands -/

/-- LO_REGISTER_READ: an address of the map with the size of the access (2^n bytes). -/
def execLoRegisterRead (d : Die) (a : BitVec 32 × Fin 4) (s : State) : Host.Outcome State Fault Refusal :=
  .next (s.onWhole (quillRead d a.1.toNat a.2.val))
/-- REGISTER_WRITE: an address of the map with the size of the access, the value. -/
def execRegisterWrite (d : Die) (a : BitVec 32 × Fin 4) (v : BitVec 64) (s : State) : Host.Outcome State Fault Refusal :=
  .next (s.onWhole (quillWrite d a.1.toNat a.2.val v.toNat))
/-- DEBUG_WINDOW_ACCESS: offset in the window, write, value, parity failure. -/
def execDebugWindowAccess (d : Die) (off : BitVec 32) (wr : Bool) (v : BitVec 32) (bad : Bool) (s : State) : Host.Outcome State Fault Refusal :=
  .next (s.onWhole (debugWindow d off.toNat wr v.toNat bad))

end Sys2Proof.Machine
end

