-- ==== Sys2Proof/Machine/Ipp.lean ====
section
/-! DEFINITION. The Image Pipeline's commands (spec/11 R262 to R284): Line Slot Table entries with the display, coding and statistics
outputs, and exposure settings. -/

namespace Sys2Proof.Machine

/-- Line-in-frame of line `k` of group `g` (R263). -/
def DieState.lineInFrame (d : DieState) (g k : Nat) : Nat := (k - (d.group g).k0.getD 0) % (d.out g).lines

/-- Line `k` is the last of its frame. -/
def DieState.frameEnd (d : DieState) (g k : Nat) : Bool := d.lineInFrame g k + 1 == (d.out g).lines


/-! ### Statistics (R277 to R279) -/

/-- One sample of a channel counts in its histogram and its zone. -/
def PortStat.sample (s : PortStat) (c zone v : Nat) : PortStat :=
  { s with
    hist := tmod s.hist (256 * c + v / 256) 0 (· + 1)
    zsum := tmod s.zsum (256 * c + zone) 0 (· + v)
    zcnt := tmod s.zcnt (256 * c + zone) 0 (· + 1) }

/-- A present output line counts: `l` its line-in-frame, `n` FRAME_LINES. -/
def PortStat.line (s : PortStat) (o : OutLine) (l n : Nat) : PortStat :=
  (List.range (min 4 o.y.length)).foldl (fun s c =>
    (List.range o.w).foldl (fun s x => s.sample c (16 * (8 * l / n) + 16 * x / o.w) ((o.y.getD c []).getD x 0)) s)
    { s with lines := s.lines + 1, repl := s.repl || o.repl }

/-- A statistics record (R278). -/
def PortStat.bytes (s : PortStat) (p chans : Nat) (trunc : Bool) : List Byte :=
  let used (i : Nat) : Bool := decide (i / 256 < chans ∧ i % 256 < 128)
  let empty := (List.range 1024).any (fun i => used i && tget s.zcnt i 0 == 0)
  leBytes 4 (s.frame.getD 0) ++ leBytes 2 s.est ++ leBytes 2 (if s.mixed then s.prev else s.est) ++ leBytes 1 p ++
    leBytes 1 (b2n s.mixed + 2 * b2n trunc + 4 * b2n (0 < s.miss) + 8 * b2n s.repl + 16 * b2n empty) ++ leBytes 2 s.lines ++ leBytes 4 0 ++
    leBytes 8 s.k ++ (List.range 1024).flatMap (fun i => leBytes 4 (tget s.hist i 0)) ++
    (List.range 512).flatMap (fun i =>
      let z := 256 * (i / 128) + i % 128
      leBytes 2 (tget s.zsum z 0 / max 1 (tget s.zcnt z 0))) ++ List.replicate 40 (0 : Byte)

/-- Port `o.port` of line `k` joins its frame's record; the frame's last line writes the record and owes its FILL (R279). -/
def DM.statLine (x : DM) (g k : Nat) (o : OutLine) : DM :=
  let d := x.d
  let f := d.frameOf g k
  let l := d.lineInFrame g k
  let s0 : PortStat := tget d.ipp.stats o.port default
  let s := if s0.frame = some f then s0 else { (default : PortStat) with frame := some f, k := k - l }
  let s := { s with est := o.est.est, prev := o.est.prev, mixed := s.mixed || o.est.trans }
  let s := if o.miss then { s with miss := s.miss + 1 } else s.line o l (d.out g).lines
  let x := x.onD (fun d => { d with ipp := { d.ipp with stats := tset d.ipp.stats o.port s } })
  if d.frameEnd g k then
    let m := d.img o.port
    let bs := s.bytes o.port m.channels.length ((d.port o.port).truncs.contains f)
    (x.writeDram (m.statAt + 5184 * (f % 16)) bs).onD (fun d =>
      { d with ipp := { d.ipp with fills := d.ipp.fills ++ [(d.seq.step + 2, m.statVt, m.statWord, f)] } })
  else x

/-! ### Display and coding outputs (R275, R276) -/

/-- The LUT output of colour `i` (0 R, 1 G, 2 B) of a line: the channel of that code, the only channel, or channel `i`. -/
def PortImg.rgb (m : PortImg) (o : OutLine) (i : Nat) : List Nat :=
  let cs := m.channels
  let j := if cs.length = 1 then 0 else (cs.findIdx? (· == i + 1)).getD i
  if j < cs.length then (o.y.getD j []).map (m.lut j) else List.replicate o.w 0

/-- The sum of `n` columns from column `x`. -/
def colSum (l : List Nat) (x n : Nat) : Nat := ((List.range n).map (fun i => l.getD (x + i) 0)).foldl (· + ·) 0

/-- One row of the display output: DX columns averaged with a floor. (DEDUCED, log entry 29.) -/
def PortImg.viewRow (m : PortImg) (o : OutLine) (dx : Nat) : List Byte :=
  let c := (List.range 3).map (m.rgb o)
  (List.range (o.w / dx)).flatMap (fun x => c.map (fun l => BitVec.ofNat 8 (colSum l (x * dx) dx / dx / 256)))

/-- The bytes of a view buffer, header included. -/
def GroupOut.viewSize (v : GroupOut) (w dx dy : Nat) : Nat := 64 + (v.lines + dy - 1) / dy * (w / dx * 3)

/-- The display output of line `k` (R275). The bytes of a header, and of a missing line, are free (DESIGN CHOICE, log entry 8). (DEDUCED, log entry 29.) -/
def DM.viewLine (x : DM) (fv g k : Nat) (outs : List OutLine) : DM :=
  let d := x.d
  let v := d.out g
  match v.disp with
  | none => x
  | some (p, dx0, dy0) =>
    let dx := max 1 dx0
    let dy := max 1 dy0
    let w := d.lineWidth g p
    let f := d.frameOf g k
    let buf := v.dispAt + f % 2 * v.viewSize w dx dy
    let n := if d.lineInFrame g k = 0 then 0 else v.dispLines
    let keep := (k - (d.group g).k0.getD 0) % dy == 0
    let row := match outs.find? (fun o => o.port == p && !o.miss) with
      | some o => (d.img p).viewRow o dx
      | none => (Config.freeBytes fv 1).take (w / dx * 3)
    let x := if keep then x.writeDram (buf + 64 + n * (w / dx * 3)) row else x
    let last := d.frameEnd g k
    let x := if last then x.writeDram buf ((Config.freeBytes fv 2).take 64) else x
    let v := { v with dispLines := n + b2n keep, lastView := if last then some f else v.lastView }
    x.onD (fun d => { d with ipp := { d.ipp with grps := tset d.ipp.grps g v } })

/-- Chroma bytes of a pair of lines, each given by its three colours, or by none if it is missing (R276). (DEDUCED, log entry 29.) -/
def chroma (w : Nat) (a b : List (List Nat)) : List Byte × List Byte :=
  let at_ (i : Nat) : Nat × Nat :=
    if a.isEmpty || b.isEmpty then (512, 512)
    else
      let avg (c : Nat) : Nat := (colSum (a.getD c []) (2 * i) 2 + colSum (b.getD c []) (2 * i) 2 + 2) / 4
      codeC (avg 0) (avg 1) (avg 2)
  let cs := (List.range (w / 2)).map at_
  (cs.flatMap (fun c => leBytes 2 c.1), cs.flatMap (fun c => leBytes 2 c.2))

/-- The coding output of line `k` (R276): Y of each line, chroma with each odd line; the frame's last line completes the picture, with its
header (free, DESIGN CHOICE, log entry 8), and sends it where the coding record names a module. (DEDUCED, log entry 29.) -/
def DM.codeLine (x : DM) (fv g k : Nat) (outs : List OutLine) : DM :=
  let d := x.d
  let v := d.out g
  match v.coding with
  | none => x
  | some (p, bufs) =>
    let w := d.lineWidth g p
    let ls := v.lines
    let f := d.frameOf g k
    let l := d.lineInFrame g k
    let size := 64 + 2 * w * ls + 4 * (w / 2) * (ls / 2)
    let buf := v.codeAt + f % (max 1 bufs) * size
    let now := match outs.find? (fun o => o.port == p && !o.miss) with
      | some o => (List.range 3).map ((d.img p).rgb o)
      | none => []
    let ys := (List.range w).flatMap (fun i =>
      leBytes 2 (if now.isEmpty then 64 else codeY ((now.getD 0 []).getD i 0) ((now.getD 1 []).getD i 0) ((now.getD 2 []).getD i 0)))
    let x := x.writeDram (buf + 64 + 2 * w * l) ys
    let x :=
      if l % 2 = 1 then
        let c := chroma w v.even now
        let at_ := buf + 64 + 2 * w * ls + 2 * (w / 2) * (l / 2)
        (x.writeDram at_ c.1).writeDram (at_ + 2 * (w / 2) * (ls / 2)) c.2
      else x
    let last := d.frameEnd g k
    let missed := (if l = 0 then 0 else v.missed) + b2n now.isEmpty
    let x := if last then x.writeDram buf ((Config.freeBytes fv 3).take 64) else x
    x.onD (fun d =>
      let d := { d with ipp := { d.ipp with grps := tmod d.ipp.grps g default (fun v => { v with even := now, missed := missed }) } }
      match v.bulkTo with
      | some a => if last then d.send .twlMessage [1, a, buf, size] [] else d
      | none => d)

/-! ### The Line Slot Table (R260 to R262) -/

/-- The output lines of a served line: those of its ports, or, where it was not registered in time, a missing one for each. -/
def DieState.servedOuts (d : DieState) (l : FLine) : List OutLine :=
  if l.gone then (d.groupPorts l.group).map (fun p =>
    { port := p, w := d.lineWidth l.group p, y := [], miss := true, repl := false, est := (d.expo p).label (d.frameOf l.group l.k) })
  else l.ports.map (d.outOf l)

/-- The lines of a tap whose CRC fails mark the parts that use them (R336). -/
def DieState.tapFails (d : DieState) (sers : List (Nat × Nat)) : DieState :=
  let d := (d.count (rCHK_CNT + 24) 1).raise rCHK_STATUS 2
  sers.foldl (fun d e => d.modParts (fun p => p.lane == e.1)
    (fun p => { p with
      tap := p.tap || decide (p.first ≤ e.2 ∧ e.2 ≤ p.last)
      gaps := p.gaps.map (fun q => if q.serial = e.2 then { q with tap := true } else q) })) d

/-- LINE_SLOT_ENTRY: entry `e` of the table serves its group's oldest admitted line (R262), with its outputs; `tapBad`: the copy on the Checker tap fails
its CRC (R336). -/
def lineSlot (e : Nat) (tapBad : Bool) (fv : Nat) (x : DM) : DM :=
  match x.d.ipp.lst[e]? with
  | none => x
  | some (g, start) =>
    match x.d.ipp.toServe.find? (fun l => l.1.group == g) with
    | none => x
    | some l =>
      if !x.d.stepping then x
      else
        let line := l.1
        let ps := x.d.groupPorts g
        let cycles := (ps.map (fun p => (x.d.width p + 19) / 20)).foldl (· + ·) 0
        let x := x.onD (fun d =>
          let d := d.toCycle (min 19999 (start + cycles - 1))
          { d with ipp := { d.ipp with toServe := d.ipp.toServe.erase l } })
        let outs := x.d.servedOuts line
        let x := outs.foldl (fun x o => x.statLine g line.k o) x
        let x := (x.viewLine fv g line.k outs).codeLine fv g line.k outs
        x.onD (fun d =>
          let mv := (mvLine d.ipp.imgs (d.out g).mv outs).flatten.map (BitVec.ofNat 8)
          let d := d.send .checker [1, g, line.k, crc32 mv] mv
          let d := if tapBad then d.tapFails l.2 else d
          d.wr (rIPP_FRAME + 4 * g) (d.frameOf g line.k))

/-- The outcome of an engine's operation on a word (R210): recorded, counted and flagged. No tile stops for it, and no context is reset
(DESIGN CHOICE, log entry 20). -/
def DieState.engineOutcome (d : DieState) (engine ctx target o : Nat) : DieState :=
  if o = 0 then d
  else
    let d := d.hist (12 + d.die.num) (16 + o)
    let d :=
      if d.flag rSYN_ERR 31 then d
      else
        let d := (d.wr rSYN_ERR (o * 0x1000000 + ctx * 0x10000 + target)).wr rSYN_ERR_SRC engine
        let d := d.wr64 rSYN_ERR_STEP_LO d.seq.step
        d.raiseWith rSYN_ERR 31 (some (48 + o)) (leBytes 4 (d.rd rSYN_ERR) ++ leBytes 4 (d.rd rSYN_ERR_SRC))
    (d.count (rSYN_CNT + 4 * (outcomeFlag o).2) 1).raise rSYN_STATUS (outcomeFlag o).1

/-- An engine FILLs word `i` of virtual tile `v` with `data` (R209), after the operations of lower issuers that reach words in the cycle (R203). (DESIGN CHOICE, log
entry 20.) -/
def DM.engineFill (x : DM) (engine v i data : Nat) : DM :=
  let x := x.syncBefore (x.d.acyc x.d.seq.cycle) engine
  let r := wordOp x v (x.d.ptileOf v) i 3 data
  r.1.onD (fun d => d.engineOutcome engine (d.wordOwner v i) (256 * v + i) r.2.1)

/-- STATS_FILL: at the first active cycle of S + 2 the statistics word takes the frame ID (R279). -/
def statsFill (x : DM) : DM :=
  match x.d.ipp.fills.find? (fun f => decide (f.1 ≤ x.d.seq.step)) with
  | none => x
  | some f =>
    if !x.d.stepping then x
    else (x.onD (fun d => { d with ipp := { d.ipp with fills := d.ipp.fills.erase f } })).engineFill 262 f.2.1 f.2.2.1 f.2.2.2

/-! ### Exposure (R280 to R284) -/

/-- The requests of a SEND to endpoint IPP, if it keeps the layout: its writes (index, value) (R280). -/
def expoWrites (bs : List Byte) : Option (List (Nat × Nat)) :=
  let b (i : Nat) : Nat := (bs.getD i 0).toNat
  let n := b 1
  let ws := (List.range n).map (fun i => (b (8 + 8 * i), leNat ((bs.drop (12 + 8 * i)).take 4)))
  let zero (i k : Nat) : Bool := ((bs.drop i).take k).all (· == 0)
  if 1 ≤ n ∧ n ≤ 4 ∧ b 0 < 8 ∧ zero 4 4 ∧ zero 40 24 ∧ (List.range n).all (fun i => zero (9 + 8 * i) 3) then some ws else none

/-- EXPOSURE_REQUEST: the oldest transfer that has reached endpoint IPP (R280, R281). (DEDUCED, log entry 29.) -/
def exposureRequest (d : DieState) : DieState :=
  match d.tar.inbox.find? (fun t => t.dst == 262) with
  | none => d
  | some t =>
    let d := { d with tar := { d.tar with inbox := d.tar.inbox.erase t } }
    let p := (t.data.getD 0 0).toNat % 8
    let m := d.img p
    let bad (d : DieState) : DieState := (d.countFld (rIPP_EXPO + 4 * p) 15 0 1).raise rIPP_STATUS 3
    match expoWrites t.data with
    | none => bad d
    | some ws =>
      if d.ctxOf (d.ptileOf t.src) ≠ m.expoCtx ∨ !ws.all (fun w => decide (w.1 < m.expoAddr.length)) then bad d
      else
        let e := d.expo p
        let d := if e.pend.isSome then (d.countFld (rIPP_EXPO + 4 * p) 15 0 1).raise rIPP_STATUS 2 else d
        let k0 := (d.group (d.groupOf p)).k0.getD 0
        let next := (d.port p).nextK
        let f := if next ≤ k0 then 0 else d.frameOf (d.groupOf p) (next - 1) + 1
        let d := d.setExpo p { e with pend := some { frame := f, est := leNat ((t.data.drop 2).take 2), writes := ws } }
        d.setFlag (rIPP_EST + 4 * p) 30 true

/-- EXPOSURE_WRITES: the pending request of port `p` takes effect at the first line of its frame; `ok`: every write is accepted and acknowledged in time
(R281, R284). -/
def exposureWrites (p : Nat) (ok : Bool) (d : DieState) : DieState :=
  let e := d.expo p
  let next := (d.port p).nextK
  match e.pend with
  | none => d
  | some r =>
    if (d.group (d.groupOf p)).k0.getD 0 < next ∧ d.frameOf (d.groupOf p) (next - 1) = r.frame then
      let addr (w : Nat × Nat) : Nat := (d.img p).expoAddr.getD w.1 0
      let d := if d.cxp.driving then r.writes.foldl (fun d w => d.send .cxpControl [p, 1, addr w, w.2] []) d else d
      let d := d.setExpo p { e with est := r.est, prev := e.est, trans := some r.frame, pend := none, unacked := if ok then 0 else r.writes.length }
      let d := ((d.setFlag (rIPP_EST + 4 * p) 30 false).setFlag (rIPP_EST + 4 * p) 31 true).setFld (rIPP_EST + 4 * p) 15 0 r.est
      if ok then
        let regs := r.writes.foldl (fun t w => tset t (addr w) w.2) (tget d.cxp.camRegs p [])
        ({ d with cxp := { d.cxp with camRegs := tset d.cxp.camRegs p regs } }).countFld (rIPP_EXPO + 4 * p) 31 16 1
      else d
    else d

/-- EXPO_FAIL: writes refused or not acknowledged in time: the port takes LINK_DOWN at the next boundary (R283, R254). -/
def expoFail (p : Nat) (d : DieState) : DieState :=
  let e := d.expo p
  if e.unacked = 0 then d
  else
    let d := (d.setExpo p { e with unacked := 0, pend := none }).setFlag (rIPP_EST + 4 * p) 30 false
    let d := (d.countFld (rIPP_EXPO + 4 * p) 15 0 1).raise rIPP_STATUS 4
    d.modPort p (fun x => { x with downReq := true })

/-! ### The commands -/

/-- LINE_SLOT_ENTRY: die, entry, whether the tap's copy fails its CRC. -/
def execLineSlotEntry (d : Die) (e : Fin 64) (tapBad : Bool) (s : State) : Host.Outcome State Fault Refusal :=
  .next (s.onDM d (lineSlot e.val tapBad))
/-- STATS_FILL. -/
def execStatsFill (d : Die) (s : State) : Host.Outcome State Fault Refusal := .next (s.onDM d (fun _ => statsFill))
/-- EXPOSURE_REQUEST. -/
def execExposureRequest (d : Die) (s : State) : Host.Outcome State Fault Refusal := .next (s.onDie d exposureRequest)
/-- EXPOSURE_WRITES: die, port, whether every write is accepted and acknowledged in time. -/
def execExposureWrites (d : Die) (p : Fin 8) (ok : Bool) (s : State) : Host.Outcome State Fault Refusal :=
  .next (s.onDie d (exposureWrites p.val ok))
/-- EXPO_FAIL. -/
def execExpoFail (d : Die) (p : Fin 8) (s : State) : Host.Outcome State Fault Refusal := .next (s.onDie d (expoFail p.val))

end Sys2Proof.Machine
end

