-- ==== Sys2Proof/Machine/Qmp.lean ====
section
/-! DEFINITION. QMP (spec/17 R422 to R433): authentication and forwarding of requests, the operations of R431, staging, verification and commit of an image, and
attestation. Where the spec does not lay a request's payload out, its fields are operands beside the datagram (DESIGN CHOICE, log entry 6). -/

namespace Sys2Proof.Machine

/-! ### Requests (R428, R429) -/

/-- A request: its operation, the die it addresses, role, SEQ, payload. -/
structure Req where
  op   : Nat
  die  : Die
  role : Nat
  seq  : Nat
  data : List Byte
deriving DecidableEq, Repr

/-- The operations of R431. -/
def qmpKnown (op : Nat) : Bool := decide (1 ≤ op ∧ op ≤ 0x0C ∨ 0x10 ≤ op ∧ op ≤ 0x17)

/-- The request in a datagram, if its layout holds (R428). -/
def qmpParse (q : List Byte) : Option Req :=
  let b (i : Nat) : Nat := (q.getD i 0).toNat
  let len := beNat ((q.drop 6).take 2)
  if 32 ≤ q.length ∧ q.length ≤ 1472 ∧ beNat (q.take 2) = 1 ∧ b 3 < 2 ∧ b 4 ≤ 4 ∧ b 5 = 0 ∧ q.length = 32 + len then
    some ⟨b 2, if b 3 = 0 then .a else .b, b 4, beNat ((q.drop 8).take 8), (q.drop 16).take len⟩
  else none

/-- The roles that an operation names (R431). -/
def qmpRoles (op : Nat) : List Nat :=
  match op with
  | 0x03 => [2] | 0x05 => [2] | 0x07 => [2] | 0x09 => [1] | 0x0A => [2] | 0x0B => [2] | 0x0C => [2, 3]
  | 0x10 => [3] | 0x11 => [3] | 0x12 => [3] | 0x13 => [3] | 0x14 => [3] | 0x16 => [4] | 0x17 => [4]
  | _ => [0, 1, 2, 3, 4]

/-- The device states in which an operation is accepted, RECOVERY only for the operations marked R (R431). -/
def qmpStates (op : Nat) : List Nat :=
  match op with
  | 0x03 => [1, 2, 3, 4, 5, 6, 8]
  | 0x04 => [1, 2, 3, 4, 5, 6, 8]
  | 0x05 => [1, 2, 3, 4, 5, 6]
  | 0x06 => [2, 3, 4, 5, 6]
  | 0x07 => [4]
  | 0x08 => [4, 5, 6]
  | 0x09 => [6]
  | 0x0A => [5, 6]
  | 0x0B => [6, 7]
  | 0x10 => [4, 5, 6, 7]
  | 0x11 => [4, 5, 6, 7]
  | 0x12 => [4, 5, 6, 7]
  | 0x13 => [4, 5, 6, 7]
  | 0x14 => [4, 5, 6, 7]
  | 0x16 => [4, 5, 6]
  | _ => [0, 1, 2, 3, 4, 5, 6, 7, 8]

/-- A request is discarded and counted (R429, R447). -/
def Whole.qmpReject (w : Whole) : Whole :=
  let n := w.relay.num
  w.onRelay (fun d => ((d.count rQLL_QMP_REJECT 1).raise rQLL_STATUS 0).life (38 + n) 1)

/-- The request's TAG is that of its role's key (R428). -/
def Store.tagOk (s : Store) (role : Nat) (q : List Byte) : Bool :=
  match s.roleKey role with
  | none => false
  | some k => qmpTag k (q.take (q.length - 16)) == q.drop (q.length - 16)

/-- The request is no replay: its boot count is this one, and its number exceeds the highest accepted for its role (R429). -/
def Whole.fresh (w : Whole) (r : Req) : Bool :=
  decide (r.seq / 2 ^ 32 = w.mod.ink.boots % 2 ^ 32) &&
    (match tget? (w.die w.relay).qll.qseq r.role with | some h => decide (h < r.seq % 2 ^ 32) | none => true)

/-- The response to a request. -/
def Whole.reply (w : Whole) (r : Req) (status : Nat) (payload : List Byte) : Whole := w.respond r.die r.op r.role r.seq status payload

/-- The addressed die serves a request, or refuses it for its operation, its role, or its state (R431); a camera write outside ARMED is flagged (R248). (DEDUCED, log entry 36.) -/
def Whole.serve (w : Whole) (r : Req) (act : Req → Whole → Whole) : Whole :=
  if !qmpKnown r.op then w.reply r 3 []
  else if !(qmpRoles r.op).contains r.role then w.reply r 1 []
  else if !(qmpStates r.op).contains (w.die r.die).dev.code then
    (if r.op = 7 then w.onDie r.die (fun d => d.raise rCXP_STATUS 8) else w).reply r 2 []
  else act r w

/-- The die that a request addresses can be reached from the relay die: it is that die, or a peer out of reset that is not declared FAILED (R429). (DEDUCED, log entry 36.) -/
def Whole.reaches (w : Whole) (d : Die) : Bool := d == w.relay || ((w.die d).held.isNone && (w.die w.relay).fld rTWL_PEER 1 0 != 2)

/-- A QMP datagram at the relay die, as the command of operation `op`; one that names another operation of the table is another command. A request to a die that
cannot be reached waits for its 10 ms. (DEDUCED, log entry 36.) -/
def qmp (op : Nat) (act : Req → Whole → Whole) (q : List Byte) (w : Whole) : Whole :=
  let o := (q.getD 2 0).toNat
  if 3 ≤ q.length ∧ o ≠ op ∧ qmpKnown o then w
  else
    w.admitFrame 2 fun w =>
      match qmpParse q with
      | none => w.qmpReject
      | some r =>
        if !w.mod.store.tagOk r.role q then w.qmpReject
        else if r.op ≠ 1 ∧ !w.fresh r then w.qmpReject
        else
          let w := if r.op = 1 then w else w.onRelay (fun d => { d with qll := { d.qll with qseq := tset d.qll.qseq r.role (r.seq % 2 ^ 32) } })
          if w.reaches r.die then w.serve r act
          else w.onRelay (fun d => { d with qll := { d.qll with fwd := d.qll.fwd ++ [⟨r.op, r.role, r.seq, d.clk⟩] } })

/-- QMP_FORWARD_TIMEOUT: the oldest forwarded request has had no answer for 10 ms (R429). -/
def forwardTimeout (w : Whole) : Whole :=
  match (w.die w.relay).qll.fwd with
  | [] => w
  | f :: rest =>
    if !w.relayUp then w
    else
      let w := (w.at (f.at_ + 10000000)).onRelay (fun d => { d with qll := { d.qll with fwd := rest } })
      w.respond w.relay.other f.op f.role f.seq 6 []

/-! ### Reading (R431) -/

/-- Bytes as numbers. -/
def nums (bs : List Byte) : List Nat := bs.map (·.toNat)

/-- Bytes cut or filled with zeros to a length. -/
def fit (n : Nat) (bs : List Byte) : List Byte := (bs ++ List.replicate n (0 : Byte)).take n

/-- The digest of the running image of a die; zeros in RECOVERY. -/
def DieState.runDigest (d : DieState) : List Byte := fit 48 (match d.qll.run with | some i => i.digest | none => [])

/-- The digest in the store's marker; zeros without one. -/
def Store.digest (s : Store) : List Byte := fit 48 (match s.image with | some i => i.digest | none => [])

/-- HELLO: serial number, member, the states of both dies, boot count, running and stored digests, the attestation public key, in a layout the spec does not give
(DESIGN CHOICE, log entry 8). -/
def hello (r : Req) (w : Whole) : Whole :=
  let s := w.mod.store
  let facts := nums (fit 16 s.serial) ++ [memberCode, w.a.dev.code, w.b.dev.code, w.mod.ink.boots] ++ nums (w.die r.die).runDigest ++ nums s.digest ++ nums s.attPub
  w.reply r 0 ((Config.qmpPayload 1 facts).take 1440)

/-- `n` words from an address on, by accesses that `c` selects: the status, and the bytes big-endian (registers) or as they lie in memory. -/
def readWords (die : Die) (c : Place → Bool) (big : Bool) (n a : Nat) (w : Whole) : Whole × Nat × List Byte :=
  match n with
  | 0 => (w, 0, [])
  | k + 1 =>
    match place a with
    | none => (w, 3, [])
    | some p =>
      if !c p then (w, 3, [])
      else
        let x := w.access die a 4 false 0 none
        match x.2.1 with
        | .denied => (x.1, 7, [])
        | .error => (x.1, 3, [])
        | .waits => (x.1, 3, [])
        | .ok =>
          let y := readWords die c big k (a + 4) x.1
          if y.2.1 = 0 then (y.1, 0, (if big then beBytes 4 x.2.2 else leBytes 4 x.2.2) ++ y.2.2) else (y.1, y.2.1, [])

/-- `n` bytes of a request's payload from byte `i` on, big-endian (R475). -/
def Req.field (r : Req) (i n : Nat) : Nat := beNat ((r.data.drop i).take n)

/-- A register place. -/
def Place.isReg (p : Place) : Bool := match p with | .reg _ => true | _ => false

/-- A place that MEM_READ reaches at once: the debug window, Inkwell. -/
def Place.isMem (p : Place) : Bool := match p with | .tile _ => true | .ink _ => true | _ => false

/-- REG_READ: an address and a count of registers (R475). A payload of another length is answered RANGE. (DEDUCED, log entry 36.) -/
def regReadReq (r : Req) (w : Whole) : Whole :=
  let n := r.field 4 2
  if r.data.length ≠ 6 ∨ n = 0 ∨ 256 < n then w.reply r 3 []
  else let x := readWords r.die Place.isReg true n (r.field 0 4) w; x.1.reply r x.2.1 x.2.2

/-- A read of `n` bytes of the DRAM window waits for QUILL positions (R195), and is answered when they have served it. -/
def dramReadReq (a n : Nat) (r : Req) (w : Whole) : Whole :=
  let x := w.access r.die a n false 0 (some (r.role, r.seq))
  match x.2.1 with
  | .waits => x.1
  | .denied => x.1.reply r 7 []
  | _ => x.1.reply r 3 []

/-- MEM_READ: an address and a count of bytes (R475). (DEDUCED, log entry 36.) -/
def memReadReq (r : Req) (w : Whole) : Whole :=
  let a := r.field 0 4
  let n := r.field 4 2
  if r.data.length ≠ 6 ∨ n = 0 ∨ 1024 < n then w.reply r 3 []
  else if (match place a with | some (.dram _) => true | _ => false) then dramReadReq a n r w
  else
    let a0 := a / 4 * 4
    let x := readWords r.die Place.isMem false ((a + n - a0 + 3) / 4) a0 w
    x.1.reply r x.2.1 ((x.2.2.drop (a - a0)).take n)

/-- An access of the Quill to the DRAM window is complete: the Quill, or the QMP request, has its answer (R195, R475). -/
def Whole.quillDone (w : Whole) (die : Die) (q : QAcc) : Whole :=
  match q.req with
  | none => w.answer die .ok (leNat q.data)
  | some (role, seq) => w.respond die 4 role seq 0 q.data

/-- A position of the timetable, and the answer to the Quill's access that it completes. -/
def timetable (die : Die) (ch k code : Nat) (w : Whole) : Whole :=
  let r := timetablePos ch k code ⟨(w.die die).sync w.now, w.mem, []⟩
  let w := (w.onDie die (fun _ => r.1.d)).store r.1.stores
  match r.2 with
  | some q => w.quillDone die q
  | none => w

/-- The die whose transmitter drives the uplink of a die's ports: in Paired mode both dies hold the same ports, and one drives (R244). (DEDUCED, log entry 36.) -/
def Whole.camDie (w : Whole) (d : Die) : Die := if (w.die d).cxp.driving ∨ !w.paired ∨ !(w.die d.other).cxp.driving then d else d.other

/-- CAM_READ: register `a` of port `p`'s camera. What the device has not written there is free (DESIGN CHOICE, log entry 8). -/
def camRead (p a : Nat) (r : Req) (w : Whole) : Whole :=
  let d := w.die r.die
  if !d.portOn p then w.reply r 3 []
  else
    let e := w.camDie r.die
    let v := tget (tget (w.die e).cxp.camRegs p []) a (Config.freeNat w.free 0)
    (w.onDie e (fun d => d.camSend [p, 2, a])).reply r 0 (beBytes 4 v)

/-- VIEW_READ: `n` bytes from byte `off` of group `i`'s last complete view buffer, or of port `i`'s statistics ring (R275, R279). -/
def viewRead (stat : Bool) (i off n : Nat) (r : Req) (w : Whole) : Whole :=
  let d := w.die r.die
  let span : Option (Nat × Nat) :=
    if stat then (if d.portOn i then some ((d.img i).statAt, 16 * 5184) else none)
    else
      let v := d.out i
      match v.disp, v.lastView with
      | some (p, dx, dy), some f => let z := v.viewSize (d.lineWidth i p) (max 1 dx) (max 1 dy); some (v.dispAt + f % 2 * z, z)
      | _, _ => none
  match span with
  | none => w.reply r 3 []
  | some (a, z) => if n = 0 ∨ 1024 < n ∨ z < off + n then w.reply r 3 [] else w.reply r 0 (d.dramRead w.mem (a + off) n)

/-! ### Writing (R431) -/

/-- What a QMP write may change in RUN and SAFE: the value it writes there; none where the register has nothing of it. (DEDUCED, log entry 36.) -/
def DieState.runWrite (d : DieState) (off v : Nat) : Option Nat :=
  if off = rTAR_FENCE_REQ ∨ off = rSTM_FENCE_REQ ∨ off = rSTM_MODE ∨ off = rCHK_SAFE_REQ ∨ off = rPOS_SWCAP ∨ (rPOS_STAT ≤ off ∧ off < rPOS_STAT + 32) then some v
  else
    match regDef? off with
    | some x => if x.w1c = 0 then none else some ((d.rd off &&& x.rw) ||| (v &&& x.w1c))
    | none => none

/-- REG_WRITE: one register, its address and value (R475). -/
def regWriteReq (r : Req) (w : Whole) : Whole :=
  let a := r.field 0 4
  let v := r.field 4 4
  match (if r.data.length = 8 then place a else none) with
  | some (.reg off) =>
    let d := w.die r.die
    match (if d.dev = .run ∨ d.dev = .safe then d.runWrite off v else some v) with
    | none => w.reply r 2 []
    | some v =>
      let x := w.access r.die a 4 true v none
      x.1.reply r (match x.2.1 with | .ok => 0 | .denied => 7 | _ => 3) []
  | _ => w.reply r 3 []

/-- UNIT_STATE: a Unit State request in the layout of QLL_USW_REQ, GO and the reserved bits 0; its result is the response's payload (R434, R475). (DEDUCED, log entry 19.) -/
def unitState (r : Req) (w : Whole) : Whole :=
  let v := r.field 0 4
  let u := v / 2 ^ 16 % 32
  let i := v / 2 ^ 8 % 256
  let act := v % 4
  if r.data.length ≠ 4 ∨ 2 ^ 21 ≤ v ∨ v / 4 % 64 ≠ 0 ∨ 18 < u ∨ act = 0 ∨ act = 3 then w.reply r 3 []
  else if (w.die r.die).flag rQLL_USW_RESULT 31 then w.reply r 4 []
  else uswWrite r.die (uswValue u i act) (w.onDie r.die (fun d => { d with qll := { d.qll with ans := some (r.role, r.seq) } }))

/-- CAM_WRITE: register `a` of port `p`'s camera, where the write allow-list has it (R248). (DEDUCED, log entry 36.) -/
def camWrite (p a v : Nat) (r : Req) (w : Whole) : Whole :=
  let d := w.die r.die
  if d.portOn p && (tget d.cxp.cams p default).allow.contains a then
    (w.onDie (w.camDie r.die) (fun d =>
      (({ d with cxp := { d.cxp with camRegs := tmod d.cxp.camRegs p [] (fun t => tset t a v) } } : DieState).camSend [p, 1, a, v]))).reply r 0 []
  else (w.onDie r.die (fun d => d.raise rCXP_STATUS 8)).reply r 3 []

/-- ACK: an acknowledge sets out for the core domain of the addressed die, in Paired mode of both (R432). (DEDUCED, log entry 36.) -/
def ackReq (r : Req) (w : Whole) : Whole :=
  let post (d : DieState) : DieState := d.post none .operatorAck
  (if w.paired then w.both post else w.onDie r.die post).reply r 0 []

/-- MAINT_START (R227). -/
def maintReq (r : Req) (w : Whole) : Whole :=
  let x := maintStart ⟨(w.die r.die).sync w.now, w.mem, []⟩
  ((w.onDie r.die (fun _ => x.d)).store x.stores).reply r 0 []

/-- HALT: at the next step boundary where steps run, else at once (R32). (DEDUCED, log entry 19.) -/
def haltReq (r : Req) (w : Whole) : Whole :=
  let w := w.reply r 0 []
  let d := w.die r.die
  if d.stepping then w.onDie r.die (fun d => d.queueReq rSYS_STATE 8 (d.seq.step + 1)) else w.halt r.die

/-- RESET: the dies of a mask, after the response and a commit; in Paired mode a mask that names one reaches both (R465, R446). (DEDUCED, log entry 36.) -/
def resetReq (mask : Nat) (r : Req) (w : Whole) : Whole :=
  let w := (w.reply r 0 []).commit false
  let a := bit 0 mask || (w.paired && bit 1 mask)
  let b := bit 1 mask || (w.paired && bit 0 mask)
  if a || b then w.resetDies a b 3 none else w

/-! ### Staging (R422 to R425) -/

/-- The staging area of a die: its first DRAM byte and its length. -/
def DieState.staging (d : DieState) : Nat × Nat :=
  if d.dev = .recovery then (0, 2 ^ 32)
  else match d.mem.regions.find? (fun r => r.kind == 8) with | some r => (960 * r.base, 960 * r.len) | none => (0, 0)

/-- QLL_STAGE: state, locked, cause. -/
def DieState.stage (d : DieState) (st : Nat) (locked : Bool) (cause : Nat) : DieState := d.wr rQLL_STAGE (st + 8 * b2n locked + 16 * cause)

/-- The staging state. -/
def DieState.stState (d : DieState) : Nat := d.fld rQLL_STAGE 2 0

/-- STAGE_BEGIN: the length and the digest expected. -/
def stageBegin (len : Nat) (digest : List Byte) (r : Req) (w : Whole) : Whole :=
  let d := w.die r.die
  if d.stState = 2 ∨ d.stState = 4 then w.reply r 4 []
  else if d.staging.2 < len then w.reply r 3 []
  else
    (w.onDie r.die (fun d => { d.stage 1 false 0 with qll := { d.qll with stLen := len, stDigest := fit 48 digest, staged := none } })).reply r 0 []

/-- STAGE_CHUNK: an 8-byte offset and 1 to 1,024 bytes. -/
def stageChunk (r : Req) (w : Whole) : Whole :=
  let d := w.die r.die
  let off := beNat (r.data.take 8)
  let bs := r.data.drop 8
  if d.flag rQLL_STAGE 3 then w.reply r 4 []
  else if d.stState ≠ 1 then w.reply r 2 []
  else if r.data.length < 9 ∨ 1024 < bs.length ∨ d.qll.stLen < off + bs.length then w.reply r 3 []
  else (w.store (d.dramStore (d.staging.1 + off) bs)).reply r 0 []

/-- STAGE_VERIFY: verification begins, and the staging area is locked. (DEDUCED, log entry 35.) -/
def stageVerify (r : Req) (w : Whole) : Whole :=
  let d := w.die r.die
  if d.flag rQLL_STAGE 3 then w.reply r 4 []
  else if d.stState ≠ 1 then w.reply r 2 []
  else (w.onDie r.die (fun d => d.stage 2 true 0)).reply r 0 []

/-- A header's fields (R415). -/
def headOf (bs : List Byte) : ImgHead :=
  let f (i n : Nat) : Nat := leNat ((bs.drop i).take n)
  { magic := f 0 4, fmtMajor := f 6 2, genMin := f 8 1, genMax := f 9 1, member := f 10 2, flags := f 12 4, records := f 16 4, length := f 20 8,
    svn := f 28 4, keySlot := f 32 4, rsv := f 36 28 }

/-- Record `i` of the bytes staged from `a` of a die's DRAM on: TYPE, MAY_SKIP, hash and header from the bytes (R417, R418), its content as parsed (DESIGN CHOICE, log entry 5). -/
def stagedRec (d : DieState) (mem : List Host.Cell) (a len i : Nat) (c : Rec) : Rec :=
  let e := d.dramRead mem (a + 64 + 64 * i) 64
  let f (j n : Nat) : Nat := leNat ((e.drop j).take n)
  let off := f 8 8
  let n := f 4 4
  let inside : Bool := decide (off % 64 = 0 ∧ off + 8 + n + 128 ≤ len)
  let bs := if inside then d.dramRead mem (a + off) (8 + n) else []
  { c with
    ty := f 0 2
    skip := bit 0 (f 2 1)
    hashOk := inside && sha384 bs == e.drop 16
    sound := c.sound && bs.take 8 == e.take 8 && decide (f 2 1 < 2 ∧ f 3 1 = 0) }

/-- The image that staged bytes hold, with its digest and whether its signature verifies with the key of its slot (R417). -/
def stagedImage (d : DieState) (mem : List Host.Cell) (a len : Nat) (keys : Tbl (List Byte)) : StoreImage :=
  let h := headOf (d.dramRead mem a 64)
  let digest := sha384 (d.dramRead mem a (64 + 64 * min 65535 h.records))
  let sig := d.dramRead mem (a + (len - 128)) 128
  { head := h, digest := digest
    sigOk := Config.ecdsaVerify (tget keys h.keySlot []) digest (sig.take 96) && (sig.drop 96).all (· == 0) }

/-- The first cause that a staged image meets: R412's checks, the declared length and digest, and what CONFIG would find (R423). (DEDUCED, log entry 35.) -/
def stageCause (die : Die) (s : Store) (d : DieState) (img : StoreImage) (rs : List Rec) : Option Nat :=
  match ({ s with image := some img } : Store).rejects true with
  | some c => some (if 4 < c ∧ img.head.length ≠ d.qll.stLen then 4 else c)
  | none =>
    if img.head.length ≠ d.qll.stLen then some 4
    else if img.digest ≠ d.qll.stDigest then some 9
    else configRejects die img.head rs

/-- STAGE_VERIFY_DONE: verification ends with VERIFIED or FAILED; `rs` is what the records' payloads state. -/
def stageVerified (die : Die) (rs : List Rec) (w : Whole) : Whole :=
  let d := w.die die
  if d.stState ≠ 2 then w
  else
    let img := stagedImage d w.mem d.staging.1 d.qll.stLen w.mod.store.slotKeys
    let recs := (List.range (min 65535 img.head.records)).map (fun i => stagedRec d w.mem d.staging.1 d.qll.stLen i (rs.getD i default))
    match stageCause die w.mod.store d img recs with
    | some c => w.onDie die (fun d => d.stage 6 false c)
    | none => w.onDie die (fun d => { d.stage 3 true 0 with qll := { d.qll with staged := some img } })

/-- STAGE_COMMIT: by the primary Quill, of a verified image, or again of one whose commit failed; `fits_`: it fits the good blocks. From here on the old image
no longer boots (R424). A verification that failed is reported. (DEDUCED, log entry 35.) -/
def stageCommit (fits_ : Bool) (r : Req) (w : Whole) : Whole :=
  let d := w.die r.die
  let cause := d.fld rQLL_STAGE 7 4
  if d.stState = 6 ∧ cause ≠ 15 then w.reply r 5 [BitVec.ofNat 8 cause]
  else if !d.qll.primary ∨ ¬(d.stState = 3 ∨ d.stState = 6 ∧ d.flag rQLL_STAGE 3) then w.reply r 2 []
  else if !fits_ then (w.onDie r.die (fun d => d.stage 6 false 15)).reply r 3 []
  else ((w.onStore (fun s => { s with image := none })).onDie r.die (fun d => d.stage 4 true 0)).reply r 0 []

/-- STAGE_COMMIT_DONE: the readback and the marker hold, or not (R424). (DEDUCED, log entry 35.) -/
def stageCommitted (die : Die) (ok : Bool) (w : Whole) : Whole :=
  let d := w.die die
  if d.stState ≠ 4 then w
  else if ok then (w.onStore (fun s => { s with image := d.qll.staged })).onDie die (fun d => (d.stage 5 true 0).life 36 1)
  else w.onDie die (fun d => d.stage 6 true 15)

/-- STAGE_ABORT. -/
def stageAbort (r : Req) (w : Whole) : Whole := (w.onDie r.die (fun d => d.stage 0 false 0)).reply r 0 []

/-! ### Attestation, SVN floor and keys (R426, R430, R433) -/

/-- ATTEST over a 32-byte nonce. (DEDUCED, log entry 36.) -/
def attest (r : Req) (w : Whole) : Whole :=
  if r.data.length ≠ 32 then w.reply r 3 []
  else
    let d := w.die r.die
    let s := w.mod.store
    let stB := if w.reaches .b then w.b.dev.code else 15
    let body := beBytes 2 1 ++ beBytes 1 memberCode ++ beBytes 1 (w.a.dev.code + 16 * stB) ++ fit 16 s.serial ++ beBytes 8 w.mod.ink.boots ++
      beBytes 4 (d.fld rQLL_BOOT 23 16) ++ beBytes 4 s.svnFloor ++ r.data ++ d.runDigest ++ s.digest ++ beBytes 1 (b2n (d.stState == 3)) ++ beBytes 3 0
    w.reply r 0 (body ++ fit 96 (Config.ecdsaSign s.attPriv (sha384 body) w.free))

/-- SVN_RAISE: the floor goes up to the SVN of the running image (R426). -/
def svnRaise (r : Req) (w : Whole) : Whole :=
  let n := max w.mod.store.svnFloor (min 64 ((w.die r.die).fld rQLL_BOOT 23 16))
  (((w.onStore (fun s => { s with svnFloor := n })).both (fun d => if d.held.isSome then d else d.setFld rQLL_BOOT 31 24 n))).reply r 0 []

/-- The key store with a key set: a store that failed its check holds nothing else. (DEDUCED, log entry 36.) -/
def Store.setKey (s : Store) (slot : Nat) (key : List Byte) : Store :=
  { s with keys := if s.keysBad then [(slot, key)] else tset s.keys slot key, keysBad := false }

/-- KEY_SET: a key under the KEYMASTER key; the status where it does not open is not stated (DESIGN CHOICE, log entry 8). -/
def keySet (slot : Nat) (blob : List Byte) (r : Req) (w : Whole) : Whole :=
  if 6 ≤ slot then w.reply r 3 []
  else
    match (w.mod.store.roleKey 4).bind (fun k => Config.gcmOpen k blob) with
    | some key =>
      if key.length = 32 then (w.onStore (fun s => s.setKey slot key)).reply r 0 []
      else w.reply r (1 + Config.freeNat w.free 0 % 7) []
    | none => w.reply r (1 + Config.freeNat w.free 0 % 7) []

/-! ### The commands: the datagram's payload, and the fields of the request's payload where the spec does not lay it out -/

/-- TIMETABLE_POSITION: channel, position, MR4 code. -/
def execTimetablePosition (d : Die) (ch : Fin 16) (k : Fin 6000) (mr4 : Fin 4) (s : State) : Host.Outcome State Fault Refusal :=
  .next (s.onWhole (timetable d ch.val k.val mr4.val))

/-- HELLO. -/
def execHello (q : List (BitVec 8)) (s : State) : Host.Outcome State Fault Refusal := .next (s.onWhole (qmp 0x01 hello q))
/-- REG_READ: the header, the payload and the TAG of the datagram (R428, R475). -/
def execRegRead (hd pl tag : List (BitVec 8)) (s : State) : Host.Outcome State Fault Refusal :=
  .next (s.onWhole (qmp 0x02 regReadReq (hd ++ pl ++ tag)))
/-- REG_WRITE: the header, the payload and the TAG of the datagram. -/
def execRegWrite (hd pl tag : List (BitVec 8)) (s : State) : Host.Outcome State Fault Refusal :=
  .next (s.onWhole (qmp 0x03 regWriteReq (hd ++ pl ++ tag)))
/-- MEM_READ: the header, the payload and the TAG of the datagram. -/
def execMemRead (hd pl tag : List (BitVec 8)) (s : State) : Host.Outcome State Fault Refusal :=
  .next (s.onWhole (qmp 0x04 memReadReq (hd ++ pl ++ tag)))
/-- UNIT_STATE: the header's bytes 0 to 7, SEQ, the payload and the TAG of the datagram. -/
def execUnitState (hd sq pl tag : List (BitVec 8)) (s : State) : Host.Outcome State Fault Refusal :=
  .next (s.onWhole (qmp 0x05 unitState (hd ++ sq ++ pl ++ tag)))
/-- CAM_READ: port, camera register. -/
def execCamRead (q : List (BitVec 8)) (p : Fin 8) (a : BitVec 32) (s : State) : Host.Outcome State Fault Refusal :=
  .next (s.onWhole (qmp 0x06 (camRead p.val a.toNat) q))
/-- CAM_WRITE: port, camera register, value. -/
def execCamWrite (q : List (BitVec 8)) (p : Fin 8) (a v : BitVec 32) (s : State) : Host.Outcome State Fault Refusal :=
  .next (s.onWhole (qmp 0x07 (camWrite p.val a.toNat v.toNat) q))
/-- VIEW_READ: statistics ring or view buffer, its port or group, offset, length. -/
def execViewRead (q : List (BitVec 8)) (stat : Bool) (i : Fin 8) (off : BitVec 32) (n : BitVec 16) (s : State) : Host.Outcome State Fault Refusal :=
  .next (s.onWhole (qmp 0x08 (viewRead stat i.val off.toNat n.toNat) q))
/-- ACK. -/
def execAck (q : List (BitVec 8)) (s : State) : Host.Outcome State Fault Refusal := .next (s.onWhole (qmp 0x09 ackReq q))
/-- MAINT_START. -/
def execMaintStart (q : List (BitVec 8)) (s : State) : Host.Outcome State Fault Refusal := .next (s.onWhole (qmp 0x0A maintReq q))
/-- HALT. -/
def execHalt (q : List (BitVec 8)) (s : State) : Host.Outcome State Fault Refusal := .next (s.onWhole (qmp 0x0B haltReq q))
/-- RESET: the mask, bit 0 die A, bit 1 die B. -/
def execReset (q : List (BitVec 8)) (mask : BitVec 2) (s : State) : Host.Outcome State Fault Refusal := .next (s.onWhole (qmp 0x0C (resetReq mask.toNat) q))
/-- STAGE_BEGIN: length, digest. -/
def execStageBegin (q : List (BitVec 8)) (len : BitVec 64) (digest : List (BitVec 8)) (s : State) : Host.Outcome State Fault Refusal :=
  .next (s.onWhole (qmp 0x10 (stageBegin len.toNat digest) q))
/-- STAGE_CHUNK. -/
def execStageChunk (q : List (BitVec 8)) (s : State) : Host.Outcome State Fault Refusal := .next (s.onWhole (qmp 0x11 stageChunk q))
/-- STAGE_VERIFY. -/
def execStageVerify (q : List (BitVec 8)) (s : State) : Host.Outcome State Fault Refusal := .next (s.onWhole (qmp 0x12 stageVerify q))
/-- STAGE_VERIFY_DONE: the die; what the records' payloads state. (DESIGN CHOICE, log entry 5.) -/
def execStageVerifyDone (d : Die) (rs : List Rec) (s : State) : Host.Outcome State Fault Refusal := .next (s.onWhole (stageVerified d rs))
/-- STAGE_COMMIT: whether the image fits the good blocks. -/
def execStageCommit (q : List (BitVec 8)) (fits_ : Bool) (s : State) : Host.Outcome State Fault Refusal := .next (s.onWhole (qmp 0x13 (stageCommit fits_) q))
/-- STAGE_COMMIT_DONE: the die; whether readback and marker hold. -/
def execStageCommitDone (d : Die) (ok : Bool) (s : State) : Host.Outcome State Fault Refusal := .next (s.onWhole (stageCommitted d ok))
/-- STAGE_ABORT. -/
def execStageAbort (q : List (BitVec 8)) (s : State) : Host.Outcome State Fault Refusal := .next (s.onWhole (qmp 0x14 stageAbort q))
/-- ATTEST. -/
def execAttest (q : List (BitVec 8)) (s : State) : Host.Outcome State Fault Refusal := .next (s.onWhole (qmp 0x15 attest q))
/-- SVN_RAISE. -/
def execSvnRaise (q : List (BitVec 8)) (s : State) : Host.Outcome State Fault Refusal := .next (s.onWhole (qmp 0x16 svnRaise q))
/-- KEY_SET: slot, encrypted key. -/
def execKeySet (q : List (BitVec 8)) (slot : BitVec 8) (blob : List (BitVec 8)) (s : State) : Host.Outcome State Fault Refusal :=
  .next (s.onWhole (qmp 0x17 (keySet slot.toNat blob) q))
/-- QMP_FORWARD_TIMEOUT. -/
def execQmpForwardTimeout (s : State) : Host.Outcome State Fault Refusal := .next (s.onWhole forwardTimeout)

end Sys2Proof.Machine
end

