-- ==== Sys2Proof/Machine/Boundary.lean ====
section
/-! DEFINITION. The step sequencer (spec/02 R39 to R51): step boundaries and what happens at them, the release of step 0 (spec/16 R396), replay events
and freezes. -/

namespace Sys2Proof.Machine

/-! ### The end of a step -/

/-- What the tiles' operations do before the next boundary, and what reaches the sync words before it. -/
def DM.syncEnd (x : DM) : DM :=
  let t := x.d.acyc 19999
  ((x.allJobs t).syncTo t).onD (fun d => (d.deliver t).takeEvents (t + 1))

/-- The Comparator instances disagree (R340). -/
def DieState.cmpDup (d : DieState) : DieState := (d.raise rCHK_STATUS 4).detect 10

/-- The timetable sections whose owners ran in the step have run one frame more (R184). (DEDUCED, log entry 27.) -/
def DieState.sectFrames (d : DieState) : DieState :=
  let owners := ((d.mem.sects.filter d.ownerRuns).map (·.owner)).eraseDups
  d.onMem (fun m => { m with frames := owners.foldl (fun t o => tmod t o 0 (· + 1)) m.frames })

/-- The end of a step on a die after the Part Tracker's work: the comparisons of the duplicated units, the disagreement window, pending events, frames. -/
def DieState.stepEnd (d : DieState) (dupP dupC : Bool) : DieState :=
  let d := { d with seq := d.seq.owe 20000 }
  let d := d.when dupP (·.dupMismatch)
  let d := d.windowStep
  let d := d.when dupC (·.cmpDup)
  let n := d.nib.events.length
  let d := (d.setFld rNIB_PEND 13 0 n).peakFld rNIB_PEND 29 16 n
  let d := { d with chk := { d.chk with lastDecs := d.chk.decs, decs := [] } }
  let d := { d with seq := { d.seq with maxEv := max d.seq.maxEv d.seq.events, maxCyc := max d.seq.maxCyc d.seq.frzStep } }
  d.sectFrames

/-- In Paired mode the die forms the SIGN message of the step and sends it to its peer, and to SIGN_DEST where that is set (R404, R405). -/
def Whole.signForm (w : Whole) (die : Die) : Whole :=
  let d := w.die die
  if !d.paired then w
  else
    let s := d.sign
    let w := w.onDie die (fun d =>
      let d := d.onTwl (fun t => { t with signs := (t.signs ++ [s]).drop (t.signs.length - 2) })
      let d := { d with tar := { d.tar with tiles := d.tar.tiles.map (fun (x : Nat × TileSlot) => (x.1, { x.2 with cur := { x.2.cur with crc := 0 } })) } }
      d.send .toDie [2, s.step] s.bytes)
    match w.mod.grp.signDest with
    | some a => w.twlSend die a 0 2 s.bytes none
    | none => w

/-- In Paired mode a step whose decisions differ between the dies is counted on both, when the second die has ended it (R341). (DEDUCED, log entry 26.) (DEDUCED, log entry 32.) -/
def Whole.pairDigest (w : Whole) (die : Die) : Whole :=
  let d := w.die die
  let e := w.die die.other
  if d.paired && d.fld rTWL_PEER 1 0 == 1 && e.stepping && e.seq.step == d.seq.step && d.chk.lastDecs != e.chk.lastDecs then
    w.both (fun d => (d.raise rCHK_STATUS 3).count (rCHK_CNT + 28) 1)
  else w

/-! ### The boundary -/

/-- The first active cycle of the next step (R39, R41); the freezes that fall due in it, asked for by the events of the last 32 cycles, are its own (R51). -/
def DieState.nextStep (d : DieState) : DieState :=
  let t := d.seq.stepAt + 20000 + d.seq.frzStep
  let owed := d.seq.owed.map (fun o => (o.1 - 20000, o.2))
  let d := { d with seq := { d.seq with step := d.seq.step + 1, cycle := 0, stepAt := t, frzStep := 0, events := owed.length, excess := false, owed := owed } }
  ((d.at t).life (6 + d.die.num) 1).freezeExcess

/-- STEP_CLEAR words of the inspection context become EMPTY, but for POISON; a FULL one loses its value (R222). -/
def DieState.stepClear (d : DieState) : DieState :=
  ((d.recsOf d.inspCtx).filter (·.stepClear)).foldl (fun d r =>
    let p := d.ptileOf r.vtile
    let st := d.wordState p r.word
    if st = 2 then d
    else
      let d := d.setWord p r.word 0
      if st = 1 then (d.count (rSYN_CNT + 24) 1).raise rSYN_STATUS 7 else d) d

/-- STEP_REL barriers that hold an arrival are poisoned (R222). -/
def DieState.stepBars (d : DieState) : DieState :=
  (d.ownedBars d.inspCtx).foldl (fun d n =>
    let b := d.bar n
    if d.flag (rSYN_BAR + 4 * n) 14 && !d.flag (rSYN_BAR + 4 * n) 15 && !(b.arr.isEmpty && b.early.isEmpty) then
      (d.poisonBar n (d.acyc 0)).raise rSYN_STATUS 8
    else d) d

/-- A tile meets the boundary (R98): a waiting STEP bundle issues; a step-locked program without one ready is STEP_OVERRUN, which goes before TIMEOUT
(R212). (DEDUCED, log entry 23.) -/
def DM.stepTile (x : DM) (p : Nat) : DM :=
  let s := x.d.slotOf p
  if s.cur.stat ≠ .running then x
  else
    let t0 := x.d.acyc 0
    let base := sramBase x.d.die p
    let g := gapBundles x.mem base t0 (x.d.stopping p) (t0 - s.cur.ready) s.cur
    let t := g.1.wake t0
    let fault (at_ code : Nat) : DM :=
      let r := faultTile x.d p at_ code { s with cur := t, pre := { t with wait := .none }, pcAt := t.pc, undo := [], undoS := none }
      { x with d := r.1 }.store r.2
    let set (t : Tile) : DM := x.onD (fun d => d.setSlot p { s with cur := t })
    match g.2 with
    | some f => fault t.ready f
    | none =>
      if t.stat ≠ .running then set t
      else if t.wait = .step then set { t with wait := .none, ready := t0 }
      else if t.locked ∧ !(t.wait = .none ∧ t.ready = t0 ∧ hStep (hdrInMem x.mem base t)) then fault t0 fStepOverrun
      else set t

/-- The largest test ages are kept (R122). -/
def DieState.noteAges (d : DieState) : DieState :=
  let one (u : Rot) (d : DieState) : DieState := d.wr (Rot.maxInt u) (max (d.rd (Rot.maxInt u)) (min max32 (d.maxAge u)))
  one true (one false d)

/-- The input frame of the boundary: the die's 16 inputs as debounced (R331). -/
def Whole.latchInputs (w : Whole) (die : Die) : Whole :=
  let ins := (List.range 16).map (fun i => tget w.mod.field.ins (16 * die.num + i) default)
  let word (f : InSt → Bool) : Nat := ((List.range 16).map (fun i => b2n (f (ins.getD i default)) * 2 ^ i)).foldl (· + ·) 0
  w.onDie die (fun d =>
    { d with nib := { d.nib with frames := (d.nib.frames ++ [(d.seq.step, word (·.level), word (·.wb))]).drop (d.nib.frames.length - 7) } })

/-- The boundary's own actions on a die, before its seal: objects, tiles, tag, refresh, Unit State Words as the Quill reads them (R222, R98, R307, R189,
R478). -/
def boundaryActs (x : DM) : DM :=
  let x := x.onD (fun d => d.stepClear.stepBars)
  let x := (x.d.tar.tiles.map (·.1)).foldl DM.stepTile x
  x.onD (fun d =>
    let d := posBoundary d.sampleNow d
    let d := (d.noteAges.nextRates).join
    let d := if d.seq.step % 1024 = 0 then d.onTwl (fun t => { t with mark := d.seq.stepAt }) else d
    contextPlace d.boundaryUnits)

/-- A boundary is a seal boundary, and the die does not enter SAFE at it (R64, R375, R381). -/
def DieState.sealHere (d : DieState) (pub : Bool) (late : List SampleIn) : DieState :=
  if d.sealDue && !(d.dev == .run && d.chk.pending) then d.sealFrame pub late else d

/-- The master of a group sends ALIGN to each member at boundaries 1,024j (R397). -/
def Whole.alignSend (w : Whole) (die : Die) : Whole :=
  let s := (w.die die).seq.step
  if w.isMaster && w.carrier == die && decide (0 < s) && s % 1024 == 0 then
    w.mod.grp.running.foldl (fun w a => w.twlSend die a 0 3 (barrierBytes 3 s) (some (0, rhoOne, w.now))) w
  else w

/-- Die B of a pair that has declared die A FAILED sends its takeover command, until the silicon accepts it (R406). -/
def Whole.takeoverRepeat (w : Whole) (die : Die) : Whole :=
  if die == .b && (w.die die).twl.failAt.isSome then takeoverCommand w else w

/-- STEP_BOUNDARY: the step of a die ends and the next begins. `dupP`, `dupC`: the instances of the Part Tracker, of the Comparator, differ; `late`: samples of
the frame that is sealed without a value. (DEDUCED, log entry 15.) -/
def stepBoundary (die : Die) (dupP dupC : Bool) (late : List SampleIn) (w : Whole) : Whole :=
  if !(w.die die).stepping then w
  else
    let pub := w.publishes die
    let w := w.onDM die (fun x => (ptkEnd (x.syncEnd.onD (·.toCycle 19999))).onD (fun d => d.stepEnd dupP dupC))
    let w := ((w.signForm die).onDie die (·.nextStep)).pairDigest die
    let w := w.runReqs die
    if !(w.die die).stepping then w
    else
      let w := (w.onDM die boundaryActs).latchInputs die
      let w := w.onDie die (fun d => d.sealHere pub late)
      (w.alignSend die).takeoverRepeat die

/-! ### The release of step 0 (R40, R58, R295, R396) -/

/-- Registers from `off`, `n` of them, become zero. -/
def DieState.zeroRegs (d : DieState) (off n : Nat) : DieState := (List.range n).foldl (fun (d : DieState) i => d.wr (off + 4 * i) 0) d

/-- The counters that count from step 0 are cleared. (DEDUCED, log entry 17.) -/
def DieState.zeroCounts (d : DieState) : DieState :=
  let d := d.zeroRegs rSYS_STEP_COUNT_LO 10
  let d := (d.zeroRegs rCXP_REPLACED 8).zeroRegs rCXP_DROP 8
  let d := (List.range 8).foldl (fun (d : DieState) p => (d.setFld (rCXP_PORT_STAT + 4 * p) 21 16 0).setFld (rRGN_DEPTH + 4 * p) 27 16 0) d
  let d := ((d.zeroRegs rRGN_MISS 8).zeroRegs rIPP_TRUNC 8).zeroRegs rIPP_EXPO 8
  let d := d.zeroRegs rSTM_STRIPE_MISS 32
  let d := (((d.wr (Rot.maxInt false) 0).wr (Rot.maxInt true) 0).wr (Rot.hands false) 0).wr (Rot.hands true) 0
  let d := (d.zeroRegs rPTK_CNT 8).setFld rPTK_QUEUE 22 16 0
  let d := (d.wr rTAR_FAULT_COUNT 0).zeroRegs rSYN_CNT 8
  let d := (d.zeroRegs rMEM_REPLAY 16).zeroRegs rCTX_SLICES 16
  let d := (List.range 16).foldl (fun (d : DieState) c => d.setFld (rMEM_CH + 4 * c) 31 24 0) d
  let d := (List.range 16).foldl (fun (d : DieState) n => d.setFld (rCTX_AUX + 4 * n) 31 24 0) d
  let d := (d.wr rCTX_CHG_INCOMPLETE 0).zeroRegs rCHK_CNT 8
  let d := ((d.wr rCHK_WINDOW 0).wr rFWL_CNT 0).wr rFWL_SAFE_CNT 0
  let d := (d.zeroRegs rNIB_CNT 12).setFld rNIB_PEND 29 0 0
  (List.range 64).foldl (fun (d : DieState) n => d.setFld (rFIO_OUT_STAT + 4 * n) 31 24 0) d

/-- The working state of the former run is gone; what R58 lists stays. Test ages go on. (DEDUCED, log entry 17.) -/
def DieState.newRun (d : DieState) : DieState :=
  let old := d.seq.step
  let shift (r : Rotation) : Rotation :=
    { r with copies := [], mirror := [], mirrorW := [], lastSw := 0, hand := r.hand.map (fun h => { h with step := 0 }), tested := (List.range 17).map (fun g => (g, tget r.tested g 0 - old)) }
  let ptk := { d.ptk with dyn := [], parts := [], queue := [], store := [], retiredNow := 0, freeing := 0, batch := [], overs := 0, lateVerdicts := 0, ringW := 0 }
  let chk := { d.chk with msgs := [], done := [], window := [], stepDec := [], decs := [], lastDecs := [], lateVals := 0, spoiled := [], newAt := none }
  let net := { d.net with recs := [], srecs := [], seals := 0, dropped := 0, seq := 0, safeSent := false, safeDue := none }
  let pos := { d.pos with tags := [], last := none, times := [], capStep := [], latches := [], admitted := [] }
  let exps := d.ipp.exps.map (fun x => (x.1, { x.2 with trans := none, pend := none }))
  let ipp := { d.ipp with exps := exps, stats := [], toServe := [], store := [], fills := [] }
  let kept (o : Nat) : Bool := decide (2 ≤ o) && (d.aux (o - 2)).saved.isSome
  let mem := { d.mem with streams := [], frames := d.mem.frames.filter (fun f => kept f.1), reads := [], rates := [], errs := [], period := 0, held := [] }
  let syn := { d.syn with ops := [], resps := [], arrs := [] }
  let aux := d.ctx.aux.map (fun a => (a.1, { a.2 with sliceEnd := 0, nextLen := 0, swX := 0, doneAt := 0 }))
  let ctx := { d.ctx with aux := aux, queue := [], resets := [], swX := 0, swBytes := 0, swStart := 0, xferEnd := 0, maint := false, chg := default, discards := 0 }
  let d := { d with
    items := d.items.filter (fun x => x.arrival.isNone && x.body.lineState), ptk := ptk, chk := chk, net := net, pos := pos, ipp := ipp, mem := mem, syn := syn, ctx := ctx
    nib := { d.nib with events := [], vseq := [], frames := [] }
    tar := { d.tar with tiles := [], net := [], inbox := [], events := [], rot := shift d.tar.rot }
    stm := { d.stm with rot := shift d.stm.rot, persist := [], rows := [], fenceReq := false, fenceFrom := 0 }
    cxp := { d.cxp with arrived := [], decided := [], groups := [] }
    twl := { d.twl with signs := [], aligned := 0 } }
  let seq : Seq := { (default : Seq) with on := true, stepAt := d.clk }
  { d with seq := seq }.setFld rCTX_CHG 10 8 0

/-- A port at the release: a port that was still draining is off; its lines start at k0. (DEDUCED, log entry 17.) -/
def DieState.portStart (d : DieState) (p : Nat) : DieState :=
  let d := if d.draining p then (d.setPortState p 0).uswEvent 1 p 0 else d
  let x := d.port p
  d.setPort p { x with
    nextK := (d.group (d.groupOf p)).k0.getD 0, waiting := none, open_ := [], fired := [], fifo := [], store := [], good := none, badRun := 0, offAt := none
    truncs := [] }

/-- k0 of every group, after the presets (R249, R250, R295). (DEDUCED, log entry 17.) -/
def DieState.linesStart (d : DieState) : DieState :=
  let n := d.sampleNow
  let d := d.ownChans.foldl (fun d c => d.preset c) d
  let d := ((List.range 8).filter d.groupOn).foldl (fun (d : DieState) g =>
    let k0 := d.firstAbove g (d.countAt (d.chanOf (d.fld (rRGN_GRP + 4 * g) 26 24)) n)
    d.setGroup g { (default : Group) with k0 := some k0, nextReg := k0 }) d
  ((List.range 8).filter d.portOn).foldl (fun d p => d.portStart p) d

/-- The mode of the Stem from step 0 (R164, R167): regrouped where the Stem is FENCED, or under a recovery image; the groups that the active recipe's
regrouped set needs are then not in P2 (R233). (DEDUCED, log entry 25.) -/
def DieState.modeStart (d : DieState) : DieState :=
  let d := { d with stm := { d.stm with fenceAt := none } }
  let d := d.setFlag rSTM_MODE 2 false
  let rec_ : Bool := match d.qll.run with | some i => bit 1 i.head.flags | none => false
  if d.stm.fenced || rec_ then
    let d := d.setFld rSTM_MODE 1 0 1
    let reg := tget d.ctx.regGroups (d.fld rCTX_CHG 3 0) 0
    d.setFld rCTX_PART 20 16 (min d.p2Size (16 - d.fld rCTX_PART 4 0 - reg))
  else d

/-- The auxiliary contexts at the release: every defined, enabled context joins the ready queue in increasing number (R229); a standby reservation waits
(R407). (DEDUCED, log entry 25.) -/
def DieState.auxStart (d : DieState) : DieState :=
  (List.range 16).foldl (fun (d : DieState) n =>
    let a := d.aux n
    let d := d.setAx n axOff
    if a.defined && !a.disabled && a.standby.isNone then d.enqueue n else d) d

/-- The pool shows its free slots at the release. -/
def DieState.poolStart (d : DieState) : DieState :=
  (d.ptk.cfg.map (·.1)).foldl (fun (d : DieState) n =>
    let f := d.freeSlots n
    (d.setFld (rPTK_POOL_FREE + 4 * n) 12 0 f).setFld (rPTK_POOL_FREE + 4 * n) 28 16 f) (d.setFld rPTK_QUEUE 6 0 0)

/-- Step 0 begins on a die. (DEDUCED, log entry 17.) -/
def startDie (pub : Bool) (x : DM) : DM :=
  let x := x.onD (fun d =>
    let d := d.newRun.zeroCounts.modeStart.poolStart
    let d := { d.setDev .run with rejoin := false }
    let d := d.useLst (d.setOf 0)
    (d.life (4 + d.die.num) 1).auxStart)
  let x := startSet x
  let x := x.onD (fun d => posBoundary d.sampleNow d.linesStart)
  x.onD (fun d =>
    let d := { d with
      qll := { d.qll with snap := (List.range 19).map (fun u => (u, d.rd (rSYS_USW + 4 * u))) }
      twl := { d.twl with mark := d.seq.stepAt } }
    (contextPlace d).sealHere pub [])

/-- A die is released with its module (R396, R467): in ARMED with line running; one that booted while its peer ran on only beside a peer in ARMED, in Split
mode, with equal running images. -/
def Whole.released (w : Whole) (die : Die) : Bool :=
  let d := w.die die
  let e := w.die die.other
  d.atBarrier && (!d.rejoin || (e.atBarrier && !d.paired && d.qll.run.map (·.digest) == e.qll.run.map (·.digest)))

/-- START_BARRIER_RELEASE: at the module's release instant its dies at the barrier begin step 0. (DEDUCED, log entry 17.) -/
def startRelease (w : Whole) : Whole :=
  match w.mod.grp.release with
  | none => w
  | some t =>
    let ds := ([Die.a, Die.b]).filter w.released
    if ds.isEmpty then w
    else
      let w := w.at t
      let w := ds.foldl (fun w die => ((w.onDM die (startDie (w.publishes die))).latchInputs die).reached die) w
      let w := w.onGrp (fun g => { g with arrived := false, addrs := [], release := none })
      ds.foldl (fun w die => w.runReqs die) w

/-! ### Replay events and freezes (R48 to R51, R188, R192, R217) -/

/-- A persistent error is recorded on its channel, where more than 4 within 1,024 steps ask for a fence (R192), or on the Stem. -/
def DieState.persistAt (d : DieState) (b : Nat) : DieState :=
  let keep (l : List Nat) : List Nat := (l ++ [d.seq.step]).filter (fun s => decide (d.seq.step < s + 1024))
  if isDramBin b then
    let ch := b - 34
    let l := keep (tget d.mem.errs ch [])
    let d := (d.countFld (rMEM_CH + 4 * ch) 31 24 1).onMem (fun m => { m with errs := tset m.errs ch l })
    if 4 < l.length then d.askFence ch 3 else d
  else if 17 ≤ b ∧ b < 34 then
    { d with stm := { d.stm with persist := keep d.stm.persist } }
  else d

/-- What follows from a persistent error (R50). (DEDUCED, log entry 11.) -/
def DieState.persistFate (d : DieState) (b : Nat) (f : Fate) : DieState :=
  match f with
  | .passed => d
  | .recovered => d.raiseWith rSYS_DET_STATUS 1 (some 56) []
  | .lost ch =>
    let d := if isDramBin b then d else d.count (rMEM_REPLAY + 4 * ch.val) 1
    ((d.count (rMEM_REPLAY + 4 * ((ch.val + 8) % 16)) 1).askFence ch.val 4).detect 1
  | .data ps ss =>
    let d := (d.raiseWith rSYS_DET_STATUS 2 (some 56) []).modParts
      (fun p => p.held && p.kind != .tail && ps.any (fun x => x.1.toNat == p.lane && x.2.toNat == p.num)) (fun p => p.mark 8)
    { d with chk := { d.chk with spoiled := d.chk.spoiled ++ ss.map (fun x => (x.1.toNat, x.2.toNat, 8)) } }
  | .sync p i => d.setWord p.val i.toNat 2
  | .checker ps =>
    d.modParts (fun p => p.kind != .tail && p.checker.isNone && ps.any (fun x => x.1.toNat == p.lane && x.2.toNat == p.num)) (fun p => { p with noCheck := true })

/-- A word that failed: where, and how its re-read went. (DEDUCED, log entry 11.) -/
def DieState.failedWord (d : DieState) (x : Fin 54 × Fate) : DieState :=
  if x.2 = .passed then d else ((d.life (12 + d.die.num) 1).persistAt x.1.val).persistFate x.1.val x.2

/-- The set needs a second copy, or a reload: one further DRAM event (R50). (DEDUCED, log entry 11.) -/
def furtherRead (f : Fate) : Bool := match f with | .recovered => true | .lost _ => true | _ => false

/-- REPLAY_EVENT: the words that failed in cycle `c`. In Paired mode each event is sent to the peer (R51); more than 4 persistent errors in Stem SRAM within 1,024 steps ask
for a Stem fence (R169). (DEDUCED, log entry 11.) -/
def replayEvent (die : Die) (c : Nat) (ws : List (Fin 54 × Fate)) (w : Whole) : Whole :=
  if ws.isEmpty then w
  else
    let bins := ws.map (·.1.val)
    let dram := bins.any isDramBin
    let more := ws.any (fun x => furtherRead x.2)
    let w := w.onDie die (fun d =>
      let at_ := d.freezeAfter c
      let d := ((d.askFreeze c dram).freeze at_ (freezeLen dram)).ownEvent dram bins
      let d := if more then d.dramEvent c [] else d
      ws.foldl DieState.failedWord d)
    if ws.any (fun x => decide (17 ≤ x.1.val ∧ x.1.val < 34) && x.2 != .passed) && decide (4 < (w.die die).stm.persist.length) then w.askStemFence die else w

/-- DIE_FREEZE_REQUEST: the peer's event of cycle `c`, with its kind; `own`: the kind of this die's own event of the same cycle, whose freeze it lengthens (R51). (DEDUCED, log entry 11.) -/
def freezeRequest (c : Nat) (dram : Bool) (own : Option Bool) (d : DieState) : DieState :=
  if !d.paired then d
  else
    let n := freezeLen dram - (match own with | some k => freezeLen k | none => 0)
    d.freeze (d.freezeAfter c) n

/-! ### The commands -/

/-- STEP_BOUNDARY: whether the instances of the Part Tracker, of the Comparator, differ; samples sealed without a value. -/
def execStepBoundary (d : Die) (dupP dupC : Bool) (late : List SampleIn) (s : State) : Host.Outcome State Fault Refusal :=
  .next (s.onWhole (stepBoundary d dupP dupC late))
/-- START_BARRIER_RELEASE. -/
def execStartBarrierRelease (s : State) : Host.Outcome State Fault Refusal := .next (s.onWhole startRelease)
/-- REPLAY_EVENT: cycle of detection; the failing words, each with its place and what its re-read gave. -/
def execReplayEvent (d : Die) (cyc : Fin 20000) (ws : List (Fin 54 × Fate)) (s : State) : Host.Outcome State Fault Refusal :=
  .next (s.onWhole (replayEvent d cyc.val ws))
/-- DIE_FREEZE_REQUEST: cycle of detection; whether a DRAM word failed; this die's own event of the same cycle. -/
def execDieFreezeRequest (d : Die) (cyc : Fin 20000) (dram : Bool) (own : Option Bool) (s : State) : Host.Outcome State Fault Refusal :=
  .next (s.onDie d (freezeRequest cyc.val dram own))

end Sys2Proof.Machine
end

