-- ==== Sys2Proof/Machine/Dispatch.lean ====
section
/-! DEFINITION. The dispatch: one arm for each command, each one direct call of its meaning. -/

namespace Sys2Proof.Machine

/-- The effect of a command on everything but the queue. -/
def exec (i : Instr) (s : State) : Host.Outcome State Fault Refusal :=
  match i with
  | .stepBoundary d dupP dupC late => Sys2Proof.Machine.execStepBoundary d dupP dupC late s
  | .startBarrierRelease => Sys2Proof.Machine.execStartBarrierRelease s
  | .unadmitted d => Sys2Proof.Machine.execUnadmitted d s
  | .replayEvent d cyc ws => Sys2Proof.Machine.execReplayEvent d cyc ws s
  | .dieFreezeRequest d cyc dram own => Sys2Proof.Machine.execDieFreezeRequest d cyc dram own s
  | .itemArrival d x => Sys2Proof.Machine.execItemArrival d x s
  | .lineAdmission d g k => Sys2Proof.Machine.execLineAdmission d g k s
  | .stepTagAdmission d miss => Sys2Proof.Machine.execStepTagAdmission d miss s
  | .latchPairAdmission d k => Sys2Proof.Machine.execLatchPairAdmission d k s
  | .inputFrameAdmission d miss => Sys2Proof.Machine.execInputFrameAdmission d miss s
  | .checkerMessageAdmission d => Sys2Proof.Machine.execCheckerMessageAdmission d s
  | .mma b f => Sys2Proof.Machine.execMma b f s
  | .wld b f => Sys2Proof.Machine.execWld b f s
  | .anch b f => Sys2Proof.Machine.execAnch b f s
  | .bias b f => Sys2Proof.Machine.execBias b f s
  | .wb b f => Sys2Proof.Machine.execWb b f s
  | .wpar b f => Sys2Proof.Machine.execWpar b f s
  | .asave b f => Sys2Proof.Machine.execAsave b f s
  | .amerge b f => Sys2Proof.Machine.execAmerge b f s
  | .mask b f => Sys2Proof.Machine.execMask b f s
  | .fadd b f => Sys2Proof.Machine.execFadd b f s
  | .fmul b f => Sys2Proof.Machine.execFmul b f s
  | .ffma b f => Sys2Proof.Machine.execFfma b f s
  | .iadd b f => Sys2Proof.Machine.execIadd b f s
  | .isub b f => Sys2Proof.Machine.execIsub b f s
  | .imul b f => Sys2Proof.Machine.execImul b f s
  | .max b f => Sys2Proof.Machine.execMax b f s
  | .min b f => Sys2Proof.Machine.execMin b f s
  | .func b f => Sys2Proof.Machine.execFunc b f s
  | .cvt b f => Sys2Proof.Machine.execCvt b f s
  | .logic b f => Sys2Proof.Machine.execLogic b f s
  | .shift b f => Sys2Proof.Machine.execShift b f s
  | .sel b f => Sys2Proof.Machine.execSel b f s
  | .cmp b f => Sys2Proof.Machine.execCmp b f s
  | .red b f => Sys2Proof.Machine.execRed b f s
  | .imm b f => Sys2Proof.Machine.execImm b f s
  | .movsd b f => Sys2Proof.Machine.execMovsd b f s
  | .bcast b f => Sys2Proof.Machine.execBcast b f s
  | .wcfg b f => Sys2Proof.Machine.execWcfg b f s
  | .vld b f => Sys2Proof.Machine.execVld b f s
  | .vst b f => Sys2Proof.Machine.execVst b f s
  | .vldg b f => Sys2Proof.Machine.execVldg b f s
  | .vstg b f => Sys2Proof.Machine.execVstg b f s
  | .send b f => Sys2Proof.Machine.execSend b f s
  | .recv b f => Sys2Proof.Machine.execRecv b f s
  | .mcmd b f => Sys2Proof.Machine.execMcmd b f s
  | .wait b f => Sys2Proof.Machine.execWait b f s
  | .waitExpiry d p => Sys2Proof.Machine.execWaitExpiry d p s
  | .loop b f => Sys2Proof.Machine.execLoop b f s
  | .jump b f => Sys2Proof.Machine.execJump b f s
  | .writeFull b v => Sys2Proof.Machine.execWriteFull b v s
  | .readEmpty b v => Sys2Proof.Machine.execReadEmpty b v s
  | .poll b v => Sys2Proof.Machine.execPoll b v s
  | .fill b v => Sys2Proof.Machine.execFill b v s
  | .clear b v => Sys2Proof.Machine.execClear b v s
  | .syncResponse d cyc => Sys2Proof.Machine.execSyncResponse d cyc s
  | .swait b f => Sys2Proof.Machine.execSwait b f s
  | .swaitProbe d p => Sys2Proof.Machine.execSwaitProbe d p s
  | .budget b f => Sys2Proof.Machine.execBudget b f s
  | .pollTimeout d p => Sys2Proof.Machine.execPollTimeout d p s
  | .barrier b f => Sys2Proof.Machine.execBarrier b f s
  | .barrierArrival d n cyc => Sys2Proof.Machine.execBarrierArrival d n cyc s
  | .engineBarrierArrival d n e cyc => Sys2Proof.Machine.execEngineBarrierArrival d n e cyc s
  | .bwait b f => Sys2Proof.Machine.execBwait b f s
  | .bwaitRelease d p => Sys2Proof.Machine.execBwaitRelease d p s
  | .tileHalt b f => Sys2Proof.Machine.execTileHalt b f s
  | .strokeLen d p => Sys2Proof.Machine.execStrokeLen d p s
  | .transferArrival d e cyc => Sys2Proof.Machine.execTransferArrival d e cyc s
  | .contextReset d c => Sys2Proof.Machine.execContextReset d c s
  | .handoverBegin d => Sys2Proof.Machine.execHandoverBegin d s
  | .handoverCopy d m => Sys2Proof.Machine.execHandoverCopy d m s
  | .handoverSwitch d => Sys2Proof.Machine.execHandoverSwitch d s
  | .groupTestPass d => Sys2Proof.Machine.execGroupTestPass d s
  | .groupTestFail d => Sys2Proof.Machine.execGroupTestFail d s
  | .spareInterval d => Sys2Proof.Machine.execSpareInterval d s
  | .tarFenceReq d v => Sys2Proof.Machine.execTarFenceReq d v s
  | .stmHandoverBegin d => Sys2Proof.Machine.execStmHandoverBegin d s
  | .stmHandoverCopy d m => Sys2Proof.Machine.execStmHandoverCopy d m s
  | .stmHandoverSwitch d => Sys2Proof.Machine.execStmHandoverSwitch d s
  | .stmGroupTestPass d => Sys2Proof.Machine.execStmGroupTestPass d s
  | .stmGroupTestFail d => Sys2Proof.Machine.execStmGroupTestFail d s
  | .stmSpareInterval d => Sys2Proof.Machine.execStmSpareInterval d s
  | .stmFenceReq d v => Sys2Proof.Machine.execStmFenceReq d v s
  | .forceRegroup d v => Sys2Proof.Machine.execForceRegroup d v s
  | .stemFence d => Sys2Proof.Machine.execStemFence d s
  | .regroupSwitch d => Sys2Proof.Machine.execRegroupSwitch d s
  | .partClose d => Sys2Proof.Machine.execPartClose d s
  | .partRetire d cls out => Sys2Proof.Machine.execPartRetire d cls out s
  | .assembledVerdict d cls out => Sys2Proof.Machine.execAssembledVerdict d cls out s
  | .checkerMessage d part a b v => Sys2Proof.Machine.execCheckerMessage d part a b v s
  | .comparatorDecide d full xs => Sys2Proof.Machine.execComparatorDecide d full xs s
  | .nibCommitEvaluate d full => Sys2Proof.Machine.execNibCommitEvaluate d full s
  | .actionArm d lane part rule n => Sys2Proof.Machine.execActionArm d lane part rule n s
  | .actionExecute d lane part rule n => Sys2Proof.Machine.execActionExecute d lane part rule n s
  | .pulseEnd n => Sys2Proof.Machine.execPulseEnd n s
  | .delayedEdge n => Sys2Proof.Machine.execDelayedEdge n s
  | .remoteFrameLaunch d => Sys2Proof.Machine.execRemoteFrameLaunch d s
  | .fioLinkFrame d => Sys2Proof.Machine.execFioLinkFrame d s
  | .fioWatchdog d => Sys2Proof.Machine.execFioWatchdog d s
  | .releaseTimeout => Sys2Proof.Machine.execReleaseTimeout s
  | .takeoverCommand => Sys2Proof.Machine.execTakeoverCommand s
  | .holdPwmStart n => Sys2Proof.Machine.execHoldPwmStart n s
  | .openLoad n => Sys2Proof.Machine.execOpenLoad n s
  | .mismatch n pad => Sys2Proof.Machine.execMismatch n pad s
  | .currentLimit n => Sys2Proof.Machine.execCurrentLimit n s
  | .thermalShutdownOutput n restart => Sys2Proof.Machine.execThermalShutdownOutput n restart s
  | .lplusLow g => Sys2Proof.Machine.execLplusLow g s
  | .inputChange j v wb => Sys2Proof.Machine.execInputChange j v wb s
  | .inputPulseWindow j r => Sys2Proof.Machine.execInputPulseWindow j r s
  | .safeOkReadback d pad => Sys2Proof.Machine.execSafeOkReadback d pad s
  | .testPulse d => Sys2Proof.Machine.execTestPulse d s
  | .testPulseEnd d high => Sys2Proof.Machine.execTestPulseEnd d high s
  | .encoderEdge d c n a b => Sys2Proof.Machine.execEncoderEdge d c n a b s
  | .pulseDirEdge d c n a b => Sys2Proof.Machine.execPulseDirEdge d c n a b s
  | .indexEvent d c n z => Sys2Proof.Machine.execIndexEvent d c n z s
  | .ssiFrameStart d c n idle => Sys2Proof.Machine.execSsiFrameStart d c n idle s
  | .ssiFrame d c n data par => Sys2Proof.Machine.execSsiFrame d c n data par s
  | .ssiStale d c n => Sys2Proof.Machine.execSsiStale d c n s
  | .posSwcap d v => Sys2Proof.Machine.execPosSwcap d v s
  | .emuEdge d n => Sys2Proof.Machine.execEmuEdge d n s
  | .emuZEnd d n => Sys2Proof.Machine.execEmuZEnd d n s
  | .triggerPacket d p n => Sys2Proof.Machine.execTriggerPacket d p n s
  | .cxpLineReceive d p str px crc gap other => Sys2Proof.Machine.execCxpLineReceive d p str px crc gap other s
  | .cxpEventPacket d p data => Sys2Proof.Machine.execCxpEventPacket d p data s
  | .lineToDelayStore d p => Sys2Proof.Machine.execLineToDelayStore d p s
  | .lineTimeout d p => Sys2Proof.Machine.execLineTimeout d p s
  | .cxpLockLoss d p => Sys2Proof.Machine.execCxpLockLoss d p s
  | .portLinkDown d p => Sys2Proof.Machine.execPortLinkDown d p s
  | .cameraDiscovery d p found model back start => Sys2Proof.Machine.execCameraDiscovery d p found model back start s
  | .portReturnRun d p => Sys2Proof.Machine.execPortReturnRun d p s
  | .lineRegister d g => Sys2Proof.Machine.execLineRegister d g s
  | .registrationDeadline d g => Sys2Proof.Machine.execRegistrationDeadline d g s
  | .fusedLineCross d x => Sys2Proof.Machine.execFusedLineCross d x s
  | .haloAdmission d => Sys2Proof.Machine.execHaloAdmission d s
  | .haloUnmatched d n left => Sys2Proof.Machine.execHaloUnmatched d n left s
  | .lineMiss d g => Sys2Proof.Machine.execLineMiss d g s
  | .lineSlotEntry d e tapBad => Sys2Proof.Machine.execLineSlotEntry d e tapBad s
  | .statsFill d => Sys2Proof.Machine.execStatsFill d s
  | .exposureRequest d => Sys2Proof.Machine.execExposureRequest d s
  | .exposureWrites d p ok => Sys2Proof.Machine.execExposureWrites d p ok s
  | .expoFail d p => Sys2Proof.Machine.execExpoFail d p s
  | .timetablePosition d ch k mr4 => Sys2Proof.Machine.execTimetablePosition d ch k mr4 s
  | .refreshSlot d ch bank slot => Sys2Proof.Machine.execRefreshSlot d ch bank slot s
  | .dramReadDelivery d err parts => Sys2Proof.Machine.execDramReadDelivery d err parts s
  | .phaseTrack d ch margin out => Sys2Proof.Machine.execPhaseTrack d ch margin out s
  | .channelFence d => Sys2Proof.Machine.execChannelFence d s
  | .maintenancePeriod d => Sys2Proof.Machine.execMaintenancePeriod d s
  | .quillDramAccess d off wr v => Sys2Proof.Machine.execQuillDramAccess d off wr v s
  | .sliceEnd d n => Sys2Proof.Machine.execSliceEnd d n s
  | .contextStop d n => Sys2Proof.Machine.execContextStop d n s
  | .contextSwitchDone d n => Sys2Proof.Machine.execContextSwitchDone d n s
  | .recipeSelect q => Sys2Proof.Machine.execRecipeSelect q s
  | .recipeSelectAdmit d => Sys2Proof.Machine.execRecipeSelectAdmit d s
  | .lineRunning q => Sys2Proof.Machine.execLineRunning q s
  | .lineRunningAdmit d => Sys2Proof.Machine.execLineRunningAdmit d s
  | .operatorAck q => Sys2Proof.Machine.execOperatorAck q s
  | .operatorAckAdmit d => Sys2Proof.Machine.execOperatorAckAdmit d s
  | .changeoverDrainEnd d xs => Sys2Proof.Machine.execChangeoverDrainEnd d xs s
  | .changeoverSetup d => Sys2Proof.Machine.execChangeoverSetup d s
  | .changeoverNewRecipe d => Sys2Proof.Machine.execChangeoverNewRecipe d s
  | .changeoverWarmEnd d => Sys2Proof.Machine.execChangeoverWarmEnd d s
  | .safeEntry d => Sys2Proof.Machine.execSafeEntry d s
  | .safeStateFrame d => Sys2Proof.Machine.execSafeStateFrame d s
  | .chkSafeReq d v => Sys2Proof.Machine.execChkSafeReq d v s
  | .clockDeviation d => Sys2Proof.Machine.execClockDeviation d s
  | .stepHeartbeatLoss d => Sys2Proof.Machine.execStepHeartbeatLoss d s
  | .switchForward fromB f res full => Sys2Proof.Machine.execSwitchForward fromB f res full s
  | .ingressFilter portB f => Sys2Proof.Machine.execIngressFilter portB f s
  | .ptpSync portB m => Sys2Proof.Machine.execPtpSync portB m s
  | .ptpDelayReq => Sys2Proof.Machine.execPtpDelayReq s
  | .ptpDelayResponse portB v => Sys2Proof.Machine.execPtpDelayResponse portB v s
  | .syncTimeout => Sys2Proof.Machine.execSyncTimeout s
  | .relayFailover => Sys2Proof.Machine.execRelayFailover s
  | .resultFrameLaunch d => Sys2Proof.Machine.execResultFrameLaunch d s
  | .headerOnlyFrame d => Sys2Proof.Machine.execHeaderOnlyFrame d s
  | .twillFrameReceive p bs crc ratio corr uncorr => Sys2Proof.Machine.execTwillFrameReceive p bs crc ratio corr uncorr s
  | .lctlAck p seq c0 c1 => Sys2Proof.Machine.execLctlAck p seq c0 c1 s
  | .lctlNak p seq => Sys2Proof.Machine.execLctlNak p seq s
  | .ackTimer p => Sys2Proof.Machine.execAckTimer p s
  | .retryTimeout p => Sys2Proof.Machine.execRetryTimeout p s
  | .retrain p => Sys2Proof.Machine.execRetrain p s
  | .detectPattern p => Sys2Proof.Machine.execDetectPattern p s
  | .linkTimeout p => Sys2Proof.Machine.execLinkTimeout p s
  | .negotiate p gen rate eq role => Sys2Proof.Machine.execNegotiate p gen rate eq role s
  | .stepUp p rate dl => Sys2Proof.Machine.execStepUp p rate dl s
  | .frequencyLock ok => Sys2Proof.Machine.execFrequencyLock ok s
  | .frefLoss => Sys2Proof.Machine.execFrefLoss s
  | .discovery => Sys2Proof.Machine.execDiscovery s
  | .probe p tag rest => Sys2Proof.Machine.execProbe p tag rest s
  | .ident p tag serial member gen ports addr => Sys2Proof.Machine.execIdent p tag serial member gen ports addr s
  | .routeWrite d addr rs ns => Sys2Proof.Machine.execRouteWrite d addr rs ns s
  | .done => Sys2Proof.Machine.execDone s
  | .unreachable d addr => Sys2Proof.Machine.execUnreachable d addr s
  | .routeWaitTimeout p => Sys2Proof.Machine.execRouteWaitTimeout p s
  | .bulk d => Sys2Proof.Machine.execBulk d s
  | .bulkNak d => Sys2Proof.Machine.execBulkNak d s
  | .arrive => Sys2Proof.Machine.execArrive s
  | .withdraw => Sys2Proof.Machine.execWithdraw s
  | .start => Sys2Proof.Machine.execStart s
  | .align => Sys2Proof.Machine.execAlign s
  | .alignMiss => Sys2Proof.Machine.execAlignMiss s
  | .sign d miss => Sys2Proof.Machine.execSign d miss s
  | .peerFailure d silent => Sys2Proof.Machine.execPeerFailure d silent s
  | .takeoverTimeout => Sys2Proof.Machine.execTakeoverTimeout s
  | .remapOffer d addr die c => Sys2Proof.Machine.execRemapOffer d addr die c s
  | .remapAccept d c => Sys2Proof.Machine.execRemapAccept d c s
  | .remapReject d c => Sys2Proof.Machine.execRemapReject d c s
  | .remapTimeout d => Sys2Proof.Machine.execRemapTimeout d s
  | .quillHeartbeatLoss => Sys2Proof.Machine.execQuillHeartbeatLoss s
  | .reconcile d units => Sys2Proof.Machine.execReconcile d units s
  | .tempSample d n t => Sys2Proof.Machine.execTempSample d n t s
  | .thermalShutdown d => Sys2Proof.Machine.execThermalShutdown d s
  | .thermalRelease d j => Sys2Proof.Machine.execThermalRelease d j s
  | .powerOn mv => Sys2Proof.Machine.execPowerOn mv s
  | .resetN => Sys2Proof.Machine.execResetN s
  | .powerFail mv => Sys2Proof.Machine.execPowerFail mv s
  | .railFault d k => Sys2Proof.Machine.execRailFault d k s
  | .resetRelease mv a b => Sys2Proof.Machine.execResetRelease mv a b s
  | .nandTakeover j => Sys2Proof.Machine.execNandTakeover j s
  | .configComplete d train rs => Sys2Proof.Machine.execConfigComplete d train rs s
  | .linkTrainComplete d => Sys2Proof.Machine.execLinkTrainComplete d s
  | .selfTestComplete d r => Sys2Proof.Machine.execSelfTestComplete d r s
  | .supplyWarning mv => Sys2Proof.Machine.execSupplyWarning mv s
  | .supplyWarningClear mv low => Sys2Proof.Machine.execSupplyWarningClear mv low s
  | .inkwellWrite bad => Sys2Proof.Machine.execInkwellWrite bad s
  | .dropRecord d => Sys2Proof.Machine.execDropRecord d s
  | .lifetimeCommit bad => Sys2Proof.Machine.execLifetimeCommit bad s
  | .hello q => Sys2Proof.Machine.execHello q s
  | .regRead hd pl tag => Sys2Proof.Machine.execRegRead hd pl tag s
  | .regWrite hd pl tag => Sys2Proof.Machine.execRegWrite hd pl tag s
  | .memRead hd pl tag => Sys2Proof.Machine.execMemRead hd pl tag s
  | .unitState hd sq pl tag => Sys2Proof.Machine.execUnitState hd sq pl tag s
  | .camRead q p a => Sys2Proof.Machine.execCamRead q p a s
  | .camWrite q p a v => Sys2Proof.Machine.execCamWrite q p a v s
  | .viewRead q stat j off n => Sys2Proof.Machine.execViewRead q stat j off n s
  | .ack q => Sys2Proof.Machine.execAck q s
  | .maintStart q => Sys2Proof.Machine.execMaintStart q s
  | .halt q => Sys2Proof.Machine.execHalt q s
  | .reset q mask => Sys2Proof.Machine.execReset q mask s
  | .stageBegin q len digest => Sys2Proof.Machine.execStageBegin q len digest s
  | .stageChunk q => Sys2Proof.Machine.execStageChunk q s
  | .stageVerify q => Sys2Proof.Machine.execStageVerify q s
  | .stageVerifyDone d rs => Sys2Proof.Machine.execStageVerifyDone d rs s
  | .stageCommit q fits_ => Sys2Proof.Machine.execStageCommit q fits_ s
  | .stageCommitDone d ok => Sys2Proof.Machine.execStageCommitDone d ok s
  | .stageAbort q => Sys2Proof.Machine.execStageAbort q s
  | .attest q => Sys2Proof.Machine.execAttest q s
  | .svnRaise q => Sys2Proof.Machine.execSvnRaise q s
  | .keySet q slot blob => Sys2Proof.Machine.execKeySet q slot blob s
  | .qmpForwardTimeout => Sys2Proof.Machine.execQmpForwardTimeout s
  | .uswDisable d u j => Sys2Proof.Machine.execUswDisable d u j s
  | .uswEnable d u j => Sys2Proof.Machine.execUswEnable d u j s
  | .drainComplete d u j => Sys2Proof.Machine.execDrainComplete d u j s
  | .uswEvtPop d => Sys2Proof.Machine.execUswEvtPop d s
  | .uncertainClear d c => Sys2Proof.Machine.execUncertainClear d c s
  | .inkMsgGo d v => Sys2Proof.Machine.execInkMsgGo d v s
  | .loRegisterRead d a => Sys2Proof.Machine.execLoRegisterRead d a s
  | .registerWrite d a v => Sys2Proof.Machine.execRegisterWrite d a v s
  | .t1LinkChange portB up => Sys2Proof.Machine.execT1LinkChange portB up s
  | .cxpLockAcquire d j on => Sys2Proof.Machine.execCxpLockAcquire d j on s
  | .codewordLock p => Sys2Proof.Machine.execCodewordLock p s
  | .lplusRestore g => Sys2Proof.Machine.execLplusRestore g s
  | .holdUpEnd => Sys2Proof.Machine.execHoldUpEnd s
  | .resetNRelease a b => Sys2Proof.Machine.execResetNRelease a b s
  | .ppsOutEdge => Sys2Proof.Machine.execPpsOutEdge s
  | .reconcileGap d => Sys2Proof.Machine.execReconcileGap d s
  | .bridgeAgeing => Sys2Proof.Machine.execBridgeAgeing s
  | .debugWindowAccess d off wr v bad => Sys2Proof.Machine.execDebugWindowAccess d off wr v bad s
  | .startLateReport addr => Sys2Proof.Machine.execStartLateReport addr s

end Sys2Proof.Machine
end

