-- ==== Sys2Proof/Safety.lean ====
section
/-! DEFINITION. What the statements are said in: which parts of a die a command may change, the frame of a command, and
the invariant that every step keeps. -/

namespace Sys2Proof

open Machine

/-- What a command of the module starts from: both dies, with the wall clock, the shared parts and memory. -/
def Machine.State.whole (s : State) : Whole := ⟨s.now, s.free, s.a.sync s.now, s.b.sync s.now, s.mod, s.mem, []⟩

/-- A die as a command of its own finds it: with the wall clock. -/
def Machine.State.here (s : State) (d : Die) : DieState := (s.dieOf d).sync s.now

/-- The state once the tiles of a die have done all that they do up to its present cycle, as an access of its Quill finds it (DESIGN CHOICE, log entry 14). -/
def Machine.State.caught (s : State) (d : Die) : State := s.onWhole fun w => w.onDM d DM.caughtUp

/-- The parts of a die's state (one for each field of `DieState` but `die`, its name, and `clk`, its copy of the wall clock). -/
inductive DiePart where
  | dev | held | line | rejoin | paired | seq | regs | cap | ink | reqs | items | wire | tar | syn | ctx | ptk | stm
  | cxp | ipp | pos | nib | chk | mem | ptp | net | twl | qll
deriving DecidableEq, Repr

/-- Two states of a die agree in one part. -/
def DiePart.Same (p : DiePart) (x y : DieState) : Prop :=
  match p with
  | .dev => y.dev = x.dev
  | .held => y.held = x.held
  | .line => y.line = x.line
  | .rejoin => y.rejoin = x.rejoin
  | .paired => y.paired = x.paired
  | .seq => y.seq = x.seq
  | .regs => y.regs = x.regs
  | .cap => y.cap = x.cap
  | .ink => y.ink = x.ink
  | .reqs => y.reqs = x.reqs
  | .items => y.items = x.items
  | .wire => y.wire = x.wire
  | .tar => y.tar = x.tar
  | .syn => y.syn = x.syn
  | .ctx => y.ctx = x.ctx
  | .ptk => y.ptk = x.ptk
  | .stm => y.stm = x.stm
  | .cxp => y.cxp = x.cxp
  | .ipp => y.ipp = x.ipp
  | .pos => y.pos = x.pos
  | .nib => y.nib = x.nib
  | .chk => y.chk = x.chk
  | .mem => y.mem = x.mem
  | .ptp => y.ptp = x.ptp
  | .net => y.net = x.net
  | .twl => y.twl = x.twl
  | .qll => y.qll = x.qll

/-- From `x` to `y` a die changes in no part but those of `us`; its name stays. -/
def OnlyIn (us : List DiePart) (x y : DieState) : Prop := y.die = x.die ∧ ∀ p, p ∉ us → p.Same x y

/-- From `x` to `y` no register of a die changes but those at the places `offs`. -/
def RegsOnly (offs : List Nat) (x y : DieState) : Prop := ∀ off, off ∉ offs → y.rd off = x.rd off

/-- The registers that queueing an Inkwell record may change (R442). -/
def inkRegs : List Nat := [rINK_QUEUE, rINK_DROPS, rINK_STATUS]

/-- The registers that a SAFE cause may change, Inkwell's included (R345). -/
def causeRegs : List Nat := [rCHK_SAFE_CAUSE, rCHK_SAFE_FIRST, rCHK_SAFE_STEP_LO, rCHK_SAFE_STEP_LO + 4] ++ inkRegs

/-- The frame of a command of one die that stores nothing: the other die, the module's shared parts, every byte of memory and the
queue are unchanged, time does not go back, and the die changes in no part but those of `us`. -/
structure Frame (d : Die) (us : List DiePart) (s t : State) : Prop where
  other : t.dieOf d.other = s.dieOf d.other
  mod : t.mod = s.mod
  mem : t.mem = s.mem
  pending : t.pending = s.pending
  time : s.now ≤ t.now
  die : OnlyIn us (s.dieOf d) (t.dieOf d)

/-- The frame of a command of one die that stores to memory: as `Frame`, and every byte at an address for which `out` holds is
unchanged. -/
structure FrameMem (d : Die) (us : List DiePart) (out : Nat → Prop) (s t : State) : Prop where
  other : t.dieOf d.other = s.dieOf d.other
  mod : t.mod = s.mod
  mem : ∀ a, out a → memGet t.mem a = memGet s.mem a
  pending : t.pending = s.pending
  time : s.now ≤ t.now
  die : OnlyIn us (s.dieOf d) (t.dieOf d)

/-- The frame of a command of the module that stores nothing: memory and the queue are unchanged, time does not go back, and the dies
change in no part but those of `ua` and `ub`. -/
structure FrameBoth (ua ub : List DiePart) (s t : State) : Prop where
  mem : t.mem = s.mem
  pending : t.pending = s.pending
  time : s.now ≤ t.now
  a : OnlyIn ua s.a t.a
  b : OnlyIn ub s.b t.b

/-- The frame of a command of the module that concerns one die and stores nothing: the other die keeps every part, the shared parts, memory and the
queue are unchanged, time does not go back, and the die changes in no part but those of `us`. -/
structure FrameOf (d : Die) (us : List DiePart) (s t : State) : Prop where
  other : OnlyIn [] (s.dieOf d.other) (t.dieOf d.other)
  mod : t.mod = s.mod
  mem : t.mem = s.mem
  pending : t.pending = s.pending
  time : s.now ≤ t.now
  die : OnlyIn us (s.dieOf d) (t.dieOf d)

/-- As `FrameOf`, for a command that stores to memory: every byte at an address for which `out` holds is unchanged. -/
structure FrameOfMem (d : Die) (us : List DiePart) (out : Nat → Prop) (s t : State) : Prop where
  other : OnlyIn [] (s.dieOf d.other) (t.dieOf d.other)
  mod : t.mod = s.mod
  mem : ∀ a, out a → memGet t.mem a = memGet s.mem a
  pending : t.pending = s.pending
  time : s.now ≤ t.now
  die : OnlyIn us (s.dieOf d) (t.dieOf d)

/-- The active cycle since step 0 in which bundle `b` issues. -/
def Machine.State.cycleOf (s : State) (b : Issue) : Nat := (s.dieOf b.die).seq.step * 20000 + b.cyc.val

/-- An operation of bundle `b` acts in environment `e` (its die, slot and memory once the tile's operations of earlier bundles have come to this cycle): the step
sequencer runs, and either the bundle is the one its tile is issuing in this cycle, or the tile is ready to begin it (R96, R97, R110). -/
def Machine.State.acts (s : State) (b : Issue) (e : TEnv) : Prop :=
  (s.dieOf b.die).stepping = true ∧
    (DM.tenv ⟨(s.here b.die).toCycle b.cyc.val, s.mem, []⟩ b.tile.val (s.cycleOf b)).begin b.hdr.toNat = .ready e

/-- The regions of a tile lie in its 512 KiB of SRAM (R94). -/
abbrev Machine.Regions.inside (r : Regions) : Prop := ∀ q ∈ [r.prog, r.wgt, r.act, r.pst], q.1 + q.2 ≤ 512

/-- An address lies in none of the die's tile SRAM. -/
def Machine.DieState.notSram (d : DieState) (a : Nat) : Prop := a < (Space.sram d.die).base ∨ (Space.sram d.die).base + 2 ^ 40 ≤ a

/-- No tile of the die but `p` changes. -/
def TilesOnly (p : Nat) (x y : DieState) : Prop := ∀ q, q ≠ p → y.slotOf q = x.slotOf q

/-- From `s` to `t` tile `b.tile` takes slot `y` and no other tile changes; the die changes from what the operation found in `e` in no part but those of `us` and
`tar`; the other die, the shared parts and the queue are unchanged. -/
structure SlotChange (b : Issue) (us : List DiePart) (e : TEnv) (s t : State) (y : TileSlot) : Prop where
  slot : (t.dieOf b.die).slotOf b.tile.val = y
  tiles : TilesOnly b.tile.val (s.dieOf b.die) (t.dieOf b.die)
  die : OnlyIn (.tar :: us) e.d (t.dieOf b.die)
  other : t.dieOf b.die.other = s.dieOf b.die.other
  mod : t.mod = s.mod
  pending : t.pending = s.pending
  time : s.now ≤ t.now

/-- As `SlotChange`, and no byte of memory changes. -/
def SlotNext (b : Issue) (us : List DiePart) (e : TEnv) (s t : State) (y : TileSlot) : Prop := SlotChange b us e s t y ∧ t.mem = e.mem

/-- As `SlotChange`, and no byte of memory changes at an address for which `out` holds. -/
def SlotNextMem (b : Issue) (us : List DiePart) (out : Nat → Prop) (e : TEnv) (s t : State) (y : TileSlot) : Prop :=
  SlotChange b us e s t y ∧ ∀ a, out a → memGet t.mem a = memGet e.mem a

/-- From `s` to `t` the bundle that acted in `e` faults: what it did is undone, its tile stops, the fault is counted and its context is to be
reset (R111). -/
def SlotFault (b : Issue) (e : TEnv) (s t : State) : Prop :=
  ((t.dieOf b.die).slotOf b.tile.val).cur = { e.slot.pre with stat := .stopped } ∧ TilesOnly b.tile.val (s.dieOf b.die) (t.dieOf b.die) ∧
  (t.dieOf b.die).rd rTAR_FAULT_COUNT = min 0xFFFFFFFF (e.d.rd rTAR_FAULT_COUNT + 1) ∧ (t.dieOf b.die).flag rTAR_FAULT 31 = true ∧
  e.d.ctxOf b.tile.val ∈ (t.dieOf b.die).ctx.resets ∧ t.mem = memApply e.mem e.slot.undo ∧
  OnlyIn [.tar, .syn, .mem, .ctx, .regs, .ink] e.d (t.dieOf b.die) ∧ t.dieOf b.die.other = s.dieOf b.die.other ∧
  t.mod = s.mod ∧ t.pending = s.pending

/-- A command of the VPU whose fields keep `ok` writes, `lat` cycles after it issues, lane k of VD with `g`, a function of its
fields, k and the lanes k of VD, VA and VB as they stand; where they do not keep `ok`, its bundle faults (R104, R111). -/
def VpuLanes (c : Issue → BitVec 27 → Instr) (ok : BitVec 27 → Bool) (lat : Nat) (g : BitVec 27 → Nat → Nat → Nat → Nat → Nat) : Prop :=
  ∀ (s : State) (b : Issue) (f : BitVec 27) (e : TEnv), s.acts b e →
    (ok f = true → ∃ t, exec (c b f) s = .next t ∧ (
      let w : PendW := ⟨s.cycleOf b + lat, bits 26 22 f.toNat, (List.range 64).map fun k =>
        (k, g f k (e.t.lane (bits 26 22 f.toNat) k) (e.t.lane (bits 21 17 f.toNat) k) (e.t.lane (bits 16 12 f.toNat) k))⟩
      SlotNext b [] e s t { e.slot with cur := { e.slot.cur with pend := insertPend w e.slot.cur.pend } })) ∧
    (ok f = false → ∃ t, exec (c b f) s = .next t ∧ SlotFault b e s t)

/-- A QMP datagram `q` holds the request `r`, which passes every check of R428, R429 and R431: the relay die runs and has a token, the tag is that of the
role's key, the request is no replay, and the die it addresses can be reached, knows the operation, and takes it from this role in its present state. -/
def Machine.State.QmpServed (s : State) (q : List Byte) (r : Req) : Prop :=
  s.whole.relayUp = true ∧ s.whole.hasToken 2 = true ∧ qmpParse q = some r ∧ s.mod.store.tagOk r.role q = true ∧ (r.op = 1 ∨ s.whole.fresh r = true) ∧
  s.whole.reaches r.die = true ∧ qmpKnown r.op = true ∧ r.role ∈ qmpRoles r.op ∧ (s.dieOf r.die).dev.code ∈ qmpStates r.op

/-- The response to `r` with a status and a payload (R428), under the role's key in `st`. -/
def Machine.Req.answer (r : Req) (st : Store) (status : Nat) (payload : List Byte) : Sent :=
  let bs := beBytes 2 1 ++ beBytes 1 r.op ++ beBytes 1 (r.die.num + 2) ++ beBytes 1 r.role ++ beBytes 1 status ++ beBytes 2 payload.length ++ beBytes 8 r.seq ++ payload
  ⟨.qmpResponse, [r.die.num, r.op, r.role, status], bs ++ qmpTag ((st.roleKey r.role).getD []) bs⟩

/-- From `s` to `t` the request `r` is taken: its number is noted for its role, one token is used, the addressed die sends `pre` and the relay die `ans`, and no die changes
in any other part but the addressed one in those of `us`. -/
def QmpNext (s t : State) (r : Req) (us : List DiePart) (pre ans : List Sent) : Prop :=
  let y := s.whole.relay
  (r.op ≠ 1 → tget? (t.dieOf y).qll.qseq r.role = some (r.seq % 2 ^ 32)) ∧ t.mod.sw = { s.mod.sw with buckets := t.mod.sw.buckets } ∧ t.pending = s.pending ∧ s.now ≤ t.now ∧
  ∀ e : Die, (t.dieOf e).wire = (s.dieOf e).wire ++ (if e = r.die then pre else []) ++ (if e = y then ans else []) ∧
    OnlyIn ((if e = y then [.qll, .wire] else []) ++ (if e = r.die then .wire :: us else [])) (s.dieOf e) (t.dieOf e)

/-- As `QmpNext`, where the answer has a status and a payload, no byte of memory changes, and of the shared parts only the switch. -/
def QmpReply (s t : State) (r : Req) (us : List DiePart) (pre : List Sent) (status : Nat) (payload : List Byte) : Prop :=
  QmpNext s t r us pre [r.answer t.mod.store status payload] ∧ t.mem = s.mem ∧ t.mod = { s.mod with sw := t.mod.sw }

/-- The invariant of the machine: memory keeps its canonical form (DESIGN CHOICE, log entry 1), and no die's clock is ahead of the wall clock
(DESIGN CHOICE, log entry 3). -/
def MachineInv (s : State) : Prop := Memory.wf s.mem = true ∧ s.a.clk ≤ s.now ∧ s.b.clk ≤ s.now

end Sys2Proof
end

