-- ==== Sys2Proof/Certificates/Slice0/Obligations.lean ====
section
/-! DEFINITION. The statements for the provers (OBLIGATIONS.json). -/

open Sys2Proof Sys2Proof.Machine

/-- A step with a command at the front of the queue is exec of that command on the state with the rest of the queue. -/
def Obligations.StepTakesTheFrontCommand : Prop :=
  ∀ (s : State) (c : Instr) (r : List Instr), s.pending = c :: r → step s = exec c { s with pending := r }

/-- On an empty queue the block idles. -/
def Obligations.IdleOnEmptyQueue : Prop :=
  ∀ s : State, s.pending = [] → step s = .next s

/-- Every command answers a next state and leaves the queue of waiting commands as it is. -/
def Obligations.EveryCommandCompletes : Prop :=
  ∀ (c : Instr) (s : State), ∃ t, exec c s = .next t ∧ t.pending = s.pending

/-- The invariant holds of the machine after reset. -/
def Obligations.InvariantAtReset : Prop :=
  MachineInv State.reset

/-- Every step keeps the canonical form of memory, and no die's clock ahead of the wall clock. -/
def Obligations.InvariantKeptByEveryStep : Prop :=
  ∀ s t : State, MachineInv s → step s = .next t → MachineInv t ∧ s.now ≤ t.now

/-- After reset both dies are in BOOT and in reset, the registers read their reset values, and nothing is armed, pending or queued. -/
def Obligations.ResetState : Prop :=
  (∀ d : Die, (State.reset.dieOf d).dev = .boot ∧ (State.reset.dieOf d).held = some 0 ∧ (State.reset.dieOf d).seq.on = false ∧
    (State.reset.dieOf d).fld rSYS_STATE 3 0 = DevState.boot.code ∧ (∀ off, (State.reset.dieOf d).rd off = regReset off) ∧
    (State.reset.dieOf d).ptk.parts = [] ∧ (State.reset.dieOf d).chk.pending = false ∧ (State.reset.dieOf d).ink.queue = []) ∧
  State.reset.mod.field.outs = [] ∧ State.reset.mem = [] ∧ State.reset.pending = []

/-- A step boundary begins the next step at cycle 0, after 20,000 active cycles and the freezes of the step that ends. -/
def Obligations.StepBoundaryAdvancesTheStep : Prop :=
  (∀ (s : State) (d : Die) (dupP dupC : Bool) (late : List SampleIn), (s.dieOf d).stepping = true → (s.dieOf d).reqs = [] →
    ∃ t, exec (.stepBoundary d dupP dupC late) s = .next t ∧ t.pending = s.pending ∧
      (t.dieOf d).seq.step = (s.dieOf d).seq.step + 1 ∧ (t.dieOf d).seq.cycle = 0 ∧ (t.dieOf d).seq.frzStep = 0 ∧
      (t.dieOf d).seq.events = ((s.dieOf d).seq.owe 20000).owed.length ∧
      (t.dieOf d).seq.stepAt = (s.dieOf d).seq.stepAt + 20000 + ((s.dieOf d).seq.owe 20000).frzStep) ∧
  (∀ (s : State) (d : Die) (dupP dupC : Bool) (late : List SampleIn), (s.dieOf d).stepping = false →
    ∃ t, exec (.stepBoundary d dupP dupC late) s = .next t ∧ FrameBoth [] [] s t ∧ t.mod = s.mod)

/-- A failing word freezes the core domain for 64 cycles, one in DRAM for 400, and the step's events are counted. -/
def Obligations.ReplayFreezesTheCoreDomain : Prop :=
  (∀ (s : State) (d : Die) (cyc : Fin 20000) (ws : List (Fin 54 × Fate)), (s.dieOf d).stepping = true → (s.dieOf d).paired = false → ws ≠ [] →
    (∀ x ∈ ws, x.2 = .passed) →
    ∃ t, exec (.replayEvent d cyc ws) s = .next t ∧
      (t.dieOf d).seq.frzStep = ((s.dieOf d).seq.owe cyc.val).frzStep + (if ws.any (fun x => decide (34 ≤ x.1.val ∧ x.1.val < 50)) then 400 else 64) ∧
      (t.dieOf d).seq.events = (s.dieOf d).seq.events + 1 ∧ (t.dieOf d).seq.step = (s.dieOf d).seq.step ∧
      (t.dieOf d).seq.stepAt = (s.dieOf d).seq.stepAt ∧ OnlyIn [.seq, .regs, .ink, .mem, .wire] (s.dieOf d) (t.dieOf d)) ∧
  (∀ (s : State) (d : Die) (cyc : Fin 20000) (dram : Bool), (s.dieOf d).stepping = true → (s.dieOf d).paired = true →
    ∃ t, exec (.dieFreezeRequest d cyc dram none) s = .next t ∧
      (cyc.val < 19968 → (t.dieOf d).seq.frzStep = ((s.dieOf d).seq.owe (cyc.val + 32)).frzStep + (if dram then 400 else 64) ∧
        (t.dieOf d).seq.events = (s.dieOf d).seq.events + 1) ∧
      (19968 ≤ cyc.val → (t.dieOf d).seq = { (s.dieOf d).seq with owed := (s.dieOf d).seq.owed ++ [(cyc.val + 32, if dram then 400 else 64)] }) ∧
      Frame d [.seq, .regs, .ink, .mem, .wire] s t) ∧
  (∀ (s : State) (d : Die) (cyc : Fin 20000) (dram : Bool) (own : Option Bool), (s.dieOf d).paired = false →
    ∃ t, exec (.dieFreezeRequest d cyc dram own) s = .next t ∧ Frame d [] s t) ∧
  (∀ (s : State) (d : Die) (cyc : Fin 20000), ∃ t, exec (.replayEvent d cyc []) s = .next t ∧ FrameBoth [] [] s t ∧ t.mod = s.mod)

/-- The fifth freeze event of a step counts FREEZE_EXCESS and sets its flag, the first four do not. -/
def Obligations.FifthFreezeIsExcess : Prop :=
  (∀ (s : State) (d : Die) (cyc : Fin 20000) (dram : Bool), cyc.val < 19968 → (s.dieOf d).stepping = true → (s.dieOf d).paired = true →
    (s.dieOf d).seq.events = 4 → (s.dieOf d).seq.excess = false →
    ∃ t, exec (.dieFreezeRequest d cyc dram none) s = .next t ∧ (t.dieOf d).flag rSYS_DET_STATUS 0 = true ∧ (t.dieOf d).seq.excess = true ∧
      (t.dieOf d).rd rSYS_FREEZE_EXCESS = min 0xFFFFFFFF ((s.dieOf d).rd rSYS_FREEZE_EXCESS + 1) ∧
      RegsOnly ([rSYS_FREEZE_EXCESS, rSYS_DET_STATUS] ++ inkRegs) (s.dieOf d) (t.dieOf d)) ∧
  (∀ (s : State) (d : Die) (cyc : Fin 20000) (dram : Bool), cyc.val < 19968 → (s.dieOf d).stepping = true → (s.dieOf d).paired = true →
    (s.dieOf d).seq.events < 4 →
    ∃ t, exec (.dieFreezeRequest d cyc dram none) s = .next t ∧ (t.dieOf d).regs = (s.dieOf d).regs)

/-- At the release instant a die in ARMED with line running begins step 0 in RUN, with its step counters cleared. -/
def Obligations.StepZeroReleased : Prop :=
  (∀ (s : State) (x : Nat), s.mod.grp.release = some x → s.a.atBarrier = true → s.a.rejoin = false → s.a.reqs = [] → s.b.atBarrier = false →
    ∃ t, exec .startBarrierRelease s = .next t ∧ t.a.dev = .run ∧ t.a.stepping = true ∧ t.a.seq.step = 0 ∧ t.a.seq.cycle = 0 ∧
      t.a.ptk.parts = [] ∧ t.a.nib.events = [] ∧ t.a.syn.ops = [] ∧ t.mod.grp.release = none ∧ t.mod.grp.arrived = false ∧
      t.b.dev = s.b.dev ∧ t.b.seq = s.b.seq) ∧
  (∀ s : State, s.mod.grp.release = none → ∃ t, exec .startBarrierRelease s = .next t ∧ FrameBoth [] [] s t ∧ t.mod = s.mod)

/-- An item of external data arrives in the present step, is discarded if it is later than the step after its tag, and before step 0 if it is no line-state frame. -/
def Obligations.ExternalDataArrives : Prop :=
  ∀ (s : State) (d : Die) (i : Fin 256) (x : Item) (pre post : List Item) (miss : Bool),
    (s.dieOf d).items = pre ++ x :: post → x.arrival = none → x ∉ pre → (pre.filter (fun y => y.arrival.isNone)).length = i.val →
    ((s.a.paired || s.b.paired) = true → x.body.lineState = true →
      (d = .b → ∃ t, exec (.itemArrival d (i, miss)) s = .next t ∧ FrameBoth [] [] s t ∧ t.mod = s.mod) ∧
      (d = .a → s.a.stepping = true → x.tag = none →
        ∃ t, exec (.itemArrival d (i, miss)) s = .next t ∧ t.a.items = pre ++ { x with arrival := some s.a.seq.step } :: post ∧ OnlyIn [.items] s.a t.a ∧
          OnlyIn [.items, .seq, .regs, .ink] s.b t.b ∧ t.mod = s.mod ∧ t.mem = s.mem)) ∧
    ((s.a.paired || s.b.paired) = false ∨ x.body.lineState = false →
    ((s.dieOf d).stepping = true → (∀ g, x.tag = some g → (s.dieOf d).seq.step ≤ g + 1) →
      ∃ t, exec (.itemArrival d (i, miss)) s = .next t ∧ (t.dieOf d).items = pre ++ { x with arrival := some (s.dieOf d).seq.step } :: post ∧
        OnlyIn [.items] (s.dieOf d) (t.dieOf d) ∧ t.mod = s.mod ∧ t.mem = s.mem ∧ (t.dieOf d.other).items = (s.dieOf d.other).items) ∧
    ((s.dieOf d).stepping = true → (∃ g, x.tag = some g ∧ g + 1 < (s.dieOf d).seq.step) →
      ∃ t, exec (.itemArrival d (i, miss)) s = .next t ∧ (t.dieOf d).items = pre ++ post ∧ (t.dieOf d).flag rSYS_DET_STATUS 4 = true ∧
        (t.dieOf d).seq = { (s.dieOf d).seq with misses := (s.dieOf d).seq.misses + 1 } ∧ OnlyIn [.items, .seq, .regs, .ink] (s.dieOf d) (t.dieOf d)) ∧
    ((s.dieOf d).stepping = false → x.body.lineState = false →
      ∃ t, exec (.itemArrival d (i, miss)) s = .next t ∧ (t.dieOf d).items = pre ++ post ∧ OnlyIn [.items] (s.dieOf d) (t.dieOf d)))

/-- The tag of boundary S is admitted in step S + 2; where the other die's copy missed admission its entries are invalid and the miss is flagged. -/
def Obligations.StepTagAdmittedTwoStepsLater : Prop :=
  ∀ (s : State) (d : Die) (miss : Bool) (g : StepTag), (s.dieOf d).stepping = true →
    (s.dieOf d).pos.tags.find? (fun y => y.step + 2 == (s.dieOf d).seq.step) = some g →
    ∃ t u, exec (.stepTagAdmission d miss) s = .next t ∧ (t.dieOf d).pos.last = some u ∧ u.step = g.step ∧ u.time = g.time ∧ u.epoch = g.epoch ∧
      u.lost = g.lost ∧ (miss = true → (t.dieOf d).flag rSYS_DET_STATUS 4 = true ∧ (t.dieOf d).seq.misses = (s.dieOf d).seq.misses + 1) ∧
      (miss = true → ∀ c, (∀ e ∈ g.ents, e.1 ≠ c) → (tget u.ents c default).valid = false) ∧
      OnlyIn [] (s.dieOf d.other) (t.dieOf d.other) ∧ t.mod = s.mod ∧ t.mem = s.mem

/-- A latch pair of step S is admitted from S + 2; the input frames of boundary S are admitted in S + 2, the missing half reading as wire break. -/
def Obligations.LatchPairsAndInputFramesAdmitted : Prop :=
  (∀ (s : State) (d : Die) (k : Fin 8) (l : Latch), (s.dieOf d).stepping = true →
    (s.dieOf d).pos.latches.find? (fun y => y.unit == k.val && decide (y.step + 2 ≤ (s.dieOf d).seq.step)) = some l →
    ∃ t, exec (.latchPairAdmission d k) s = .next t ∧ (t.dieOf d).pos.latches = (s.dieOf d).pos.latches.erase l ∧
      (t.dieOf d).pos.admitted.getLast? = some l ∧ Frame d [.pos] s t) ∧
  (∀ (s : State) (miss : Bool) (st wb : Nat), s.a.stepping = true → s.a.die = .a → st < 65536 → wb < 65536 →
    s.a.nib.frames.find? (fun f => f.1 + 2 == s.a.seq.step) = some (s.a.seq.step - 2, st, wb) → 2 ≤ s.a.seq.step →
    ∃ t, exec (.inputFrameAdmission .a miss) s = .next t ∧ t.a.fld rFIO_IN_STAT 15 0 = st ∧ t.a.fld rFIO_IN_WB 15 0 = wb ∧
      (miss = true → t.a.fld rFIO_IN_STAT 31 16 = 0 ∧ t.a.fld rFIO_IN_WB 31 16 = 0xFFFF ∧ t.a.flag rSYS_DET_STATUS 4 = true) ∧
      OnlyIn [] s.b t.b ∧ t.mod = s.mod ∧ t.mem = s.mem)

/-- The Checker's message crosses as external data, and its verdict on an undecided closed part is taken two steps after it arrived. -/
def Obligations.CheckerMessages : Prop :=
  (∀ (s : State) (d : Die) (part : Bool) (a : BitVec 16) (b v : BitVec 32),
    ((part && (s.dieOf d).ptk.parts.any (fun p => p.lane == a.toNat && p.num == b.toNat && p.tap)) = false →
      ∃ t, exec (.checkerMessage d part a b v) s = .next t ∧
        (t.dieOf d).items = (s.dieOf d).items ++ [⟨none, none, .checker ⟨part, a.toNat, b.toNat, v.toNat⟩⟩] ∧ Frame d [.items] s t) ∧
    ((part && (s.dieOf d).ptk.parts.any (fun p => p.lane == a.toNat && p.num == b.toNat && p.tap)) = true →
      ∃ t, exec (.checkerMessage d part a b v) s = .next t ∧ Frame d [] s t)) ∧
  (∀ (s : State) (d : Die) (pre post : List Item) (m : ChkMsg) (arr : Nat), (s.dieOf d).stepping = true →
    (s.dieOf d).items = pre ++ ⟨none, some arr, .checker m⟩ :: post → (∀ y ∈ pre, ∀ n, y.body ≠ .checker n) → arr + 2 ≤ (s.dieOf d).seq.step →
    m.part = true →
    (∀ p, (s.dieOf d).ptk.parts.find? (fun p => p.lane == m.a && p.num == m.b && p.kind != .tail) = some p →
      (p.noCheck = true → ∃ t, exec (.checkerMessageAdmission d) s = .next t ∧ (t.dieOf d).items = pre ++ post ∧ Frame d [.items] s t) ∧
      (p.noCheck = false → p.final = none → p.outs = [] → p.checker = none → p.closedAt.isSome = true →
      ∃ t, exec (.checkerMessageAdmission d) s = .next t ∧ (t.dieOf d).items = pre ++ post ∧
        (∀ q ∈ (t.dieOf d).ptk.parts, q.seq = p.seq → q.checker = some m.value) ∧ (t.dieOf d).regs = (s.dieOf d).regs ∧ Frame d [.items, .ptk] s t)) ∧
    ((s.dieOf d).ptk.parts.find? (fun p => p.lane == m.a && p.num == m.b && p.kind != .tail) = none →
      ∃ t, exec (.checkerMessageAdmission d) s = .next t ∧ (t.dieOf d).items = pre ++ post ∧
        (t.dieOf d).rd (rCHK_CNT + 20) = min 0xFFFFFFFF ((s.dieOf d).rd (rCHK_CNT + 20) + 1) ∧ Frame d [.items, .regs] s t))

/-- An admitted line leaves the receive buffer, counts once in each lane that reads it, and waits for its Line Slot Table entry. -/
def Obligations.LineAdmission : Prop :=
  (∀ (s : State) (d : Die) (g : Fin 8) (l : FLine), (s.dieOf d).stepping = true →
    (s.dieOf d).cxp.arrived.find? (fun l => l.group == g.val && decide (l.arrival + 2 ≤ (s.dieOf d).seq.step)) = some l → l.k < 2 ^ 64 →
    ∃ t sers, exec (.lineAdmission d g (BitVec.ofNat 64 l.k)) s = .next t ∧
      (t.dieOf d).cxp.arrived = (s.dieOf d).cxp.arrived.filter (fun x => x.group != g.val || x.k != l.k) ∧
      (t.dieOf d).ipp.toServe = (s.dieOf d).ipp.toServe ++ [((s.dieOf d).widen g.val l, sers)] ∧
      ((s.dieOf d).stripeOf g.val = none → (s.dieOf d).widen g.val l = l) ∧ sers.map (·.1) = (s.dieOf d).groupLanes g.val ∧
      Frame d [.cxp, .ipp, .stm, .tar, .ptk, .ctx, .regs, .ink, .qll] s t) ∧
  (∀ (s : State) (d : Die) (g : Fin 8) (k : BitVec 64),
    (∀ l, (s.dieOf d).cxp.arrived.find? (fun l => l.group == g.val && decide (l.arrival + 2 ≤ (s.dieOf d).seq.step)) = some l → l.k ≠ k.toNat) →
    ∃ t, exec (.lineAdmission d g k) s = .next t ∧ Frame d [] s t)

/-- A run of present columns that touches no open part of its lane opens a part with the lane's next number. -/
def Obligations.RunOpensAPart : Prop :=
  ∀ (d : DieState) (n : Nat) (l : Ln) (r : Nat × Nat), d.laneState n = 1 → n < 32 → (∀ p ∈ d.attaching n, p.touches r.1 r.2 = false) → d.descriptors < 8192 →
    (∀ p ∈ d.ptk.parts, p.seq < d.ptk.seq) →
    (∃ p ∈ (d.run n l r).ptk.parts, p.seq = d.ptk.seq ∧ p.lane = n ∧ p.num = d.rd (rPTK_NEXT_PART + 4 * n) ∧ p.first = l.serial ∧ p.last = l.serial ∧
      p.leadPos = l.pos ∧ p.trailPos = l.pos ∧ p.colA = r.1 ∧ p.colB = r.2) ∧
    (d.run n l r).rd (rPTK_NEXT_PART + 4 * n) = (d.rd (rPTK_NEXT_PART + 4 * n) + 1) % 2 ^ 32 ∧
    (d.run n l r).rd rPTK_CNT = min 0xFFFFFFFF (d.rd rPTK_CNT + 1)

/-- Closing parts close at the end of the step; a queue entry that waited more than 4 steps becomes an UNADMITTED ghost. -/
def Obligations.PartsCloseAndBecomeUnadmitted : Prop :=
  (∀ (s : State) (d : Die), (s.dieOf d).stepping = true →
    ∃ t, exec (.partClose d) s = .next t ∧
      (∀ p ∈ (s.dieOf d).ptk.parts, p.isOpen = true → p.closing = true → ∃ q ∈ (t.dieOf d).ptk.parts, q.seq = p.seq ∧ q.isOpen = false ∧
        q.closing = false ∧ q.closedAt = some (s.dieOf d).seq.step) ∧
      Frame d [.seq, .ptk, .nib, .regs, .ink, .wire] s t) ∧
  (∀ (s : State) (d : Die), (s.dieOf d).stepping = true →
    ∃ t, exec (.unadmitted d) s = .next t ∧
      (∀ p ∈ (s.dieOf d).ptk.parts, p.seq ∈ (s.dieOf d).ptk.queue → p.queued + 4 < (s.dieOf d).seq.step →
        p.seq ∉ (t.dieOf d).ptk.queue ∧ ∃ q ∈ (t.dieOf d).ptk.parts, q.seq = p.seq ∧ q.kind = .ghost ∧ 4 ∈ q.outs) ∧
      (∀ q ∈ (s.dieOf d).ptk.queue, (∀ p ∈ (s.dieOf d).ptk.parts, p.seq = q → (s.dieOf d).seq.step ≤ p.queued + 4) → q ∈ (t.dieOf d).ptk.queue) ∧
      Frame d [.ptk, .regs, .ink] s t) ∧
  (∀ (s : State) (d : Die), (s.dieOf d).stepping = false →
    (∃ t, exec (.partClose d) s = .next t ∧ Frame d [] s t) ∧ (∃ t, exec (.unadmitted d) s = .next t ∧ Frame d [] s t))

/-- A retiring part takes the final head's verdict as its primary one; at most 16 parts retire in a step. -/
def Obligations.RetirementAndVerdicts : Prop :=
  (∀ (s : State) (d : Die) (cls : Option (Fin 64)) (conf : BitVec 15) (feat : List (BitVec 8)) (p : Part) (r : List Part), (s.dieOf d).stepping = true →
    (s.dieOf d).ptk.retiredNow < 16 → (s.dieOf d).readyParts false = p :: r → (∀ q ∈ (s.dieOf d).ptk.parts, q.seq = p.seq → q.outs = []) →
    ∃ t, exec (.partRetire d cls (conf, feat)) s = .next t ∧
      (∀ q ∈ (t.dieOf d).ptk.parts, q.seq = p.seq → q.retired = some (s.dieOf d).seq.step ∧ q.primary = some (cls.map (·.val)) ∧ q.conf = conf.toNat ∧ q.feat = feat) ∧
      (t.dieOf d).ptk.retiredNow = (s.dieOf d).ptk.retiredNow + 1 ∧
      (t.dieOf d).rd (rPTK_CNT + 4) = min 0xFFFFFFFF ((s.dieOf d).rd (rPTK_CNT + 4) + 1) ∧
      RegsOnly [rPTK_CNT + 4] (s.dieOf d) (t.dieOf d) ∧ Frame d [.ptk, .regs] s t) ∧
  (∀ (s : State) (d : Die) (cls : Option (Fin 64)) (conf : BitVec 15) (feat : List (BitVec 8)), 16 ≤ (s.dieOf d).ptk.retiredNow →
    ∃ t, exec (.partRetire d cls (conf, feat)) s = .next t ∧ Frame d [] s t) ∧
  (∀ (s : State) (d : Die) (cls : Option (Fin 64)) (conf : BitVec 15) (feat : List (BitVec 8)) (p : Part) (b : Nat), (s.dieOf d).stepping = true →
    (s.dieOf d).ptk.parts = [p] → p.retired = none → p.batchAt = some b → b + ((s.dieOf d).lane p.lane).asmLatency ≤ (s.dieOf d).seq.step → p.outs = [] →
    ∃ t, exec (.assembledVerdict d cls (conf, feat)) s = .next t ∧
      (t.dieOf d).ptk.parts = [{ p with retired := some (s.dieOf d).seq.step, leaving := true, primary := some (cls.map (·.val)), conf := conf.toNat, feat := feat }] ∧
      Frame d [.ptk, .regs] s t)

/-- The Comparator passes or rejects a part on which the Checker agrees; otherwise the verdict is DISAGREE, flagged and counted; a pass gives its feature vector. -/
def Obligations.ComparatorDecidesParts : Prop :=
  ∀ (s : State) (d : Die) (full : Bool) (p : Part), (s.dieOf d).dev = .run → (s.dieOf d).dueParts = [p] → p.outs = [] →
    ∃ t, exec (.comparatorDecide d full []) s = .next t ∧ FrameMem d [.ptk, .nib, .net, .chk, .regs, .ink, .wire] (fun x => full = false → p.primary.getD none = none → ∀ r, (s.dieOf d).ptk.ring = some r →
        ∀ c ∈ (s.dieOf d).dramStore (r.1 + (s.dieOf d).ptk.ringW % max 1 r.2.1 * r.2.2) (List.replicate r.2.2 0), c.1 ≠ x) s t ∧
      (t.dieOf d).rd rCHK_CNT = min 0xFFFFFFFF ((s.dieOf d).rd rCHK_CNT + 1) ∧
      (p.noCheck = false → p.checker = some ((s.dieOf d).expects (p.primary.getD none)) →
        (∀ q ∈ (t.dieOf d).ptk.parts, q.seq = p.seq → q.final = some (if (p.primary.getD none).isNone then 0 else 1)) ∧
        (p.primary.getD none = none → p.kind ≠ .tail →
          (full = true → (t.dieOf d).rd (rPTK_CNT + 28) = min 0xFFFFFFFF ((s.dieOf d).rd (rPTK_CNT + 28) + 1) ∧ t.mem = s.mem) ∧
          (full = false → (s.dieOf d).ptk.ring.isSome = true → (t.dieOf d).ptk.ringW = (s.dieOf d).ptk.ringW + 1))) ∧
      (p.noCheck = true ∨ p.checker ≠ some ((s.dieOf d).expects (p.primary.getD none)) →
        t.mem = s.mem ∧ (∀ q ∈ (t.dieOf d).ptk.parts, q.seq = p.seq → q.final = some 2) ∧ (t.dieOf d).flag rCHK_STATUS 0 = true ∧
        (t.dieOf d).rd (rCHK_CNT + 4) = min 0xFFFFFFFF ((s.dieOf d).rd (rCHK_CNT + 4) + 1)) ∧
      (p.noCheck = true ∨ p.checker = none → (t.dieOf d).flag rCHK_STATUS 1 = true ∧ (t.dieOf d).flag rSYS_DET_STATUS 5 = true)

/-- A halo row of the right column count is held for its own line; one of another count, or one unmatched for 8 steps, is discarded and counted. -/
def Obligations.HaloRows : Prop :=
  (∀ (s : State) (d : Die) (pre post : List Item) (n : Nat) (left : Bool) (pos : Int) (cols arr : Nat) (data : List Byte), (s.dieOf d).stepping = true → n < 32 →
    (s.dieOf d).items = pre ++ ⟨none, some arr, .halo n left pos cols data⟩ :: post → (∀ y ∈ pre, ∀ n l p c b, y.body ≠ .halo n l p c b) →
    arr + 2 ≤ (s.dieOf d).seq.step → ((s.dieOf d).lane n).striped = true →
    (cols = (if left then ((s.dieOf d).lane n).haloL else ((s.dieOf d).lane n).haloR) →
      (((s.dieOf d).laneDyn n).halos.filter (fun h => h.left == left)).length < 16 →
      ∃ t, exec (.haloAdmission d) s = .next t ∧ (t.dieOf d).items = pre ++ post ∧
        ((t.dieOf d).laneDyn n).halos = ((s.dieOf d).laneDyn n).halos ++ [⟨left, pos, (s.dieOf d).seq.step, data⟩] ∧
        (t.dieOf d).regs = (s.dieOf d).regs ∧ Frame d [.items, .ptk] s t) ∧
    (cols ≠ (if left then ((s.dieOf d).lane n).haloL else ((s.dieOf d).lane n).haloR) →
      ∃ t, exec (.haloAdmission d) s = .next t ∧ (t.dieOf d).items = pre ++ post ∧ (t.dieOf d).flag rSTM_STRIPE_STATUS 2 = true ∧
        (t.dieOf d).fld (rSTM_STRIPE_MISS + 4 * n) 31 16 = min 65535 ((s.dieOf d).fld (rSTM_STRIPE_MISS + 4 * n) 31 16 + 1) ∧
        (t.dieOf d).ptk = (s.dieOf d).ptk ∧ Frame d [.items, .regs, .ink] s t)) ∧
  (∀ (s : State) (d : Die) (n : Fin 32) (left : Bool) (h : Halo),
    ((s.dieOf d).laneDyn n.val).halos.find? (fun h => h.left == left && decide (h.step + 8 ≤ (s.dieOf d).seq.step)) = some h →
    ∃ t, exec (.haloUnmatched d n left) s = .next t ∧
      ((t.dieOf d).laneDyn n.val).halos = ((s.dieOf d).laneDyn n.val).halos.filter (fun y => y ≠ h) ∧ (t.dieOf d).flag rSTM_STRIPE_STATUS 1 = true ∧
      (t.dieOf d).fld (rSTM_STRIPE_MISS + 4 * n.val) 31 16 = min 65535 ((s.dieOf d).fld (rSTM_STRIPE_MISS + 4 * n.val) 31 16 + 1) ∧
      Frame d [.ptk, .regs, .ink] s t)

/-- An event is committed and evaluated on its final verdict, armed, and executed on its output at its fire position. -/
def Obligations.NibCommitsArmsAndExecutes : Prop :=
  (∀ (s : State) (d : Die) (full : Bool) (e : NibEvent) (g : StepTag) (v cls : Nat), (s.dieOf d).dev = .run → (s.dieOf d).pos.last = some g →
    g.step + 2 = (s.dieOf d).seq.step → (s.dieOf d).nib.events = [e] → e.state = .pending → e.final = some (v, cls) → v ≠ 3 →
    ((s.dieOf d).rule e.rule).remote = false →
    let x : TagEnt := tget g.ents ((s.dieOf d).laneChan e.lane) default
    let lead : Int := (((s.dieOf d).rule e.rule).lead * max x.v 0).fdiv 5120
    let margin : Int := (((s.dieOf d).rule e.rule).margin * max x.v 0).fdiv 5120
    x.valid = true → e.t256 - lead - margin ≤ 256 * x.count + x.sub →
    ∃ t, exec (.nibCommitEvaluate d full) s = .next t ∧ Frame d [.nib, .regs] s t ∧
      ((s.dieOf d).fires ((s.dieOf d).rule e.rule) e.lane v cls = true → (t.dieOf d).nib.events = [{ e with state := .fire, f256 := e.t256 - lead }]) ∧
      ((s.dieOf d).fires ((s.dieOf d).rule e.rule) e.lane v cls = false → (t.dieOf d).nib.events = [] ∧
        (t.dieOf d).rd (rNIB_CNT + 8) = min 0xFFFFFFFF ((s.dieOf d).rd (rNIB_CNT + 8) + 1))) ∧
  (∀ (s : State) (d : Die) (lane : Fin 32) (part : BitVec 32) (rule : Fin 256) (n : BitVec 64) (e : NibEvent),
    (s.dieOf d).event? lane.val part.toNat rule.val = some e → e.state = .fire → (s.here d).p256 ((s.dieOf d).laneChan lane.val) n.toNat < e.f256 →
    ∃ t, exec (.actionArm d lane part rule n) s = .next t ∧ Frame d [.nib] s t ∧
      (∀ y ∈ (t.dieOf d).nib.events, y.pseq = e.pseq → y.rule = e.rule → y.state = .armed)) ∧
  (∀ (s : State) (d : Die) (lane : Fin 32) (part : BitVec 32) (rule : Fin 256) (n : BitVec 64) (e : NibEvent),
    (s.dieOf d).event? lane.val part.toNat rule.val = some e → (s.here d).ripe e n.toNat = true → s.whole.owner ((s.dieOf d).rule rule.val).target = d →
    s.mod.field.out ((s.dieOf d).rule rule.val).target = default →
    ∃ t, exec (.actionExecute d lane part rule n) s = .next t ∧
      (∀ y ∈ (t.dieOf d).nib.events, ¬(y.pseq = e.pseq ∧ y.rule = e.rule)) ∧
      (t.dieOf d).rd (rNIB_CNT + 4) = min 0xFFFFFFFF ((s.dieOf d).rd (rNIB_CNT + 4) + 1) ∧
      (t.mod.field.out ((s.dieOf d).rule rule.val).target).level = decide (((s.dieOf d).rule rule.val).action ≠ 1) ∧
      (((s.dieOf d).rule rule.val).action = 2 → (t.mod.field.out ((s.dieOf d).rule rule.val).target).pend =
        some ((s.here d).sampleAt n.toNat + 1000 * ((s.dieOf d).rule rule.val).width)) ∧
      t.mem = s.mem ∧ { t.mod with field := s.mod.field } = s.mod)

/-- A pulse end switches its output off; a held edge switches it on at its instant; an output on for PULLIN_MS chops. -/
def Obligations.OutputsFollowTheirPulses : Prop :=
  (∀ (s : State) (n : Fin 64) (e : Nat), (s.mod.field.out n.val).pend = some e →
    ∃ t, exec (.pulseEnd n) s = .next t ∧ (t.mod.field.out n.val).level = false ∧ (t.mod.field.out n.val).pend = none ∧ e ≤ t.now ∧
      (∀ k, k ≠ n.val → t.mod.field.out k = s.mod.field.out k) ∧ { t.mod with field := s.mod.field } = s.mod ∧ FrameBoth [] [] s t) ∧
  (∀ (s : State) (n : Fin 64) (e : Nat) (a : OutAct), (s.mod.field.out n.val).delayed = some (e, [a]) → (a.1 = 0 ∨ a.1 = 2) →
    ∃ t, exec (.delayedEdge n) s = .next t ∧ (t.mod.field.out n.val).level = true ∧ (t.mod.field.out n.val).rise = some e ∧
      (t.mod.field.out n.val).delayed = none ∧ (t.mod.field.out n.val).pend = (if a.1 = 0 then none else some (e + 1000 * a.2)) ∧
      (∀ k, k ≠ n.val → t.mod.field.out k = s.mod.field.out k) ∧ { t.mod with field := s.mod.field } = s.mod ∧ FrameBoth [.regs, .ink] [.regs, .ink] s t) ∧
  (∀ (s : State) (n : Fin 64) (r : Nat), (s.mod.field.out n.val).level = true → (s.mod.field.out n.val).rise = some r →
    (∀ e, (s.mod.field.out n.val).pend = some e → r + 1000000 * (s.dieOf (s.whole.owner n.val)).fld (rFIO_OUT_CFG + 4 * n.val) 31 24 ≤ e) →
    4 ≤ (s.dieOf (s.whole.owner n.val)).fld (rFIO_OUT_CFG + 4 * n.val) 15 12 →
    ∃ t, exec (.holdPwmStart n) s = .next t ∧ t.mod.field.out n.val = { s.mod.field.out n.val with chop := true } ∧
      r + 1000000 * (s.dieOf (s.whole.owner n.val)).fld (rFIO_OUT_CFG + 4 * n.val) 31 24 ≤ t.now ∧
      (∀ k, k ≠ n.val → t.mod.field.out k = s.mod.field.out k) ∧ { t.mod with field := s.mod.field } = s.mod ∧ FrameBoth [] [] s t)

/-- A silent command port, an unanswered RELEASE and a takeover: the outputs go to their SAFE_ACTION or to die B. -/
def Obligations.CommandPortsAndTakeover : Prop :=
  (∀ (s : State) (d : Die), ∃ t, exec (.fioLinkFrame d) s = .next t ∧ t.mod.field.outs = s.mod.field.outs ∧ FrameBoth [] [] s t ∧
    (match d with | .a => t.mod.field.lastA = s.now ∧ t.mod.field.deadA = false | .b => t.mod.field.lastB = s.now ∧ t.mod.field.deadB = false)) ∧
  (∀ (s : State) (d : Die), (match d with | .a => s.mod.field.deadA | .b => s.mod.field.deadB) = false → s.whole.ownsAny d = true →
    ∃ t, exec (.fioWatchdog d) s = .next t ∧ (match d with | .a => t.mod.field.deadA | .b => t.mod.field.deadB) = true ∧
      (t.dieOf d).safeOk = false ∧ t.a.flag rNIB_STATUS 6 = true ∧ t.b.flag rNIB_STATUS 6 = true ∧
      (match d with | .a => s.mod.field.lastA | .b => s.mod.field.lastB) + 100000 ≤ t.now ∧
      (∀ n, n < 64 → s.whole.owner n = d → s.whole.safeAction n = 2 → (t.mod.field.out n).level = false) ∧
      (∀ n, n < 64 → s.whole.owner n = d → s.whole.safeAction n = 1 → (t.mod.field.out n).level = true) ∧
      FrameBoth [.chk, .regs, .ink] [.chk, .regs, .ink] s t) ∧
  (∀ (s : State) (r : Nat), s.mod.field.release = some r →
    ∃ t, exec .releaseTimeout s = .next t ∧ t.mod.field.release = none ∧ r + 100000 ≤ t.now ∧
      (∀ n, n < 64 → s.whole.owner n = .a → s.whole.safeAction n = 2 → (t.mod.field.out n).level = false) ∧
      (∀ n, n < 64 → s.whole.owner n = .a → s.whole.safeAction n = 1 → (t.mod.field.out n).level = true) ∧ FrameBoth [] [] s t) ∧
  (∀ s : State, s.whole.paired = true → s.mod.field.taken = false → s.b.fld rTWL_PEER 1 0 = 2 →
    (s.mod.field.relSent = true ∨ s.a.safeOk = false ∨ s.mod.field.lastA + 4000 ≤ s.now) →
    ∃ t, exec .takeoverCommand s = .next t ∧ (s.b.dev ≠ .safe → ∀ n, n < 64 → t.mod.field.out n = (s.mod.field.survivor s.now n).out) ∧
      (s.b.dev = .safe → ∀ n, n < 64 → (s.b.fld (rNIB_OUT_CFG + 4 * n) 3 2 = 2 → (t.mod.field.out n).level = false) ∧
        (s.b.fld (rNIB_OUT_CFG + 4 * n) 3 2 = 1 → (t.mod.field.out n).level = true)) ∧ t.mod.field.taken = true ∧ t.mod.field.release = none ∧
      t.a.flag rNIB_STATUS 7 = true ∧ t.b.flag rNIB_STATUS 7 = true ∧ t.b.flag rTWL_STATUS 12 = true ∧ t.b.cxp.driving = true ∧ t.a.cxp.driving = false ∧
      (∀ n, t.whole.owner n = .b) ∧ FrameBoth [.regs, .ink, .cxp] [.regs, .ink, .cxp] s t) ∧
  (∀ s : State, (s.mod.field.taken = true ∨ s.mod.field.relSent = false ∧ s.a.safeOk = true ∧ s.now < s.mod.field.lastA + 4000) → ∃ t, exec .takeoverCommand s = .next t ∧ t.mod = s.mod ∧ FrameBoth [] [] s t)

/-- Open load, mismatch, current limit, thermal shutdown and a low supply are flagged on both dies. -/
def Obligations.OutputDiagnostics : Prop :=
  (∀ (s : State) (n : Fin 64), (s.mod.field.out n.val).level = false → (s.dieOf (s.whole.owner n.val)).flag (rFIO_OUT_CFG + 4 * n.val) 0 = true →
    ∃ t, exec (.openLoad n) s = .next t ∧ t.a.flag (outStat n.val) 4 = true ∧ t.b.flag (outStat n.val) 4 = true ∧ t.mod = s.mod ∧
      RegsOnly (outStat n.val :: inkRegs) s.a t.a ∧ FrameBoth [.regs, .ink] [.regs, .ink] s t) ∧
  (∀ (s : State) (n : Fin 64), (s.mod.field.out n.val).level = true →
    ∃ t, exec (.currentLimit n) s = .next t ∧ t.a.flag (outStat n.val) 2 = true ∧ t.b.flag (outStat n.val) 2 = true ∧ t.mod = s.mod ∧
      FrameBoth [.regs, .ink] [.regs, .ink] s t) ∧
  (∀ (s : State) (n : Fin 64) (pad : Bool), (s.mod.field.out n.val).shut = false → pad ≠ (s.mod.field.out n.val).level →
    ∃ t, exec (.mismatch n pad) s = .next t ∧ t.a.flag (outStat n.val) 6 = true ∧ t.b.flag (outStat n.val) 6 = true ∧
      (t.mod.field.out n.val).pad = pad ∧ { t.mod with field := s.mod.field } = s.mod ∧ FrameBoth [.regs, .ink] [.regs, .ink] s t) ∧
  (∀ (s : State) (n : Fin 64), ∃ t, exec (.mismatch n (s.mod.field.out n.val).level) s = .next t ∧ (t.mod.field.out n.val).stuck = none ∧
      FrameBoth [] [] s t) ∧
  (∀ (s : State) (n : Fin 64), (s.mod.field.out n.val).shut = false →
    ∃ t, exec (.thermalShutdownOutput n false) s = .next t ∧ t.a.flag (outStat n.val) 3 = true ∧ t.b.flag (outStat n.val) 3 = true ∧
      (t.mod.field.out n.val).shut = true ∧ { t.mod with field := s.mod.field } = s.mod ∧ FrameBoth [.regs, .ink] [.regs, .ink] s t) ∧
  (∀ (s : State) (n : Fin 64), (s.mod.field.out n.val).shut = true → (s.dieOf (s.whole.owner n.val)).fld (rFIO_OUT_CFG + 4 * n.val) 23 16 = 0 →
    ∃ t, exec (.thermalShutdownOutput n true) s = .next t ∧ (t.mod.field.out n.val).shut = false ∧
      (∀ d : Die, (t.dieOf d).fld (outStat n.val) 31 24 = min 255 ((s.dieOf d).fld (outStat n.val) 31 24 + 1)) ∧
      { t.mod with field := s.mod.field } = s.mod ∧ FrameBoth [.regs, .ink] [.regs, .ink] s t) ∧
  (∀ (s : State) (g : Fin 8), ∃ t, exec (.lplusLow g) s = .next t ∧
      (∀ d : Die, (t.dieOf d).flag rFIO_LPLUS g.val = true ∧ (t.dieOf d).flag rFIO_LPLUS (8 + g.val) = true) ∧ t.mod = s.mod ∧
      FrameBoth [.regs, .ink] [.regs, .ink] s t) ∧
  (∀ (s : State) (g : Fin 8), ∃ t, exec (.lplusRestore g) s = .next t ∧ (∀ d : Die, (t.dieOf d).flag rFIO_LPLUS g.val = false) ∧ t.mod = s.mod ∧
      FrameBoth [.regs] [.regs] s t)

/-- A 24 V input takes its new state after its debounce; a wire break counts only where it is enabled and reads as off. -/
def Obligations.InputsAreDebounced : Prop :=
  (∀ (s : State) (i : Fin 32) (v wb : Bool), (s.dieOf (inputDie i.val)).flag (rFIO_IN_CFG + 4 * i.val) 31 = false →
    ∃ t, exec (.inputChange i v wb) s = .next t ∧
      (tget t.mod.field.ins i.val default).wb = (wb && (s.dieOf (inputDie i.val)).flag (rFIO_IN_CFG + 4 * i.val) 30) ∧
      (tget t.mod.field.ins i.val default).level = (v && !(wb && (s.dieOf (inputDie i.val)).flag (rFIO_IN_CFG + 4 * i.val) 30)) ∧
      (∀ k, k ≠ i.val → tget t.mod.field.ins k default = tget s.mod.field.ins k default) ∧ t.mod.field.outs = s.mod.field.outs ∧ t.mem = s.mem) ∧
  (∀ (s : State) (i : Fin 32) (v wb : Bool), (s.dieOf (inputDie i.val)).flag (rFIO_IN_CFG + 4 * i.val) 31 = true →
    ∃ t, exec (.inputChange i v wb) s = .next t ∧ t.mod = s.mod ∧ FrameBoth [] [] s t) ∧
  (∀ (s : State) (i : Fin 32) (v : Bool), (s.dieOf (inputDie i.val)).flag (rFIO_IN_CFG + 4 * i.val) 31 = true →
    (tget s.mod.field.ins i.val default).seen = v → (tget s.mod.field.ins i.val default).seenWb = false →
    (max 2 ((s.dieOf (inputDie i.val)).fld (rFIO_IN_CFG + 4 * i.val) 15 0) ≤ (tget s.mod.field.ins i.val default).wins + 1 →
      ∃ t, exec (.inputPulseWindow i (some (v, false))) s = .next t ∧ (tget t.mod.field.ins i.val default).level = v ∧
        (tget t.mod.field.ins i.val default).wb = false) ∧
    ((tget s.mod.field.ins i.val default).wins + 1 < max 2 ((s.dieOf (inputDie i.val)).fld (rFIO_IN_CFG + 4 * i.val) 15 0) →
      ∃ t, exec (.inputPulseWindow i (some (v, false))) s = .next t ∧
        tget t.mod.field.ins i.val default = { tget s.mod.field.ins i.val default with wins := (tget s.mod.field.ins i.val default).wins + 1 } ∧
        FrameBoth [] [] s t))

/-- An accepted edge counts one forward or back, held at the soft limits; an edge in both signals at once is a quadrature error. -/
def Obligations.EncoderEdgesCount : Prop :=
  (∀ (s : State) (d : Die) (c : Fin 8) (n : BitVec 64) (a b : Bool), (s.dieOf d).samples c.val = true → (s.dieOf d).chMode c.val = 1 →
    let x := s.dieOf d
    let ra := filterStep (x.holdOff c.val) n.toNat a (x.chan c.val).fa
    let rb := filterStep (x.holdOff c.val) n.toNat b (x.chan c.val).fb
    let m := x.fld (rPOS_CFG + 4 * c.val) 4 3
    (x.counts c.val = true → (m ≠ 0 ∨ rb.1.level = false) → ra.2.1 = true → rb.2.1 = false →
      ∃ t, exec (.encoderEdge d c n a b) s = .next t ∧ ((t.dieOf d).chan c.val).count =
        clampZ (x.limitLo c.val) (x.limitHi c.val) ((x.chan c.val).count +
          (if (ra.1.level != rb.1.level) != x.flag (rPOS_CFG + 4 * c.val) 7 then 1 else -1))) ∧
    ((x.counts c.val = false ∨ ra.2.1 = false ∧ (rb.2.1 = false ∨ m ≠ 2) ∨ ra.2.1 = true ∧ m = 0 ∧ rb.1.level = true) → (ra.2.1 = false ∨ rb.2.1 = false) →
      ∃ t, exec (.encoderEdge d c n a b) s = .next t ∧ ((t.dieOf d).chan c.val).count = (x.chan c.val).count ∧ Frame d [.pos, .regs, .ink] s t) ∧
    (x.counts c.val = true → m = 2 → ra.2.1 = false → rb.2.1 = true →
      ∃ t, exec (.encoderEdge d c n a b) s = .next t ∧ ((t.dieOf d).chan c.val).count =
        clampZ (x.limitLo c.val) (x.limitHi c.val) ((x.chan c.val).count +
          (if (ra.1.level == rb.1.level) != x.flag (rPOS_CFG + 4 * c.val) 7 then 1 else -1))) ∧
    (ra.2.1 = true → rb.2.1 = true →
      ∃ t, exec (.encoderEdge d c n a b) s = .next t ∧ ((t.dieOf d).chan c.val).count = (x.chan c.val).count ∧
        (t.dieOf d).flag (posStat c.val) 17 = true ∧ (t.dieOf d).flag (posStat c.val) 9 = true ∧
        Frame d [.pos, .regs, .ink, .qll, .reqs] s t)) ∧
  (∀ (s : State) (d : Die) (c : Fin 8) (n : BitVec 64) (a b : Bool), (s.dieOf d).samples c.val = true → (s.dieOf d).chMode c.val = 2 →
    let x := s.dieOf d
    let rising := (filterStep (x.holdOff c.val) n.toNat a (x.chan c.val).fa).2.1 = true ∧ a = true
    ∃ t, exec (.pulseDirEdge d c n a b) s = .next t ∧ (t.dieOf d).flag (posStat c.val) 17 = x.flag (posStat c.val) 17 ∧
      (rising → x.counts c.val = true → ((t.dieOf d).chan c.val).count = clampZ (x.limitLo c.val) (x.limitHi c.val) ((x.chan c.val).count +
        (if (filterStep (x.holdOff c.val) n.toNat b (x.chan c.val).fb).1.level != x.flag (rPOS_CFG + 4 * c.val) 7 then 1 else -1))) ∧
      (¬rising → ((t.dieOf d).chan c.val).count = (x.chan c.val).count)) ∧
  (∀ (s : State) (d : Die) (c : Fin 8) (n : BitVec 64) (a b : Bool), (s.dieOf d).samples c.val = false →
    (∃ t, exec (.encoderEdge d c n a b) s = .next t ∧ Frame d [] s t) ∧ (∃ t, exec (.pulseDirEdge d c n a b) s = .next t ∧ Frame d [] s t))

/-- An accepted index latches the count; a distance from the last index that is off by more than the tolerance is a drift error. -/
def Obligations.IndexLatchesAndChecksDrift : Prop :=
  ∀ (s : State) (d : Die) (c : Fin 8) (n : BitVec 64), (s.dieOf d).samples c.val = true → (s.dieOf d).chMode c.val = 1 →
    (s.dieOf d).flag (rPOS_CFG + 4 * c.val) 8 = false →
    (filterStep ((s.dieOf d).holdOff c.val) n.toNat true ((s.dieOf d).chan c.val).fz).2.1 = true →
    let x := s.dieOf d
    let ch := x.chan c.val
    let cpr : Int := x.fld (rPOS_IDX + 4 * c.val) 23 0
    let tol : Int := x.fld (rPOS_IDX + 4 * c.val) 31 24
    let delta : Int := ((ch.count - ch.latch).natAbs : Int)
    ∃ t, exec (.indexEvent d c n true) s = .next t ∧ ((t.dieOf d).chan c.val).latched = true ∧ ((t.dieOf d).chan c.val).latch = ch.count ∧
      ((t.dieOf d).chan c.val).count = ch.count ∧ (-2 ^ 63 ≤ ch.count → ch.count < 2 ^ 63 → (t.dieOf d).rdS64 (rPOS_INDEX_LATCH_LO + 8 * c.val) = ch.count) ∧
      (ch.latched = false → (t.dieOf d).flag (posStat c.val) 18 = x.flag (posStat c.val) 18) ∧
      (ch.latched = true → cpr ≠ 0 → ((delta - cpr).natAbs : Int) ≤ tol → (t.dieOf d).flag (posStat c.val) 9 = false) ∧
      (ch.latched = true → cpr ≠ 0 → tol < ((delta - cpr).natAbs : Int) → tol < delta →
        (t.dieOf d).flag (posStat c.val) 18 = true ∧ (t.dieOf d).flag (posStat c.val) 9 = true)

/-- An SSI frame starts on an idle line, is discarded as SSI_ERROR on a wrong parity, and sets or moves the counter where it is good. -/
def Obligations.SsiFrames : Prop :=
  (∀ (s : State) (d : Die) (c : Fin 8) (n : BitVec 64), (s.dieOf d).samples c.val = true → (s.dieOf d).chMode c.val = 3 →
    (∃ t, exec (.ssiFrameStart d c n true) s = .next t ∧ ((t.dieOf d).chan c.val).start = some n.toNat ∧ (t.dieOf d).regs = (s.dieOf d).regs ∧
      Frame d [.pos, .wire] s t) ∧
    (∃ t, exec (.ssiFrameStart d c n false) s = .next t ∧ ((t.dieOf d).chan c.val).start = none ∧ (t.dieOf d).flag (posStat c.val) 19 = true ∧
      ((t.dieOf d).chan c.val).count = ((s.dieOf d).chan c.val).count ∧
      Frame d [.pos, .wire, .regs, .ink] s t)) ∧
  (∀ (s : State) (d : Die) (c : Fin 8) (n : BitVec 64) (data : BitVec 48) (par : Bool) (f : Nat), (s.dieOf d).samples c.val = true →
    (s.dieOf d).chMode c.val = 3 → ((s.dieOf d).chan c.val).start = some f →
    let x := s.dieOf d
    let r := rPOS_SSI + 4 * c.val
    let k := x.fld r 16 11
    let w := data.toNat % 2 ^ k
    let odd := (ones k w + b2n par) % 2
    let bad := (x.fld r 19 18 = 1 ∧ odd = 1) ∨ (x.fld r 19 18 = 2 ∧ odd = 0)
    let u := if x.flag r 17 then grayDecode k w else w
    let sgn : Int := if x.flag (rPOS_CFG + 4 * c.val) 7 then -1 else 1
    (bad → ∃ t, exec (.ssiFrame d c n data par) s = .next t ∧ (t.dieOf d).flag (posStat c.val) 19 = true ∧
      ((t.dieOf d).chan c.val).count = (x.chan c.val).count ∧ ((t.dieOf d).chan c.val).start = none ∧ Frame d [.pos, .regs, .ink] s t) ∧
    (¬bad → ∃ t, exec (.ssiFrame d c n data par) s = .next t ∧ ((t.dieOf d).chan c.val).start = none ∧ ((t.dieOf d).chan c.val).goodAt = f ∧
      ((t.dieOf d).chan c.val).stale = false ∧ Frame d [.pos, .regs, .ink, .qll, .reqs, .wire, .cxp] s t ∧
      (x.counts c.val = false → ((t.dieOf d).chan c.val).count = (x.chan c.val).count) ∧
      (x.counts c.val = true → ((t.dieOf d).chan c.val).u = some u ∧
        ((x.chan c.val).u = none → ((t.dieOf d).chan c.val).count = clampZ (x.limitLo c.val) (x.limitHi c.val) (sgn * (u : Int))) ∧
        (∀ y, (x.chan c.val).u = some y → toSigned k ((u + 2 ^ k - y % 2 ^ k) % 2 ^ k) ≠ 0 → ((t.dieOf d).chan c.val).count =
          clampZ (x.limitLo c.val) (x.limitHi c.val) ((x.chan c.val).count + sgn * toSigned k ((u + 2 ^ k - y % 2 ^ k) % 2 ^ k)))))) ∧
  (∀ (s : State) (d : Die) (c : Fin 8) (n : BitVec 64), (s.dieOf d).samples c.val = true → (s.dieOf d).chMode c.val = 3 →
    4 * 250 * (s.dieOf d).ssiPeriod c.val < n.toNat - ((s.dieOf d).chan c.val).goodAt →
    ∃ t, exec (.ssiStale d c n) s = .next t ∧ (t.dieOf d).flag (posStat c.val) 9 = true ∧ ((t.dieOf d).chan c.val).count = ((s.dieOf d).chan c.val).count ∧
      Frame d [.pos, .regs, .ink, .qll, .reqs] s t)

/-- Software captures, the clearing of UNCERTAIN, and the edges of the emulated output. -/
def Obligations.CapturesAndEmulatedOutput : Prop :=
  (∀ (s : State) (d : Die) (k : Fin 8), (s.dieOf d).stepping = false → (s.dieOf d).capSrc k.val = 3 →
    tget? (s.dieOf d).pos.capStep k.val ≠ some (s.dieOf d).seq.step →
    ∃ t l, exec (.posSwcap d (BitVec.ofNat 32 (2 ^ k.val))) s = .next t ∧ (t.dieOf d).pos.latches = (s.dieOf d).pos.latches ++ [l] ∧ l.unit = k.val ∧
      l.step = (s.dieOf d).seq.step ∧ (t.dieOf d).flag (rPOS_CAP_INFO + 32 * k.val) 31 = true ∧
      (-2 ^ 63 ≤ l.pos → l.pos < 2 ^ 63 → (t.dieOf d).rdS64 (rPOS_CAP_POS_LO + 32 * k.val) = l.pos) ∧ t.mod = s.mod ∧ t.mem = s.mem) ∧
  (∀ (s : State) (d : Die) (c : Fin 8), (s.dieOf d).stepping = false → (s.dieOf d).paired = false → (s.dieOf d).samples c.val = true →
    ∃ t, exec (.uncertainClear d c) s = .next t ∧ (t.dieOf d).flag (posStat c.val) 9 = false ∧
      OnlyIn [.regs, .pos] (s.dieOf d) (t.dieOf d) ∧ RegsOnly [posStat c.val] (s.dieOf d) (t.dieOf d) ∧ t.mod = s.mod ∧ t.mem = s.mem) ∧
  (∀ (s : State) (d : Die) (v : BitVec 32) (c : Fin 8), (s.dieOf d).stepping = true → s.a.paired = false → s.b.paired = false →
    (∃ t, exec (.posSwcap d v) s = .next t ∧ (t.dieOf d).reqs = (s.dieOf d).reqs ++ [(rPOS_SWCAP, v.toNat, (s.dieOf d).seq.step + 1)] ∧
      OnlyIn [.reqs] (s.dieOf d) (t.dieOf d)) ∧
    (∃ t, exec (.uncertainClear d c) s = .next t ∧ (t.dieOf d).reqs = (s.dieOf d).reqs ++ [(rPOS_STAT + 4 * c.val, 2 ^ 9, (s.dieOf d).seq.step + 1)] ∧
      OnlyIn [.reqs] (s.dieOf d) (t.dieOf d))) ∧
  (∀ (s : State) (d : Die) (n : BitVec 64), (s.dieOf d).emuOn = true → ((s.dieOf d).emuTrack n.toNat).pos.emu.due ≠ [] →
    (∀ l, (s.dieOf d).pos.emu.last = some l → l + 25 ≤ n.toNat) →
    ∃ t, exec (.emuEdge d n) s = .next t ∧ ((t.dieOf d).pos.emu.o - (s.dieOf d).pos.emu.o).natAbs = 1 ∧ (t.dieOf d).pos.emu.last = some n.toNat ∧
      ((t.dieOf d).pos.emu.a ≠ (s.dieOf d).pos.emu.a ∨ (t.dieOf d).pos.emu.b ≠ (s.dieOf d).pos.emu.b) ∧ Frame d [.pos, .wire, .regs, .ink] s t) ∧
  (∀ (s : State) (d : Die) (n : BitVec 64) (e : Nat), (s.dieOf d).pos.emu.z = some e → e ≤ n.toNat →
    ∃ t, exec (.emuZEnd d n) s = .next t ∧ (t.dieOf d).pos.emu.z = none ∧ (t.dieOf d).wire = (s.dieOf d).wire ++ [⟨.pin, [200 + (s.dieOf d).die.num, 0], []⟩] ∧
      Frame d [.pos, .wire] s t)

/-- A camera line answers its trigger; good lines enter the line FIFO, bad ones are replaced, lines without a trigger are discarded and flagged. -/
def Obligations.CameraLinesReceived : Prop :=
  (∀ (s : State) (d : Die) (p : Fin 8) (n : BitVec 64) (k f : Nat), ((s.dieOf d).port p.val).waiting = some (k, f) →
    let ssi := (s.dieOf d).chMode ((s.dieOf d).chanOf ((s.dieOf d).fld (rRGN_GRP + 4 * (s.dieOf d).groupOf p.val) 26 24)) = 3
    ((∀ l, ((s.dieOf d).port p.val).lastPkt = some l → l + (s.dieOf d).spacing p.val ≤ max s.now ((s.dieOf d).sampleAt n.toNat)) →
      ∃ t, exec (.triggerPacket d p n) s = .next t ∧ ((t.dieOf d).port p.val).waiting = none ∧ (¬ssi → Frame d [.cxp, .wire] s t) ∧ Frame d [.cxp, .wire, .regs, .ink] s t ∧
        ((s.dieOf d).cxp.driving = true → ∃ q w, (t.dieOf d).wire = (s.dieOf d).wire ++ q ++ [⟨.cxpTrigger, [p.val, k, f, w], []⟩] ∧ (¬ssi → q = []))) ∧
    (∀ l, ((s.dieOf d).port p.val).lastPkt = some l → max s.now ((s.dieOf d).sampleAt n.toNat) < l + (s.dieOf d).spacing p.val →
      ∃ t, exec (.triggerPacket d p n) s = .next t ∧ ((t.dieOf d).port p.val).waiting = some (k, f) ∧ (¬ssi → Frame d [] s t) ∧ Frame d [.cxp, .wire, .regs, .ink] s t)) ∧
  (∀ (s : State) (d : Die) (p : Fin 8) (px : List (BitVec 16)) (crc gap other : Bool) (tr : Trig), (s.dieOf d).portState p.val = 2 →
    ((s.dieOf d).port p.val).open_ = [tr] → tr.sent = true →
    (∀ w, ((s.dieOf d).port p.val).waiting = some w → tr.k < w.1) →
    let good := px.length = (s.dieOf d).width p.val * samplesOf ((s.dieOf d).fld (rCXP_PORT + 4 * p.val) 2 0) ((s.dieOf d).img p.val).sens
    (crc = true ∨ gap = true ∨ ((s.dieOf d).paired = true ∧ other = true) ∨ ¬good →
      ∃ t, exec (.cxpLineReceive d p 0 px crc gap other) s = .next t ∧ ((t.dieOf d).port p.val).open_ = [] ∧
        (t.dieOf d).rd (rCXP_REPLACED + 4 * p.val) = min 0xFFFFFFFF ((s.dieOf d).rd (rCXP_REPLACED + 4 * p.val) + 1) ∧
        (crc = true → (t.dieOf d).flag rCXP_STATUS 0 = true) ∧ (¬good → (t.dieOf d).flag rCXP_STATUS 1 = true) ∧
        (gap = true → (t.dieOf d).flag rCXP_STATUS 2 = true) ∧ Frame d [.cxp, .regs, .ink] s t) ∧
    (crc = false → gap = false → ((s.dieOf d).paired = false ∨ other = false) → good →
      ((s.dieOf d).port p.val).truncs = [] → ((s.dieOf d).port p.val).fifo.length < 32 →
      ∃ t, exec (.cxpLineReceive d p 0 px crc gap other) s = .next t ∧ ((t.dieOf d).port p.val).open_ = [] ∧
        (∃ l, ((t.dieOf d).port p.val).fifo = ((s.dieOf d).port p.val).fifo ++ [l] ∧ l.k = tr.k ∧ l.px = px.map (·.toNat) ∧ l.replaced = false) ∧
        RegsOnly [rCXP_PORT_STAT + 4 * p.val] (s.dieOf d) (t.dieOf d) ∧ Frame d [.cxp, .regs] s t)) ∧
  (∀ (s : State) (d : Die) (p : Fin 8) (px : List (BitVec 16)) (crc gap other : Bool), (s.dieOf d).portState p.val = 2 → ((s.dieOf d).port p.val).open_ = [] →
    ∃ t, exec (.cxpLineReceive d p 0 px crc gap other) s = .next t ∧ (t.dieOf d).flag rCXP_STATUS 4 = true ∧
      ((t.dieOf d).port p.val).fifo = ((s.dieOf d).port p.val).fifo ∧ Frame d [.cxp, .regs, .ink] s t) ∧
  (∀ (s : State) (d : Die) (p : Fin 8) (str : BitVec 8) (px : List (BitVec 16)) (crc gap other : Bool), str ≠ 0 →
    ∃ t, exec (.cxpLineReceive d p str px crc gap other) s = .next t ∧
      (t.dieOf d).fld (rCXP_DROP + 4 * p.val) 31 16 = min 65535 ((s.dieOf d).fld (rCXP_DROP + 4 * p.val) 31 16 + 1) ∧
      RegsOnly [rCXP_DROP + 4 * p.val] (s.dieOf d) (t.dieOf d) ∧ Frame d [.regs] s t) ∧
  (∀ (s : State) (d : Die) (p : Fin 8) (data : List (BitVec 8)), (s.dieOf d).portOn p.val = true → (s.dieOf d).ink.queue.length < 240 →
    ∃ t r, exec (.cxpEventPacket d p data) s = .next t ∧ (t.dieOf d).ink.queue = (s.dieOf d).ink.queue ++ [r] ∧ r.cls = 8 ∧ r.unit = 1 ∧
      Frame d [.regs, .ink] s t)

/-- A port times out, loses lock, takes LINK_DOWN at a boundary, is discovered again and returns to RUN at a frame boundary. -/
def Obligations.PortStates : Prop :=
  (∀ (s : State) (d : Die) (p : Fin 8) (tr : Trig), (s.dieOf d).stepping = true → (s.dieOf d).portState p.val = 2 → tr ∈ ((s.dieOf d).port p.val).open_ →
    tr.sent = true → tr.step + (s.dieOf d).fld (rCXP_LINE + 4 * p.val) 22 16 ≤ (s.dieOf d).seq.step →
    ∃ t, exec (.lineTimeout d p) s = .next t ∧ ((t.dieOf d).port p.val).downReq = true ∧ (t.dieOf d).flag rCXP_STATUS 3 = true ∧
      Frame d [.seq, .cxp, .regs, .ink] s t) ∧
  (∀ (s : State) (d : Die) (p : Fin 8), (s.dieOf d).portOn p.val = true → (s.dieOf d).stepping = true → (s.dieOf d).portState p.val = 2 →
    (s.dieOf d).fld (rCXP_PORT + 4 * p.val) 21 16 < 32 →
    ∃ t, exec (.cxpLockLoss d p) s = .next t ∧ ((t.dieOf d).port p.val).downReq = true ∧
      (t.dieOf d).flag rCXP_LOCK ((s.dieOf d).fld (rCXP_PORT + 4 * p.val) 21 16) = false ∧ Frame d [.cxp, .regs] s t) ∧
  (∀ (s : State) (d : Die) (p : Fin 8), (s.dieOf d).stepping = true → (s.dieOf d).seq.cycle = 0 → ((s.dieOf d).port p.val).downReq = true →
    (s.dieOf d).portState p.val = 2 →
    ∃ t, exec (.portLinkDown d p) s = .next t ∧ (t.dieOf d).portState p.val = 3 ∧ ((t.dieOf d).port p.val).fifo = [] ∧
      ((t.dieOf d).port p.val).store = [] ∧ ((t.dieOf d).port p.val).open_ = [] ∧ ((t.dieOf d).port p.val).downReq = false ∧
      (t.dieOf d).flag rCXP_STATUS 6 = true ∧
      ((s.dieOf d).cxp.driving = true → ∃ a b, (t.dieOf d).wire = a ++ ⟨.cxpControl, [p.val, 3], []⟩ :: b) ∧ Frame d [.cxp, .ipp, .regs, .ink, .qll, .wire] s t) ∧
  (∀ (s : State) (d : Die) (p : Fin 8) (found : Bool) (model : BitVec 256) (back : List (BitVec 32)) (start : Bool), (s.dieOf d).portOn p.val = true →
    let good := found = true ∧ start = true ∧ (s.dieOf d).camOk p.val = true ∧ model.toNat = (tget (s.dieOf d).cxp.cams p.val default).model ∧
      back.map (·.toNat) = (tget (s.dieOf d).cxp.cams p.val default).sets.map (·.2)
    ((s.dieOf d).stepping = true → (s.dieOf d).portState p.val = 3 →
      (good → ∃ t, exec (.cameraDiscovery d p found model back start) s = .next t ∧ ((t.dieOf d).port p.val).rediscovered = true ∧
        (t.dieOf d).regs = (s.dieOf d).regs ∧ Frame d [.cxp, .ipp, .ink, .wire] s t) ∧
      (¬good → ∃ t, exec (.cameraDiscovery d p found model back start) s = .next t ∧ (t.dieOf d).portState p.val = 3 ∧
        (t.dieOf d).flag rCXP_STATUS 7 = true ∧ Frame d [.regs, .ink, .wire] s t)) ∧
    ((s.dieOf d).dev = .linkTrain → ((s.dieOf d).portState p.val = 1 ∨ (s.dieOf d).portState p.val = 3) →
      (good → ∃ t, exec (.cameraDiscovery d p found model back start) s = .next t ∧ (t.dieOf d).portState p.val = 2 ∧
        Frame d [.cxp, .ipp, .regs, .ink, .wire] s t) ∧
      (¬good → ∃ t, exec (.cameraDiscovery d p found model back start) s = .next t ∧ (t.dieOf d).portState p.val = 4 ∧
        (t.dieOf d).flag rCXP_STATUS 7 = true ∧ Frame d [.regs, .ink, .wire] s t))) ∧
  (∀ (s : State) (d : Die) (p : Fin 8), (s.dieOf d).stepping = true → ((s.dieOf d).port p.val).rediscovered = true →
    (s.dieOf d).frameStart ((s.dieOf d).groupOf p.val) ((s.dieOf d).port p.val).nextK = true → (s.dieOf d).portState p.val ≠ 2 →
    (s.dieOf d).draining p.val = false →
    ∃ t, exec (.portReturnRun d p) s = .next t ∧ (t.dieOf d).portState p.val = 2 ∧ ((t.dieOf d).port p.val).rediscovered = false ∧
      RegsOnly [rCXP_PORT_STAT + 4 * p.val] (s.dieOf d) (t.dieOf d) ∧ Frame d [.cxp, .regs] s t) ∧
  (∀ (s : State) (d : Die) (i : Fin 32) (on : Bool), (s.dieOf d).ingest i.val = true →
    ∃ t, exec (.cxpLockAcquire d i on) s = .next t ∧ (t.dieOf d).flag rCXP_LOCK i.val = on ∧ RegsOnly [rCXP_LOCK] (s.dieOf d) (t.dieOf d) ∧ Frame d [.regs] s t)

/-- Lines enter the delay store, are registered once all awaited ports delivered or at the deadline, and cross in k order within the step's places. -/
def Obligations.LinesAreRegistered : Prop :=
  (∀ (s : State) (d : Die) (p : Fin 8) (l : HeldLine) (r : List HeldLine), ((s.dieOf d).port p.val).fifo = l :: r →
    (l.k < ((s.dieOf d).group ((s.dieOf d).groupOf p.val)).nextReg →
      ∃ t, exec (.lineToDelayStore d p) s = .next t ∧ ((t.dieOf d).port p.val).fifo = r ∧ ((t.dieOf d).port p.val).store = ((s.dieOf d).port p.val).store ∧
        (t.dieOf d).flag rRGN_STATUS 1 = true ∧ Frame d [.cxp, .regs, .ink] s t) ∧
    (((s.dieOf d).group ((s.dieOf d).groupOf p.val)).nextReg ≤ l.k → (s.dieOf d).storeUsed p.val < (s.dieOf d).fld (rRGN_DEPTH + 4 * p.val) 11 0 →
      ∃ t, exec (.lineToDelayStore d p) s = .next t ∧ ((t.dieOf d).port p.val).fifo = r ∧
        ((t.dieOf d).port p.val).store = ((s.dieOf d).port p.val).store ++ [l] ∧ RegsOnly [rRGN_DEPTH + 4 * p.val] (s.dieOf d) (t.dieOf d) ∧
        Frame d [.cxp, .regs] s t) ∧
    (((s.dieOf d).group ((s.dieOf d).groupOf p.val)).nextReg ≤ l.k → (s.dieOf d).fld (rRGN_DEPTH + 4 * p.val) 11 0 ≤ (s.dieOf d).storeUsed p.val →
      ∃ t, exec (.lineToDelayStore d p) s = .next t ∧ (t.dieOf d).cxp = (s.dieOf d).cxp ∧ (t.dieOf d).flag rRGN_STATUS 2 = true ∧
        Frame d [.regs, .ink] s t)) ∧
  (∀ (s : State) (d : Die) (g : Fin 8), (s.dieOf d).stepping = true → ((s.dieOf d).group g.val).k0.isSome = true → (s.dieOf d).stripeOf g.val = none →
    (s.dieOf d).twl.outbox = [] →
    let k := ((s.dieOf d).group g.val).nextReg
    ((∃ p ∈ (s.dieOf d).groupPorts g.val, (s.dieOf d).awaited p k = true) →
      (∀ p ∈ (s.dieOf d).groupPorts g.val, (s.dieOf d).awaited p k = true → ∃ l ∈ ((s.dieOf d).port p).store, l.k = k) →
      ∃ t l, exec (.lineRegister d g) s = .next t ∧ ((t.dieOf d).group g.val).regd = ((s.dieOf d).group g.val).regd ++ [l] ∧ l.k = k ∧ l.group = g.val ∧
        l.pos = (s.dieOf d).rk g.val k ∧ ((t.dieOf d).group g.val).nextReg = k + 1 ∧ OnlyIn [.cxp, .regs, .ink, .twl] (s.dieOf d) (t.dieOf d)) ∧
    ((s.dieOf d).groupPorts g.val ≠ [] → (∀ p ∈ (s.dieOf d).groupPorts g.val, (tget? ((s.dieOf d).port p).fired k).isSome = true) →
      (s.dieOf d).lastTrig g.val k + (s.dieOf d).fld (rRGN_GRP + 4 * g.val) 6 0 ≤ (s.dieOf d).seq.step →
      ∃ t l, exec (.registrationDeadline d g) s = .next t ∧ ((t.dieOf d).group g.val).regd = ((s.dieOf d).group g.val).regd ++ [l] ∧ l.k = k ∧
        ((t.dieOf d).group g.val).nextReg = k + 1 ∧ OnlyIn [.seq, .cxp, .regs, .ink, .twl] (s.dieOf d) (t.dieOf d))) ∧
  (∀ (s : State) (d : Die) (g : Fin 8) (l : FLine) (r : List FLine) (miss : Bool), (s.dieOf d).stepping = true →
    ((s.dieOf d).group g.val).regd = l :: r → (s.dieOf d).stripeOf g.val = none →
    let used := if ((s.dieOf d).group g.val).crossStep = (s.dieOf d).seq.step then ((s.dieOf d).group g.val).crossed else 0
    (used < (s.dieOf d).slotsOf g.val → (s.dieOf d).paired = false →
      ∃ t, exec (.fusedLineCross d (g, miss)) s = .next t ∧ (t.dieOf d).cxp.arrived = (s.dieOf d).cxp.arrived ++ [{ l with arrival := (s.dieOf d).seq.step }] ∧
        ((t.dieOf d).group g.val).regd = r ∧ OnlyIn [.cxp] (s.dieOf d) (t.dieOf d)) ∧
    (used < (s.dieOf d).slotsOf g.val → d = .b → s.b.die = .b → s.b.paired = true →
      ∃ t, exec (.fusedLineCross d (g, miss)) s = .next t ∧
        match s.b.cxp.decided.find? (fun y => y.group == g.val && y.k == l.k) with
        | none => Frame d [] s t
        | some y => t.b.cxp.arrived = s.b.cxp.arrived ++ [{ l.merge y.flags with gone := l.gone || miss, arrival := y.step }] ∧
            (t.b.group g.val).regd = r ∧ (miss = true → t.b.flag rSYS_DET_STATUS 4 = true) ∧ OnlyIn [.cxp, .seq, .regs, .ink] s.b t.b) ∧
    ((s.dieOf d).slotsOf g.val ≤ used → (s.dieOf d).paired = false ∨ d = .b →
      ∃ t, exec (.fusedLineCross d (g, miss)) s = .next t ∧ (t.dieOf d).cxp = (s.dieOf d).cxp ∧ (t.dieOf d).flag rIPP_STATUS 1 = true ∧
        OnlyIn [.regs, .ink] (s.dieOf d) (t.dieOf d))) ∧
  (∀ (s : State) (d : Die) (g : Fin 8) (lane : Nat) (c : LaneCfg), (s.dieOf d).stepping = true → ((s.dieOf d).group g.val).k0.isSome = true →
    (s.dieOf d).stripeOf g.val = some (lane, c) → (s.dieOf d).groupPorts g.val ≠ [] →
    (∀ p ∈ (s.dieOf d).groupPorts g.val, (tget? ((s.dieOf d).port p).fired ((s.dieOf d).group g.val).nextReg).isSome = true) →
    (s.dieOf d).lastTrig g.val ((s.dieOf d).group g.val).nextReg + c.stripeHold ≤ (s.dieOf d).seq.step →
    ∃ t, exec (.lineMiss d g) s = .next t ∧ ((t.dieOf d).group g.val).nextReg = ((s.dieOf d).group g.val).nextReg + 1 ∧
      (t.dieOf d).flag rSTM_STRIPE_STATUS 3 = true ∧ (t.dieOf d).flag rSYS_DET_STATUS 4 = true ∧ Frame d [.seq, .cxp, .regs, .ink] s t)

/-- Line Slot Table entries serve lines, statistics words are filled, and exposure requests are held, applied or refused. -/
def Obligations.LinesAreServedAndExposureSet : Prop :=
  (∀ (s : State) (d : Die) (e : Fin 64) (tapBad : Bool) (g start : Nat) (l : FLine × List (Nat × Nat)), (s.dieOf d).stepping = true →
    (s.dieOf d).ipp.lst[e.val]? = some (g, start) → g < 8 → (s.dieOf d).ipp.toServe.find? (fun l => l.1.group == g) = some l →
    ∃ t c mv, exec (.lineSlotEntry d e tapBad) s = .next t ∧ (t.dieOf d).ipp.toServe = (s.dieOf d).ipp.toServe.erase l ∧
      (t.dieOf d).rd (rIPP_FRAME + 4 * g) = (s.dieOf d).frameOf g l.1.k ∧
      (t.dieOf d).wire.getLast? = some ⟨.checker, [1, g, l.1.k, c], mv⟩ ∧ c = crc32 mv ∧
      (tapBad = true → (t.dieOf d).flag rCHK_STATUS 2 = true ∧ (t.dieOf d).rd (rCHK_CNT + 24) = min 0xFFFFFFFF ((s.dieOf d).rd (rCHK_CNT + 24) + 1)) ∧
      (tapBad = false → RegsOnly [rIPP_FRAME + 4 * g] (s.dieOf d) (t.dieOf d) ∧ (t.dieOf d).ptk = (s.dieOf d).ptk) ∧
      (((s.dieOf d).out g).disp = none → ((s.dieOf d).out g).coding = none → (s.dieOf d).frameEnd g l.1.k = false → t.mem = s.mem) ∧
      OnlyIn [.seq, .ipp, .wire, .ptk, .regs, .ink] (s.dieOf d) (t.dieOf d) ∧ t.dieOf d.other = s.dieOf d.other ∧ t.mod = s.mod ∧ t.pending = s.pending) ∧
  (∀ (s : State) (d : Die) (due v i id : Nat), (s.dieOf d).stepping = true →
    (s.dieOf d).ipp.fills.find? (fun f => decide (f.1 ≤ (s.dieOf d).seq.step)) = some (due, v, i, id) →
    let y := (⟨s.here d, s.mem, []⟩ : DM).syncBefore ((s.here d).acyc (s.dieOf d).seq.cycle) 262
    let p := y.d.ptileOf v
    Memory.wf s.mem = true → y.d.wordState p i ≤ 1 → y.d.pairDepth v i = none →
    ∃ t, exec (.statsFill d) s = .next t ∧ (t.dieOf d).ipp.fills = (s.dieOf d).ipp.fills.erase (due, v, i, id) ∧ (t.dieOf d).wordState p i = 1 ∧
      leNat (memRead t.mem (wordAddr (s.dieOf d).die p i) 4) = id % 2 ^ 32 ∧
      (∀ a, a < wordAddr (s.dieOf d).die p i ∨ wordAddr (s.dieOf d).die p i + 4 ≤ a → memGet t.mem a = memGet y.mem a) ∧
      OnlyIn [.ipp, .syn, .tar] y.d (t.dieOf d) ∧ t.dieOf d.other = s.dieOf d.other ∧ t.mod = s.mod ∧ t.pending = s.pending) ∧
  (∀ (s : State) (d : Die) (x : Xfer), (s.dieOf d).tar.inbox.find? (fun t => t.dst == 262) = some x →
    let p := (x.data.getD 0 0).toNat % 8
    (expoWrites x.data = none ∨ (∃ ws, expoWrites x.data = some ws ∧ ((s.dieOf d).ctxOf ((s.dieOf d).ptileOf x.src) ≠ ((s.dieOf d).img p).expoCtx ∨
        ∃ w ∈ ws, ((s.dieOf d).img p).expoAddr.length ≤ w.1)) →
      ∃ t, exec (.exposureRequest d) s = .next t ∧ (t.dieOf d).tar.inbox = (s.dieOf d).tar.inbox.erase x ∧ (t.dieOf d).flag rIPP_STATUS 3 = true ∧
        (t.dieOf d).fld (rIPP_EXPO + 4 * p) 15 0 = min 65535 ((s.dieOf d).fld (rIPP_EXPO + 4 * p) 15 0 + 1) ∧ Frame d [.tar, .regs, .ink] s t) ∧
    (∀ ws, expoWrites x.data = some ws → (s.dieOf d).ctxOf ((s.dieOf d).ptileOf x.src) = ((s.dieOf d).img p).expoCtx →
      (∀ w ∈ ws, w.1 < ((s.dieOf d).img p).expoAddr.length) →
      ∃ t r, exec (.exposureRequest d) s = .next t ∧ (t.dieOf d).tar.inbox = (s.dieOf d).tar.inbox.erase x ∧
        ((t.dieOf d).expo p).pend = some r ∧ r.writes = ws ∧ r.est = leNat ((x.data.drop 2).take 2) ∧ ((t.dieOf d).expo p).est = ((s.dieOf d).expo p).est ∧
        (t.dieOf d).flag (rIPP_EST + 4 * p) 30 = true ∧
        (((s.dieOf d).expo p).pend = none → RegsOnly [rIPP_EST + 4 * p] (s.dieOf d) (t.dieOf d)) ∧
        (((s.dieOf d).expo p).pend ≠ none → (t.dieOf d).flag rIPP_STATUS 2 = true ∧
          (t.dieOf d).fld (rIPP_EXPO + 4 * p) 15 0 = min 65535 ((s.dieOf d).fld (rIPP_EXPO + 4 * p) 15 0 + 1)) ∧ Frame d [.tar, .ipp, .regs, .ink] s t)) ∧
  (∀ (s : State) (d : Die) (p : Fin 8) (ok : Bool) (r : ExpoReq), ((s.dieOf d).expo p.val).pend = some r →
    ((s.dieOf d).group ((s.dieOf d).groupOf p.val)).k0.getD 0 < ((s.dieOf d).port p.val).nextK →
    (s.dieOf d).frameOf ((s.dieOf d).groupOf p.val) (((s.dieOf d).port p.val).nextK - 1) = r.frame →
    ∃ t, exec (.exposureWrites d p ok) s = .next t ∧ ((t.dieOf d).expo p.val).pend = none ∧ ((t.dieOf d).expo p.val).est = r.est ∧
      ((t.dieOf d).expo p.val).prev = ((s.dieOf d).expo p.val).est ∧ (t.dieOf d).fld (rIPP_EST + 4 * p.val) 15 0 = r.est % 65536 ∧
      (t.dieOf d).flag (rIPP_EST + 4 * p.val) 30 = false ∧ (t.dieOf d).flag (rIPP_EST + 4 * p.val) 31 = true ∧
      (ok = true → ((t.dieOf d).expo p.val).unacked = 0 ∧
        (t.dieOf d).fld (rIPP_EXPO + 4 * p.val) 31 16 = min 65535 ((s.dieOf d).fld (rIPP_EXPO + 4 * p.val) 31 16 + 1)) ∧
      (ok = false → ((t.dieOf d).expo p.val).unacked = r.writes.length ∧ (t.dieOf d).cxp = (s.dieOf d).cxp) ∧
      RegsOnly [rIPP_EST + 4 * p.val, rIPP_EXPO + 4 * p.val] (s.dieOf d) (t.dieOf d) ∧ Frame d [.ipp, .cxp, .regs, .wire] s t) ∧
  (∀ (s : State) (d : Die) (p : Fin 8), ((s.dieOf d).expo p.val).unacked ≠ 0 →
    ∃ t, exec (.expoFail d p) s = .next t ∧ ((t.dieOf d).expo p.val).unacked = 0 ∧ ((t.dieOf d).expo p.val).pend = none ∧
      ((t.dieOf d).port p.val).downReq = true ∧ (t.dieOf d).flag rIPP_STATUS 4 = true ∧
      (t.dieOf d).fld (rIPP_EXPO + 4 * p.val) 15 0 = min 65535 ((s.dieOf d).fld (rIPP_EXPO + 4 * p.val) 15 0 + 1) ∧
      Frame d [.ipp, .cxp, .regs, .ink] s t)

/-- Each VPU operation writes its destination lanes after its latency, and faults ILLEGAL on undefined MOD bits. -/
def Obligations.VpuOperations : Prop :=
  VpuLanes .fadd (fun f => bits 11 0 f.toNat == 0) 4 (fun _ _ _ x y => add32 x y) ∧
  VpuLanes .fmul (fun f => bits 11 0 f.toNat == 0) 4 (fun _ _ _ x y => mul32 x y) ∧
  VpuLanes .ffma (fun f => bits 11 0 f.toNat == 0) 4 (fun _ _ z x y => fma32 x y z) ∧
  VpuLanes .iadd (fun f => bits 11 0 f.toNat == 0) 2 (fun _ _ _ x y => (x + y) % 2 ^ 32) ∧
  VpuLanes .isub (fun f => bits 11 0 f.toNat == 0) 2 (fun _ _ _ x y => (x + 2 ^ 32 - y % 2 ^ 32) % 2 ^ 32) ∧
  VpuLanes .imul (fun f => bits 11 0 f.toNat == 0) 2 (fun _ _ _ x y => x * y % 2 ^ 32) ∧
  VpuLanes .max (fun f => bits 11 1 f.toNat == 0) 2 (fun f _ _ x y =>
    if bits 0 0 f.toNat = 1 then maxMin32 true x y else if toSigned 32 x < toSigned 32 y then y else x) ∧
  VpuLanes .min (fun f => bits 11 1 f.toNat == 0) 2 (fun f _ _ x y =>
    if bits 0 0 f.toNat = 1 then maxMin32 false x y else if toSigned 32 x < toSigned 32 y then x else y) ∧
  VpuLanes .func (fun f => bits 11 3 f.toNat == 0 && decide (bits 2 0 f.toNat ≤ 5)) 8 (fun f _ _ x _ =>
    match bits 2 0 f.toNat with | 0 => fExp2 x | 1 => fLog2 x | 2 => fRecip x | 3 => fRsqrt x | 4 => fSigmoid x | _ => fTanh x) ∧
  VpuLanes .cvt (fun f => decide (bits 11 6 f.toNat ≤ 0x13) && decide (bits 5 0 f.toNat ≤ 0x13)) 4
    (fun f _ _ x _ => (cvtLane (bits 5 0 f.toNat) (bits 11 6 f.toNat) x).1) ∧
  VpuLanes .logic (fun f => bits 11 2 f.toNat == 0) 1 (fun f _ _ x y =>
    match bits 1 0 f.toNat with | 0 => x &&& y | 1 => x ||| y | 2 => x ^^^ y | _ => x &&& (y ^^^ 0xFFFFFFFF)) ∧
  VpuLanes .shift (fun f => bits 11 8 f.toNat == 0 && decide (bits 7 6 f.toNat ≠ 3)) 1 (fun f _ _ x y =>
    let n := if bits 5 5 f.toNat = 1 then y % 32 else bits 4 0 f.toNat
    match bits 7 6 f.toNat with | 0 => x * 2 ^ n % 2 ^ 32 | 1 => x / 2 ^ n | _ => ofSigned 32 (toSigned 32 x / (2 : Int) ^ n)) ∧
  VpuLanes .sel (fun f => bits 11 0 f.toNat == 0) 1 (fun _ _ z x y => if z = 0 then y else x) ∧
  VpuLanes .cmp (fun f => bits 11 3 f.toNat == 0 && decide (bits 1 0 f.toNat ≠ 3)) 2 (fun f _ _ x y =>
    let eq := if bits 2 2 f.toNat = 1 then eq32 x y else decide (x = y)
    let lt := if bits 2 2 f.toNat = 1 then lt32 x y else decide (toSigned 32 x < toSigned 32 y)
    if (match bits 1 0 f.toNat with | 0 => eq | 1 => lt | _ => eq || lt) then 1 else 0) ∧
  VpuLanes .imm (fun _ => true) 1 (fun f _ _ _ _ => ofSigned 32 (toSigned 12 (bits 11 0 f.toNat))) ∧
  (∀ (s : State) (b : Issue) (f : BitVec 27) (e : TEnv), s.acts b e →
    let va := (List.range 64).map (e.t.lane (bits 21 17 f.toNat))
    let writes (t : State) (lat reg : Nat) (lanes : Tbl Nat) : Prop :=
      SlotNext b [] e s t { e.slot with cur := { e.slot.cur with pend := insertPend ⟨s.cycleOf b + lat, reg, lanes⟩ e.slot.cur.pend } }
    (bits 11 3 f.toNat = 0 → (bits 1 0 f.toNat < 2 → bits 2 2 f.toNat = 0) →
      let op (a c : Nat) : Nat := match bits 1 0 f.toNat with
        | 0 => (a + c) % 2 ^ 32
        | 1 => add32 a c
        | k => if bits 2 2 f.toNat = 1 then maxMin32 (k == 2) a c
               else if decide (toSigned 32 a < toSigned 32 c) = (k == 2) then c else a
      ∃ t, exec (.red b f) s = .next t ∧
        writes t 12 (bits 26 22 f.toNat) ((List.range 64).map fun i => (i, if i = 0 then (redTree op 6 va).headD 0 else 0))) ∧
    ((bits 11 3 f.toNat ≠ 0 ∨ (bits 1 0 f.toNat < 2 ∧ bits 2 2 f.toNat = 1)) → ∃ t, exec (.red b f) s = .next t ∧ SlotFault b e s t) ∧
    (bits 11 0 f.toNat = 0 → ∃ t, exec (.movsd b f) s = .next t ∧ writes t 1 32 [(0, e.t.lane (bits 21 17 f.toNat) 0)]) ∧
    (bits 11 0 f.toNat = 1 → ∃ t, exec (.movsd b f) s = .next t ∧ writes t 1 (bits 26 22 f.toNat) [(0, e.t.sd)]) ∧
    (bits 11 1 f.toNat ≠ 0 → ∃ t, exec (.movsd b f) s = .next t ∧ SlotFault b e s t) ∧
    (bits 11 6 f.toNat = 0 → ∃ t, exec (.bcast b f) s = .next t ∧
      writes t 1 (bits 26 22 f.toNat) ((List.range 64).map fun k => (k, e.t.lane (bits 21 17 f.toNat) (bits 5 0 f.toNat)))) ∧
    (bits 11 6 f.toNat ≠ 0 → ∃ t, exec (.bcast b f) s = .next t ∧ SlotFault b e s t) ∧
    (bits 11 6 f.toNat ≤ 0x13 → bits 5 0 f.toNat ≤ 0x13 → (∃ k, k < 64 ∧ (cvtLane (bits 5 0 f.toNat) (bits 11 6 f.toNat) (e.t.lane (bits 21 17 f.toNat) k)).2 = true) →
      ∃ t, exec (.cvt b f) s = .next t ∧ ⟨s.cycleOf b, b.tile.val, s.cycleOf b, some numOutSat⟩ ∈ (t.dieOf b.die).tar.events))

/-- Control-slot operations hold, repeat, redirect or stop their tile and send its sync operations and arrivals. -/
def Obligations.ControlSlotOperations : Prop :=
  (∀ (s : State) (b : Issue) (f : BitVec 19) (e : TEnv), s.acts b e →
    (bits 18 14 f.toNat = 0 → bits 13 0 f.toNat ≠ 0 → ∃ t, exec (.wait b f) s = .next t ∧
      SlotNext b [] e s t { e.slot with cur := { e.slot.cur with wait := .timer, ready := s.cycleOf b + bits 13 0 f.toNat } }) ∧
    ((bits 18 14 f.toNat ≠ 0 ∨ bits 13 0 f.toNat = 0) → ∃ t, exec (.wait b f) s = .next t ∧ SlotFault b e s t) ∧
    (e.slot.pre.loops.length < 4 → ∃ t, exec (.loop b f) s = .next t ∧
      SlotNext b [] e s t { e.slot with cur := { e.slot.cur with
        pc := e.slot.pcAt + 1, loops := ⟨e.slot.pcAt + 1, e.slot.pcAt + 1 + bits 6 0 f.toNat, bits 18 7 f.toNat⟩ :: e.slot.pre.loops } }) ∧
    (4 ≤ e.slot.pre.loops.length → ∃ t, exec (.loop b f) s = .next t ∧ SlotFault b e s t) ∧
    (bits 18 15 f.toNat = 0 → ∃ t, exec (.jump b f) s = .next t ∧
      SlotNext b [] e s t { e.slot with cur := { e.slot.cur with pc := bits 14 0 f.toNat, loops := e.slot.pre.loops } }) ∧
    (bits 18 16 f.toNat = 0 → bits 15 0 f.toNat ≠ 0 → ∃ t, exec (.budget b f) s = .next t ∧
      SlotNext b [] e s t { e.slot with cur := { e.slot.cur with budget := bits 15 0 f.toNat } }) ∧
    (f = 0 → ∃ t, exec (.tileHalt b f) s = .next t ∧ SlotNext b [] e s t { e.slot with cur := { e.slot.cur with stat := .halted } }) ∧
    (bits 18 17 f.toNat ≤ 1 → bits 16 16 f.toNat = 0 → ∃ t, exec (.swait b f) s = .next t ∧
      SlotNext b [] e s t { e.slot with cur := { e.slot.cur with
        wait := .sync (bits 15 0 f.toNat) (bits 18 17 f.toNat) (s.cycleOf b + 16) e.d.seq.step e.t.budget (hSen e.t.hdr) none } }) ∧
    (bits 18 6 f.toNat = 0 → ∃ t, exec (.barrier b f) s = .next t ∧ SlotNext b [.syn] e s t e.slot ∧
      (t.dieOf b.die).syn.arrs = insertArr ⟨s.cycleOf b + 16, bits 5 0 f.toNat, e.d.vtileOf b.tile.val, b.tile.val, e.d.ctxOf b.tile.val⟩ e.d.syn.arrs) ∧
    (bits 18 6 f.toNat = 0 → ∃ t, exec (.bwait b f) s = .next t ∧
      SlotNext b [.syn] e s t { e.slot with cur := { e.slot.cur with
        wait := .bar (bits 5 0 f.toNat) 0 e.d.seq.step e.t.budget false (hSen e.t.hdr) none } } ∧
      (t.dieOf b.die).syn.ops = insertOp ⟨s.cycleOf b + 16, e.d.vtileOf b.tile.val, b.tile.val, e.d.ctxOf b.tile.val, 5, bits 5 0 f.toNat, e.t.sd⟩
        e.d.syn.ops) ∧
    (∀ c ∈ (if bits 18 15 f.toNat ≠ 0 then [Instr.jump b f] else []) ++ (if bits 18 16 f.toNat ≠ 0 ∨ bits 15 0 f.toNat = 0 then [.budget b f] else []) ++
        (if f ≠ 0 then [.tileHalt b f] else []) ++ (if 2 ≤ bits 18 17 f.toNat ∨ bits 16 16 f.toNat = 1 then [.swait b f] else []) ++
        (if bits 18 6 f.toNat ≠ 0 then [.barrier b f, .bwait b f] else []), ∃ t, exec c s = .next t ∧ SlotFault b e s t)) ∧
  (∀ (s : State) (b : Issue) (v : BitVec 16) (e : TEnv) (c : Instr) (op : Nat), s.acts b e →
    (c, op) ∈ [(Instr.writeFull b v, 0), (.readEmpty b v, 1), (.poll b v, 2), (.fill b v, 3), (.clear b v, 4)] →
    ∃ t, exec c s = .next t ∧ SlotNext b [.syn] e s t e.slot ∧
      (t.dieOf b.die).syn.ops = insertOp ⟨s.cycleOf b + 16, e.d.vtileOf b.tile.val, b.tile.val, e.d.ctxOf b.tile.val, op, v.toNat, e.t.sd⟩ e.d.syn.ops) ∧
  (∀ (s : State) (d : Die) (p : Fin 272), ((s.dieOf d).slotOf p.val).cur.wait = .timer →
    ((s.dieOf d).slotOf p.val).cur.ready < ((s.dieOf d).seq.step + 1) * 20000 →
    ∃ t, exec (.waitExpiry d p) s = .next t ∧ ((t.dieOf d).slotOf p.val).cur = { ((s.dieOf d).slotOf p.val).cur with wait := .none } ∧
      TilesOnly p.val (s.dieOf d) (t.dieOf d) ∧ Frame d [.seq, .tar] s t) ∧
  (∀ (s : State) (d : Die) (p : Fin 272) (a : Nat), (s.dieOf d).stepping = true → ((s.dieOf d).slotOf p.val).cur.stroke = some a →
    ((s.dieOf d).slotOf p.val).cur.stat = .running → a + 64000 < ((s.dieOf d).seq.step + 1) * 20000 →
    ∃ t, exec (.strokeLen d p) s = .next t ∧ ((t.dieOf d).slotOf p.val).cur = { ((s.dieOf d).slotOf p.val).cur with stat := .stopped } ∧
      (t.dieOf d).rd rTAR_FAULT_COUNT = min 0xFFFFFFFF ((s.dieOf d).rd rTAR_FAULT_COUNT + 1) ∧ (s.dieOf d).ctxOf p.val ∈ (t.dieOf d).ctx.resets ∧
      TilesOnly p.val (s.dieOf d) (t.dieOf d) ∧ Frame d [.seq, .tar, .syn, .mem, .ctx, .regs, .ink] s t)

/-- MAC operations load weights, masks and parameters from SRAM, act on their rows alone and store accumulator states byte for byte. -/
def Obligations.MacOperations : Prop :=
  ∀ (s : State) (b : Issue) (f : BitVec 27) (e : TEnv), s.acts b e →
    let now := s.cycleOf b
    let base := sramBase (s.dieOf b.die).die b.tile.val
    let line (a i : Nat) : List Byte := memRead e.mem (base + a + 32 * i) 32
    let busy (n : Nat) : TEnv := e.withT { e.t with macBusy := now + n }
    let later (t : State) (k : Nat) : TEnv := ((⟨t.dieOf b.die, t.mem, []⟩ : DM).tenv b.tile.val now).jobsTo (now + k)
    let begins (t : State) (y : TileSlot) (k : JobKind) (n row a : Nat) : Prop := SlotNext b [] e s t { y with cur := { y.cur with
      jobs := y.cur.jobs ++ [⟨k, e.slot.pcAt, now, now + 1, n - 1, row, 0, a + 32, [line a 0], [], none, e.t.rows, []⟩] } }
    (now < e.t.macBusy → ∀ c ∈ [Instr.mma b f, .anch b f, .bias b f, .wb b f, .wpar b f, .asave b f, .amerge b f, .mask b f],
      ∃ t, exec c s = .next t ∧ SlotFault b e s t) ∧
    (now < e.t.wldBusy → ∃ t, exec (.wld b f) s = .next t ∧ SlotFault b e s t) ∧
    (∀ n m e', e.t.wldBusy ≤ now → bits 6 0 f.toNat = 0 → wldLines (bits 26 21 f.toNat) = some (n, m) →
      let a := 32 * bits 20 7 f.toNat
      (e.withT { e.t with wldBusy := now + n + m }).reserve .wld now a (n + m) = .ok e' → ∃ t, exec (.wld b f) s = .next t ∧
        begins t e'.slot (.wld (bits 26 21 f.toNat)) (n + m) 0 a ∧ e'.t.wldBusy = now + n + m ∧
        (e.t.jobs = [] → (later t (n + m)).t.wSh = ⟨bits 26 21 f.toNat, (List.range (n + m)).map (line a)⟩)) ∧
    (e.t.macBusy ≤ now →
      (bits 18 0 f.toNat = 0 → -126 ≤ toSigned 8 (bits 26 19 f.toNat) → ∃ t, exec (.anch b f) s = .next t ∧
        SlotNext b [] e s t { e.slot with cur := { e.slot.cur with anch := toSigned 8 (bits 26 19 f.toNat), macBusy := now + 1 } }) ∧
      (∀ e' bs, bits 26 21 f.toNat = 0 → bits 6 0 f.toNat = 0 → e.read .mask now (32 * bits 20 7 f.toNat) 32 = .ok (e', bs) →
        ∃ t, exec (.mask b f) s = .next t ∧ SlotNext b [] e s t { e'.slot with cur := { e'.slot.cur with
          mask := leNat (memRead e.mem (base + 32 * bits 20 7 f.toNat) 4), macBusy := now + 1 } }) ∧
      (∀ e', bits 26 21 f.toNat = 0 → bits 6 0 f.toNat = 0 → (busy 8).reserve .wpar now (32 * bits 20 7 f.toNat) 8 = .ok e' →
        ∃ t, exec (.wpar b f) s = .next t ∧ begins t e'.slot .wpar 8 0 (32 * bits 20 7 f.toNat) ∧
          (e.t.jobs = [] → (later t 8).t.wpar = (List.range 32).map (fun j => reqOfBytes (memRead e.mem (base + 32 * bits 20 7 f.toNat + 8 * j) 8)))) ∧
      (∀ e', bits 7 0 f.toNat = 0 → (busy 8).reserve .bias now (32 * bits 21 8 f.toNat) 8 = .ok e' →
        let r := bits 26 22 f.toNat
        let row := tget e.t.rows r default
        ∃ t, exec (.bias b f) s = .next t ∧ begins t e'.slot .bias 8 r (32 * bits 21 8 f.toNat) ∧
          (e.t.jobs = [] → (later t 8).t.rows = (if e.t.enabled r then tset e.t.rows r (row.mapCols fun j c =>
            addBias row.kind row.anchor (memRead e.mem (base + 32 * bits 21 8 f.toNat + 8 * j) 8) c).1 else e.t.rows))) ∧
      (∀ e', bits 7 0 f.toNat = 0 →
        let r := bits 26 22 f.toNat
        let row := tget e.t.rows r default
        let n := stateLines row.kind
        (busy n).reserve .amerge now (32 * bits 21 8 f.toNat) n = .ok e' →
        ∃ t, exec (.amerge b f) s = .next t ∧ begins t e'.slot .amerge n r (32 * bits 21 8 f.toNat) ∧
          (e.t.jobs = [] → (later t n).t.rows = (if e.t.enabled r then tset e.t.rows r (row.mapCols fun j c =>
            mergeState row.kind (memRead e.mem (base + 32 * bits 21 8 f.toNat + n * j) n) c).1 else e.t.rows))) ∧
      (∀ k e', bits 2 0 f.toNat = 0 → bits 12 8 f.toNat + bits 7 3 f.toNat ≤ 31 → macKind (bits 26 21 f.toNat) (bits 20 15 f.toNat) = some k →
        let af := bits 26 21 f.toNat
        let bf := bits 20 15 f.toNat
        let row := bits 12 8 f.toNat
        let cnt := bits 7 3 f.toNat
        let clr := bits 14 14 f.toNat == 1
        let swap := bits 13 13 f.toNat = 1
        let e0 := if swap then e.withT { e.t with wAct := e.t.wSh, wSh := e.t.wAct, macBusy := now + (cnt + 1) } else busy (cnt + 1)
        (clr = true ∨ e.t.kindsAre k row cnt = true) → (swap → e.t.wldBusy ≤ now) → mmaRow af bf k clr row now e0 = .ok e' →
        ∃ t, exec (.mma b f) s = .next t ∧ SlotNext b [] e s t { e'.slot with cur := { e'.slot.cur with
            jobs := e'.slot.cur.jobs ++ [⟨.mma af bf k clr, e.slot.pcAt, now, now + 1, cnt, row + 1, 0, 0, [], [], none, e.t.rows, []⟩] } } ∧
          e'.t.macBusy = now + (cnt + 1) ∧ e'.t.wAct = (if swap then e.t.wSh else e.t.wAct) ∧ e'.t.wSh = (if swap then e.t.wAct else e.t.wSh) ∧
          (e.t.jobs = [] → ∀ r, (r < row ∨ row + cnt < r ∨ e.t.enabled r = false) → tget (later t (cnt + 1)).t.rows r default = tget e.t.rows r default) ∧
          (∀ e1 a, e.t.enabled row = true → e0.operandA af now = .ok (e1, a) →
            let old := if clr then clearedRow k e.t.anch else tget e.t.rows row default
            tget e'.t.rows row default = (old.mapCols fun j c =>
              if k = .fp32 then (addBf16 (bf16Pairs a e0.t.wAct.lines j) c, []) else addTerms k old.anchor (mmaTerms af bf a e0.t.wAct.lines j) c).1)) ∧
      (∀ e' j', bits 10 0 f.toNat = 0 → wbFormat (bits 26 21 f.toNat) = true → bits 20 16 f.toNat + bits 15 11 f.toNat ≤ 31 → Memory.wf s.mem = true →
        let o := bits 26 21 f.toNat
        let row := tget e.t.rows (bits 20 16 f.toNat) default
        let e0 := busy ((bits 15 11 f.toNat + 1) * ((4 * elemBits o + 31) / 32))
        (e0.job (.wb o) (bits 15 11 f.toNat + 1) (bits 20 16 f.toNat) 0).act e0 = .ok (e', j') →
        ∃ t y, exec (.wb b f) s = .next t ∧ SlotNextMem b [] (fun a => a < base ∨ base + 0x7FC00 ≤ a) e s t y ∧ y.cur.rows = e.t.rows ∧
          y.cur.wAct = e.t.wAct ∧ y.cur.wpar = e.t.wpar ∧ y.cur.v = e.t.v ∧ y.cur.macBusy = e0.t.macBusy ∧ y.cur.jobs = e.t.jobs ++ [{ j' with undo := e'.slot.undo.take (e'.slot.undo.length - e.slot.undo.length) }] ∧
          (∀ g c a, isMx o = false → e.t.genS.next = .ok (g, c, some a) → memRead t.mem (base + a) (min 32 (4 * elemBits o)) =
            (wbRow o (fun j => (e.t.wpar.getD j default).z) ((List.range 32).map fun j =>
              wbValue (e.t.wpar.getD j default) (accSrc row.kind row.anchor (tget row.cols j accZero)).1)).1.take 32)) ∧
      (∀ e', bits 7 0 f.toNat = 0 → Memory.wf s.mem = true →
        let row := tget e.t.rows (bits 26 22 f.toNat) default
        let n := stateLines row.kind
        let a := base + 32 * bits 21 8 f.toNat
        (busy n).reserve .asave now (32 * bits 21 8 f.toNat) n = .ok e' →
        ∃ t y, exec (.asave b f) s = .next t ∧ SlotNextMem b [] (fun i => i < a ∨ a + 32 ≤ i) e s t y ∧ memRead t.mem a 32 = row.stored.take 32 ∧
          y.cur.rows = e.t.rows ∧ y.cur.macBusy = now + n ∧
          (e.t.jobs = [] → memRead (later t n).mem a (32 * n) = row.stored ∧ ∀ i, i < a ∨ a + 32 * n ≤ i → memGet (later t n).mem i = memGet e.mem i)))

/-- WAG, load, store, SEND, RECV and MCMD move exactly the bytes their fields name, and transfers arrive 48 cycles after SEND. -/
def Obligations.LoadStoreAndNetworkOperations : Prop :=
  (∀ (s : State) (b : Issue) (f : BitVec 27) (e : TEnv), s.acts b e →
    let now := s.cycleOf b
    let base := sramBase (s.dieOf b.die).die b.tile.val
    let v := e.d.vtileOf b.tile.val
    let outside (a n : Nat) : Nat → Prop := fun i => i < base + a ∨ base + a + n ≤ i
    let later (y : TileSlot) (reg : Nat) (lanes : Tbl Nat) : TileSlot :=
      { y with cur := { y.cur with pend := insertPend ⟨now + 1, reg, lanes⟩ y.cur.pend } }
    (now < e.t.wagBusy → ∀ c ∈ [Instr.wcfg b f, .vld b f, .vst b f, .vldg b f, .vstg b f, .send b f, .recv b f, .mcmd b f],
      ∃ t, exec c s = .next t ∧ SlotFault b e s t) ∧
    (∀ c ∈ (if bits 26 25 f.toNat = 3 ∨ bits 24 14 f.toNat ≠ 0 then [Instr.wcfg b f] else []) ++ (if bits 10 0 f.toNat ≠ 0 then [.vld b f, .vst b f] else []) ++
        (if bits 18 0 f.toNat ≠ 0 then [.vldg b f, .vstg b f] else []) ++ (if bits 17 13 f.toNat ≠ 0 ∨ 265 < bits 26 18 f.toNat then [.send b f, .recv b f] else []) ++
        (if now % 20000 % 16 = 15 then [.send b f] else []) ++ (if bits 26 14 f.toNat ≠ 0 then [.mcmd b f] else []),
      ∃ t, exec c s = .next t ∧ SlotFault b e s t) ∧
    (e.t.wagBusy ≤ now →
      (∀ e' ls, bits 26 25 f.toNat ≠ 3 → bits 24 14 f.toNat = 0 → e.readLines .wcfg now (32 * bits 13 0 f.toNat) 2 = .ok (e', ls) →
        (∀ g, wagOf (memRead e.mem (base + 32 * bits 13 0 f.toNat) 64) = some g → ∃ t, exec (.wcfg b f) s = .next t ∧
          SlotNext b [] e s t { e'.slot with cur := { e'.slot.cur with wagBusy := now + 2, jobs := e.t.jobs ++
            [⟨.wcfg (bits 26 25 f.toNat), e.slot.pcAt, now, now + 2, 0, 0, 0, 0, ls, [], none, e.t.rows, []⟩] } } ∧
          (e.t.jobs = [] →
            let y := (((⟨t.dieOf b.die, t.mem, []⟩ : DM).tenv b.tile.val now).jobsTo (now + 2)).t
            y.genA = (if bits 26 25 f.toNat = 0 then ⟨some g, 0⟩ else e.t.genA) ∧ y.genV = (if bits 26 25 f.toNat = 1 then ⟨some g, 0⟩ else e.t.genV) ∧
            y.genS = (if bits 26 25 f.toNat = 2 then ⟨some g, 0⟩ else e.t.genS))) ∧
        (wagOf (memRead e.mem (base + 32 * bits 13 0 f.toNat) 64) = none → ∃ t, exec (.wcfg b f) s = .next t ∧ SlotFault b e s t)) ∧
      (∀ e' bs, bits 10 0 f.toNat = 0 → e.read .vld now (256 * bits 21 11 f.toNat) 256 = .ok (e', bs) → ∃ t, exec (.vld b f) s = .next t ∧
        SlotNext b [] e s t (later e'.slot (bits 26 22 f.toNat)
          ((List.range 64).map fun k => (k, leNat (memRead e.mem (base + 256 * bits 21 11 f.toNat + 4 * k) 4))))) ∧
      (∀ e', bits 10 0 f.toNat = 0 → Memory.wf s.mem = true →
        e.write .vst now (256 * bits 21 11 f.toNat) (e.t.laneBytes (bits 26 22 f.toNat) 0 64) = .ok e' →
        ∃ t y, exec (.vst b f) s = .next t ∧ SlotNextMem b [] (outside (256 * bits 21 11 f.toNat) 256) e s t y ∧ y.cur.v = e.t.v ∧
          ∀ k, k < 64 → leNat (memRead t.mem (base + 256 * bits 21 11 f.toNat + 4 * k) 4) = e.t.lane (bits 26 22 f.toNat) k % 2 ^ 32) ∧
      (∀ g c a, bits 18 0 f.toNat = 0 → e.t.genV.next = .ok (g, c, a) →
        let e1 := e.withT { e.t with genV := g }
        (a = none → ∃ t, exec (.vldg b f) s = .next t ∧
          SlotNext b [] e s t (later e1.slot (bits 26 22 f.toNat) ((List.range 8).map fun k => (8 * bits 21 19 f.toNat + k, 0)))) ∧
        (∀ a0 e' bs, a = some a0 → e1.read .vldg now a0 32 = .ok (e', bs) → ∃ t, exec (.vldg b f) s = .next t ∧
          SlotNext b [] e s t (later e'.slot (bits 26 22 f.toNat)
            ((List.range 8).map fun k => (8 * bits 21 19 f.toNat + k, leNat (memRead e.mem (base + a0 + 4 * k) 4)))))) ∧
      (∀ g c a, bits 18 0 f.toNat = 0 → e.t.genS.next = .ok (g, c, a) →
        let e1 := e.withT { e.t with genS := g }
        (a = none → ∃ t, exec (.vstg b f) s = .next t ∧ SlotNext b [] e s t e1.slot) ∧
        (∀ a0 e', a = some a0 → Memory.wf s.mem = true →
          e1.write .vstg now a0 (e.t.laneBytes (bits 26 22 f.toNat) (8 * bits 21 19 f.toNat) 8) = .ok e' →
          ∃ t y, exec (.vstg b f) s = .next t ∧ SlotNextMem b [] (outside a0 32) e s t y ∧ y.cur.genS = g ∧
            ∀ k, k < 8 → leNat (memRead t.mem (base + a0 + 4 * k) 4) = e.t.lane (bits 26 22 f.toNat) (8 * bits 21 19 f.toNat + k) % 2 ^ 32)) ∧
      (∀ e' bs, bits 17 13 f.toNat = 0 → bits 26 18 f.toNat ≤ 265 → now % 20000 % 16 ≠ 15 → e.read .send now (64 * bits 12 0 f.toNat) 64 = .ok (e', bs) →
        ∃ t, exec (.send b f) s = .next t ∧ SlotNext b [] e s t e'.slot ∧ (t.dieOf b.die).tar.net = e.d.tar.net ++
          (if 512 ≤ v ∧ bits 26 18 f.toNat ≠ 260 then [] else [⟨v, bits 26 18 f.toNat, now + 48, memRead e.mem (base + 64 * bits 12 0 f.toNat) 64, false⟩])) ∧
      (bits 17 13 f.toNat = 0 → bits 26 18 f.toNat ≤ 265 →
        let here := e.d.tar.net.filter (fun y => y.dst == v && y.due == now)
        (here = [] ∨ 2 ≤ here.length → ∃ t, exec (.recv b f) s = .next t ∧ SlotFault b e s t) ∧
        (∀ y, here = [y] → y.src ≠ bits 26 18 f.toNat → ∃ t, exec (.recv b f) s = .next t ∧ SlotFault b e s t) ∧
        (∀ y e', here = [y] → y.src = bits 26 18 f.toNat → Memory.wf s.mem = true →
          e.write (.recv (decide (y.src = 260 ∨ y.src = 265))) now (64 * bits 12 0 f.toNat) y.data = .ok e' →
          ∃ t, exec (.recv b f) s = .next t ∧ SlotNextMem b [] (outside (64 * bits 12 0 f.toNat) y.data.length) e s t e'.slot ∧
            memRead t.mem (base + 64 * bits 12 0 f.toNat) y.data.length = y.data ∧
            ∀ z ∈ (t.dieOf b.die).tar.net, z.dst = v → z.due = now → z.got = true)) ∧
      (∀ e' bs, bits 26 14 f.toNat = 0 → e.read .mcmd now (32 * bits 13 0 f.toNat) 32 = .ok (e', bs) →
        (streamOf (memRead e.mem (base + 32 * bits 13 0 f.toNat) 32) = none → ∃ t, exec (.mcmd b f) s = .next t ∧ SlotFault b e s t) ∧
        (∀ n st, streamOf (memRead e.mem (base + 32 * bits 13 0 f.toNat) 32) = some (n, st) →
          let old := tget e.d.mem.streams (64 * v + n) default
          ∃ t, exec (.mcmd b f) s = .next t ∧ SlotNext b [.mem] e s t { e'.slot with undoS := some (64 * v + n, old) } ∧
            (t.dieOf b.die).mem = { e.d.mem with streams := tset e.d.mem.streams (64 * v + n) st } ∧ st.moved = 0 ∧
            (t.dieOf b.die).tar.events = (if old.moved < old.lines then insertEv ⟨now, b.tile.val, now, none⟩ e.d.tar.events else e.d.tar.events))))) ∧
  (∀ (s : State) (d : Die) (e : Fin 266) (cyc : Fin 20000),
    let now := (s.dieOf d).seq.step * 20000 + cyc.val
    let due (y : Xfer) : Bool := y.dst == e.val && y.due == now
    let here := (s.dieOf d).tar.net.filter due
    let p := (s.dieOf d).ptileOf e.val
    (256 ≤ e.val → ∃ t, exec (.transferArrival d e cyc) s = .next t ∧ (t.dieOf d).tar.inbox = (s.dieOf d).tar.inbox ++ here ∧
      (t.dieOf d).tar.net = (s.dieOf d).tar.net.filter (fun y => !due y) ∧ (t.dieOf d).tar.tiles = (s.dieOf d).tar.tiles ∧ Frame d [.seq, .tar] s t) ∧
    (e.val < 256 → (∀ y ∈ here, y.got = true) → ∃ t, exec (.transferArrival d e cyc) s = .next t ∧
      (t.dieOf d).tar = { (s.dieOf d).tar with net := (s.dieOf d).tar.net.filter (fun y => !due y) } ∧ Frame d [.seq, .tar] s t) ∧
    (e.val < 256 → ∀ y ∈ here, y.got = false → ((s.dieOf d).slotOf p).cur.stat = .running → ((s.dieOf d).slotOf p).at_ ≠ some now →
      ∃ t, exec (.transferArrival d e cyc) s = .next t ∧ ((t.dieOf d).slotOf p).cur = { ((s.dieOf d).slotOf p).cur with stat := .stopped } ∧
        (t.dieOf d).rd rTAR_FAULT_COUNT = min 0xFFFFFFFF ((s.dieOf d).rd rTAR_FAULT_COUNT + 1) ∧ TilesOnly p (s.dieOf d) (t.dieOf d) ∧
        Frame d [.seq, .tar, .syn, .mem, .ctx, .regs, .ink] s t))

/-- A sync operation acts on its word and its response reaches the tile; a misuse stops the tile and resets its context; waits end by probe or budget. -/
def Obligations.SyncWordsAndResponses : Prop :=
  (∀ (s : State) (d : Die) (cyc : Fin 20000) (o : SyncOp), (s.dieOf d).syn.ops = [o] → (s.dieOf d).syn.resps = [] → o.op ≤ 4 →
    o.reach + 16 ≤ (s.dieOf d).seq.step * 20000 + cyc.val →
    let x := s.dieOf d
    let q := x.ptileOf o.issuer
    let v := bits 7 0 (x.stt o.ctx o.vsid)
    let p := x.ptileOf v
    let i := o.vsid % 256
    let k := i / 2 * 2
    let w := wordAddr x.die p i
    let at_ (m : List Host.Cell) (j : Nat) : Nat := leNat (memRead m (wordAddr x.die p j) 4)
    let diff := (at_ s.mem k + 2 ^ 32 - at_ s.mem (k + 1)) % 2 ^ 32
    let tile (t : State) (f : Tile → Tile) : Prop :=
      (x.away o.issuer o.ctx = false → ((t.dieOf d).slotOf q).cur = f (x.slotOf q).cur ∧ TilesOnly q x (t.dieOf d)) ∧
      (x.away o.issuer o.ctx = true → (t.dieOf d).tar.tiles = x.tar.tiles ∧ (t.dieOf d).ctx.aux = (x.modSaved o.issuer o.ctx f).ctx.aux)
    let good (t : State) (st : Nat) (sd : Option Nat) : Prop := (t.dieOf d).wordState p i = st ∧
      tile t (fun y => match sd with | some a => { y with sd := a } | none => y) ∧ (t.dieOf d).syn.ops = [] ∧ (t.dieOf d).syn.resps = []
    let keeps (t : State) : Prop := Frame d [.seq, .tar, .syn, .ctx] s t
    let stores (t : State) (out : Nat → Prop) : Prop := FrameMem d [.seq, .tar, .syn, .ctx] out s t
    let outside (a : Nat) : Nat → Prop := fun b => b < a ∨ a + 4 ≤ b
    let stops (t : State) (bit : Nat) : Prop := tile t (fun y => { y with stat := .stopped, wait := .none }) ∧
      (t.dieOf d).flag rSYN_STATUS bit = true ∧ o.ctx ∈ (t.dieOf d).ctx.resets ∧ (t.dieOf d).syn.words = x.syn.words ∧
      Frame d [.seq, .tar, .syn, .ctx, .regs, .ink, .chk, .net] s t
    (x.sttCheck o.ctx o.vsid o.op ≠ 0 → ∃ t, exec (.syncResponse d cyc) s = .next t ∧ stops t 4) ∧
    (x.sttCheck o.ctx o.vsid o.op = 0 → x.wordState p i = 2 →
      (o.op = 2 → ∃ t, exec (.syncResponse d cyc) s = .next t ∧ good t 2 (some 2) ∧ keeps t) ∧
      (o.op ≠ 2 → ∃ t, exec (.syncResponse d cyc) s = .next t ∧ stops t 0)) ∧
    (x.sttCheck o.ctx o.vsid o.op = 0 → x.pairDepth v i = none → x.wordState p i ≤ 1 → Memory.wf s.mem = true →
      ((o.op = 3 ∨ (o.op = 0 ∧ x.wordState p i = 0)) → ∃ t, exec (.syncResponse d cyc) s = .next t ∧ good t 1 none ∧ at_ t.mem i = o.sd % 2 ^ 32 ∧ stores t (outside w)) ∧
      (o.op = 1 → x.wordState p i = 1 → ∃ t, exec (.syncResponse d cyc) s = .next t ∧ good t 0 (some (at_ s.mem i)) ∧ keeps t) ∧
      (o.op = 2 → ∃ t, exec (.syncResponse d cyc) s = .next t ∧ good t (x.wordState p i) (some (x.wordState p i)) ∧ keeps t) ∧
      (o.op = 4 → ∃ t, exec (.syncResponse d cyc) s = .next t ∧ good t 0 none ∧ keeps t) ∧
      (((o.op = 0 ∧ x.wordState p i = 1) ∨ (o.op = 1 ∧ x.wordState p i = 0)) → ∃ t, exec (.syncResponse d cyc) s = .next t ∧ stops t 2)) ∧
    (∀ n, x.sttCheck o.ctx o.vsid o.op = 0 → x.pairDepth v i = some n → x.wordState p i ≤ 1 → Memory.wf s.mem = true →
      (o.op = 0 → i = k → diff < n → ∃ t, exec (.syncResponse d cyc) s = .next t ∧ good t (x.wordState p i) (some (at_ s.mem k)) ∧
        at_ t.mem k = (at_ s.mem k + 1) % 2 ^ 32 ∧ stores t (outside (wordAddr x.die p k))) ∧
      (o.op = 1 → i = k + 1 → 0 < diff → ∃ t, exec (.syncResponse d cyc) s = .next t ∧ good t (x.wordState p i) (some (at_ s.mem (k + 1))) ∧
        at_ t.mem (k + 1) = (at_ s.mem (k + 1) + 1) % 2 ^ 32 ∧ stores t (outside (wordAddr x.die p (k + 1)))) ∧
      (o.op = 2 → ∃ t, exec (.syncResponse d cyc) s = .next t ∧ good t (x.wordState p i) (some diff) ∧ keeps t) ∧
      (o.op = 4 → ∃ t, exec (.syncResponse d cyc) s = .next t ∧ good t (x.wordState p i) none ∧ at_ t.mem k = 0 ∧ at_ t.mem (k + 1) = 0 ∧
        stores t (fun b => b < wordAddr x.die p k ∨ wordAddr x.die p k + 8 ≤ b)) ∧
      (((o.op = 0 ∧ i = k ∧ n ≤ diff) ∨ (o.op = 1 ∧ i = k + 1 ∧ diff = 0)) → ∃ t, exec (.syncResponse d cyc) s = .next t ∧ stops t 3) ∧
      ((o.op = 3 ∨ (o.op = 0 ∧ i ≠ k) ∨ (o.op = 1 ∧ i = k)) → ∃ t, exec (.syncResponse d cyc) s = .next t ∧ stops t 2))) ∧
  (∀ (s : State) (d : Die) (p : Fin 272) (vsid want next st bu : Nat) (bt : Bool), ((s.dieOf d).slotOf p.val).cur.wait = .sync vsid want next st bu bt none →
    next < ((s.dieOf d).seq.step + 1) * 20000 → (∀ o ∈ (s.dieOf d).syn.ops, next < o.reach) →
    let x := s.dieOf d
    let c := x.ctxOf p.val
    let v := bits 7 0 (x.stt c vsid)
    let q := x.ptileOf v
    let i := vsid % 256
    let k := i / 2 * 2
    let at_ (j : Nat) : Nat := leNat (memRead s.mem (wordAddr x.die q j) 4)
    let diff := (at_ k + 2 ^ 32 - at_ (k + 1)) % 2 ^ 32
    let waits (t : State) (rel : Option Nat) : Prop := ((t.dieOf d).slotOf p.val).cur = { (x.slotOf p.val).cur with wait := .sync vsid want (next + 32) st bu bt rel } ∧
      TilesOnly p.val x (t.dieOf d)
    let answers (oc : Nat) : Prop := ∃ t, exec (.swaitProbe d p) s = .next t ∧ waits t none ∧
      (t.dieOf d).syn.resps = x.syn.resps ++ [⟨next + 16, x.vtileOf p.val, p.val, c, vsid, oc, none, true⟩] ∧ Frame d [.seq, .tar, .syn] s t
    let probed (hit : Bool) : Prop := ∃ t, exec (.swaitProbe d p) s = .next t ∧ waits t (if hit then some (next + 16) else none) ∧ Frame d [.seq, .tar, .syn] s t
    (x.sttCheck c vsid 5 ≠ 0 → answers (x.sttCheck c vsid 5)) ∧
    (x.sttCheck c vsid 5 = 0 → x.wordState q i = 2 → answers 1) ∧
    (x.sttCheck c vsid 5 = 0 → x.wordState q i ≤ 1 →
      (x.pairDepth v i = none → probed (decide (x.wordState q i = want))) ∧
      (∀ n, x.pairDepth v i = some n → (want = 0 → i = k → probed (decide (diff < n))) ∧ (want = 1 → i = k + 1 → probed (decide (0 < diff))) ∧
        ((want = 0 ∧ i ≠ k) ∨ (want = 1 ∧ i = k) → answers 2)))) ∧
  (∀ (s : State) (d : Die) (p : Fin 272) (i next st bu : Nat) (tgt : Nat) (r bt : Bool) (rel : Option Nat),
    (((s.dieOf d).slotOf p.val).cur.wait = .sync i tgt next st bu bt rel ∨ ((s.dieOf d).slotOf p.val).cur.wait = .bar i tgt st bu r bt rel) →
    st + bu ≤ (s.dieOf d).seq.step → (∀ a, rel = some a → (s.dieOf d).seq.step * 20000 < a) →
    ∃ t, exec (.pollTimeout d p) s = .next t ∧ ((t.dieOf d).slotOf p.val).cur = { ((s.dieOf d).slotOf p.val).cur with stat := .stopped, wait := .none } ∧
      (t.dieOf d).syn.resps = (s.dieOf d).syn.resps.filter (fun a => !(a.wait && a.issuer == (s.dieOf d).vtileOf p.val)) ∧
      (t.dieOf d).flag rSYN_STATUS 1 = true ∧ (t.dieOf d).rd (rSYN_CNT + 16) = min 0xFFFFFFFF ((s.dieOf d).rd (rSYN_CNT + 16) + 1) ∧
      (s.dieOf d).ctxOf p.val ∈ (t.dieOf d).ctx.resets ∧ TilesOnly p.val (s.dieOf d) (t.dieOf d) ∧
      Frame d [.tar, .syn, .ctx, .regs, .ink, .chk, .net] s t)

/-- Arrivals register once per generation; the last one advances the barrier and releases its waiters 16 cycles later; a third arrival poisons it. -/
def Obligations.BarriersArriveCompleteAndRelease : Prop :=
  (∀ (s : State) (d : Die) (n : Fin 64) (cyc : Fin 20000) (a : BarArr),
    let now := (s.dieOf d).seq.step * 20000 + cyc.val
    let x := s.dieOf d
    let b := x.bar n.val
    let bars := rSYN_BAR + 4 * n.val
    let back (t : State) (oc : Nat) : Prop := (t.dieOf d).syn.resps = x.syn.resps ++ [⟨a.reach + 16, a.part, a.ptile, a.ctx, n.val, oc, none, false⟩]
    x.syn.arrs.filter (fun a => a.index == n.val && decide (a.reach ≤ now ∧ a.part < 512)) = [a] → (∀ o ∈ x.syn.ops, now ≤ o.reach) →
    (x.barOwned n.val a.ctx = false →
      ∃ t, exec (.barrierArrival d n cyc) s = .next t ∧ back t 4 ∧ (t.dieOf d).syn.bars = x.syn.bars ∧ Frame d [.seq, .syn] s t) ∧
    (x.barOwned n.val a.ctx = true → b.doneAt ≠ some a.reach →
      (x.flag bars 15 = true → ∃ t, exec (.barrierArrival d n cyc) s = .next t ∧ back t 1 ∧ (t.dieOf d).syn.bars = x.syn.bars ∧ Frame d [.seq, .syn] s t) ∧
      (x.flag bars 15 = false → x.barMask n.val a.part = false → (∃ q ∈ x.barParts n.val, q ∉ b.arr) →
        ∃ t, exec (.barrierArrival d n cyc) s = .next t ∧ back t 2 ∧ (t.dieOf d).syn.bars = x.syn.bars ∧ Frame d [.seq, .syn] s t) ∧
      (x.flag bars 15 = false → x.barMask n.val a.part = true →
        (a.part ∉ b.arr → (∃ q ∈ x.barParts n.val, q ∉ b.arr ++ [a.part]) →
          ∃ t, exec (.barrierArrival d n cyc) s = .next t ∧ ((t.dieOf d).bar n.val).arr = b.arr ++ [a.part] ∧ ((t.dieOf d).bar n.val).early = b.early ∧
            back t 0 ∧ Frame d [.seq, .syn] s t) ∧
        (a.part ∉ b.arr → (∀ q ∈ x.barParts n.val, q ∈ b.arr ++ [a.part]) →
          ∃ t, exec (.barrierArrival d n cyc) s = .next t ∧ (t.dieOf d).barGen n.val = (x.barGen n.val + 1) % 65536 ∧
            ((t.dieOf d).bar n.val).arr = b.early ∧ ((t.dieOf d).bar n.val).early = [] ∧ back t 0 ∧
            (∀ q tgt st bu bt, (x.slotOf q).cur.wait = .bar n.val tgt st bu true bt none → genPassed ((x.barGen n.val + 1) % 65536) tgt = true →
              ((t.dieOf d).slotOf q).cur = { (x.slotOf q).cur with wait := .bar n.val tgt st bu true bt (some (a.reach + 16)) }) ∧
            RegsOnly [bars] x (t.dieOf d) ∧ Frame d [.seq, .tar, .syn, .regs] s t) ∧
        (a.part ∈ b.arr → (∃ q ∈ x.barParts n.val, q ∉ b.arr) → a.part ∉ b.early →
          ∃ t, exec (.barrierArrival d n cyc) s = .next t ∧ ((t.dieOf d).bar n.val).arr = b.arr ∧ ((t.dieOf d).bar n.val).early = b.early ++ [a.part] ∧
            back t 0 ∧ Frame d [.seq, .syn] s t) ∧
        (a.part ∈ b.arr → a.part ∈ b.early →
          ∃ t, exec (.barrierArrival d n cyc) s = .next t ∧ (t.dieOf d).flag bars 15 = true ∧
            (t.dieOf d).syn.resps.getLast? = some ⟨a.reach + 16, a.part, a.ptile, a.ctx, n.val, 7, none, false⟩ ∧
            RegsOnly [bars] x (t.dieOf d) ∧ Frame d [.seq, .syn, .regs] s t)))) ∧
  (∀ (s : State) (d : Die) (n : Fin 64) (e : Fin 10) (cyc : Fin 20000),
    let now := (s.dieOf d).seq.step * 20000 + cyc.val
    let x := s.dieOf d
    let b := x.bar n.val
    let bars := rSYN_BAR + 4 * n.val
    (∀ o ∈ x.syn.ops, now ≤ o.reach) → (∀ a ∈ x.syn.arrs, a.index = n.val → now < a.reach) →
    x.flag bars 13 = true → x.flag bars 15 = false → x.barMask n.val (256 + e.val) = true → b.doneAt ≠ some now →
    (256 + e.val ∉ b.arr → (∃ q ∈ x.barParts n.val, q ∉ b.arr ++ [256 + e.val]) →
      ∃ t, exec (.engineBarrierArrival d n e cyc) s = .next t ∧ ((t.dieOf d).bar n.val).arr = b.arr ++ [256 + e.val] ∧
        (t.dieOf d).syn.resps = x.syn.resps ∧ Frame d [.seq, .syn] s t) ∧
    (256 + e.val ∉ b.arr → (∀ q ∈ x.barParts n.val, q ∈ b.arr ++ [256 + e.val]) →
      ∃ t, exec (.engineBarrierArrival d n e cyc) s = .next t ∧ (t.dieOf d).barGen n.val = (x.barGen n.val + 1) % 65536 ∧
        ((t.dieOf d).bar n.val).arr = b.early ∧ RegsOnly [bars] x (t.dieOf d) ∧ Frame d [.seq, .tar, .syn, .regs] s t) ∧
    (256 + e.val ∈ b.arr → (∃ q ∈ x.barParts n.val, q ∉ b.arr) → 256 + e.val ∉ b.early →
      ∃ t, exec (.engineBarrierArrival d n e cyc) s = .next t ∧ ((t.dieOf d).bar n.val).arr = b.arr ∧ ((t.dieOf d).bar n.val).early = b.early ++ [256 + e.val] ∧
        Frame d [.seq, .syn] s t) ∧
    (256 + e.val ∈ b.arr → 256 + e.val ∈ b.early →
      ∃ t, exec (.engineBarrierArrival d n e cyc) s = .next t ∧ (t.dieOf d).flag bars 15 = true ∧ (t.dieOf d).flag rSYN_STATUS 5 = true ∧
        Frame d [.seq, .tar, .syn, .regs, .ink, .ctx, .chk, .net] s t)) ∧
  (∀ (s : State) (d : Die) (p : Fin 272), (∀ o ∈ (s.dieOf d).syn.ops, (s.dieOf d).seq.step * 20000 + (s.dieOf d).seq.cycle < o.reach) →
    (∀ i tgt st bu bt rc next rel, (∀ r ∈ (s.dieOf d).syn.resps, (s.dieOf d).ptileOf r.issuer ≠ p.val) → rel < ((s.dieOf d).seq.step + 1) * 20000 →
      (((s.dieOf d).slotOf p.val).cur.wait = .bar i tgt st bu rc bt (some rel) ∨ ((s.dieOf d).slotOf p.val).cur.wait = .sync i tgt next st bu bt (some rel)) →
      ∃ t, exec (.bwaitRelease d p) s = .next t ∧ ((t.dieOf d).slotOf p.val).cur = { ((s.dieOf d).slotOf p.val).cur with wait := .none, ready := rel } ∧
        TilesOnly p.val (s.dieOf d) (t.dieOf d) ∧ Frame d [.seq, .tar, .syn] s t) ∧
    (∀ r, (s.dieOf d).syn.resps = [r] → (s.dieOf d).ptileOf r.issuer = p.val → (s.dieOf d).away r.issuer r.ctx = false →
      let y := ((s.dieOf d).slotOf p.val).cur
      let y' : Tile := match r.sd with | some v => { y with sd := v } | none => y
      (r.outcome = 0 → ∃ t, exec (.bwaitRelease d p) s = .next t ∧ ((t.dieOf d).slotOf p.val).cur = y' ∧ (t.dieOf d).syn.resps = [] ∧
        TilesOnly p.val (s.dieOf d) (t.dieOf d) ∧ Frame d [.seq, .tar, .syn] s t) ∧
      (r.outcome ≠ 0 → ∃ t, exec (.bwaitRelease d p) s = .next t ∧ ((t.dieOf d).slotOf p.val).cur = { y' with stat := .stopped, wait := .none } ∧
        (t.dieOf d).flag rSYN_STATUS (outcomeFlag r.outcome).1 = true ∧ r.ctx ∈ (t.dieOf d).ctx.resets ∧ (t.dieOf d).syn.resps = [] ∧
        TilesOnly p.val (s.dieOf d) (t.dieOf d) ∧ Frame d [.seq, .tar, .syn, .ctx, .regs, .ink, .chk, .net] s t)))

/-- The rotating spare hands a group over, copies its memory, switches the map, tests the group that left, and fences it where it fails. -/
def Obligations.RotationHandsOverTestsAndFences : Prop :=
  (∀ (s : State) (d : Die) (u : Bool),
    let x := s.dieOf d
    let o := x.rotOut u
    let n := (o + 1) % 17
    let c : Instr := if u then .stmHandoverBegin d else .handoverBegin d
    (x.handDue u = false ∨ x.seq.cycle ≠ 0 → ∃ t, exec c s = .next t ∧ Frame d [] s t) ∧
    (x.handDue u = true → x.seq.cycle = 0 →
      (x.grpState u o = 4 ∨ (x.grpState u o = 5 ∧ u = false ∧ x.maintBusy = true) →
        ∃ t, exec c s = .next t ∧ (t.dieOf d).flag (Rot.diag u) 3 = true ∧ Frame d [.regs, .ink] s t) ∧
      (o ≤ 16 → x.grpState u o = 5 → (u = false → x.maintBusy = false) →
        ∃ t, exec c s = .next t ∧ ((t.dieOf d).rot u).hand = some ⟨n, o, x.seq.step⟩ ∧
          (t.dieOf d).grpState u n = 2 ∧ (t.dieOf d).grpState u o = 3 ∧ RegsOnly [Rot.grp u n, Rot.grp u o] x (t.dieOf d) ∧
          Frame d (if u then [.stm, .regs] else [.tar, .syn, .ctx, .regs]) s t))) ∧
  (∀ (s : State) (d : Die) (u : Bool) (m : Fin 1250) (h : Handover) (a : Nat), ((s.dieOf d).rot u).hand = some h → (s.dieOf d).stepping = true →
    (s.dieOf d).seq.step - h.step ≤ 6 → copyOffset u ((s.dieOf d).seq.step - h.step) m.val = some a → (s.dieOf d).jobTiles = [] → Memory.wf s.mem = true →
    let x := s.dieOf d
    let r : Rotation := x.rot u
    let now := x.seq.step * 20000 + 16 * m.val + 15
    let c : Instr := if u then .stmHandoverCopy d m else .handoverCopy d m
    (∃ t, exec c s = .next t ∧ ((t.dieOf d).rot u).copies =
        (r.copies.filter (fun y => decide (now < y.due))).map (·.note (r.mirror.filter (fun y => decide (y.1 ≤ now)))) ++
          (List.range (unitCount u)).map (fun i => ⟨now, x.copyDue u m.val, unitBase u x.die h.inc i + a, memRead t.mem (unitBase u x.die h.outg i + a) 64, []⟩) ∧
      ((t.dieOf d).rot u).mirror = r.mirror.filter (fun y => decide (now < y.1)) ∧
      FrameMem d (if u then [.seq, .stm, .syn] else [.seq, .tar, .syn]) (fun b => (∀ y ∈ r.copies, b < y.addr ∨ y.addr + y.data.length ≤ b) ∧ ∀ y ∈ r.mirror, y.2.1 ≠ b) s t) ∧
    (∀ y, r.copies = [y] → r.mirror = [] → y.since = [] → y.due ≤ now → y.data.length = 64 →
      ∃ t, exec c s = .next t ∧ memRead t.mem y.addr 64 = y.data)) ∧
  (∀ (s : State) (d : Die) (u : Bool) (h : Handover), ((s.dieOf d).rot u).hand = some h → (s.dieOf d).stepping = true → (s.dieOf d).seq.cycle = 0 →
    h.step + 8 ≤ (s.dieOf d).seq.step → h.outg ≤ 16 → h.inc ≤ 16 → h.outg ≠ h.inc →
    let x := s.dieOf d
    let c : Instr := if u then .stmHandoverSwitch d else .handoverSwitch d
    let switched (t : State) (us : List DiePart) : Prop := ((t.dieOf d).rot u).hand = none ∧
      ((t.dieOf d).rot u).lastSw = x.seq.step ∧ (t.dieOf d).rotOut u = h.outg ∧ (t.dieOf d).grpState u h.inc = 1 ∧
      (t.dieOf d).rd (Rot.hands u) = min 0xFFFFFFFF (x.rd (Rot.hands u) + 1) ∧ (∀ vg, x.rotVirt u h.outg = some vg → (t.dieOf d).rd (Rot.map u vg) = h.inc) ∧
      (∀ i k, i < unitCount u → k < unitSize u → memGet t.mem (unitBase u x.die h.inc i + k) = memGet t.mem (unitBase u x.die h.outg i + k)) ∧
      (u = false → ∀ i, i < 16 → ((t.dieOf d).slotOf (16 * h.inc + i)).cur = (x.slotOf (16 * h.inc + i)).cur.mirrorOf (x.slotOf (16 * h.outg + i)).cur) ∧
      FrameMem d ((if u then .stm else .tar) :: .syn :: .regs :: .ink :: us) (fun b => (∀ i, i < unitCount u →
        b < unitBase u x.die h.inc i ∨ unitBase u x.die h.inc i + unitSize u ≤ b) ∧ (∀ y ∈ (x.rot u).copies, b < y.addr ∨ y.addr + y.data.length ≤ b) ∧
        ∀ y ∈ (x.rot u).mirror, y.2.1 ≠ b) s t
    (x.groupReady u h.outg = false → ∃ t, exec c s = .next t ∧ (t.dieOf d).flag (Rot.diag u) 2 = true ∧ Frame d [.regs, .ink] s t) ∧
    (x.groupReady u h.outg = true → (x.rot u).fencing = none → Memory.wf s.mem = true →
      ∃ t, exec c s = .next t ∧ switched t [] ∧ (t.dieOf d).grpState u h.outg = 4) ∧
    (x.groupReady u h.outg = true → (x.rot u).fencing = some h.outg → Memory.wf s.mem = true →
      ∃ t, exec c s = .next t ∧ switched t [.qll, .chk, .net] ∧ (t.dieOf d).grpState u h.outg = 6 ∧ (t.dieOf d).exhausted u = true ∧ ((t.dieOf d).rot u).fencing = none)) ∧
  (∀ (s : State) (d : Die) (u : Bool), (s.dieOf d).rotOut u ≤ 16 → (s.dieOf d).grpState u ((s.dieOf d).rotOut u) = 4 →
    let g := (s.dieOf d).rotOut u
    (∃ t, exec (if u then .stmGroupTestPass d else .groupTestPass d) s = .next t ∧ (t.dieOf d).grpState u g = 5 ∧ (t.dieOf d).testAge u g = 0 ∧
      (t.dieOf d).flag (Rot.grp u g) 3 = false ∧
      (t.dieOf d).fld (Rot.grp u g) 31 16 = min 65535 ((s.dieOf d).fld (Rot.grp u g) 31 16 + 1) ∧ RegsOnly [Rot.grp u g] (s.dieOf d) (t.dieOf d) ∧
      Frame d (if u then [.stm, .regs] else [.tar, .regs]) s t) ∧
    (∃ t, exec (if u then .stmGroupTestFail d else .groupTestFail d) s = .next t ∧ (t.dieOf d).grpState u g = 6 ∧ (t.dieOf d).flag (Rot.grp u g) 3 = true ∧
      (t.dieOf d).exhausted u = true ∧ (t.dieOf d).flag (Rot.out u) 8 = true ∧
      ((s.dieOf d).flag (Rot.cfg u) 1 = true → (t.dieOf d).flag rCHK_SAFE_CAUSE 12 = true) ∧ Frame d [.regs, .ink, .qll, .chk, .net] s t)) ∧
  (∀ (s : State) (d : Die) (u : Bool), (s.dieOf d).stepping = true →
    let kept (t : State) : Prop :=
      (t.dieOf d).rd (Rot.maxInt u) = max ((s.dieOf d).rd (Rot.maxInt u)) (min 0xFFFFFFFF ((s.dieOf d).maxAge u)) % 2 ^ 32
    ((s.dieOf d).exhausted u = true ∨ (s.dieOf d).maxAge u ≤ (s.dieOf d).rd (Rot.limit u) →
      ∃ t, exec (if u then .stmSpareInterval d else .spareInterval d) s = .next t ∧ kept t ∧
        RegsOnly [Rot.maxInt u] (s.dieOf d) (t.dieOf d) ∧ Frame d [.regs] s t) ∧
    ((s.dieOf d).exhausted u = false → (s.dieOf d).rd (Rot.limit u) < (s.dieOf d).maxAge u →
      ∃ t, exec (if u then .stmSpareInterval d else .spareInterval d) s = .next t ∧ kept t ∧ (t.dieOf d).flag (Rot.diag u) 0 = true ∧
        ((s.dieOf d).flag rCHK_CFG 0 = true → (t.dieOf d).flag rCHK_SAFE_CAUSE 16 = true) ∧ Frame d [.regs, .ink, .chk, .net] s t)) ∧
  (∀ (s : State) (d : Die) (u : Bool) (v : BitVec 32),
    let x := s.dieOf d
    let f := v.toNat % 32
    let c : Instr := if u then .stmFenceReq d v else .tarFenceReq d v
    (x.stepping = true → s.whole.paired = false →
      ∃ t, exec c s = .next t ∧ (t.dieOf d).reqs = x.reqs ++ [(if u then rSTM_FENCE_REQ else rTAR_FENCE_REQ, v.toNat, x.seq.step + 1)] ∧ FrameOf d [.reqs] s t) ∧
    (x.stepping = false →
      (bit 31 v.toNat = false → ∃ t, exec c s = .next t ∧ FrameOf d [] s t) ∧
      (bit 31 v.toNat = true → (16 < f ∨ (f ≠ x.rotOut u ∧ x.exhausted u = true)) →
        ∃ t, exec c s = .next t ∧ (t.dieOf d).flag (Rot.diag u) 4 = true ∧ FrameOf d [.regs, .ink] s t) ∧
      (bit 31 v.toNat = true → f ≤ 16 → f ≠ x.rotOut u → x.exhausted u = false →
        ∃ t, exec c s = .next t ∧ ((t.dieOf d).rot u).fencing = some f ∧ RegsOnly [Rot.grp u (x.rotOut u)] x (t.dieOf d) ∧
          FrameOf d (if u then [.stm, .regs] else [.tar, .regs]) s t) ∧
      (bit 31 v.toNat = true → f = x.rotOut u → x.rotOut u ≤ 16 →
        ∃ t, exec c s = .next t ∧ (t.dieOf d).grpState u (x.rotOut u) = 6 ∧ ((t.dieOf d).rot u).hand = none ∧
          (t.dieOf d).exhausted u = true ∧ FrameOf d [.tar, .stm, .syn, .ctx, .regs, .ink, .qll, .chk, .net] s t)))

/-- Slices renew or stop their context, a stopped one is saved and switched, a loaded one runs, and a reset poisons the objects of its context. -/
def Obligations.ContextsSliceStopSwitchAndReset : Prop :=
  (∀ (s : State) (d : Die) (n : Fin 16), (s.dieOf d).stepping = true → (s.dieOf d).seq.cycle = 0 → (s.dieOf d).axState n.val = 3 →
    (((s.dieOf d).aux n.val).sliceEnd ≤ (s.dieOf d).seq.step ∨
      ((s.dieOf d).axTiles n.val ≠ [] ∧ ∀ p ∈ (s.dieOf d).axTiles n.val, ((s.dieOf d).slotOf p).cur.stat = .halted)) →
    ((s.dieOf d).ctx.queue = [] → ∃ t, exec (.sliceEnd d n) s = .next t ∧
      (t.dieOf d).aux n.val = { (s.dieOf d).aux n.val with sliceEnd := (s.dieOf d).seq.step + (s.dieOf d).slice } ∧ (t.dieOf d).axState n.val = 3 ∧
      (t.dieOf d).rd (rCTX_SLICES + 4 * n.val) = min 0xFFFFFFFF ((s.dieOf d).rd (rCTX_SLICES + 4 * n.val) + 1) ∧
      RegsOnly [rCTX_SLICES + 4 * n.val] (s.dieOf d) (t.dieOf d) ∧ Frame d [.ctx, .regs] s t) ∧
    ((s.dieOf d).ctx.queue ≠ [] → ∃ t, exec (.sliceEnd d n) s = .next t ∧ (t.dieOf d).axState n.val = 4 ∧
      ((t.dieOf d).aux n.val).sliceEnd = (s.dieOf d).seq.step ∧ RegsOnly [auxReg n.val] (s.dieOf d) (t.dieOf d) ∧ Frame d [.tar, .ctx, .regs] s t)) ∧
  (∀ (s : State) (d : Die) (n : Fin 16), (s.dieOf d).stepping = true → (s.dieOf d).seq.cycle = 0 → (s.dieOf d).axState n.val = 4 →
    ((s.dieOf d).aux n.val).disabled = false → 2 + n.val ∉ (s.dieOf d).ctx.resets →
    (∀ p ∈ (s.dieOf d).axTiles n.val, ((s.dieOf d).slotOf p).cur.stat ≠ .running ∧ ((s.dieOf d).slotOf p).cur.jobs = []) →
    (s.dieOf d).ctx.queue = [] → Memory.wf s.mem = true →
    let late := (s.dieOf d).seq.step - ((s.dieOf d).aux n.val).sliceEnd
    ∃ t l, exec (.contextStop d n) s = .next t ∧ (t.dieOf d).axState n.val = 5 ∧ (t.dieOf d).fld (auxReg n.val) 18 16 = min late 4 ∧
      ((t.dieOf d).aux n.val).saved = some l ∧ l.length = 16 * (s.dieOf d).axGroups n.val ∧ ((t.dieOf d).aux n.val).nextLen = (s.dieOf d).slice - late ∧
      (∀ i w, i < 16 * (s.dieOf d).axGroups n.val → w < 128 → (t.dieOf d).wordState ((s.dieOf d).ptileOf (16 * (s.dieOf d).axBase n.val + i)) w = 0) ∧
      RegsOnly [auxReg n.val] (s.dieOf d) (t.dieOf d) ∧ FrameMem d [.tar, .syn, .ctx, .regs] (fun a => a < (Space.dram (s.dieOf d).die).base) s t) ∧
  (∀ (s : State) (d : Die) (n : Fin 16), (s.dieOf d).stepping = true → (s.dieOf d).seq.cycle = 0 → ((s.dieOf d).aux n.val).doneAt ≤ (s.dieOf d).seq.step →
    ((s.dieOf d).axState n.val = 5 → (s.dieOf d).ctx.queue = [] →
      ((s.dieOf d).p2Size < (s.dieOf d).axGroups n.val →
        ∃ t, exec (.contextSwitchDone d n) s = .next t ∧ (t.dieOf d).axState n.val = 6 ∧ (t.dieOf d).flag rCTX_STATUS 3 = true ∧
          (t.dieOf d).ctx = (s.dieOf d).ctx ∧ Frame d [.regs, .ink] s t) ∧
      ((s.dieOf d).axGroups n.val ≤ (s.dieOf d).p2Size → (s.dieOf d).freeRun ((s.dieOf d).axGroups n.val) = none →
        ∃ t, exec (.contextSwitchDone d n) s = .next t ∧ (t.dieOf d).axState n.val = 1 ∧ (t.dieOf d).ctx = { (s.dieOf d).ctx with queue := [n.val] } ∧
          RegsOnly [auxReg n.val] (s.dieOf d) (t.dieOf d) ∧ Frame d [.ctx, .regs] s t) ∧
      (∀ b, (s.dieOf d).axGroups n.val ≤ (s.dieOf d).p2Size → (s.dieOf d).freeRun ((s.dieOf d).axGroups n.val) = some b → (s.dieOf d).placeHeld = false →
        ∃ t, exec (.contextSwitchDone d n) s = .next t ∧ (t.dieOf d).axState n.val = 2 ∧ (t.dieOf d).axBase n.val = b ∧ (t.dieOf d).ctx.queue = [] ∧
          RegsOnly [auxReg n.val] (s.dieOf d) (t.dieOf d) ∧ Frame d [.ctx, .regs] s t)) ∧
    ((s.dieOf d).axState n.val = 2 →
      ∃ t, exec (.contextSwitchDone d n) s = .next t ∧ (t.dieOf d).axState n.val = 3 ∧ ((t.dieOf d).aux n.val).saved = none ∧
        ((t.dieOf d).aux n.val).sliceEnd = (s.dieOf d).seq.step +
          (if ((s.dieOf d).aux n.val).nextLen = 0 then (s.dieOf d).slice else ((s.dieOf d).aux n.val).nextLen) ∧
        (t.dieOf d).rd (rCTX_SLICES + 4 * n.val) = min 0xFFFFFFFF ((s.dieOf d).rd (rCTX_SLICES + 4 * n.val) + 1) ∧
        ((∀ g ∈ (s.dieOf d).ctx.progs, g.regions.inside) → (∀ l, ((s.dieOf d).aux n.val).saved = some l → ∀ y ∈ l, y.tile.regions.inside) → Memory.wf s.mem = true →
          ∀ a, (s.dieOf d).notSram a → memGet t.mem a = memGet s.mem a) ∧
        OnlyIn [.tar, .syn, .ctx, .regs] (s.dieOf d) (t.dieOf d) ∧ t.dieOf d.other = s.dieOf d.other ∧ t.mod = s.mod ∧ t.pending = s.pending ∧ s.now ≤ t.now)) ∧
  (∀ (s : State) (d : Die) (c : Fin 20), (c.val ∉ (s.dieOf d).ctx.resets ∨ ((s.dieOf d).stepping = true ∧ (s.dieOf d).seq.cycle ≠ 0)) →
    ∃ t, exec (.contextReset d c) s = .next t ∧ Frame d [] s t) ∧
  (∀ (s : State) (d : Die) (c : Fin 20), c.val ∈ (s.dieOf d).ctx.resets → ((s.dieOf d).stepping = true → (s.dieOf d).seq.cycle = 0) →
    let n := c.val - 2
    ∃ t, exec (.contextReset d c) s = .next t ∧ c.val ∉ (t.dieOf d).ctx.resets ∧
      (∀ x ∈ (s.dieOf d).sharedWords c.val, (t.dieOf d).wordState ((s.dieOf d).ptileOf x.1) x.2 = 2) ∧
      (∀ m ∈ (s.dieOf d).ownedBars c.val, (t.dieOf d).flag (rSYN_BAR + 4 * m) 15 = true) ∧
      (c.val = 18 → (t.dieOf d).ctx.maint = false) ∧
      (2 ≤ c.val → c.val ≤ 17 → (t.dieOf d).flag rCTX_STATUS 4 = true ∧
        (t.dieOf d).fld (auxReg n) 31 24 = min 255 ((s.dieOf d).fld (auxReg n) 31 24 + 1) ∧ ((t.dieOf d).aux n).saved = none ∧
        ((((s.dieOf d).aux n).restart && !((s.dieOf d).aux n).disabled) = false → (t.dieOf d).axState n = 0) ∧
        ((((s.dieOf d).aux n).restart && !((s.dieOf d).aux n).disabled) = true →
          ((s.dieOf d).p2Size < (s.dieOf d).axGroups n → (t.dieOf d).axState n = 6) ∧
          ((s.dieOf d).axGroups n ≤ (s.dieOf d).p2Size → (t.dieOf d).axState n = 1 ∨ (t.dieOf d).axState n = 2) ∧
          ((s.dieOf d).axGroups n ≤ (s.dieOf d).p2Size → (s.dieOf d).stepping = false → (t.dieOf d).axState n = 1))) ∧
      Frame d [.tar, .syn, .ctx, .regs, .ink] s t)

/-- A forced or failed Stem is fenced at a boundary and the die runs regrouped sixteen steps later with its regrouped line table. -/
def Obligations.StemFenceAndRegroup : Prop :=
  (∀ (s : State) (d : Die) (v : BitVec 32),
    let x := s.dieOf d
    ((bit 31 v.toNat = false ∨ x.dev = .boot ∨ x.dev = .recovery ∨ x.dev = .halted ∨ (x.stm.fenced = true ∧ (x.dev = .run ∨ x.dev = .safe → s.whole.paired = false))) →
      ∃ t, exec (.forceRegroup d v) s = .next t ∧ (t.dieOf d).flag rSTM_MODE 8 = bit 8 v.toNat ∧ RegsOnly [rSTM_MODE] x (t.dieOf d) ∧ FrameOf d [.regs] s t) ∧
    (bit 31 v.toNat = true → (x.dev = .run ∨ x.dev = .safe) → s.whole.paired = false → x.stm.fenced = false →
      ∃ t, exec (.forceRegroup d v) s = .next t ∧ (t.dieOf d).flag rSTM_MODE 8 = bit 8 v.toNat ∧
        (t.dieOf d).stm = (if x.stm.fenceReq then x.stm else { x.stm with fenceReq := true, fenceFrom := 0 }) ∧
        RegsOnly [rSTM_MODE] x (t.dieOf d) ∧ FrameOf d [.stm, .regs] s t) ∧
    (bit 31 v.toNat = true → (x.dev = .run ∨ x.dev = .safe) → s.whole.paired = true →
      ∃ t, exec (.forceRegroup d v) s = .next t ∧ (t.dieOf d).flag rSTM_MODE 8 = bit 8 v.toNat ∧
        (∀ e, ((s.dieOf e).dev = .run ∨ (s.dieOf e).dev = .safe) → (s.dieOf e).stm.fenced = false → (s.dieOf e).stm.fenceReq = false →
          (t.dieOf e).stm = { (s.dieOf e).stm with fenceReq := true, fenceFrom := x.seq.step * 20000 + x.seq.cycle + 32 }) ∧
        RegsOnly [rSTM_MODE] x (t.dieOf d) ∧ FrameBoth [.stm, .regs] [.stm, .regs] s t) ∧
    (bit 31 v.toNat = true → (x.dev = .config ∨ x.dev = .linkTrain ∨ x.dev = .selfTest ∨ x.dev = .armed) → x.stm.fenced = false →
      ∃ t, exec (.forceRegroup d v) s = .next t ∧ (t.dieOf d).stm.fenced = true ∧ (t.dieOf d).fld (rSYS_USW + 16) 2 0 = 5 ∧
        (t.dieOf d).exhausted true = true ∧ (∀ i, i < 16 → (t.dieOf d).rd (Rot.map true i) = i) ∧ (bit 8 v.toNat = true → (t.dieOf d).flag rCHK_SAFE_CAUSE 13 = true) ∧
        FrameOf d [.stm, .regs, .ink, .qll, .chk, .net] s t)) ∧
  (∀ (s : State) (d : Die), let x := s.dieOf d
    (x.stm.fenceReq = false ∨ x.stm.fenced = true ∨ (x.stepping = true ∧ (x.seq.cycle ≠ 0 ∨ x.seq.step * 20000 < x.stm.fenceFrom)) ∨ (x.stepping = false ∧ x.dev ≠ .armed)) →
    ∃ t, exec (.stemFence d) s = .next t ∧ Frame d [] s t) ∧
  (∀ (s : State) (d : Die), (s.dieOf d).stm.fenceReq = true → (s.dieOf d).stm.fenced = false →
    ((s.dieOf d).stepping = false → (s.dieOf d).dev = .armed → ∃ t, exec (.stemFence d) s = .next t ∧ (t.dieOf d).stm.fenced = true ∧ (t.dieOf d).stm.fenceReq = false ∧
      (t.dieOf d).exhausted true = true ∧ Frame d [.stm, .regs, .ink, .qll, .chk, .net] s t) ∧
    ((s.dieOf d).stepping = true → (s.dieOf d).seq.cycle = 0 → (s.dieOf d).stm.fenceFrom ≤ (s.dieOf d).seq.step * 20000 →
    ∃ t, exec (.stemFence d) s = .next t ∧ (t.dieOf d).stm.fenced = true ∧ (t.dieOf d).stm.fenceReq = false ∧ (t.dieOf d).stm.fenceAt = some (s.dieOf d).seq.step ∧
      ((t.dieOf d).rot true).hand = none ∧ (t.dieOf d).flag rSTM_MODE 2 = true ∧ (t.dieOf d).rd64 rSTM_SWITCH_STEP_LO = (s.dieOf d).seq.step % 2 ^ 64 ∧
      (t.dieOf d).p2Size = (s.dieOf d).p2Size - min (tget (s.dieOf d).ctx.regGroups ((s.dieOf d).fld rCTX_CHG 3 0) 0) (s.dieOf d).p2Size ∧
      ((s.dieOf d).flag rSTM_MODE 8 = true → (t.dieOf d).flag rCHK_SAFE_CAUSE 13 = true) ∧
      Frame d [.tar, .syn, .ctx, .ptk, .stm, .regs, .ink, .qll, .chk, .net] s t)) ∧
  (∀ (s : State) (d : Die) (f : Nat), (s.dieOf d).stm.fenceAt = some f →
    ((s.dieOf d).seq.step < f + 16 → ∃ t, exec (.regroupSwitch d) s = .next t ∧ Frame d [] s t) ∧
    (f + 16 ≤ (s.dieOf d).seq.step → (s.dieOf d).stepping = true → (s.dieOf d).seq.cycle = 0 →
      ∃ t, exec (.regroupSwitch d) s = .next t ∧ (t.dieOf d).fld rSTM_MODE 1 0 = 1 ∧ (t.dieOf d).flag rSTM_MODE 2 = false ∧
        (t.dieOf d).stm = { (s.dieOf d).stm with fenceAt := none } ∧ (t.dieOf d).ipp = { (s.dieOf d).ipp with lst := tget (s.dieOf d).ipp.lsts (2 * (s.dieOf d).fld rCTX_CHG 3 0 + 1) [] } ∧
        ((s.dieOf d).ctx.chg.reached = false → (t.dieOf d).ctx = (s.dieOf d).ctx) ∧
        ((s.dieOf d).ctx.chg.reached = true → (t.dieOf d).fld rCTX_CHG 10 8 = 2 ∧ (t.dieOf d).ctx.chg.k = (s.dieOf d).seq.step) ∧
        ((∀ g ∈ (s.dieOf d).ctx.progs, g.regions.inside) → Memory.wf s.mem = true → ∀ a, (s.dieOf d).notSram a → memGet t.mem a = memGet s.mem a) ∧
        OnlyIn [.tar, .syn, .ctx, .ptk, .stm, .ipp, .regs] (s.dieOf d) (t.dieOf d) ∧ t.dieOf d.other = s.dieOf d.other ∧ t.mod = s.mod ∧ t.pending = s.pending ∧ s.now ≤ t.now))

/-- Timetable positions move lines, reads arrive 180 cycles on and reach their tile 48 later, refresh and fences act, the Quill window is checked. -/
def Obligations.DramPositionsDeliveriesAndFences : Prop :=
  (∀ (s : State) (d : Die) (ch : Fin 16) (c : Fin 4), (s.dieOf d).chFenced ch.val = false → (s.dieOf d).dev ≠ .boot →
    ∃ t, exec (.timetablePosition d ch 0 c) s = .next t ∧ (t.dieOf d).fld (rMEM_CH + 4 * ch.val) 11 8 = c.val ∧
      (c = 3 → (t.dieOf d).flag rSYS_DET_STATUS 3 = true ∧ (t.dieOf d).flag rCHK_SAFE_CAUSE 4 = true) ∧
      (c ≠ 3 → RegsOnly [rMEM_CH + 4 * ch.val] (s.dieOf d) (t.dieOf d)) ∧ FrameOf d [.regs, .ink, .chk, .net] s t) ∧
  (∀ (s : State) (d : Die) (ch : Fin 16) (k : Fin 6000) (c : Fin 4), k.val ≠ 0 → (s.dieOf d).stepping = true → Memory.wf s.mem = true →
    let x := s.dieOf d
    let dram := (Space.dram x.die).base
    let due := x.seq.step * 20000 + 10 * k.val / 3 + 180
    let burst (a : Nat) (w : Bool) : Sent := ⟨.dram, [3, ch.val, burstBank a, burstRow a, burstCol a, b2n w], []⟩
    let raw (l : Nat) : List Byte := memRead s.mem (dram + burstAt l (lineInGroup l)) 120
    let plain (l : Nat) : Prop := x.chFenced ch.val = false ∧ x.chFenced (lineChan l) = false ∧ x.copyOf l = none ∧ l < dramLines
    let runs (t : State) : Prop := exec (.timetablePosition d ch k c) s = .next t
    let inbox (t : State) (n : Nat) : Prop := (t.dieOf d).tar.inbox.length + n = x.tar.inbox.length
    (x.entryAt ch.val k.val = none → ∃ t, runs t ∧ FrameOf d [.seq] s t) ∧
    (∀ e o vt, x.entryAt ch.val k.val = some (e, o, vt) → o < 19 → e.bound = false → plain e.line →
      let sent := (x.wire ++ [burst (lineBurst e.line + b2n e.last) e.write])
      let at_ := dram + 64 * e.line
      let n := firstBytes e.line
      (e.write = false → e.last = false → ∃ t, runs t ∧ (t.dieOf d).mem = { x.mem with held := tset x.mem.held (2 * e.line) ((raw e.line).take 60) } ∧
        (t.dieOf d).wire = sent ∧ FrameOf d [.seq, .mem, .wire] s t) ∧
      (e.write = false → e.last = true → ∃ t, runs t ∧ (t.dieOf d).mem = { x.mem with
          held := tdel x.mem.held (2 * e.line)
          reads := x.mem.reads ++ [⟨due, e.line, vt, (tget? x.mem.held (2 * e.line)).getD ((raw e.line).take 60) ++ (raw e.line).drop 60, 0, 0, []⟩] } ∧
        (t.dieOf d).wire = sent ∧ FrameOf d [.seq, .mem, .wire] s t) ∧
      (∀ bs d', e.write = true → e.last = false → vt < 512 → x.takeXfers vt 1 = some (bs, d') → ∃ t, runs t ∧ memRead t.mem at_ (min n bs.length) = bs.take n ∧ inbox t 1 ∧
        (t.dieOf d).mem = { x.mem with held := tset x.mem.held (2 * e.line) (bs.drop n) } ∧ (t.dieOf d).wire = sent ∧
        FrameOfMem d [.seq, .tar, .mem, .wire] (fun a => a < at_ ∨ at_ + n ≤ a) s t) ∧
      (∀ bs, e.write = true → e.last = true → vt < 512 → tget? x.mem.held (2 * e.line) = some bs → ∃ t, runs t ∧ memRead t.mem (at_ + n) bs.length = bs ∧
        (t.dieOf d).mem = { x.mem with held := tdel x.mem.held (2 * e.line) } ∧ (t.dieOf d).wire = sent ∧
        FrameOfMem d [.seq, .mem, .wire] (fun a => a < at_ + n ∨ at_ + n + bs.length ≤ a) s t)) ∧
    (∀ e o vt, x.entryAt ch.val k.val = some (e, o, vt) → o < 19 → e.bound = true →
      let key := 64 * vt + e.stream
      let st := tget x.mem.streams key default
      let n := firstBytes st.line
      let at_ := dram + 64 * st.line
      let sent := (x.wire ++ [burst (lineBurst st.line + b2n st.half) e.write])
      ((st.lines ≤ st.moved ∨ (st.dir == 1) ≠ e.write) → ∃ t, runs t ∧ (t.dieOf d).flag rMEM_STATUS 2 = true ∧
        (t.dieOf d).mem = (if e.write then x.mem else { x.mem with reads := x.mem.reads ++ [⟨due, 0, vt, List.replicate 120 0, 0, 0, []⟩] }) ∧
        FrameOf d [.seq, .mem, .regs, .ink] s t) ∧
      (st.moved < st.lines → st.codec ≠ 2 → plain st.line → (st.dir == 1) = e.write →
        (e.write = false → st.half = false → ∃ t, runs t ∧ (t.dieOf d).mem = { x.mem with
            held := tset x.mem.held (2 * key + 1) ((raw st.line).take 60), streams := tset x.mem.streams key { st with half := true } } ∧
          (t.dieOf d).wire = sent ∧ FrameOf d [.seq, .mem, .wire] s t) ∧
        (e.write = false → st.half = true → ∃ t, runs t ∧ (t.dieOf d).mem = { x.mem with
            held := tset x.mem.held (2 * key + 1) ((raw st.line).drop 60)
            streams := tset x.mem.streams key { st with moved := st.moved + st.per, half := lineInGroup st.line != 14 }
            reads := x.mem.reads ++ [⟨due, st.line, vt, tget x.mem.held (2 * key + 1) ((raw st.line).take 60) ++ (raw st.line).drop 60, st.codec, st.tfmt, []⟩] } ∧
          (t.dieOf d).wire = sent ∧ FrameOf d [.seq, .mem, .wire] s t) ∧
        (∀ bs d', e.write = true → st.half = false → vt < 512 → x.takeXfers vt st.per = some (bs, d') →
          let l := xfersLine st.codec st.tfmt bs
          ∃ t, runs t ∧ memRead t.mem at_ (min n l.length) = l.take n ∧ inbox t st.per ∧ (t.dieOf d).mem = { x.mem with
              held := tset x.mem.held (2 * key + 1) (l.drop n), streams := tset x.mem.streams key { st with half := true } } ∧
            FrameOfMem d [.seq, .tar, .mem, .wire] (fun a => a < at_ ∨ at_ + n ≤ a) s t) ∧
        (e.write = true → st.half = true → vt < 512 → (lineInGroup st.line = 14 ∨ st.lines ≤ st.moved + st.per) →
          let bs := tget x.mem.held (2 * key + 1) []
          ∃ t, runs t ∧ memRead t.mem (at_ + n) bs.length = bs ∧ (t.dieOf d).mem = { x.mem with
              held := tdel x.mem.held (2 * key + 1), streams := tset x.mem.streams key { st with moved := st.moved + st.per, half := false } } ∧
            FrameOfMem d [.seq, .mem, .wire] (fun a => a < at_ + n ∨ at_ + n + bs.length ≤ a) s t))) ∧
    (∀ e vt q rest, x.entryAt ch.val k.val = some (e, 19, vt) → x.mem.quill = q :: rest →
      (q.addr / 960 % 16 ≠ ch.val → ∃ t, runs t ∧ FrameOf d [.seq] s t) ∧
      (q.addr / 960 % 16 = ch.val → x.chFenced ch.val = false → q.left ≤ 60 - q.addr % 60 → q.req = none →
        (q.write = false → ∃ t w, runs t ∧ (t.dieOf d).mem = { x.mem with quill := rest } ∧
          (t.dieOf d).wire = x.wire ++ [w, ⟨.quill, [0, leNat (q.data ++ x.dramRead s.mem q.addr q.left)], []⟩] ∧ FrameOf d [.seq, .mem, .wire] s t) ∧
        (q.write = true → q.begun = false → ∃ t, runs t ∧ (t.dieOf d).mem = { x.mem with quill := { q with begun := true } :: rest } ∧
          FrameOf d [.seq, .mem, .wire] s t) ∧
        (q.write = true → q.begun = true → x.copyOf (q.addr / 64) = none → q.addr % 64 + q.left ≤ 64 → q.addr / 64 < dramLines → q.data.length = q.left →
          ∃ t, runs t ∧ (t.dieOf d).mem = { x.mem with quill := rest } ∧ memRead t.mem (dram + q.addr) q.left = q.data ∧
            FrameOfMem d [.seq, .mem, .wire] (fun a => a < dram + q.addr ∨ dram + q.addr + q.left ≤ a) s t)))) ∧
  (∀ (s : State) (d : Die) (err : List (BitVec 32)) (parts : List (BitVec 5 × BitVec 32)) (r : DramRead) (rest : List DramRead),
    (s.dieOf d).mem.reads = r :: rest → (s.dieOf d).stepping = true → r.due < ((s.dieOf d).seq.step + 1) * 20000 →
    (r.ok (err.map (·.toNat)) = false → ∃ t, exec (.dramReadDelivery d err parts) s = .next t ∧ Frame d [.seq] s t) ∧
    (r.ok (err.map (·.toNat)) = true → Memory.wf s.mem = true →
      let l := (lineXfers r.codec r.tfmt (r.data (err.map (·.toNat)))).1
      ∃ t, exec (.dramReadDelivery d err parts) s = .next t ∧ (t.dieOf d).mem.reads = rest ∧
        (t.dieOf d).tar.net = (s.dieOf d).tar.net ++ (List.range l.length).map (fun i => ⟨260, r.vtile, r.due + 48 + i, l.getD i [], false⟩) ∧
        ((lineXfers r.codec r.tfmt (r.data (err.map (·.toNat)))).2 = true → (t.dieOf d).flag rMEM_STATUS 3 = true) ∧
        ((lineXfers r.codec r.tfmt (r.data (err.map (·.toNat)))).2 = false → (t.dieOf d).regs = (s.dieOf d).regs ∧ (t.dieOf d).ptk = (s.dieOf d).ptk) ∧
        FrameMem d [.seq, .tar, .mem, .ptk, .regs, .ink] (fun a => ∀ z ∈ r.scales, a ≠ sramBase (s.dieOf d).die ((s.dieOf d).ptileOf r.vtile) + z.1) s t)) ∧
  (∀ (s : State) (d : Die) (ch bank : Fin 16) (slot : Fin 21), (s.dieOf d).dev ≠ .boot → (s.dieOf d).chFenced ch.val = false →
    (slotUsed (tget (s.dieOf d).mem.rates ch.val 2) slot.val = true → ∃ t, exec (.refreshSlot d ch bank slot) s = .next t ∧
      (t.dieOf d).mem = { (s.dieOf d).mem with refs := tset (s.dieOf d).mem.refs (16 * ch.val + bank.val) s.now } ∧
      (t.dieOf d).wire = (s.dieOf d).wire ++ [⟨.dram, [0, ch.val, bank.val, slot.val], []⟩] ∧ Frame d [.mem, .wire] s t) ∧
    (slotUsed (tget (s.dieOf d).mem.rates ch.val 2) slot.val = false → ∃ t, exec (.refreshSlot d ch bank slot) s = .next t ∧ Frame d [] s t)) ∧
  (∀ (s : State) (d : Die) (ch : Fin 16) (margin out : Bool), (s.dieOf d).dev ≠ .boot →
    (if (s.dieOf d).stepping then (s.dieOf d).seq.step else (s.dieOf d).mem.period) % 1024 = 0 →
    (s.dieOf d).chFenced ch.val = false → ∃ t, exec (.phaseTrack d ch margin out) s = .next t ∧ (margin = true → (t.dieOf d).flag rMEM_STATUS 1 = true) ∧
      (out = true → (tget? (t.dieOf d).mem.fences ch.val).isSome = true) ∧ (out = false → (t.dieOf d).mem = (s.dieOf d).mem) ∧ Frame d [.mem, .regs, .ink] s t) ∧
  (∀ (s : State) (d : Die), ((s.dieOf d).stepping = false ∨ (s.dieOf d).seq.cycle = 0) → (∀ f ∈ (s.dieOf d).mem.fences, f.1 < 16) →
    ∃ t, exec (.channelFence d) s = .next t ∧ (t.dieOf d).mem = { (s.dieOf d).mem with fences := [] } ∧
      (∀ f ∈ (s.dieOf d).mem.fences, (t.dieOf d).chFenced f.1 = true ∧ (t.dieOf d).flag rMEM_STATUS 0 = true ∧ (t.dieOf d).flag rCHK_SAFE_CAUSE 15 = true) ∧
      Frame d [.mem, .regs, .ink, .chk, .net] s t) ∧
  (∀ (s : State) (d : Die), (s.dieOf d).stepping = false → (s.dieOf d).dev ≠ .boot → (s.dieOf d).dev ≠ .halted →
    ∃ t, exec (.maintenancePeriod d) s = .next t ∧ (t.dieOf d).mem.period = (s.dieOf d).mem.period + 1 ∧ (t.dieOf d).mem.periodAt = (s.dieOf d).mem.periodAt + 20000 ∧
      (s.dieOf d).mem.periodAt + 20000 ≤ t.now ∧ tget (t.dieOf d).mem.rates 15 4 = (s.dieOf d).fld (rMEM_CH + 60) 11 8 ∧ Frame d [.mem] s t) ∧
  (∀ (s : State) (d : Die) (off : BitVec 31) (wr : Bool) (v : BitVec 32),
    let x := s.dieOf d
    let a := x.windowAt (off.toNat / 4 * 4)
    let may := x.permits 20 off.toNat x.die.num 0 wr
    let canWrite := (match x.regionOf (a / 64) with | some r => r.kind == 8 || r.kind == 10 | none => false)
    let turned (t : State) (us : List DiePart) : Prop := exec (.quillDramAccess d off wr v) s = .next t ∧ (t.dieOf d).wire = x.wire ++ [⟨.quill, [1, 0], []⟩] ∧ Frame d (.wire :: us) s t
    (may = false → ∃ t, turned t [.regs, .ink, .chk, .net] ∧ (t.dieOf d).flag rFWL_STATUS 0 = true) ∧
    (may = true → wr = true → canWrite = false → ∃ t, turned t [.regs, .ink] ∧ (t.dieOf d).flag rMEM_STATUS 4 = true) ∧
    (may = true → (wr = true → canWrite = true) → ∃ t, exec (.quillDramAccess d off wr v) s = .next t ∧
      (t.dieOf d).mem = { x.mem with quill := x.mem.quill ++ [⟨a, 4, wr, if wr then leBytes 4 v.toNat else [], false, none⟩] } ∧ Frame d [.mem] s t))

/-- A line-state frame passes the rate, format, tag, sequence and time checks in that order; admitted, it selects a recipe, starts or ends a run, or acknowledges. -/
def Obligations.LineStateFramesAreCheckedAndAct : Prop :=
  (∀ (s : State) (p : List (BitVec 8)) (c : Instr) (ty : Nat), (c, ty) ∈ [(Instr.recipeSelect p, 1), (.lineRunning p, 2), (.operatorAck p, 3)] →
    s.whole.relayUp = true → ¬(p.length = 48 ∧ (p.getD 2 0).toNat ≠ ty ∧ 1 ≤ (p.getD 2 0).toNat ∧ (p.getD 2 0).toNat ≤ 3) →
    let r := s.whole.relay
    let x := s.dieOf r
    let fails (k : Nat) (st : Option Nat) : Prop := ∃ t, exec c s = .next t ∧ (t.dieOf r).rd (rNET_CNT + 4 * k) = min 0xFFFFFFFF (x.rd (rNET_CNT + 4 * k) + 1) ∧
      (∀ b, st = some b → (t.dieOf r).flag rNET_STATUS b = true) ∧ OnlyIn [.regs, .ink] x (t.dieOf r) ∧ OnlyIn [] (s.dieOf r.other) (t.dieOf r.other) ∧
      t.mem = s.mem ∧ t.pending = s.pending ∧ { t.mod with sw := { t.mod.sw with buckets := s.mod.sw.buckets } } = s.mod
    let tag := match s.mod.store.lineKey with | some k => (hmac256 k (p.take 32)).take 16 == p.drop 32 | none => false
    let seq := beNat ((p.drop 4).take 8)
    let sent : Int := beNat ((p.drop 12).take 8)
    let stale := decide (∃ h, x.net.hiSeq = some h ∧ seq ≤ h)
    let off := !x.timeLost && decide ((s.here r).ptpNow + 2000000000 < sent ∨ sent + 2000000000 < (s.here r).ptpNow)
    (s.whole.hasToken 3 = false → fails 6 (some 0)) ∧
    (s.whole.hasToken 3 = true →
      (lineFormatOk p = false → fails 7 none) ∧
      (lineFormatOk p = true → tag = false → fails 8 (some 1)) ∧
      (lineFormatOk p = true → tag = true → stale = true → fails 9 (some 1)) ∧
      (lineFormatOk p = true → tag = true → stale = false → off = true → fails 10 (some 1)) ∧
      (lineFormatOk p = true → tag = true → stale = false → off = false →
        ∃ t, exec c s = .next t ∧ (t.dieOf r).net.hiSeq = some seq ∧
          (∀ y : Die, (t.dieOf y).items = if bit y.num (p.getD 3 0).toNat then (s.dieOf y).items ++ [⟨none, none, lineBody p⟩] else (s.dieOf y).items) ∧
          OnlyIn [.net, .items] x (t.dieOf r) ∧ OnlyIn [.items] (s.dieOf r.other) (t.dieOf r.other) ∧ t.mem = s.mem ∧ t.pending = s.pending))) ∧
  (∀ (s : State) (d : Die) (a pilot rc : Nat) (pos : Int), (s.dieOf d).items = [⟨none, some a, .recipeSelect pilot rc pos⟩] →
    ((s.dieOf d).stepping = true → a + 2 ≤ (s.dieOf d).seq.step) → ((s.dieOf d).stepping = true ∨ (s.dieOf d).dev = .armed) →
    (((s.dieOf d).ctx.resident.contains rc = false ∨ (s.dieOf d).laneState pilot ≠ 1 ∨ (s.dieOf d).chgPhase ≠ 0) →
      ∃ t, exec (.recipeSelectAdmit d) s = .next t ∧ (t.dieOf d).items = [] ∧ (t.dieOf d).flag rCTX_STATUS 0 = true ∧
        (t.dieOf d).ctx = { (s.dieOf d).ctx with discards := (s.dieOf d).ctx.discards + 1 } ∧ Frame d [.items, .ctx, .regs, .ink] s t) ∧
    ((s.dieOf d).ctx.resident.contains rc = true → (s.dieOf d).laneState pilot = 1 → (s.dieOf d).chgPhase = 0 →
      ((s.dieOf d).stepping = false → Memory.wf s.mem = true → ∃ t, exec (.recipeSelectAdmit d) s = .next t ∧ (t.dieOf d).items = [] ∧ (t.dieOf d).fld rCTX_CHG 3 0 = rc % 16 ∧
        (t.dieOf d).fld rCTX_CHG 20 16 = pilot % 32 ∧ (t.dieOf d).chgPhase = 0 ∧
        ((s.dieOf d).driftSealed = none → t.mem = s.mem) ∧
        FrameMem d [.items, .syn, .chk, .stm, .ipp, .regs, .ink] (fun a => a < (Space.dram (s.dieOf d).die).base) s t) ∧
      ((s.dieOf d).stepping = true → (∀ q, ((s.dieOf d).laneDyn pilot).top = some q → q < pos) →
        ∃ t, exec (.recipeSelectAdmit d) s = .next t ∧ (t.dieOf d).items = [] ∧ (t.dieOf d).chgPhase = 1 ∧ (t.dieOf d).fld rCTX_CHG 7 4 = rc % 16 ∧
          (t.dieOf d).fld rCTX_CHG 20 16 = pilot % 32 ∧ (t.dieOf d).ctx.chg.pos = pos ∧ (t.dieOf d).fld rCTX_CHG 3 0 = (s.dieOf d).fld rCTX_CHG 3 0 ∧
          Frame d [.items, .ctx, .regs, .ink] s t) ∧
      (∀ q, (s.dieOf d).stepping = true → ((s.dieOf d).laneDyn pilot).top = some q → pos ≤ q →
        ∃ t, exec (.recipeSelectAdmit d) s = .next t ∧ (t.dieOf d).items = [] ∧ (t.dieOf d).flag rCTX_STATUS 1 = true ∧ (t.dieOf d).fld rCTX_CHG 7 4 = rc % 16 ∧
          ((s.dieOf d).blind = true → (t.dieOf d).chgPhase = 1 ∧ (t.dieOf d).ctx.chg.reached = true) ∧
          ((s.dieOf d).blind = false → (t.dieOf d).chgPhase = 2 ∧ (t.dieOf d).ctx.chg.k = (s.dieOf d).seq.step) ∧
          Frame d [.items, .ctx, .ptk, .regs, .ink] s t))) ∧
  (∀ (s : State) (d : Die) (a : Nat) (on : Bool), (s.dieOf d).items = [⟨none, some a, .lineRunning on⟩] → (s.dieOf d).reqs = [] →
    ((s.dieOf d).stepping = true → a + 2 ≤ (s.dieOf d).seq.step) →
    ((s.dieOf d).dev = .armed → on = true → ∃ t, exec (.lineRunningAdmit d) s = .next t ∧ (t.dieOf d).items = [] ∧ (t.dieOf d).line = true ∧
      t.mod.grp.arrived = true ∧ (t.dieOf d).dev = .armed ∧ t.mem = s.mem ∧ t.pending = s.pending) ∧
    ((s.dieOf d).dev = .armed → on = false → ∃ t, exec (.lineRunningAdmit d) s = .next t ∧ (t.dieOf d).items = [] ∧ (t.dieOf d).line = false ∧
      (t.dieOf d).dev = .armed ∧ t.mem = s.mem ∧ t.pending = s.pending) ∧
    ((s.dieOf d).dev = .run → on = false → (1 ≤ (s.dieOf d).chgPhase ∧ (s.dieOf d).chgPhase ≤ 3) →
      ∃ t, exec (.lineRunningAdmit d) s = .next t ∧ (t.dieOf d).items = [] ∧ (t.dieOf d).ctx.chg.stopPend = true ∧ FrameOf d [.items, .ctx] s t) ∧
    ((s.dieOf d).dev = .run → on = false → ¬(1 ≤ (s.dieOf d).chgPhase ∧ (s.dieOf d).chgPhase ≤ 3) →
      ∃ t, exec (.lineRunningAdmit d) s = .next t ∧ (t.dieOf d).items = [] ∧ (t.dieOf d).dev = .armed ∧ (t.dieOf d).stepping = false ∧ (t.dieOf d).line = false ∧
        (t.dieOf d).nib.events = [] ∧ (t.dieOf d).chk = { (s.dieOf d).chk with okCmd := true, okMiss := 0 } ∧
        (∀ n, n < 64 → s.whole.owner n = d → tget t.mod.field.outs n default = (tget s.mod.field.outs n default).force s.now 2) ∧
        OnlyIn [.dev, .line, .seq, .regs, .ink, .items, .ctx, .pos, .nib, .chk, .mem, .net, .reqs] (s.dieOf d) (t.dieOf d) ∧
        OnlyIn [] (s.dieOf d.other) (t.dieOf d.other) ∧ { t.mod with field := s.mod.field } = s.mod ∧ t.mem = s.mem ∧ t.pending = s.pending)) ∧
  (∀ (s : State) (d : Die) (a : Nat), (s.dieOf d).items = [⟨none, some a, .operatorAck⟩] → (s.dieOf d).reqs = [] →
    ((s.dieOf d).stepping = true → a + 2 ≤ (s.dieOf d).seq.step) →
    ((s.dieOf d).dev ≠ .safe → ∃ t, exec (.operatorAckAdmit d) s = .next t ∧ (t.dieOf d).items = [] ∧ FrameOf d [.items, .reqs] s t) ∧
    ((s.dieOf d).dev = .safe → ((s.dieOf d).chk.pending = true ∨ (s.dieOf d).causeNew = true ∨ (s.here d).causesClear = false) →
      ∃ t, exec (.operatorAckAdmit d) s = .next t ∧ (t.dieOf d).items = [] ∧ FrameOf d [.items, .reqs, .regs, .ink] s t) ∧
    ((s.dieOf d).dev = .safe → (s.dieOf d).chk.pending = false → (s.dieOf d).causeNew = false → (s.here d).causesClear = true →
      ∃ t, exec (.operatorAckAdmit d) s = .next t ∧ (t.dieOf d).items = [] ∧ (t.dieOf d).dev = .armed ∧ (t.dieOf d).stepping = false ∧ (t.dieOf d).chk.okCmd = true ∧
        (∀ k ∈ [0, 4, 6, 16, 18], (t.dieOf d).flag rCHK_SAFE_CAUSE k = false) ∧
        OnlyIn [.dev, .line, .seq, .regs, .ink, .items, .chk, .pos, .mem, .net, .reqs] (s.dieOf d) (t.dieOf d) ∧
        OnlyIn [] (s.dieOf d.other) (t.dieOf d.other) ∧ { t.mod with field := s.mod.field } = s.mod ∧ t.mem = s.mem ∧ t.pending = s.pending))

/-- A changeover drains the old parts, prepares the next inspection context, switches the recipe at N and ends with its warm lines. -/
def Obligations.ChangeoverDrainsSetsUpAndSwitches : Prop :=
  (∀ (s : State) (d : Die) (xs : List SampleIn), (s.dieOf d).stepping = true → (s.dieOf d).seq.cycle = 0 → (s.dieOf d).chgPhase = 2 →
    let n := ((s.dieOf d).ptk.parts.filter (·.old)).length
    let done := n = 0 ∨ (s.dieOf d).ctx.chg.k + (s.dieOf d).ctx.chg.pair.drain ≤ (s.dieOf d).seq.step
    (¬done → ∃ t, exec (.changeoverDrainEnd d xs) s = .next t ∧ Frame d [] s t) ∧
    (done → ∃ t, exec (.changeoverDrainEnd d xs) s = .next t ∧ (t.dieOf d).chgPhase = 3 ∧ (t.dieOf d).ctx.chg.d = (s.dieOf d).seq.step ∧
      (t.dieOf d).ctx.chg.n = (s.dieOf d).seq.step + (s.dieOf d).ctx.chg.pair.tr + 1 ∧
      (n ≠ 0 → (t.dieOf d).flag rCTX_STATUS 2 = true ∧ (t.dieOf d).rd rCTX_CHG_INCOMPLETE = min 0xFFFFFFFF ((s.dieOf d).rd rCTX_CHG_INCOMPLETE + n)) ∧
      (n = 0 → xs = [] → RegsOnly [rCTX_CHG] (s.dieOf d) (t.dieOf d)) ∧
      (∀ x, xs = [x] → (s.dieOf d).dev ≠ .safe → (s.dieOf d).chk.spoiled = [] → (∀ l, ((s.dieOf d).laneDyn l).spoiled = []) →
        (s.dieOf d).chk.done.contains (x.sensor.toNat, x.num.toNat) = false →
        ∃ r, (t.dieOf d).net.srecs = (s.dieOf d).net.srecs ++ [r] ∧ r.sensor = x.sensor.toNat ∧ r.num = x.num.toNat ∧ r.cause = 7) ∧ (xs = [] → (t.dieOf d).chk = (s.dieOf d).chk ∧ (t.dieOf d).net = (s.dieOf d).net) ∧
      Frame d [.tar, .ctx, .ptk, .regs, .ink, .chk, .net] s t)) ∧
  (∀ (s : State) (d : Die), (s.dieOf d).stepping = true → (s.dieOf d).seq.cycle = 0 → (s.dieOf d).chgPhase = 3 → (s.dieOf d).ctx.chg.setup = false →
    (s.dieOf d).ctx.chg.d + (s.dieOf d).ctx.chg.pair.tr ≤ (s.dieOf d).seq.step → Memory.wf s.mem = true →
    ∃ t, exec (.changeoverSetup d) s = .next t ∧ (t.dieOf d).ctx = { (s.dieOf d).ctx with chg := { (s.dieOf d).ctx.chg with setup := true, drift := (s.dieOf d).driftSealed } } ∧
      ((s.dieOf d).driftSealed = none → (t.dieOf d).ink = (s.dieOf d).ink) ∧ FrameMem d [.tar, .syn, .ctx, .regs, .ink] (fun a => (s.dieOf d).notSram a) s t) ∧
  (∀ (s : State) (d : Die), (s.dieOf d).stepping = true → (s.dieOf d).seq.cycle = 0 → (s.dieOf d).chgPhase = 3 →
    ((s.dieOf d).seq.step < (s.dieOf d).ctx.chg.n → ∃ t, exec (.changeoverNewRecipe d) s = .next t ∧ FrameOf d [] s t) ∧
    ((s.dieOf d).ctx.chg.n ≤ (s.dieOf d).seq.step → (s.dieOf d).ctx.chg.stopPend = false →
      ∃ t, exec (.changeoverNewRecipe d) s = .next t ∧ (t.dieOf d).fld rCTX_CHG 3 0 = (s.dieOf d).fld rCTX_CHG 7 4 ∧ (t.dieOf d).chgPhase = 4 ∧
        (t.dieOf d).rd64 rCTX_CHG_STEP_LO = (s.dieOf d).seq.step % 2 ^ 64 ∧ (t.dieOf d).dev = (s.dieOf d).dev ∧
        OnlyIn [.tar, .syn, .ptk, .stm, .ipp, .chk, .mem, .regs] (s.dieOf d) (t.dieOf d) ∧ OnlyIn [] (s.dieOf d.other) (t.dieOf d.other) ∧ t.mod = s.mod ∧
        t.pending = s.pending) ∧
    ((s.dieOf d).ctx.chg.n ≤ (s.dieOf d).seq.step → (s.dieOf d).ctx.chg.stopPend = true → (s.dieOf d).dev = .run → (s.dieOf d).reqs = [] →
      ∃ t, exec (.changeoverNewRecipe d) s = .next t ∧ (t.dieOf d).fld rCTX_CHG 3 0 = (s.dieOf d).fld rCTX_CHG 7 4 ∧ (t.dieOf d).dev = .armed ∧
        (t.dieOf d).stepping = false ∧ (t.dieOf d).line = false ∧ (t.dieOf d).chk.okCmd = true ∧ OnlyIn [] (s.dieOf d.other) (t.dieOf d.other) ∧ t.pending = s.pending)) ∧
  (∀ (s : State) (d : Die),
    ((s.dieOf d).stepping = true → (s.dieOf d).chgPhase = 4 → ((s.dieOf d).laneDyn ((s.dieOf d).fld rCTX_CHG 20 16)).warmN = 0 →
      ∃ t, exec (.changeoverWarmEnd d) s = .next t ∧ (t.dieOf d).chgPhase = 0 ∧ RegsOnly [rCTX_CHG] (s.dieOf d) (t.dieOf d) ∧ Frame d [.seq, .regs] s t) ∧
    (((s.dieOf d).stepping = false ∨ (s.dieOf d).chgPhase ≠ 4 ∨ ((s.dieOf d).laneDyn ((s.dieOf d).fld rCTX_CHG 20 16)).warmN ≠ 0) →
      ∃ t, exec (.changeoverWarmEnd d) s = .next t ∧ Frame d [] s t))

/-- SAFE entry takes the outputs to their safe action and drops SAFE_OK; the monitor acts on its own path; SAFE_OK is read back and tested. -/
def Obligations.SafeEntryMonitorAndSafeOk : Prop :=
  (∀ (s : State) (d : Die), (s.dieOf d).safeDueNow = false → ∃ t, exec (.safeEntry d) s = .next t ∧ FrameOf d [] s t) ∧
  (∀ (s : State) (d : Die), (s.dieOf d).safeDueNow = true → Memory.wf s.mem = true →
    let lends := s.whole.paired && d == .a && !s.mod.field.taken
    ∃ t, exec (.safeEntry d) s = .next t ∧ (t.dieOf d).dev = .safe ∧ (t.dieOf d).fld rSYS_STATE 3 0 = 6 ∧ (t.dieOf d).nib.events = [] ∧ (t.dieOf d).line = false ∧
      (t.dieOf d).chk.okCmd = false ∧ (t.dieOf d).chk.pending = false ∧ ⟨.toDie, [6], []⟩ ∈ (t.dieOf d).wire ∧ (t.dieOf d).seq = (s.dieOf d).seq ∧
      ((s.dieOf d).dev ≠ .run → (t.dieOf d).net.safeDue = some (0, false)) ∧ ((s.dieOf d).dev = .run → (t.dieOf d).net.safeSent = true) ∧
      (lends = false → ∀ n, n < 64 → s.whole.owner n = d →
        tget t.mod.field.outs n default = (tget s.mod.field.outs n default).force s.now (s.whole.safeAction n)) ∧
      (lends = true → t.mod.field = { s.mod.field with release := some s.now, relSent := true } ∧ (t.dieOf d).cxp.driving = false) ∧
      (∀ a, a < Space.mram.base → memGet t.mem a = memGet s.mem a) ∧
      OnlyIn [.ink, .twl, .regs, .wire] (s.dieOf d.other) (t.dieOf d.other) ∧ t.pending = s.pending) ∧
  (∀ (s : State) (d : Die) (v : BitVec 32),
    (bit 31 v.toNat = false → ∃ t, exec (.chkSafeReq d v) s = .next t ∧ FrameOf d [] s t) ∧
    (bit 31 v.toNat = true → (s.whole.paired && (s.dieOf d).stepping && (s.dieOf d.other).stepping) = false →
      ∃ t, exec (.chkSafeReq d v) s = .next t ∧ (t.dieOf d).flag rCHK_SAFE_CAUSE 18 = true ∧ FrameOf d [.regs, .ink, .chk, .net] s t) ∧
    (bit 31 v.toNat = true → (s.whole.paired && (s.dieOf d).stepping && (s.dieOf d.other).stepping) = true →
      ∃ t, exec (.chkSafeReq d v) s = .next t ∧ (∀ x, (t.dieOf x).flag rCHK_SAFE_CAUSE 18 = true) ∧ t.mod = s.mod ∧
        FrameBoth [.regs, .ink, .chk, .net] [.regs, .ink, .chk, .net] s t)) ∧
  (∀ (s : State) (d : Die) (c : Instr), (c = .clockDeviation d ∨ (c = .stepHeartbeatLoss d ∧ ((s.dieOf d).dev = .run ∨ (s.dieOf d).dev = .safe))) →
    ∃ t, exec c s = .next t ∧ (t.dieOf d).flag rCHK_SAFE_CAUSE 5 = true ∧ (t.dieOf d).chk.okCmd = false ∧
      (c = .stepHeartbeatLoss d → (s.dieOf d).seq.stepAt + 1000000 ≤ t.now) ∧
      (∀ n, n < 64 → s.whole.owner n = d → tget t.mod.field.outs n default = (tget s.mod.field.outs n default).force t.now (s.whole.safeAction n)) ∧
      { t.mod with field := { t.mod.field with outs := s.mod.field.outs } } = s.mod ∧ OnlyIn [.regs, .ink, .chk, .net] (s.dieOf d) (t.dieOf d) ∧
      OnlyIn [] (s.dieOf d.other) (t.dieOf d.other) ∧ t.mem = s.mem ∧ t.pending = s.pending) ∧
  (∀ (s : State) (d : Die), (s.dieOf d).dev ≠ .run → (s.dieOf d).dev ≠ .safe → ∃ t, exec (.stepHeartbeatLoss d) s = .next t ∧ FrameOf d [] s t) ∧
  (∀ (s : State) (d : Die) (pad : Bool),
    (pad = (s.dieOf d).safeOk → ∃ t, exec (.safeOkReadback d pad) s = .next t ∧ (t.dieOf d).chk = { (s.dieOf d).chk with okMiss := 0 } ∧ Frame d [.chk] s t) ∧
    (pad ≠ (s.dieOf d).safeOk → ∃ t, exec (.safeOkReadback d pad) s = .next t ∧ (t.dieOf d).chk.okMiss = (s.dieOf d).chk.okMiss + 1 ∧
      ((s.dieOf d).chk.okMiss = 2 → (t.dieOf d).flag rCHK_SAFE_CAUSE 7 = true) ∧
      ((s.dieOf d).chk.okMiss ≠ 2 → (t.dieOf d).regs = (s.dieOf d).regs) ∧ Frame d [.regs, .ink, .chk, .net] s t)) ∧
  (∀ (s : State) (d : Die),
    let due := (s.dieOf d).flag rCHK_CFG 1 = true ∧ (s.dieOf d).dev = .run ∧ (s.dieOf d).seq.cycle = 0 ∧ 0 < (s.dieOf d).seq.step ∧
      (s.dieOf d).seq.step % 3000000 = 0 ∧ (s.dieOf d).safeOk = true
    (due → ∃ t, exec (.testPulse d) s = .next t ∧ (t.dieOf d).chk.pulse = some (s.now + 300000) ∧ (t.dieOf d).safeOk = false ∧ Frame d [.chk] s t) ∧
    (¬due → ∃ t, exec (.testPulse d) s = .next t ∧ Frame d [] s t)) ∧
  (∀ (s : State) (d : Die) (e : Nat) (high : Bool), (s.dieOf d).chk.pulse = some e →
    ∃ t, exec (.testPulseEnd d high) s = .next t ∧ (t.dieOf d).chk.pulse = none ∧ (t.dieOf d).chk.okMiss = 0 ∧ e ≤ t.now ∧
      (high = true → (t.dieOf d).flag rCHK_SAFE_CAUSE 7 = true) ∧ (high = false → (t.dieOf d).regs = (s.dieOf d).regs) ∧ Frame d [.regs, .ink, .chk, .net] s t)

/-- The bridge forwards what is not its own, corrects PTP residence, the filter and its buckets discard the rest, and the relay die fails over. -/
def Obligations.SwitchForwardsFiltersAndFailsOver : Prop :=
  (∀ (s : State) (fromB full : Bool) (f : List (BitVec 8)) (res : BitVec 32), 14 ≤ f.length →
    let r := s.whole.relay
    let d := s.dieOf r
    let dst := beNat (f.take 6)
    let src := beNat ((f.drop 6).take 6)
    let inP := b2n fromB
    let sw := s.mod.sw.learn src inP s.now
    let kind := match ptpAt f with | some i => (f.getD i 0).toNat % 16 | none => 16
    let kept := dst = d.net.mac ∨ ipFor d.net.ip f = true ∨ sw.macs.any (fun e => e.1 == dst && e.2.1 == inP) = true ∨ kind = 2 ∨ kind = 3 ∨ kind = 10
    let next (us : List DiePart) (t : State) : Prop := t.mod = { s.mod with sw := sw } ∧ OnlyIn us d (t.dieOf r) ∧ OnlyIn [] (s.dieOf r.other) (t.dieOf r.other) ∧
      t.mem = s.mem ∧ t.pending = s.pending
    (kept → ∃ t, exec (.switchForward fromB f res full) s = .next t ∧ next [] t) ∧
    (¬kept → d.portUp (1 - inP) = false → ∃ t, exec (.switchForward fromB f res full) s = .next t ∧ next [.regs] t ∧
      (t.dieOf r).rd (rNET_CNT + 16) = min 0xFFFFFFFF (d.rd (rNET_CNT + 16) + 1)) ∧
    (¬kept → d.portUp (1 - inP) = true → full = true → ∃ t, exec (.switchForward fromB f res full) s = .next t ∧ next [.regs] t ∧
      (t.dieOf r).rd (rNET_CNT + 44) = min 0xFFFFFFFF (d.rd (rNET_CNT + 44) + 1)) ∧
    (¬kept → d.portUp (1 - inP) = true → full = false →
      (ptpAt f = none → ∃ t, exec (.switchForward fromB f res full) s = .next t ∧ next [.wire] t ∧ (t.dieOf r).wire = d.wire ++ [⟨.netFrame, [1 - inP], f⟩]) ∧
      (∀ i, ptpAt f = some i → (kind = 1 ∨ (kind = 0 ∧ d.ptp.peer = false)) →
        ∃ t, exec (.switchForward fromB f res full) s = .next t ∧ next [.wire] t ∧
          (t.dieOf r).wire = d.wire ++ [⟨.netFrame, [1 - inP], fixUdp (addCorrection f i res.toNat)⟩]))) ∧
  (∀ (s : State) (portB : Bool) (f : List (BitVec 8)), s.whole.relayUp = true →
    let r := s.whole.relay
    let k := frameClass (s.dieOf r).net.ip portB f
    (k = none → ∃ t, exec (.ingressFilter portB f) s = .next t ∧ (t.dieOf r).rd (rNET_CNT + 20) = min 0xFFFFFFFF ((s.dieOf r).rd (rNET_CNT + 20) + 1) ∧
      RegsOnly [rNET_CNT + 20] (s.dieOf r) (t.dieOf r) ∧ FrameOf r [.regs] s t) ∧
    (∀ b, k = some b → s.whole.hasToken b = false → ∃ t, exec (.ingressFilter portB f) s = .next t ∧ (t.dieOf r).flag rNET_STATUS 0 = true ∧
      (t.dieOf r).rd (rNET_CNT + 24) = min 0xFFFFFFFF ((s.dieOf r).rd (rNET_CNT + 24) + 1) ∧ FrameOf r [.regs, .ink] s t) ∧
    (∀ b, k = some b → s.whole.hasToken b = true → ∃ t, exec (.ingressFilter portB f) s = .next t ∧ FrameOf r [] s t)) ∧
  (∀ (s : State) (e : Nat × Nat × Nat), e ∈ s.mod.sw.macs → (∀ x ∈ s.mod.sw.macs, x ≠ e → e.2.2 < x.2.2) →
    ∃ t, exec .bridgeAgeing s = .next t ∧ t.mod = { s.mod with sw := { s.mod.sw with macs := s.mod.sw.macs.erase e } } ∧ e.2.2 + 300000000000 ≤ t.now ∧
      FrameBoth [] [] s t) ∧
  (∀ s : State, ∃ t, exec .relayFailover s = .next t ∧ t.mod = { s.mod with sw := { s.mod.sw with relay := s.mod.sw.relay.other } } ∧
    (∀ x : Die, (t.dieOf x).flag rNET_PORT 5 = (s.mod.sw.relay.other == .b) ∧ (t.dieOf x).flag rNET_STATUS 5 = true) ∧ FrameBoth [.regs, .ink] [.regs, .ink] s t) ∧
  (∀ (s : State) (portB up : Bool), ∃ t, exec (.t1LinkChange portB up) s = .next t ∧ t.mod = s.mod ∧
    (∀ x : Die, (t.dieOf x).portUp (b2n portB) = up ∧ RegsOnly [rNET_PORT] (s.dieOf x) (t.dieOf x)) ∧ FrameBoth [.regs] [.regs] s t)

/-- Valid Syncs on the slave port step or steer the timer, lock it after eight good ones, lose it on a large offset or a silence; PPS marks seconds. -/
def Obligations.NetworkTimeFollowsItsMaster : Prop :=
  (∀ (s : State) (portB : Bool) (m : BitVec 64), s.whole.relayUp = true → s.whole.hasToken (b2n portB) = true →
    let r := s.whole.relay
    let x := s.dieOf r
    let here := (s.here r).ptpNow
    let off := here - x.ptp.delay - (m.toNat : Int)
    (x.slavePort ≠ b2n portB → ∃ t, exec (.ptpSync portB m) s = .next t ∧ FrameBoth [] [] s t) ∧
    (x.slavePort = b2n portB →
      (x.servo = 0 → ∃ t, exec (.ptpSync portB m) s = .next t ∧ (t.dieOf r).ptp.time = m.toNat + x.ptp.delay ∧ (t.dieOf r).ptp.at_ = s.now ∧
        (t.dieOf r).ptp.sync = some ((m.toNat : Int), here) ∧ (t.dieOf r).epoch = (x.epoch + 1) % 65536 ∧ (t.dieOf r).servo = 1 ∧
        OnlyIn [.ptp, .regs, .ink] x (t.dieOf r) ∧ OnlyIn [.ptp, .regs, .ink] (s.dieOf r.other) (t.dieOf r.other) ∧ t.mem = s.mem ∧ t.pending = s.pending) ∧
      (x.servo = 2 → 100000 < off.natAbs → ∃ t, exec (.ptpSync portB m) s = .next t ∧ (t.dieOf r).servo = 3 ∧ (t.dieOf r).timeLost = true ∧
        (t.dieOf r).flag rNET_STATUS 4 = true ∧ (t.dieOf r).epoch = x.epoch ∧ t.mod.sw.pps = none ∧
        OnlyIn [.ptp, .regs, .ink] x (t.dieOf r) ∧ OnlyIn [.ptp, .regs, .ink] (s.dieOf r.other) (t.dieOf r.other) ∧ t.mem = s.mem ∧ t.pending = s.pending) ∧
      ((x.servo = 1 ∨ x.servo = 2) → off.natAbs ≤ 1000 → 7 ≤ x.ptp.good → ∃ t, exec (.ptpSync portB m) s = .next t ∧ (t.dieOf r).servo = 2 ∧
        (t.dieOf r).ptp.good = x.ptp.good + 1 ∧ -500000 ≤ (t.dieOf r).ptp.rate ∧ (t.dieOf r).ptp.rate ≤ 500000 ∧ (t.dieOf r).epoch = x.epoch ∧
        OnlyIn [.ptp, .regs, .ink] x (t.dieOf r) ∧ OnlyIn [.ptp, .regs, .ink] (s.dieOf r.other) (t.dieOf r.other) ∧ t.mem = s.mem ∧ t.pending = s.pending))) ∧
  (∀ s : State, s.whole.relayUp = true →
    let r := s.whole.relay
    ∃ t, exec .ptpDelayReq s = .next t ∧ (t.dieOf r).wire = (s.dieOf r).wire ++ [⟨.ptpRequest, [(s.dieOf r).slavePort, b2n (s.dieOf r).ptp.peer], []⟩] ∧
      (t.dieOf r).ptp.reqAt.isSome = true ∧ t.mod = { s.mod with sw := { s.mod.sw with reqAt := some t.now } } ∧ OnlyIn [.wire, .ptp] (s.dieOf r) (t.dieOf r) ∧
      OnlyIn [] (s.dieOf r.other) (t.dieOf r.other) ∧ t.mem = s.mem ∧ t.pending = s.pending) ∧
  (∀ (s : State) (portB : Bool) (v : BitVec 64) (t3 : Int), s.whole.relayUp = true → s.whole.hasToken (b2n portB) = true →
    let r := s.whole.relay
    let x := s.dieOf r
    x.slavePort = b2n portB → x.ptp.reqAt = some t3 →
    (x.ptp.peer = true → ∃ t, exec (.ptpDelayResponse portB v) s = .next t ∧ (t.dieOf r).ptp.delay = ((s.here r).ptpNow - t3 - (v.toNat : Int)).fdiv 2 ∧
      (t.dieOf r).ptp.reqAt = none ∧ OnlyIn [.ptp] x (t.dieOf r) ∧ t.mem = s.mem ∧ t.pending = s.pending) ∧
    (∀ t1 t2, x.ptp.peer = false → x.ptp.sync = some (t1, t2) → ∃ t, exec (.ptpDelayResponse portB v) s = .next t ∧
      (t.dieOf r).ptp.delay = ((t2 - t1) + ((v.toNat : Int) - t3)).fdiv 2 ∧ (t.dieOf r).ptp.reqAt = none ∧ OnlyIn [.ptp] x (t.dieOf r) ∧ t.mem = s.mem ∧
      t.pending = s.pending)) ∧
  (∀ s : State,
    let r := s.whole.relay
    ((s.dieOf r).servo = 2 → ∃ t, exec .syncTimeout s = .next t ∧ (t.dieOf r).servo = 3 ∧ (t.dieOf r).flag rNET_STATUS 4 = true ∧ t.mod.sw.pps = none ∧
      (s.dieOf r).ptp.lastSync + 1000000000 < t.now ∧ FrameBoth [.ptp, .regs, .ink] [.ptp, .regs, .ink] s t) ∧
    ((s.dieOf r).servo = 2 → ∃ t, exec .ppsOutEdge s = .next t ∧ (t.dieOf r).wire = (s.dieOf r).wire ++ [⟨.pin, [0], []⟩] ∧
      t.mod = { s.mod with sw := { s.mod.sw with pps := some (t.now + 100000000) } } ∧ OnlyIn [.wire] (s.dieOf r) (t.dieOf r) ∧
      OnlyIn [] (s.dieOf r.other) (t.dieOf r.other) ∧ t.mem = s.mem ∧ t.pending = s.pending) ∧
    ((s.dieOf r).servo ≠ 2 → ∀ c ∈ [Instr.syncTimeout, .ppsOutEdge], ∃ t, exec c s = .next t ∧ t.mod = s.mod ∧ FrameBoth [] [] s t))

/-- The next valve or result frame leaves at its time or is discarded without link, SAFE-STATE sets go out at once, and header-only frames mark ARMED. -/
def Obligations.FramesLeaveTheLaunchQueue : Prop :=
  (∀ (s : State) (d : Die) (c : Instr) (k : Nat) (kind : SentKind), (c, k, kind) ∈ [(Instr.remoteFrameLaunch d, 0, SentKind.valveFrame), (.resultFrameLaunch d, 1, .resultFrame)] →
    let x := s.dieOf d
    ((∀ f ∈ x.net.queue, f.kind ≠ k) → ∃ t, exec c s = .next t ∧ Frame d [] s t) ∧
    (∀ f rest, sortBy launchLt (x.net.queue.filter (fun f => f.kind == k)) = f :: rest →
      (x.portUp f.port = false → ∃ t, exec c s = .next t ∧ (t.dieOf d).net = { x.net with queue := x.net.queue.erase f } ∧
        (t.dieOf d).rd (rNET_CNT + 16) = min 0xFFFFFFFF (x.rd (rNET_CNT + 16) + 1) ∧ RegsOnly [rNET_CNT + 16] x (t.dieOf d) ∧ Frame d [.net, .regs] s t) ∧
      (x.portUp f.port = true → ∃ t, exec c s = .next t ∧ (t.dieOf d).net = { x.net with queue := x.net.queue.erase f } ∧
        (t.dieOf d).wire = x.wire ++ [⟨kind, [f.dest, f.port], x.udpFrame f.dest (if k = 0 then 48403 else (tget x.net.dests f.dest default).udp) f.seq f.data⟩] ∧
        (k = 1 → (t.dieOf d).rd rNET_CNT = min 0xFFFFFFFF (x.rd rNET_CNT + 1)) ∧
        (f.now = false → f.epoch ≠ x.epoch → (t.dieOf d).flag rNET_STATUS 2 = true ∧ (t.dieOf d).rd (rNET_CNT + 12) = min 0xFFFFFFFF (x.rd (rNET_CNT + 12) + 1)) ∧
        (f.now = true → (t.dieOf d).ink = x.ink ∧ (t.dieOf d).rd (rNET_CNT + 12) = x.rd (rNET_CNT + 12)) ∧ Frame d [.net, .wire, .regs, .ink] s t))) ∧
  (∀ (s : State) (d : Die) (f : QFrame) (rest : List QFrame), sortBy launchLt ((s.dieOf d).net.queue.filter (fun f => f.kind == 0)) = f :: rest →
    (s.dieOf d).portUp f.port = true → ((s.dieOf d).destPorts f.dest).head? = some f.port →
    ∃ t, exec (.remoteFrameLaunch d) s = .next t ∧ (t.dieOf d).wire = (s.dieOf d).wire ++ [⟨.valveFrame, [f.dest, f.port], (s.dieOf d).udpFrame f.dest 48403 f.seq f.data⟩] ∧
      (t.dieOf d).rd (rNIB_CNT + 36) = min 0xFFFFFFFF ((s.dieOf d).rd (rNIB_CNT + 36) + 1) ∧
      (t.dieOf d).rd (rNIB_CNT + 4) = min 0xFFFFFFFF ((s.dieOf d).rd (rNIB_CNT + 4) + (f.data.getD 12 0).toNat) ∧ Frame d [.net, .wire, .regs, .ink] s t) ∧
  (∀ (s : State) (d : Die),
    let x := s.dieOf d
    ((∃ f ∈ x.net.queue, f.kind = 2) → ∃ t, exec (.safeStateFrame d) s = .next t ∧ (t.dieOf d).net.queue = x.net.queue.filter (fun f => f.kind != 2) ∧
      FrameOf d [.net, .wire, .regs, .ink] s t) ∧
    ((∀ f ∈ x.net.queue, f.kind ≠ 2) → x.net.safeDue = none → ∃ t, exec (.safeStateFrame d) s = .next t ∧ FrameOf d [] s t) ∧
    ((∀ f ∈ x.net.queue, f.kind ≠ 2) → x.net.safeDue.isSome = true → ∃ t, exec (.safeStateFrame d) s = .next t ∧ (t.dieOf d).net.safeDue = none ∧
      (t.dieOf d).net.safeSent = true ∧ (s.whole.publishes d = true → (t.dieOf d).net.seq = (x.net.seq + 1) % 2 ^ 32 ∧
        ∀ p ∈ [0, 1], x.portUp p = true → ∀ k ∈ x.resultDests p, ∃ bs, ⟨.safeFrame, [k, p], bs⟩ ∈ (t.dieOf d).wire) ∧
      (s.whole.publishes d = false → (t.dieOf d).wire = x.wire) ∧ FrameOf d [.net, .wire, .regs] s t)) ∧
  (∀ (s : State) (d : Die),
    let x := s.dieOf d
    let sends := s.whole.publishes d = true ∧ (x.dev = .armed ∨ x.dev = .recovery ∨ x.dev = .halted)
    (¬sends → ∃ t, exec (.headerOnlyFrame d) s = .next t ∧ FrameOf d [] s t) ∧
    (sends → ∃ t, exec (.headerOnlyFrame d) s = .next t ∧ (t.dieOf d).net.seq = (x.net.seq + 1) % 2 ^ 32 ∧ (t.dieOf d).net.dropped = 0 ∧
      (∀ p ∈ [0, 1], x.portUp p = true → ∀ k ∈ x.resultDests p, ∃ bs, ⟨.resultFrame, [k, p], bs⟩ ∈ (t.dieOf d).wire) ∧ FrameOf d [.net, .wire, .regs] s t))

/-- A port goes through detection, negotiation and rate steps to ACTIVE or FAILED with its cause; retraining keeps its frames; the frequency lock follows its link. -/
def Obligations.LinksTrainFailAndRetrain : Prop :=
  (∀ (s : State) (p : Fin 4),
    let e := portDie p.val
    let x := s.dieOf e
    let q := x.tport p.val
    let st := x.tpState p.val
    let port := rTWL_PORT + 4 * p.val
    let set_ (rate : Nat) : Sent :=
      ⟨.twlControl, [2, p.val, rate, ofSigned 8 (x.eqOf p.val rate).pre, (x.eqOf p.val rate).main, ofSigned 8 (x.eqOf p.val rate).post, (x.eqOf p.val rate).ctle], []⟩
    (st = 1 → ∃ t, exec (.detectPattern p) s = .next t ∧ (t.dieOf e).tpState p.val = 2 ∧ (t.dieOf e).tport p.val = { q with since := s.now, txLevel := 0, rxLevel := 0 } ∧
      (t.dieOf e).wire = x.wire ++ [set_ 0] ∧ RegsOnly [port] x (t.dieOf e) ∧ FrameOf e [.regs, .twl, .wire] s t) ∧
    (st ≠ 1 → ∃ t, exec (.detectPattern p) s = .next t ∧ FrameOf e [] s t) ∧
    (2 ≤ st ∧ st ≤ 5 → ∃ t, exec (.codewordLock p) s = .next t ∧ (t.dieOf e).tport p.val = { q with lock := true } ∧ FrameOf e [.twl] s t) ∧
    (¬(2 ≤ st ∧ st ≤ 5) → ∃ t, exec (.codewordLock p) s = .next t ∧ FrameOf e [] s t) ∧
    (1 ≤ st ∧ st ≤ 4 → ∃ t, exec (.linkTimeout p) s = .next t ∧ (t.dieOf e).tpState p.val = 6 ∧ (t.dieOf e).fld port 10 8 = 1 ∧
      q.since + 1000000 * (if q.cfg.timeout = 0 then 500 else q.cfg.timeout) ≤ t.now ∧ RegsOnly [port] x (t.dieOf e) ∧ FrameOf e [.regs] s t) ∧
    (¬(1 ≤ st ∧ st ≤ 4) → ∃ t, exec (.linkTimeout p) s = .next t ∧ FrameOf e [] s t) ∧
    (∀ (gen : BitVec 8) (rate : Fin 4) (eq : BitVec 16) (role : BitVec 2),
      let bad := if gen = 0 then 2 else if eq.toNat ≠ q.cfg.eqId then 3 else 0
      (st ≠ 2 → st ≠ 3 → ∃ t, exec (.negotiate p gen rate eq role) s = .next t ∧ FrameOf e [] s t) ∧
      ((st = 2 ∨ st = 3) → bad ≠ 0 → ∃ t, exec (.negotiate p gen rate eq role) s = .next t ∧ (t.dieOf e).tpState p.val = 6 ∧ (t.dieOf e).fld port 10 8 = bad ∧
        RegsOnly [port] x (t.dieOf e) ∧ FrameOf e [.regs] s t) ∧
      ((st = 2 ∨ st = 3) → bad = 0 → ∃ t, exec (.negotiate p gen rate eq role) s = .next t ∧ (t.dieOf e).tpState p.val = 4 ∧ (t.dieOf e).fld port 31 16 = eq.toNat ∧
        (t.dieOf e).tport p.val = { q with agreed := min rate.val q.cfg.maxRate, fref := bit 1 role.toNat } ∧ RegsOnly [port] x (t.dieOf e) ∧ FrameOf e [.regs, .twl] s t)) ∧
    (∀ (rate : Fin 4) (dl : BitVec 24),
      let r := min rate.val q.agreed
      let lv (n : Nat) : Nat := if q.agreed = 0 then n else 0
      (st ≠ 4 → ∃ t, exec (.stepUp p rate dl) s = .next t ∧ FrameOf e [] s t) ∧
      (st = 4 → q.parked = [] → ∃ t, exec (.stepUp p rate dl) s = .next t ∧ (t.dieOf e).fld port 5 4 = r ∧ (t.dieOf e).flag port 11 = decide (r < q.agreed) ∧
        (r < q.agreed → (t.dieOf e).flag rTWL_STATUS 2 = true) ∧
        (r < q.cfg.minRate → (t.dieOf e).tpState p.val = 6 ∧ (t.dieOf e).fld port 10 8 = 4 ∧
          (t.dieOf e).tport p.val = { q with txLevel := lv q.txLevel, rxLevel := lv q.rxLevel }) ∧
        (t.dieOf e).wire = x.wire ++ (List.range q.agreed).map (fun k => set_ (k + 1)) ++ [set_ r] ∧
        (q.cfg.minRate ≤ r → (t.dieOf e).tpState p.val = 5 ∧ (t.dieOf e).fld (rTWL_DELAY + 4 * p.val) 23 0 = dl.toNat ∧
          (t.dieOf e).tport p.val = { q with txSeq := 0, rxSeq := 0, out := [], cr0 := 16, cr1 := 16, lock := true, txLevel := lv q.txLevel, rxLevel := lv q.rxLevel }) ∧
        RegsOnly ([port, rTWL_DELAY + 4 * p.val, rTWL_STATUS] ++ inkRegs) x (t.dieOf e) ∧ FrameOf e [.regs, .twl, .wire, .ink] s t)) ∧
    (st ≠ 5 → ∃ t, exec (.retrain p) s = .next t ∧ FrameOf e [] s t) ∧
    (st = 5 → (∀ f ∈ q.out.map (fun o => o.2.1) ++ q.queue, stepTagged f.cls = false ∧ 1 ≤ f.hops ∧ f.hops ≤ 64 ∧ x.route f.dest = p.val) →
      ∃ t, exec (.retrain p) s = .next t ∧ (t.dieOf e).tpState p.val = 2 ∧
        (t.dieOf e).rd (rTWL_CNT + 32 * p.val + 16) = min 0xFFFFFFFF (x.rd (rTWL_CNT + 32 * p.val + 16) + 1) ∧
        (t.dieOf e).flag rTWL_STATUS 0 = true ∧ (t.dieOf e).flag rTWL_STATUS 1 = true ∧
        (t.dieOf e).tport p.val = { q with out := [], queue := [], lock := false, since := s.now, txLevel := 0, rxLevel := 0, parked := q.parked ++ (q.out.map (fun o => o.2.1) ++ q.queue).map (fun f => (f, s.now)) } ∧
        (t.dieOf e).wire = x.wire ++ [set_ 0] ∧ FrameOf e [.regs, .twl, .wire, .ink] s t)) ∧
  (∀ (y : Nat) (xs : List Nat), (∀ z ∈ xs, z < 4) → recover y (precode y xs) = xs) ∧
  (∀ s : State,
    let c := s.dieOf s.whole.carrier
    let p := c.fld rTWL_CFG 29 27
    let up := (s.dieOf (portDie p)).tpState p = 5
    let may := c.dev = .linkTrain ∧ p ≤ 3 ∧ up ∧ ((s.dieOf (portDie p)).tport p).fref = true
    let lost := (c.dev = .armed ∨ c.dev = .run ∨ c.dev = .safe) ∧ p ≤ 3 ∧ c.flag rTWL_SYNC 29 = true ∧ ¬up
    (may → ∃ t, exec (.frequencyLock true) s = .next t ∧ t.mod = s.mod ∧
      (∀ k : Die, (t.dieOf k).flag rTWL_SYNC 29 = true ∧ RegsOnly [rTWL_SYNC] (s.dieOf k) (t.dieOf k)) ∧ FrameBoth [.regs] [.regs] s t) ∧
    (may → ∃ t, exec (.frequencyLock false) s = .next t ∧ t.mod = s.mod ∧ (∀ k : Die, (t.dieOf k).flag rTWL_STATUS 7 = true ∧
      (t.dieOf k).flag rTWL_SYNC 29 = (s.dieOf k).flag rTWL_SYNC 29) ∧ FrameBoth [.regs, .ink] [.regs, .ink] s t) ∧
    (¬may → ∀ ok : Bool, ∃ t, exec (.frequencyLock ok) s = .next t ∧ t.mod = s.mod ∧ FrameBoth [] [] s t) ∧
    (lost → ∃ t, exec .frefLoss s = .next t ∧ t.mod = s.mod ∧ (∀ k : Die, (t.dieOf k).flag rTWL_SYNC 29 = false ∧ (t.dieOf k).flag rTWL_STATUS 7 = true) ∧
      FrameBoth [.regs, .ink] [.regs, .ink] s t) ∧
    (¬lost → ∃ t, exec .frefLoss s = .next t ∧ t.mod = s.mod ∧ FrameBoth [] [] s t))

/-- A received frame is checked for CRC and sequence; CTRL, SIGN and BULK for this die are delivered; acknowledgement, resending and discard follow R387 and R403. -/
def Obligations.FramesAreCheckedResentAndWithdrawn : Prop :=
  ∀ (s : State) (p : Fin 4),
    let e := portDie p.val
    let x := s.dieOf e
    let q := x.tport p.val
    let act := x.tpState p.val = 5
    let cnt := rTWL_CNT + 32 * p.val
    let sent (o : Nat × TFrame × Nat) : Sent :=
      ⟨.twlMessage, [p.val], o.2.1.head o.1 ++ o.2.1.payload s.now ++ leBytes 4 (crc32 (o.2.1.head o.1 ++ o.2.1.payload s.now))⟩
    let stays (l : List TFrame) := ∀ f ∈ l, stepTagged f.cls = false ∧ 1 ≤ f.hops ∧ f.hops ≤ 64 ∧ x.route f.dest = p.val
    (∀ (bs : List (BitVec 8)) (crc : BitVec 32) (ratio : BitVec 64) (corr uncorr : BitVec 16) (seq : BitVec 8) (c0 c1 : BitVec 8), ¬act →
      ∀ c ∈ [Instr.twillFrameReceive p bs crc ratio corr uncorr, .lctlAck p seq c0 c1, .lctlNak p seq, .ackTimer p, .retryTimeout p],
        ∃ t, exec c s = .next t ∧ FrameOf e [] s t) ∧
    (act → ∀ (bs : List (BitVec 8)) (crc : BitVec 32) (ratio : BitVec 64) (corr uncorr : BitVec 16),
      let counted (t : State) := (t.dieOf e).rd (cnt + 8) = min 0xFFFFFFFF (x.rd (cnt + 8) + corr.toNat) ∧ (t.dieOf e).rd (cnt + 12) = min 0xFFFFFFFF (x.rd (cnt + 12) + uncorr.toNat)
      let nak : Sent := ⟨.twlControl, [1, p.val, 2, q.rxSeq % 256, 16, 16], []⟩
      ((crc32 bs ≠ crc.toNat ∨ frameOf? bs = none) → ∃ t, exec (.twillFrameReceive p bs crc ratio corr uncorr) s = .next t ∧ counted t ∧
        (t.dieOf e).rd cnt = min 0xFFFFFFFF (x.rd cnt + 1) ∧ (t.dieOf e).wire = x.wire ++ [nak] ∧ RegsOnly [cnt, cnt + 8, cnt + 12] x (t.dieOf e) ∧
        FrameOf e [.regs, .wire] s t) ∧
      (crc32 bs = crc.toNat → ∀ n f, frameOf? bs = some (n, f) →
        (n ≠ q.rxSeq → ∃ t, exec (.twillFrameReceive p bs crc ratio corr uncorr) s = .next t ∧ counted t ∧ (t.dieOf e).wire = x.wire ++ [nak] ∧
          RegsOnly [cnt + 8, cnt + 12] x (t.dieOf e) ∧ FrameOf e [.regs, .wire] s t) ∧
        (n = q.rxSeq → x.route f.dest = 5 → f.dstDie = e.num → f.first = true → f.last = true →
          ((f.cls = 0 ∨ f.cls = 2) → ∃ t, exec (.twillFrameReceive p bs crc ratio corr uncorr) s = .next t ∧ counted t ∧
            (t.dieOf e).wire = x.wire ++ [⟨.irq, [f.cls, f.src, f.srcDie], f.data⟩] ∧ (t.dieOf e).tport p.val = { q with rxSeq := (q.rxSeq + 1) % 256 } ∧
            FrameOf e [.regs, .wire, .twl] s t) ∧
          (f.cls = 1 → ∃ t, exec (.twillFrameReceive p bs crc ratio corr uncorr) s = .next t ∧ counted t ∧
            (t.dieOf e).twl.inbox = x.twl.inbox ++ [{ cls := 1, src := f.src, srcDie := f.srcDie, data := f.data, port := some p.val, at_ := s.now, count := 0, rho := 0 }] ∧
            (t.dieOf e).tport p.val = { q with rxSeq := (q.rxSeq + 1) % 256 } ∧ FrameOf e [.regs, .twl] s t)))) ∧
    (act → ∀ (seq c0 c1 : BitVec 8),
      let y := { q.acked seq.toNat with cr0 := c0.toNat, cr1 := c1.toNat }
      (q.queue = [] → ∃ t, exec (.lctlAck p seq c0 c1) s = .next t ∧ (t.dieOf e).tport p.val = y ∧ FrameOf e [.twl] s t) ∧
      (∀ f, q.queue = [f] → y.out.length < 8 → f.vc ≤ 1 → y.credit f.vc = true → ∃ t, exec (.lctlAck p seq c0 c1) s = .next t ∧
        (t.dieOf e).tport p.val = { y with queue := [], out := y.out ++ [(y.txSeq, f, 0)], txSeq := (y.txSeq + 1) % 256 } ∧
        (t.dieOf e).wire = x.wire ++ [sent (y.txSeq, f, 0)] ∧ FrameOf e [.twl, .wire] s t)) ∧
    (act → ∃ t, exec (.ackTimer p) s = .next t ∧ (t.dieOf e).wire = x.wire ++ [⟨.twlControl, [1, p.val, 1, (q.rxSeq + 255) % 256, 16, 16], []⟩] ∧ FrameOf e [.wire] s t) ∧
    (act → ∀ (c : Instr) (o : List (Nat × TFrame × Nat)),
      ((c = .retryTimeout p ∧ o = q.out ∧ o ≠ []) ∨ (∃ seq : BitVec 8, c = .lctlNak p seq ∧ q.out.any (fun z => z.1 == seq.toNat) = true ∧ o = q.out.dropWhile (fun z => z.1 != seq.toNat))) →
      ((∀ z ∈ o, z.2.2 < 15) → ∃ t, exec c s = .next t ∧ (t.dieOf e).tport p.val = { q with out := o.map (fun z => (z.1, z.2.1, z.2.2 + 1)) } ∧
        (t.dieOf e).wire = x.wire ++ o.map sent ∧ (t.dieOf e).rd (cnt + 4) = min 0xFFFFFFFF (x.rd (cnt + 4) + o.length) ∧ RegsOnly [cnt + 4] x (t.dieOf e) ∧
        FrameOf e [.twl, .wire, .regs] s t) ∧
      ((∃ z ∈ o, 15 ≤ z.2.2) → stays (o.map (fun z => z.2.1) ++ q.queue) → ∃ t, exec c s = .next t ∧ (t.dieOf e).tpState p.val = 2 ∧ (t.dieOf e).flag rTWL_STATUS 1 = true ∧
        ((t.dieOf e).tport p.val).out = [] ∧ FrameOf e [.twl, .wire, .regs, .ink] s t)) ∧
    (act → q.out = [] → ∃ t, exec (.retryTimeout p) s = .next t ∧ FrameOf e [] s t) ∧
    (act → ∀ seq : BitVec 8, q.out.any (fun z => z.1 == seq.toNat) = false → ∃ t, exec (.lctlNak p seq) s = .next t ∧ FrameOf e [] s t) ∧
    (q.parked = [] → ∃ t, exec (.routeWaitTimeout p) s = .next t ∧ FrameOf e [] s t) ∧
    (∀ f t0 rest, q.parked = (f, t0) :: rest →
      let notice := f.cls = 0 ∧ f.data.head? = some 5
      let gone (t : State) := (t.dieOf e).tport p.val = { q with parked := rest } ∧ (t.dieOf e).rd (cnt + 20) = min 0xFFFFFFFF (x.rd (cnt + 20) + 1) ∧
        (t.dieOf e).flag rTWL_STATUS 3 = true ∧ t0 + 10000000 ≤ t.now
      (notice → ∃ t, exec (.routeWaitTimeout p) s = .next t ∧ gone t ∧ FrameOf e [.regs, .twl, .ink] s t) ∧
      (¬notice → x.route f.src = 5 → f.srcDie = e.num → ∃ t, exec (.routeWaitTimeout p) s = .next t ∧ gone t ∧
        (t.dieOf e).wire = x.wire ++ [⟨.irq, [0, x.fld rTWL_CFG 17 0, e.num], [5]⟩] ∧ FrameOf e [.regs, .twl, .ink, .wire] s t))

/-- The root probes the modules found one port at a time and records each answer; probes travel on or are answered; routes and addresses are taken. -/
def Obligations.DiscoveryProbesAndRoutes : Prop :=
  (∀ s : State,
    let c := s.whole.carrier
    let x := s.dieOf c
    let settled := s.whole.portStates.all (fun n => n == 0 || n == 5 || n == 6) = true
    let live := (x.dev = .linkTrain ∧ settled) ∨ x.dev = .armed ∨ x.dev = .run ∨ x.dev = .safe
    let root := x.flag rTWL_CFG 31 = true ∧ x.flag rTWL_CFG 30 = false
    let ports := (List.range 4).filter (fun p => s.whole.portStates.getD p 0 == 5)
    let own : DiscMod := { serial := s.mod.store.serial, member := 0x000F, gen := 1, ports := s.whole.portStates, path := [], links := [] }
    (¬(root ∧ live) → ∃ t, exec .discovery s = .next t ∧ FrameOf c [] s t) ∧
    (root → live → x.twl.probes = [] → ∀ p rest, ports = p :: rest → ∃ t, exec .discovery s = .next t ∧
      (t.dieOf c).twl = { x.twl with found := [own], probes := ports } ∧ (t.dieOf c).wire = x.wire ++ [⟨.twlControl, [0, 1, p, p], []⟩] ∧ FrameOf c [.twl, .wire] s t) ∧
    (root → live → ∀ p0 p1 rest, x.twl.probes = p0 :: p1 :: rest → ∃ t, exec .discovery s = .next t ∧ (t.dieOf c).twl = { x.twl with probes := p1 :: rest } ∧
      (t.dieOf c).wire = x.wire ++ [⟨.twlControl, 0 :: 1 :: p1 :: ((x.twl.found.getD (p1 / 4) default).path ++ [p1 % 4]), []⟩] ∧ FrameOf c [.twl, .wire] s t)) ∧
  (∀ (s : State) (p : Fin 4) (tag : BitVec 32) (rest : List (BitVec 3)),
    let act (k : Nat) := (s.dieOf (portDie k)).tpState k = 5
    let x := s.dieOf (portDie p.val)
    (act p.val → rest = [] → ∃ t, exec (.probe p tag rest) s = .next t ∧ FrameOf (portDie p.val) [.wire] s t ∧
      (t.dieOf (portDie p.val)).wire = x.wire ++
        [⟨.twlControl, [0, 2, 256 + p.val, tag.toNat, 0x000F, 1] ++ s.whole.portStates ++ [x.fld rTWL_CFG 17 0], s.mod.store.serial⟩]) ∧
    (∀ q more, rest = q :: more →
      (act p.val → q.toNat ≤ 3 → act q.toNat → ∃ t, exec (.probe p tag rest) s = .next t ∧ FrameOf (portDie q.toNat) [.wire] s t ∧
        (t.dieOf (portDie q.toNat)).wire = (s.dieOf (portDie q.toNat)).wire ++
          [⟨.twlControl, 0 :: 1 :: (256 + q.toNat) :: tag.toNat :: more.map (fun y => y.toNat), []⟩]) ∧
      ((¬act p.val ∨ 3 < q.toNat ∨ ¬act q.toNat) → ∃ t, exec (.probe p tag rest) s = .next t ∧ FrameBoth [] [] s t ∧ t.mod = s.mod)) ∧
    (¬act p.val → ∃ t, exec (.probe p tag rest) s = .next t ∧ FrameBoth [] [] s t ∧ t.mod = s.mod)) ∧
  (∀ (s : State) (p : Fin 4) (tag : BitVec 32) (serial : List (BitVec 8)) (member : BitVec 16) (gen : BitVec 8) (ports : List (BitVec 3)) (addr : BitVec 18),
    let c := s.whole.carrier
    let x := s.dieOf c
    let e := portDie p.val
    let q := (s.dieOf e).tport p.val
    let i := tag.toNat / 4
    (x.flag rTWL_CFG 30 = true → ((s.dieOf e).tpState p.val ≠ 5 ∨ addr.toNat = q.cfg.peer) → ∃ t, exec (.ident p tag serial member gen ports addr) s = .next t ∧
      FrameBoth [] [] s t ∧ t.mod = s.mod) ∧
    (x.flag rTWL_CFG 30 = true → (s.dieOf e).tpState p.val = 5 → addr.toNat ≠ q.cfg.peer → q.out = [] → q.queue = [] →
      ∃ t, exec (.ident p tag serial member gen ports addr) s = .next t ∧ (t.dieOf e).tpState p.val = 6 ∧ (t.dieOf e).fld (rTWL_PORT + 4 * p.val) 10 8 = 5 ∧
        (t.dieOf e).flag rTWL_STATUS 0 = true ∧ FrameOf e [.regs, .twl, .ink] s t) ∧
    (x.flag rTWL_CFG 30 = false → x.twl.probes.head? ≠ some tag.toNat → ∃ t, exec (.ident p tag serial member gen ports addr) s = .next t ∧ FrameOf c [] s t) ∧
    (x.flag rTWL_CFG 30 = false → ∀ p1 rest, x.twl.probes = tag.toNat :: p1 :: rest → (∀ m ∈ x.twl.found, m.serial ≠ serial) →
      (x.twl.found.getD i default).path.length < 63 → ∃ t m, exec (.ident p tag serial member gen ports addr) s = .next t ∧
        (t.dieOf c).twl.found.getLast? = some m ∧ (t.dieOf c).twl.found.length = x.twl.found.length + 1 ∧ m.serial = serial ∧ m.member = member.toNat ∧ m.gen = gen.toNat ∧
        m.path = (x.twl.found.getD i default).path ++ [tag.toNat % 4] ∧
        (t.dieOf c).twl.probes = p1 :: rest ++ ((List.range 4).filter (fun k => (ports.map (fun y => y.toNat)).getD k 0 == 5)).map (fun k => 4 * x.twl.found.length + k) ∧
        (t.dieOf c).wire.length = x.wire.length + 1 ∧ FrameOf c [.twl, .wire] s t)) ∧
  (∀ (s : State) (d : Die) (addr : BitVec 18) (rs ns : List (BitVec 24)), (∀ k : Die, ∀ p ∈ List.range 4, ((s.dieOf k).tport p).parked = []) →
    ∃ t, exec (.routeWrite d addr rs ns) s = .next t ∧ (t.dieOf d).fld rTWL_CFG 17 0 = addr.toNat ∧
      (∀ i v, i < 16 → rs[i]? = some v → (t.dieOf d).rd (rTWL_ROUTE_R + 4 * i) = v.toNat) ∧ (∀ i v, i < 256 → ns[i]? = some v → (t.dieOf d).rd (rTWL_ROUTE_N + 4 * i) = v.toNat) ∧
      RegsOnly (rTWL_CFG :: (List.range 16).map (fun i => rTWL_ROUTE_R + 4 * i) ++ (List.range 256).map (fun i => rTWL_ROUTE_N + 4 * i)) (s.dieOf d) (t.dieOf d) ∧
      (t.dieOf d.other).regs = (s.dieOf d.other).regs ∧ t.mod = s.mod ∧ FrameBoth [.regs, .twl] [.regs, .twl] s t) ∧
  (∀ s : State, ∃ t, exec .done s = .next t ∧ (∀ k : Die, (t.dieOf k).twl = { (s.dieOf k).twl with done := true }) ∧ t.mod = s.mod ∧ FrameBoth [.twl] [.twl] s t)

/-- The master starts its group when every member stands arrived, a late START is reported and repeated, and dies align to the master's boundaries. -/
def Obligations.StartBarrierAndAlignment : Prop :=
  (∀ (s : State) (c : Instr) (kind : BitVec 8), (c, kind) ∈ [(Instr.arrive, (1 : BitVec 8)), (.start, 2), (.align, 3), (.withdraw, 4)] →
    (∀ m ∈ (s.dieOf s.whole.carrier).twl.inbox, m.cls ≠ 3 ∨ m.data.head? ≠ some kind) → ∃ t, exec c s = .next t ∧ FrameOf s.whole.carrier [] s t) ∧
  (∀ (s : State) (c : Instr) (kind : BitVec 8) (m : TMsg), (c, kind) ∈ [(Instr.arrive, (1 : BitVec 8)), (.start, 2), (.align, 3), (.withdraw, 4)] →
    (s.dieOf s.whole.carrier).twl.inbox.find? (fun m => m.cls == 3 && m.data.head? == some kind) = some m →
    let k := s.whole.carrier
    let x := s.dieOf k
    let g := s.mod.grp
    let addrs := if g.addrs.contains m.src then g.addrs else g.addrs ++ [m.src]
    let taken := x.twl.inbox.erase m
    let only (t : State) := (t.dieOf k).twl = { x.twl with inbox := taken } ∧ OnlyIn [.twl] x (t.dieOf k) ∧ OnlyIn [] (s.dieOf k.other) (t.dieOf k.other) ∧ t.mem = s.mem ∧ t.pending = s.pending
    (kind = 1 → s.whole.isMaster = false → ∃ t, exec c s = .next t ∧ only t ∧ t.mod = s.mod) ∧
    (kind = 1 → s.whole.isMaster = true → (addrs.length < s.whole.members ∨ g.release.isSome = true) → ∃ t, exec c s = .next t ∧ only t ∧
      t.mod = { s.mod with grp := { g with addrs := addrs } }) ∧
    (kind = 1 → s.whole.isMaster = true → s.whole.members ≤ addrs.length → g.release = none → ∃ t, exec c s = .next t ∧ t.mod = { s.mod with grp := { g with
        addrs := addrs, release := some (s.now + s.whole.margin), running := (addrs.filter (fun a => decide (a ≠ s.whole.addr))).mergeSort (fun a b => decide (a ≤ b)) } } ∧
      FrameBoth [.twl, .regs, .ink, .wire] [.twl, .regs, .ink, .wire] s t) ∧
    (kind = 4 → ∃ t, exec c s = .next t ∧ only t ∧ t.mod = { s.mod with grp := { g with addrs := g.addrs.filter (fun a => decide (a ≠ m.src)) } }) ∧
    (kind = 2 → g.arrived = false → ∃ t, exec c s = .next t ∧ only t ∧ t.mod = s.mod) ∧
    (kind = 2 → g.arrived = true → m.count < 0 → ∃ t, exec c s = .next t ∧ t.mod = s.mod ∧ (∀ e : Die, (t.dieOf e).flag rTWL_STATUS 8 = true) ∧
      (t.dieOf k).wire = x.wire ++ [⟨.twlControl, [2, x.fld rTWL_SYNC 17 0], []⟩] ∧ (t.dieOf k).twl.inbox = taken ∧ FrameBoth [.twl, .regs, .ink, .wire] [.twl, .regs, .ink, .wire] s t) ∧
    (kind = 2 → g.arrived = true → 0 ≤ m.count → ∃ t, exec c s = .next t ∧ only t ∧ t.mod = { s.mod with grp := { g with release := some m.instant.toNat } }) ∧
    (kind = 3 → ∃ t, exec c s = .next t ∧ t.mod = s.mod ∧ (t.dieOf k).twl.inbox = taken ∧ FrameBoth [.twl, .regs, .ink] [.twl, .regs, .ink] s t ∧ ∀ e : Die,
      let y := s.dieOf e
      let n := leNat ((m.data.drop 24).take 8)
      let own : Int := if n / 1024 = y.seq.step / 1024 then y.twl.mark else (y.seq.stepAt : Int) + 20000 * ((n : Int) - y.seq.step)
      let o := own - m.instant
      ((y.stepping = false ∨ n % 1024 ≠ 0 ∨ n = 0) → RegsOnly [] y (t.dieOf e)) ∧
      (y.stepping = true → n % 1024 = 0 → n ≠ 0 →
        (t.dieOf e).rd rTWL_ALIGN = ofSigned 32 (clampZ (-2147483648) 2147483647 o) ∧ (t.dieOf e).twl.aligned = max y.twl.aligned (n / 1024) ∧
        (y.flag rTWL_SYNC 29 = true → (t.dieOf e).rd rTWL_TRIM = y.rd rTWL_TRIM ∧ (4 < o.natAbs → (t.dieOf e).flag rTWL_STATUS 6 = true)) ∧
        (y.flag rTWL_SYNC 29 = false → (t.dieOf e).rd rTWL_TRIM = ofSigned 32 (trimFor (toSigned 32 (y.rd rTWL_TRIM)) m.rho o)) ∧
        (20000 ≤ o.natAbs → (t.dieOf e).flag rTWL_STATUS 5 = true)))) ∧
  (∀ (s : State) (addr : BitVec 18),
    let g := s.mod.grp
    (s.whole.isMaster = false → ∃ t, exec (.startLateReport addr) s = .next t ∧ t.mod = s.mod ∧ FrameBoth [] [] s t) ∧
    (s.whole.isMaster = true → g.release = none → g.running.contains addr.toNat = false → ∃ t, exec (.startLateReport addr) s = .next t ∧ t.mod = s.mod ∧ FrameBoth [] [] s t) ∧
    (∀ at_, s.whole.isMaster = true → g.release = some at_ → s.now < at_ → s.whole.members ≤ g.addrs.length → ∃ t, exec (.startLateReport addr) s = .next t ∧
      t.mod.grp.release = some (at_ + s.whole.margin) ∧ t.mod.grp.addrs = g.addrs ∧ FrameBoth [.twl, .regs, .ink, .wire] [.twl, .regs, .ink, .wire] s t) ∧
    (s.whole.isMaster = true → ((g.release = none ∧ g.running.contains addr.toNat = true) ∨ ∃ at_, g.release = some at_ ∧ at_ ≤ s.now) →
      ∃ t, exec (.startLateReport addr) s = .next t ∧ t.mod = s.mod ∧ (t.dieOf s.whole.carrier).twl.tag = ((s.dieOf s.whole.carrier).twl.tag + 1) % 65536 ∧
        FrameBoth [.twl, .regs, .ink, .wire] [.twl, .regs, .ink, .wire] s t)) ∧
  (∀ s : State, ∃ t, exec .alignMiss s = .next t ∧ t.mod = s.mod ∧ FrameBoth [.regs, .ink] [.regs, .ink] s t ∧ ∀ e : Die,
    let y := s.dieOf e
    let miss := s.whole.isMaster = false ∧ y.stepping = true ∧ y.seq.cycle = 0 ∧ 1024 ≤ y.seq.step ∧ y.seq.step % 1024 = 16 ∧ y.twl.aligned < y.seq.step / 1024
    (miss → (t.dieOf e).flag rTWL_STATUS 4 = true) ∧ (¬miss → RegsOnly [] y (t.dieOf e)))

/-- Pair dies compare signatures two steps later; a failed peer is noted and its contexts offered in order; BULK writes only into its region. -/
def Obligations.PairComparesFailsOverAndRemaps : Prop :=
  (∀ (s : State) (d : Die) (miss : Bool) (own : Sign),
    let x := s.dieOf d
    let peer := (s.dieOf d.other).twl.signs.find? (fun y => y.step == x.seq.step - 2)
    let may := x.paired = true ∧ x.stepping = true ∧ 2 ≤ x.seq.step ∧ x.fld rTWL_PEER 1 0 = 1
    let safe (t : State) := (∀ e : Die, (t.dieOf e).flag rCHK_SAFE_CAUSE 3 = true) ∧ t.mod = s.mod ∧
      FrameBoth [.regs, .ink, .chk, .seq, .net] [.regs, .ink, .chk, .seq, .net] s t
    (¬may → ∃ t, exec (.sign d miss) s = .next t ∧ FrameOf d [] s t) ∧
    (may → x.twl.signs.find? (fun y => y.step == x.seq.step - 2) = some own →
      ((miss = true ∨ peer = none) → ∃ t, exec (.sign d miss) s = .next t ∧ safe t ∧ (∀ e : Die, (t.dieOf e).rd rTWL_STATUS = (s.dieOf e).rd rTWL_STATUS)) ∧
      (∀ p, miss = false → peer = some p → p.sig = own.sig → ∃ t, exec (.sign d miss) s = .next t ∧ FrameOf d [] s t) ∧
      (∀ p, miss = false → peer = some p → p.sig ≠ own.sig → ∃ t, exec (.sign d miss) s = .next t ∧ safe t ∧ (t.dieOf d).flag rTWL_STATUS 11 = true ∧
        ((∀ n ∈ own.map ++ p.map, n < 32) → (t.dieOf d).flag rTWL_SIGN_DIFF 31 = true) ∧ (x.flag rTWL_SIGN_DIFF 31 = false → (t.dieOf d).rd64 rTWL_SIGN_DIFF_STEP_LO = (x.seq.step - 2) % 2 ^ 64)))) ∧
  (∀ (s : State) (d : Die) (silent : Bool),
    let x := s.dieOf d
    let peer := s.dieOf d.other
    let told := peer.dev = .safe ∨ peer.dev = .recovery ∨ peer.dev = .halted
    let fails := x.fld rTWL_PEER 1 0 = 1 ∧ (silent = true ∨ told)
    (¬fails → ∃ t, exec (.peerFailure d silent) s = .next t ∧ FrameOf d [] s t) ∧
    (fails → x.paired = true → ∃ t, exec (.peerFailure d silent) s = .next t ∧ (t.dieOf d).fld rTWL_PEER 1 0 = 2 ∧
      (d = .a → (t.dieOf d).flag rTWL_STATUS 12 = true ∧ t.mod = s.mod) ∧
      (d = .b → t.b.twl.failAt = some t.now ∧ t.b.qll.primary = true ∧ t.mod.ink.writer = .b ∧ t.b.flag rINK_STATUS 0 = true ∧ t.a.flag rINK_STATUS 0 = false) ∧
      FrameBoth [.regs, .ink, .twl, .qll] [.regs, .ink, .twl, .qll] s t) ∧
    (fails → x.paired = false → (∀ n ∈ List.range 16, (peer.aux n).remap = 0) → ∃ t, exec (.peerFailure d silent) s = .next t ∧ (t.dieOf d).fld rTWL_PEER 1 0 = 2 ∧
      (t.dieOf d).flag rTWL_STATUS 12 = true ∧ (t.dieOf d).twl.remaps = [] ∧ FrameBoth [.regs, .ink, .twl, .qll] [.regs, .ink, .twl, .qll] s t)) ∧
  (∀ s : State,
    ((s.b.twl.failAt = none ∨ s.mod.field.taken = true) → ∃ t, exec .takeoverTimeout s = .next t ∧ FrameOf .b [] s t) ∧
    (∀ at_, s.b.twl.failAt = some at_ → s.mod.field.taken = false → ∃ t, exec .takeoverTimeout s = .next t ∧ t.b.flag rCHK_SAFE_CAUSE 3 = true ∧
      t.b.twl.failAt = none ∧ at_ + 2000000 ≤ t.now ∧ FrameOf .b [.regs, .ink, .chk, .twl, .net] s t) ∧
    ((s.b.held.isSome = true ∨ s.b.qll.primary = true) → ∃ t, exec .quillHeartbeatLoss s = .next t ∧ t.mod = s.mod ∧ FrameBoth [] [] s t) ∧
    (s.b.held = none → s.b.qll.primary = false → ∃ t, exec .quillHeartbeatLoss s = .next t ∧ t.b.qll = { s.b.qll with primary := true } ∧
      t.a.qll = { s.a.qll with primary := false } ∧ t.b.flag rQLL_STATUS 5 = true ∧ t.mod = s.mod ∧ FrameBoth [.qll] [.qll, .regs, .ink] s t)) ∧
  (∀ (s : State) (d : Die) (addr : BitVec 18) (k : Die) (c : Fin 20),
    let x := s.dieOf d
    (x.reservation addr.toNat k.num c.val = none → ∃ t, exec (.remapOffer d addr k c) s = .next t ∧ (t.dieOf d).wire = x.wire ++ [⟨.twlControl, [0, 9, addr.toNat, c.val], []⟩] ∧
      Frame d [.wire] s t) ∧
    (∀ n, x.reservation addr.toNat k.num c.val = some n → x.stepping = true → ∃ t, exec (.remapOffer d addr k c) s = .next t ∧
      (t.dieOf d).wire = x.wire ++ [⟨.twlControl, [0, 8, addr.toNat, c.val], []⟩] ∧ (t.dieOf d).reqs = x.reqs ++ [(rCTX_AUX + 4 * n, 1, x.seq.step + 1)] ∧ Frame d [.wire, .reqs] s t)) ∧
  (∀ (s : State) (d : Die) (c : Fin 20) (r : Remap) (a : Nat) (more : List (Option Nat)),
    let x := s.dieOf d
    let end_ (t : State) := (t.dieOf d).twl = { x.twl with remaps := [] }
    x.twl.remaps = [r] → r.cands = some a :: more →
    (2 + r.ctx ≠ c.val → ∀ i ∈ [Instr.remapAccept d c, .remapReject d c], ∃ t, exec i s = .next t ∧ Frame d [] s t) ∧
    (2 + r.ctx = c.val → ∃ t, exec (.remapAccept d c) s = .next t ∧ end_ t ∧ Frame d [.twl] s t) ∧
    (∀ i : Instr, ((i = .remapReject d c ∧ 2 + r.ctx = c.val) ∨ i = .remapTimeout d ∨ ∃ g : BitVec 18, i = .unreachable d g ∧ g.toNat = a) →
      let w := if i = .remapReject d c ∨ i = .remapTimeout d then x.wire else x.wire ++ [⟨.irq, [0, 5, a], []⟩]
      (more = [] → ∃ t, exec i s = .next t ∧ end_ t ∧ (t.dieOf d).wire = w ∧ (t.dieOf d).flag rTWL_STATUS 10 = true ∧ (i = .remapTimeout d → r.at_ + 10000000 ≤ t.now) ∧
        Frame d [.twl, .regs, .ink, .wire] s t) ∧
      (∀ b rest, more = some b :: rest → ∃ t at_, exec i s = .next t ∧ (t.dieOf d).twl = { x.twl with remaps := [{ r with cands := more, at_ := at_ }] } ∧
        (t.dieOf d).wire = w ++ [⟨.twlControl, [0, 7, b, x.fld rTWL_CFG 17 0, d.other.num, 2 + r.ctx], []⟩] ∧ Frame d [.twl, .wire] s t))) ∧
  (∀ (s : State) (d : Die) (addr : BitVec 18), (s.dieOf d).twl.remaps = [] →
    (∃ t, exec (.unreachable d addr) s = .next t ∧ (t.dieOf d).wire = (s.dieOf d).wire ++ [⟨.irq, [0, 5, addr.toNat], []⟩] ∧ Frame d [.wire] s t) ∧
    (∀ c : Fin 20, ∀ i ∈ [Instr.remapAccept d c, .remapReject d c, .remapTimeout d], ∃ t, exec i s = .next t ∧ Frame d [] s t)) ∧
  (∀ (s : State) (d : Die), ∃ t, exec (.bulkNak d) s = .next t ∧ (t.dieOf d).wire = (s.dieOf d).wire ++ [⟨.irq, [0, 6], []⟩] ∧ Frame d [.wire] s t) ∧
  (∀ (s : State) (d : Die), Memory.wf s.mem = true → (∀ m ∈ (s.dieOf d).twl.inbox, m.cls ≠ 1) → ∃ t, exec (.bulk d) s = .next t ∧ Frame d [] s t) ∧
  (∀ (s : State) (d : Die) (m : TMsg), Memory.wf s.mem = true → (s.dieOf d).twl.inbox.find? (fun m => m.cls == 1) = some m →
    let x := s.dieOf d
    let b (i n : Nat) : Nat := leNat ((m.data.drop i).take n)
    let taken (t : State) := (t.dieOf d).twl = { x.twl with inbox := x.twl.inbox.erase m }
    let nak (t : State) := (t.dieOf d).wire = x.wire ++ [⟨.twlControl, [0, 6, m.src, m.srcDie], []⟩]
    (x.mem.regions.find? (fun r => r.kind == b 0 1) = none → ∃ t, exec (.bulk d) s = .next t ∧ taken t ∧ nak t ∧ Frame d [.twl, .wire] s t) ∧
    (∀ r, x.mem.regions.find? (fun r => r.kind == b 0 1) = some r →
      let at_ := 960 * r.base + b 4 8
      let bad := (b 0 1 ≠ 8 ∧ b 0 1 ≠ 10) ∨ (b 0 1 = 8 ∧ x.flag rQLL_STAGE 3 = true) ∨ b 1 3 ≠ 0 ∨ m.data.length ≠ 16 + b 12 4 ∨ 960 * r.len < b 4 8 + b 12 4
      let may (a : Nat) := (s.here d).permits 20 (a % 2 ^ 32) 0x70 7 true = true
      (bad → ∃ t, exec (.bulk d) s = .next t ∧ taken t ∧ nak t ∧ Frame d [.twl, .wire] s t) ∧
      (¬bad → ¬may at_ → ∃ t, exec (.bulk d) s = .next t ∧ taken t ∧ nak t ∧ t.mem = s.mem ∧ (t.dieOf d).flag rFWL_STATUS 0 = true ∧
        Frame d [.twl, .wire, .regs, .ink, .chk, .net] s t) ∧
      (¬bad → may at_ → may (at_ + b 12 4 - 1) → (∀ ch < 16, x.chFenced ch = false) → at_ + b 12 4 ≤ 64 * dramLines →
        (∀ l, at_ / 64 ≤ l → l ≤ (at_ + b 12 4) / 64 → x.copyOf l = none) → ∃ t, exec (.bulk d) s = .next t ∧ taken t ∧
        (∀ i < b 12 4, memGet t.mem ((Space.dram x.die).base + at_ + i) = m.data.getD (16 + i) 0) ∧
        FrameMem d [.twl] (fun a => a < (Space.dram x.die).base + at_ ∨ (Space.dram x.die).base + at_ + b 12 4 ≤ a) s t)))

/-- A reset holds its dies with every part at reset but the record queue, and resets the shared parts with both; supply warnings, hold-up and sensors act as stated. -/
def Obligations.ResetsAndTheSupply : Prop :=
  (∀ (s : State) (d : Die) (mv : BitVec 16) (k : BitVec 4) (c : Instr) (cause : Nat) (both : Bool),
    ((c = .powerOn mv ∧ s.a.held.isSome = true ∧ s.b.held.isSome = true ∧ cause = 0 ∧ both = true) ∨
     (c = .powerFail mv ∧ ¬(s.a.held = some 1 ∧ s.b.held = some 1) ∧ cause = 1 ∧ both = true) ∨
     (c = .railFault d k ∧ (s.dieOf d).held = none ∧ 1 ≤ k.toNat ∧ k.toNat ≤ 5 ∧ cause = 1 ∧ both = true) ∨
     (c = .resetN ∧ cause = 2 ∧ both = true) ∨
     (c = .thermalShutdown d ∧ s.mod.grp.arrived = false ∧ cause = 5 ∧ both = false)) →
    ∃ t, exec c s = .next t ∧ t.mem = s.mem ∧ t.pending = s.pending ∧ s.now ≤ t.now ∧
      (∀ e : Die, both = true ∨ e = d →
        let x := s.dieOf e
        let h := match x.held with | some h => if causeRank h ≤ causeRank cause then h else cause | none => cause
        let y := t.dieOf e
        y.held = some h ∧ y.dev = .boot ∧ OnlyIn [.held, .regs, .ink, .qll, .wire] (DieState.reset x.die) y ∧ y.wire = x.wire ∧
          RegsOnly [rSYS_RESET, rSYS_PWR, rINK_QUEUE] (DieState.reset x.die) y ∧ (h < 256 → y.rd rSYS_RESET = h + 256 * b2n (!both)) ∧
          y.fld rSYS_PWR 15 12 = (if c = .railFault d k ∧ e = d then k.toNat else x.fld rSYS_PWR 15 12) ∧
          y.flag rSYS_PWR 2 = decide (c = .railFault d k ∧ e = d) ∧ y.fld rINK_QUEUE 8 0 = y.ink.queue.length % 512 ∧
          (c = .resetN ∨ c = .powerOn mv ∨ c = .thermalShutdown d → y.ink = x.ink)) ∧
      (both = false → OnlyIn [] (s.dieOf d.other) (t.dieOf d.other) ∧ t.mod = s.mod) ∧
      (both = true → t.mod.field = default ∧ t.mod.sw = default ∧ t.mod.grp = default ∧ t.mod.ink = { s.mod.ink with writer := .a, turn := .a } ∧
        (c = .powerOn mv → t.mod.pwr = { (default : Power) with rail := true }) ∧ (c ≠ .powerOn mv → t.mod.pwr = s.mod.pwr) ∧
        ((c = .powerOn mv ∨ c = .powerFail mv) → ∀ e : Die, (t.dieOf e).fld rSYS_PWR 31 16 = mv.toNat))) ∧
  (∀ (s : State) (d : Die) (mv low : BitVec 16) (k : BitVec 4), ∀ c : Instr,
    ((c = .powerOn mv ∧ (s.a.held = none ∨ s.b.held = none)) ∨ (c = .powerFail mv ∧ s.a.held = some 1 ∧ s.b.held = some 1) ∨
     (c = .railFault d k ∧ ((s.dieOf d).held.isSome = true ∨ k.toNat = 0 ∨ 5 < k.toNat)) ∨
     (c = .holdUpEnd ∧ (s.mod.pwr.rail = false ∨ s.a.held = none ∨ s.b.held = none)) ∨
     (c = .supplyWarning mv ∧ (s.mod.pwr.warnAt.isSome = true ∨ (s.a.held.isSome = true ∧ s.b.held.isSome = true))) ∨
     (c = .supplyWarningClear mv low ∧ (s.mod.pwr.warnAt = none ∨ (s.a.held.isSome = true ∧ s.b.held.isSome = true)))) →
    ∃ t, exec c s = .next t ∧ t.mod = s.mod ∧ FrameBoth [] [] s t) ∧
  (∀ s : State, s.mod.pwr.rail = true → s.a.held.isSome = true → s.b.held.isSome = true → s.mod.ink.commits = 0 →
    ∃ t, exec .holdUpEnd s = .next t ∧ (∀ e : Die, (t.dieOf e).ink = default ∧ (t.dieOf e).rd rINK_QUEUE = 0 ∧ RegsOnly [rINK_QUEUE] (s.dieOf e) (t.dieOf e)) ∧
      t.mod = { s.mod with pwr := { s.mod.pwr with rail := false }, ink := { s.mod.ink with part := 0, cnt := [], hist := [] } } ∧ FrameBoth [.ink, .regs] [.ink, .regs] s t) ∧
  (∀ (s : State) (mv : BitVec 16), Memory.wf s.mem = true → s.mod.pwr.warnAt = none → (s.a.held = none ∨ s.b.held = none) →
    ∃ t, exec (.supplyWarning mv) s = .next t ∧ t.mod.pwr = { s.mod.pwr with warnAt := some s.now, warnMin := mv.toNat } ∧
      t.mod.ink.commits = s.mod.ink.commits + 1 ∧ t.mod.ink.seq = s.mod.ink.seq ∧
      (∀ e : Die, (t.dieOf e).flag rSYS_PWR 0 = true ∧ (t.dieOf e).flag rSYS_PWR 1 = true ∧ (t.dieOf e).fld rSYS_PWR 31 16 = mv.toNat ∧ (t.dieOf e).flag rINK_STATUS 1 = true ∧
        OnlyIn [.regs, .ink] (s.dieOf e) (t.dieOf e)) ∧
      (∀ a, (let m := Space.mram.base
             let c := s.mod.ink.commits % 2
             (a < m + 0x20000 + 4096 * c ∨ m + 0x20000 + 4096 * c + 2112 ≤ a) ∧ (a < m + 0x30000 + 32768 * c ∨ m + 0x30000 + 32768 * c + 16448 ≤ a)) →
        memGet t.mem a = memGet s.mem a) ∧ t.pending = s.pending ∧ s.now ≤ t.now) ∧
  (∀ (s : State) (mv low : BitVec 16) (at_ : Nat), s.mod.pwr.warnAt = some at_ → (s.a.held = none ∨ s.b.held = none) →
    ∃ t, exec (.supplyWarningClear mv low) s = .next t ∧ t.mod = { s.mod with pwr := { s.mod.pwr with warnAt := none, warnMin := 0 } } ∧ at_ + 1000000 ≤ t.now ∧
      (∀ e : Die, (t.dieOf e).flag rSYS_PWR 0 = false ∧ (t.dieOf e).fld rSYS_PWR 31 16 = mv.toNat ∧ (t.dieOf e).flag rINK_STATUS 1 = false ∧
        RegsOnly [rSYS_PWR, rINK_STATUS] (s.dieOf e) (t.dieOf e)) ∧ FrameBoth [.regs, .ink] [.regs, .ink] s t) ∧
  (∀ (s : State) (d : Die) (n : Fin 16) (v : BitVec 16),
    let x := s.dieOf d
    let reg := rQLL_TEMP + 4 * n.val
    let top := if (tget? x.chk.temps (64 + n.val)).isSome then max (toSigned 16 (x.fld reg 31 16)) v.toInt else v.toInt
    (x.held.isSome = true → ∃ t, exec (.tempSample d n v) s = .next t ∧ Frame d [] s t) ∧
    (x.held = none → ∃ t, exec (.tempSample d n v) s = .next t ∧ (t.dieOf d).fld reg 15 0 = v.toNat ∧ (t.dieOf d).fld reg 31 16 = ofSigned 16 top ∧
      (1840 ≤ v.toInt → (t.dieOf d).flag rCHK_SAFE_CAUSE 4 = true) ∧ (v.toInt < 1840 → (t.dieOf d).rd rCHK_SAFE_CAUSE = x.rd rCHK_SAFE_CAUSE) ∧
      RegsOnly (reg :: causeRegs) x (t.dieOf d) ∧ Frame d [.regs, .chk, .ink, .net] s t))

/-- A release boots the dies its cause held: HALTED, RECOVERY or CONFIG by the ROM's checks; CONFIG, LINK_TRAIN and SELF_TEST lead to ARMED, SAFE or a rejection. -/
def Obligations.BootConfigTrainingAndSelfTest : Prop :=
  let quiet (s t : State) : Prop := t.mod = s.mod ∧ FrameBoth [] [] s t
  let booted (s t : State) (k : Die) (i : BootIn) : Prop :=
    let y := t.dieOf k
    ((i.romOk && i.otpOk) = false → y.dev = .halted) ∧
    ((i.romOk && i.otpOk) = true → s.mod.store.rejects i.nandOk = none → y.dev = .config ∧ y.qll.run = s.mod.store.image) ∧
    (∀ c, (i.romOk && i.otpOk) = true → s.mod.store.rejects i.nandOk = some c → y.dev = .recovery ∧
      ((∀ f, s.mod.store.fallback = some f → ∀ z ∈ f.dests, z.1 < 64) → y.fld rQLL_BOOT 11 8 = c % 16))
  let mramOnly (s t : State) : Prop := (∀ a, a < Space.mram.base → memGet t.mem a = memGet s.mem a) ∧ t.pending = s.pending ∧ s.now ≤ t.now
  (∀ (s : State) (c : Instr) (sel : Die → Bool) (a b : Option BootIn) (mv : BitVec 16) (d : Die) (i : Option BootIn), Memory.wf s.mem = true →
    ((c = .resetRelease mv a b ∧ sel = fun e => match (s.dieOf e).held with | some h => h != 2 && h != 5 | none => false) ∨
     (c = .resetNRelease a b ∧ sel = fun e => (s.dieOf e).held == some 2) ∨
     (c = .thermalRelease d i ∧ a = i ∧ b = i ∧ sel = fun e => e == d && (s.dieOf e).held == some 5)) →
    (sel .a = false → sel .b = false → ∃ t, exec c s = .next t ∧ t.mem = s.mem ∧ t.pending = s.pending ∧
      (c ≠ .resetRelease mv a b → quiet s t) ∧
      (c = .resetRelease mv a b → t.mod = { s.mod with pwr := { (default : Power) with rail := true } } ∧ FrameBoth [.regs] [.regs] s t ∧
        ∀ e : Die, (t.dieOf e).fld rSYS_PWR 31 16 = mv.toNat)) ∧
    ((sel .a = true ∨ sel .b = true) → ∃ t, exec c s = .next t ∧ mramOnly s t ∧ t.mod.ink.boots = s.mod.ink.boots + 1 ∧
      (c = .resetNRelease a b → s.now + 1000000 ≤ t.now) ∧ (c = .thermalRelease d i → (s.dieOf d).qll.bootAt + 10000000000 ≤ t.now) ∧
      (∀ e : Die, (sel e = true → (t.dieOf e).held = none) ∧
        (sel e = true → sel e.other = false →
          ((if e = .a then a else b) = none → (t.dieOf e).dev = (s.dieOf e).dev) ∧ (∀ x, (if e = .a then a else b) = some x → booted s t e x))))) ∧
  (∀ (s : State) (i : BootIn), Memory.wf s.mem = true →
    ((s.b.held.isSome = true ∨ s.b.dev ≠ .boot) → ∃ t, exec (.nandTakeover i) s = .next t ∧ quiet s t) ∧
    (s.b.held = none → s.b.dev = .boot → ∃ t, exec (.nandTakeover i) s = .next t ∧ booted s t .b i ∧ mramOnly s t ∧ s.b.qll.bootAt + 2000000000 ≤ t.now)) ∧
  (∀ (s : State) (d : Die) (rs : List Rec) (train : BitVec 16), Memory.wf s.mem = true →
    let x := s.dieOf d
    let head := match x.qll.run with | some i => i.head | none => default
    ((x.dev ≠ .config ∨ x.held.isSome = true) → ∃ t, exec (.configComplete d train rs) s = .next t ∧ quiet s t) ∧
    (x.dev = .config → x.held = none → x.chk.pending = false →
      (∀ c, configRejects d head rs = some c → ∃ t, exec (.configComplete d 0xFFFF rs) s = .next t ∧ mramOnly s t ∧
        (t.mod.store.rejected.map (fun r => r.2)) = some c ∧ ∀ e : Die, (t.dieOf e).dev = .boot ∧ (t.dieOf e).held.isSome = true) ∧
      (configRejects d head rs = none → ∃ t, exec (.configComplete d 0xFFFF rs) s = .next t ∧ (t.dieOf d).dev = .linkTrain ∧ (t.dieOf d).chk.fwlLoaded = true ∧
        t.mod.store.fallback.isSome = true ∧ (t.dieOf d).qll.skipped = (rs.filter (fun r => !r.known)).length ∧ OnlyIn [] (s.dieOf d.other) (t.dieOf d.other) ∧
        (∀ a, a < Space.mram.base → (a < (Space.dram x.die).base) → memGet t.mem a = memGet s.mem a) ∧ t.pending = s.pending ∧ s.now ≤ t.now))) ∧
  (∀ (s : State) (d : Die), Memory.wf s.mem = true →
    let x := s.dieOf d
    let may := x.dev = .linkTrain ∧ x.chk.pending = false ∧ x.linksDone = true
    (¬may → ∃ t, exec (.linkTrainComplete d) s = .next t ∧ quiet s t) ∧
    (may → ∃ t, exec (.linkTrainComplete d) s = .next t ∧ (t.dieOf d).dev = .selfTest ∧ (t.dieOf d).fld rSYS_STATE 3 0 = 3 ∧ mramOnly s t ∧
      OnlyIn [.dev, .regs, .ink] x (t.dieOf d) ∧ OnlyIn [] (s.dieOf d.other) (t.dieOf d.other))) ∧
  (∀ (s : State) (d : Die) (r : SelfIn), Memory.wf s.mem = true →
    let x := s.dieOf d
    let may := x.dev = .selfTest ∧ x.chk.pending = false
    let bad := (List.range 17).filter (fun g => r.tiles.contains g)
    let same := ∀ ls k, x.stm.known = some (ls, k) → r.kaStem = k ∧ r.kaRegrouped = k
    (¬may → ∃ t, exec (.selfTestComplete d r) s = .next t ∧ quiet s t) ∧
    (may → r.tiles = [] → r.stem = [] → same → r.causes = [] → ∃ t, exec (.selfTestComplete d r) s = .next t ∧
      (t.dieOf d).dev = .armed ∧ (t.dieOf d).chk.okCmd = true ∧ (t.dieOf d).fld rTAR_OUT 4 0 = 16 ∧ mramOnly s t ∧ OnlyIn [] (s.dieOf d.other) (t.dieOf d.other)) ∧
    (may → 2 ≤ bad.length → x.flag rCHK_SAFE_CAUSE 11 = false → ∃ t, exec (.selfTestComplete d r) s = .next t ∧ (t.dieOf d).dev = .selfTest ∧ (t.dieOf d).flag rCHK_SAFE_CAUSE 11 = true ∧
      (t.dieOf d).chk.pending = true ∧ OnlyIn [] (s.dieOf d.other) (t.dieOf d.other) ∧ t.mem = s.mem ∧ t.mod = s.mod) ∧
    (∀ ls k, may → r.tiles = [] → r.stem = [] → x.stm.known = some (ls, k) → r.kaStem ≠ k → r.causes = [] → x.flag rSTM_MODE 8 = false →
      (r.kaRegrouped = k → ∃ t, exec (.selfTestComplete d r) s = .next t ∧ (t.dieOf d).stm.fenced = true ∧ (t.dieOf d).dev = .armed ∧ mramOnly s t) ∧
      (r.kaRegrouped ≠ k → x.flag rCHK_SAFE_CAUSE 14 = false → ∃ t, exec (.selfTestComplete d r) s = .next t ∧ (t.dieOf d).dev = .selfTest ∧
        (t.dieOf d).flag rCHK_SAFE_CAUSE 14 = true ∧ t.mem = s.mem ∧ t.mod = s.mod)) ∧
    (∀ c rest, may → r.tiles = [] → r.stem = [] → same → r.causes = c :: rest → c < 19 → x.flag rCHK_SAFE_CAUSE c = false →
      ∃ t, exec (.selfTestComplete d r) s = .next t ∧ (t.dieOf d).dev = .selfTest ∧ (t.dieOf d).flag rCHK_SAFE_CAUSE c = true ∧
        (t.dieOf d).chk.pending = true ∧ t.mem = s.mem ∧ t.mod = s.mod))

/-- The writer takes records by turns into the ring and an empty First-Fault slot; unit state requests wait, drains end, and reconciliation finds differences. -/
def Obligations.RecordsBlocksAndUnitStates : Prop :=
  (∀ s : State, s.a.ink.queue = [] → s.b.ink.queue = [] → ∀ bad, ∃ t, exec (.inkwellWrite bad) s = .next t ∧ t.mod = s.mod ∧ FrameBoth [] [] s t) ∧
  (∀ (s : State) (d : Die) (r : InkRec) (rest : List InkRec), Memory.wf s.mem = true → (s.dieOf d).ink.queue = r :: rest →
    (s.mod.ink.turn = d ∨ (s.dieOf d.other).ink.queue = []) → r.payload.length = 88 →
    let k := s.mod.ink
    let bs := r.bytes k.seq k.boots
    let ring := Space.mram.base + 0x800000 + 128 * (k.seq % 65536)
    let slot (c : Nat) := Space.mram.base + 256 * c
    let common (t : State) := (t.dieOf d).ink = { (s.dieOf d).ink with queue := rest } ∧ t.mod.ink.seq = k.seq + 1 ∧ t.mod.ink.turn = d.other ∧ t.mod.ink.boots = k.boots ∧
      memRead t.mem ring 128 = bs ∧ (t.dieOf k.writer).rd64 rINK_SEQ_LO = (k.seq + 1) % 2 ^ 64 ∧ OnlyIn [.ink, .regs] s.a t.a ∧ OnlyIn [.ink, .regs] s.b t.b ∧
      t.pending = s.pending ∧ s.now ≤ t.now
    let still (t : State) (a : Nat) := memGet t.mem a = memGet s.mem a
    (r.fault = none → ∃ t, exec (.inkwellWrite false) s = .next t ∧ common t ∧ ∀ a, (a < ring ∨ ring + 128 ≤ a) → still t a) ∧
    (∀ c, r.fault = some c → c < 64 → (∃ i < 256, memGet s.mem (slot c + i) ≠ 0) → ∃ t, exec (.inkwellWrite false) s = .next t ∧ common t ∧
      ∀ a, (a < ring ∨ ring + 128 ≤ a) → still t a) ∧
    (∀ c, r.fault = some c → c < 64 → (∀ i < 256, memGet s.mem (slot c + i) = 0) → ∃ t, exec (.inkwellWrite false) s = .next t ∧ common t ∧
      memRead t.mem (slot c) 128 = bs ∧ memRead t.mem (slot c + 128) 128 = bs ∧
      ∀ a, (a < ring ∨ ring + 128 ≤ a) → (a < slot c ∨ slot c + 256 ≤ a) → still t a)) ∧
  (∀ (s : State) (bad : Bool), Memory.wf s.mem = true →
    let k := s.mod.ink
    let c := k.commits % 2
    let m := Space.mram.base
    ∃ t, exec (.lifetimeCommit bad) s = .next t ∧ t.mod.ink.commits = (if bad then k.commits else k.commits + 1) ∧ t.mod.ink.seq = k.seq ∧
      (bad = false → memRead t.mem (m + 0x20000 + 4096 * c) 8 = leBytes 8 (k.commits + 1) ∧ memRead t.mem (m + 0x30000 + 32768 * c) 8 = leBytes 8 (k.commits + 1)) ∧
      (bad = true → (t.dieOf k.writer).flag rINK_STATUS 3 = true) ∧
      OnlyIn [.ink, .regs] s.a t.a ∧ OnlyIn [.ink, .regs] s.b t.b ∧ t.pending = s.pending ∧
      ∀ a, (a < m + 0x20000 + 4096 * c ∨ m + 0x20000 + 4096 * c + 2112 ≤ a) → (a < m + 0x30000 + 32768 * c ∨ m + 0x30000 + 32768 * c + 16448 ≤ a) → memGet t.mem a = memGet s.mem a) ∧
  (∀ (s : State) (d : Die) (v : BitVec 32),
    let x := s.dieOf d
    ((x.ink.lost = 0 ∨ 240 ≤ x.ink.queue.length) → ∃ t, exec (.dropRecord d) s = .next t ∧ Frame d [] s t) ∧
    (x.ink.lost ≠ 0 → x.ink.queue.length < 240 → ∃ t r, exec (.dropRecord d) s = .next t ∧ (t.dieOf d).ink = { x.ink with lost := 0, queue := x.ink.queue ++ [r] } ∧
      r.cls = 9 ∧ r.code = x.die.num ∧ RegsOnly [rINK_QUEUE] x (t.dieOf d) ∧ Frame d [.ink, .regs] s t) ∧
    (bit 31 v.toNat = false → ∃ t, exec (.inkMsgGo d v) s = .next t ∧ Frame d [] s t) ∧
    (bit 31 v.toNat = true → x.ink.queue.length < 240 → ∃ t r, exec (.inkMsgGo d v) s = .next t ∧ (t.dieOf d).ink = { x.ink with queue := x.ink.queue ++ [r] } ∧
      r.cls = 8 ∧ r.unit = 15 ∧ r.code = v.toNat % 65536 ∧ r.payload = (List.range 22).flatMap (fun i => leBytes 4 (x.rd (rINK_MSG + 4 * i))) ∧
      RegsOnly [rINK_QUEUE] x (t.dieOf d) ∧ Frame d [.ink, .regs] s t)) ∧
  (∀ (s : State) (d : Die) (u : BitVec 5) (i : BitVec 8) (c : Instr) (v : Nat),
    ((c = .uswDisable d u i ∧ v = uswValue u.toNat i.toNat 1) ∨ (c = .uswEnable d u i ∧ v = uswValue u.toNat i.toNat 2)) →
    let x := s.dieOf d
    let free := x.flag rQLL_USW_RESULT 31 = false ∧ s.a.paired = false ∧ s.b.paired = false
    (x.flag rQLL_USW_RESULT 31 = true → ∃ t, exec c s = .next t ∧ FrameOf d [] s t) ∧
    (free → x.stepping = true → ∃ t, exec c s = .next t ∧ (t.dieOf d).rd rQLL_USW_RESULT = 0x80000000 ∧ (t.dieOf d).qll = { x.qll with req := some (v, s.now) } ∧
      (t.dieOf d).reqs = x.reqs ++ [(rQLL_USW_REQ, v, x.seq.step + 1)] ∧ RegsOnly [rQLL_USW_RESULT] x (t.dieOf d) ∧ FrameOf d [.regs, .qll, .reqs] s t) ∧
    (free → x.stepping = false → x.qll.ans = none →
      (u.toNat ∉ [1, 5, 10, 11, 14, 18] → ∃ t, exec c s = .next t ∧ (t.dieOf d).rd rQLL_USW_RESULT = 3 ∧ (t.dieOf d).qll = { x.qll with req := none } ∧
        (t.dieOf d).fld rQLL_RECON 15 0 = min 65535 (x.fld rQLL_RECON 15 0 + 1) ∧ FrameOf d [.regs, .qll, .ink] s t) ∧
      (u.toNat = 5 → i.toNat < 32 → (tget? x.ptk.cfg i.toNat).isSome = true →
        let off := c = .uswDisable d u i
        ((off ∧ x.laneState i.toNat ≠ 0 ∧ x.laneState i.toNat ≠ 2) ∨ (¬off ∧ x.laneState i.toNat ≠ 1)) → ∃ t, exec c s = .next t ∧
          (t.dieOf d).rd rQLL_USW_RESULT = 1 ∧ (t.dieOf d).laneState i.toNat = (if c = .uswDisable d u i then 0 else 1) ∧ (t.dieOf d).qll = { x.qll with req := none } ∧
          RegsOnly ([rQLL_USW_RESULT, rPTK_LANE + 4 * i.toNat] ++ inkRegs) x (t.dieOf d) ∧ FrameOf d [.regs, .qll, .ink] s t))) ∧
  (∀ (s : State) (d : Die) (u : Fin 19) (i : BitVec 8),
    let x := s.dieOf d
    let done := x.laneState i.toNat = 2 ∧ (∀ p ∈ x.ptk.parts, p.lane = i.toNat → p.kind ≠ .tail → p.held = false)
    (u.val ∉ [1, 5, 18] → ∃ t, exec (.drainComplete d u i) s = .next t ∧ Frame d [] s t) ∧
    (u.val = 5 → ¬done → ∃ t, exec (.drainComplete d u i) s = .next t ∧ Frame d [] s t) ∧
    (u.val = 5 → done → i.toNat < 32 → x.qll.evts.length < 64 → ∃ t, exec (.drainComplete d u i) s = .next t ∧ (t.dieOf d).laneState i.toNat = 0 ∧
      (t.dieOf d).qll = { x.qll with evts := x.qll.evts ++ [(0x80000000 + 5 * 0x10000 + i.toNat * 0x100, if x.stepping then x.seq.step else 0)] } ∧
      Frame d [.regs, .qll, .ink] s t)) ∧
  (∀ (s : State) (d : Die),
    let x := s.dieOf d
    (x.qll.evts = [] → ∃ t, exec (.uswEvtPop d) s = .next t ∧ (t.dieOf d).wire = x.wire ++ [⟨.quill, [0, 0], []⟩] ∧ Frame d [.wire] s t) ∧
    (∀ v n rest, x.qll.evts = (v, n) :: rest → ∃ t, exec (.uswEvtPop d) s = .next t ∧ (t.dieOf d).wire = x.wire ++ [⟨.quill, [0, v], []⟩] ∧
      (t.dieOf d).qll = { x.qll with evts := rest } ∧ (t.dieOf d).rd64 rQLL_USW_EVT_STEP_LO = n % 2 ^ 64 ∧ Frame d [.wire, .qll, .regs] s t)) ∧
  (∀ (s : State) (d : Die) (units : BitVec 19), (s.dieOf d).reqs = [] →
    let x := s.dieOf d
    let here := max s.now (x.qll.reconAt + 1000000)
    ((x.held.isSome = true ∨ x.dev = .boot) → (∃ t, exec (.reconcile d units) s = .next t ∧ FrameOf d [] s t) ∧ (∃ t, exec (.reconcileGap d) s = .next t ∧ Frame d [] s t)) ∧
    (x.held = none → x.dev ≠ .boot → x.qll.req = none →
      (units = 0 → ∃ t, exec (.reconcile d units) s = .next t ∧ (t.dieOf d).qll = { x.qll with evts := [], differ := [], reconAt := here, gapped := false } ∧ t.now = here ∧
        FrameOf d [.regs, .qll] s t) ∧
      (∀ u, bit u units.toNat = true → ∃ t, exec (.reconcile d units) s = .next t ∧ (t.dieOf d).qll.evts = [] ∧ (t.dieOf d).flag rQLL_STATUS 1 = true ∧
        (t.dieOf d).fld rQLL_RECON 31 16 = min 65535 (x.fld rQLL_RECON 31 16 + ((List.range 19).filter (fun k => bit k units.toNat)).length) ∧
        (∀ at_, tget? x.qll.differ u = some at_ → at_ + 3000000 < here → safetyUnit u = true → (t.dieOf d).flag rCHK_SAFE_CAUSE 8 = true) ∧
        FrameOf d [.regs, .qll, .ink, .chk, .net] s t) ∧
      (x.qll.gapped = true → ∃ t, exec (.reconcileGap d) s = .next t ∧ Frame d [] s t) ∧
      (x.qll.gapped = false → ∃ t, exec (.reconcileGap d) s = .next t ∧ (t.dieOf d).qll.gapped = true ∧ x.qll.reconAt + 3000001 ≤ t.now ∧
        (t.dieOf d).fld rQLL_RECON 31 16 = min 65535 (x.fld rQLL_RECON 31 16 + 19) ∧ (∀ u < 19, (tget? (t.dieOf d).qll.differ u).isSome = true) ∧ Frame d [.regs, .qll, .ink] s t)))

/-- A read of a _LO register captures the whole value and the next read of its _HI register returns the captured half; other accesses act by place and firewall. -/
def Obligations.LowReadCapturesTheUpperHalf : Prop :=
  let hears (s t : State) (d : Die) (err v : Nat) : Prop := (t.dieOf d).wire = (s.dieOf d).wire ++ [⟨.quill, [err, v], []⟩]
  (∀ off, isLo off = true → (regDef? off).isSome = true ∧ (regDef? (off + 4)).isSome = true ∧ off % 4 = 0) ∧
  (∀ (s : State) (d : Die) (a : BitVec 32) (off : Nat), isLo off = true →
    let u := s.caught d
    (place a.toNat = some (.reg off) → (u.here d).permits (off / 0x10000) (off % 0x10000) d.num 0 false = true →
      ∃ t, exec (.loRegisterRead d (a, 2)) s = .next t ∧ hears u t d 0 (u.whole.regShow d off) ∧
        tget? (t.dieOf d).cap off = some (d.num, u.whole.regShow d (off + 4)) ∧ FrameOf d [.cap, .wire] u t) ∧
    (∀ i v, place a.toNat = some (.reg (off + 4)) → (u.here d).permits ((off + 4) / 0x10000) ((off + 4) % 0x10000) d.num 0 false = true → tget? (u.dieOf d).cap off = some (i, v) →
      ∃ t, exec (.loRegisterRead d (a, 2)) s = .next t ∧ hears u t d 0 v ∧ tget? (t.dieOf d).cap off = none ∧ FrameOf d [.cap, .wire] u t)) ∧
  (∀ (s : State) (d : Die) (a : BitVec 32) (sz : Fin 4) (v : BitVec 64), ∀ c ∈ [Instr.loRegisterRead d (a, sz), .registerWrite d (a, sz) v],
    (a.toNat % 2 ^ sz.val ≠ 0 → ∃ t, exec c s = .next t ∧ hears s t d 1 0 ∧ FrameOf d [.wire] s t) ∧
    (a.toNat % 2 ^ sz.val = 0 → (place a.toNat = none ∨ ((∃ off, place a.toNat = some (.reg off)) ∧ sz ≠ 2)) →
      ∃ t, exec c s = .next t ∧ hears (s.caught d) t d 1 0 ∧ FrameOf d [.wire] (s.caught d) t)) ∧
  (∀ (s : State) (d : Die) (a : BitVec 32) (sz : Fin 4) (v : BitVec 64) (p : Place) (k o : Nat) (wr : Bool), a.toNat % 2 ^ sz.val = 0 →
    place a.toNat = some p → p.target = some (k, o) → (∀ off, p = .reg off → sz = 2) →
    let u := s.caught d
    (u.here d).permits k o d.num 0 wr = false → ∃ t, exec (if wr then .registerWrite d (a, sz) v else .loRegisterRead d (a, sz)) s = .next t ∧ hears u t d 1 0 ∧
      (t.dieOf d).flag rFWL_STATUS 0 = true ∧ (t.dieOf d).rd rFWL_CNT = min 0xFFFFFFFF ((u.dieOf d).rd rFWL_CNT + 1) ∧ FrameOf d [.regs, .ink, .chk, .net, .wire] u t) ∧
  (∀ (s : State) (d : Die) (a : BitVec 32) (v : BitVec 64) (off : Nat), place a.toNat = some (.reg off) → off % 4 = 0 →
    let u := s.caught d
    let x := u.dieOf d
    ((u.here d).permits (off / 0x10000) (off % 0x10000) d.num 0 false = true → regDef? off = none →
      ∃ t, exec (.loRegisterRead d (a, 2)) s = .next t ∧ hears u t d 0 0 ∧ FrameOf d [.wire] u t) ∧
    ((u.here d).permits (off / 0x10000) (off % 0x10000) d.num 0 true = true → off / 0x10000 ≠ 10 →
      off ∉ [rQLL_USW_REQ, rTAR_FENCE_REQ, rSTM_FENCE_REQ, rSTM_MODE, rCHK_SAFE_REQ, rINK_MSG_GO, rTAR_FAULT, rSYN_ERR, rFWL_VIOL] → ∀ r, regDef? off = some r →
      ∃ t, exec (.registerWrite d (a, 2) v) s = .next t ∧ hears u t d 0 0 ∧
        (let rw := if configOnly off && x.dev != .config then 0 else r.rw
         let n := v.toNat % 2 ^ 32
         (t.dieOf d).rd off = (((x.rd off &&& (0xFFFFFFFF ^^^ rw)) ||| (n &&& rw)) &&& (0xFFFFFFFF ^^^ (n &&& r.w1c))) % 2 ^ 32) ∧
        RegsOnly [off] x (t.dieOf d) ∧ FrameOf d [.regs, .wire] u t)) ∧
  (∀ (s : State) (d : Die) (a : BitVec 32) (sz : Fin 4) (v : BitVec 64), a.toNat % 2 ^ sz.val = 0 →
    let u := s.caught d
    let n := 2 ^ sz.val
    (∀ off, place a.toNat = some (.ink off) →
      ((u.here d).permits 21 off d.num 0 false = true → ∃ t, exec (.loRegisterRead d (a, sz)) s = .next t ∧ hears u t d 0 (leNat (memRead u.mem (Space.mram.base + off) n)) ∧
        FrameOf d [.wire] u t) ∧
      ∃ t, exec (.registerWrite d (a, sz) v) s = .next t ∧ hears u t d 1 0 ∧ (t.dieOf d).flag rFWL_STATUS 0 = true ∧
        (t.dieOf d).rd rFWL_CNT = min 0xFFFFFFFF ((u.dieOf d).rd rFWL_CNT + 1) ∧ FrameOf d [.regs, .ink, .chk, .net, .wire] u t) ∧
    (∀ off, place a.toNat = some (.quill off) →
      let at_ := (Space.quill d).base + off
      (∃ t, exec (.loRegisterRead d (a, sz)) s = .next t ∧ hears u t d 0 (leNat (memRead u.mem at_ n)) ∧ FrameOf d [.wire] u t) ∧
      (Memory.wf u.mem = true → ∃ t, exec (.registerWrite d (a, sz) v) s = .next t ∧ hears u t d 0 0 ∧ leNat (memRead t.mem at_ n) = v.toNat % 2 ^ (8 * n) ∧
        FrameOfMem d [.wire] (fun y => y < at_ ∨ at_ + n ≤ y) u t)) ∧
    (∀ off, place a.toNat = some (.dram off) → (u.here d).permits 20 off d.num 0 false = true → (u.dieOf d).windowAt off + n ≤ 64 * dramLines →
      ∃ t, exec (.loRegisterRead d (a, sz)) s = .next t ∧
        (t.dieOf d).mem = { (u.dieOf d).mem with quill := (u.dieOf d).mem.quill ++ [⟨(u.dieOf d).windowAt off, n, false, [], false, none⟩] } ∧ FrameOf d [.mem] u t)) ∧
  (∀ (s : State) (d : Die) (off v : BitVec 32) (wr bad : Bool),
    let u := s.caught d
    let at_ := sramBase d (off.toNat / 0x80000) + off.toNat % 0x80000 / 4 * 4
    let inside := off.toNat < 272 * 0x80000
    let may := (u.here d).permits 19 off.toNat d.num 0 wr = true
    let ok := if wr = true then (u.dieOf d).debugWrites (off.toNat / 0x80000) = true else bad = false
    (¬inside → ∃ t, exec (.debugWindowAccess d off wr v bad) s = .next t ∧ hears s t d 1 0 ∧ FrameOf d [.wire] s t) ∧
    (inside → ¬may → ∃ t, exec (.debugWindowAccess d off wr v bad) s = .next t ∧ hears u t d 1 0 ∧ (t.dieOf d).flag rFWL_STATUS 0 = true ∧
      FrameOf d [.regs, .ink, .chk, .net, .wire] u t) ∧
    (inside → may → ¬ok → ∃ t, exec (.debugWindowAccess d off wr v bad) s = .next t ∧ hears u t d 1 0 ∧ FrameOf d [.wire] u t) ∧
    (inside → may → ok → wr = false → ∃ t, exec (.debugWindowAccess d off wr v bad) s = .next t ∧ hears u t d 0 (leNat (memRead u.mem at_ 4)) ∧ FrameOf d [.wire] u t) ∧
    (inside → may → ok → wr = true → Memory.wf u.mem = true → ∃ t, exec (.debugWindowAccess d off wr v bad) s = .next t ∧ hears u t d 0 0 ∧
      leNat (memRead t.mem at_ 4) = v.toNat ∧ FrameOfMem d [.wire] (fun a => a < at_ ∨ at_ + 4 ≤ a) u t))

/-- QMP requests are filtered, authenticated, checked for replay, reach, role and state, and answered; reads answer what they name. -/
def Obligations.QmpRequestsAreCheckedAndReadsAnswered : Prop :=
  (∀ (s : State) (q hd sq pl tag : List (BitVec 8)) (a v : BitVec 32) (n : BitVec 16) (slot : BitVec 8) (mask : BitVec 2) (p : Fin 8) (stat fits_ : Bool)
      (len : BitVec 64) (digest blob : List (BitVec 8)) (c : Instr) (op : Nat),
    (c, op) ∈ [(Instr.hello q, 0x01), (.regRead (hd ++ sq) pl tag, 0x02), (.regWrite (hd ++ sq) pl tag, 0x03), (.memRead (hd ++ sq) pl tag, 0x04), (.unitState hd sq pl tag, 0x05), (.camRead q p a, 0x06),
      (.camWrite q p a v, 0x07), (.viewRead q stat p a n, 0x08), (.ack q, 0x09), (.maintStart q, 0x0A), (.halt q, 0x0B), (.reset q mask, 0x0C), (.stageBegin q len digest, 0x10),
      (.stageChunk q, 0x11), (.stageVerify q, 0x12), (.stageCommit q fits_, 0x13), (.stageAbort q, 0x14), (.attest q, 0x15), (.svnRaise q, 0x16), (.keySet q slot blob, 0x17)] → q = hd ++ sq ++ pl ++ tag →
    let y := s.whole.relay
    let elsewhere := 3 ≤ q.length ∧ (q.getD 2 0).toNat ≠ op ∧ qmpKnown (q.getD 2 0).toNat = true
    let good (r : Req) := qmpParse q = some r ∧ s.mod.store.tagOk r.role q = true ∧ (r.op = 1 ∨ s.whole.fresh r = true)
    ((s.whole.relayUp = false ∨ elsewhere) → ∃ t, exec c s = .next t ∧ t.mod = s.mod ∧ FrameBoth [] [] s t) ∧
    (s.whole.relayUp = true → ¬elsewhere → s.whole.hasToken 2 = false → ∃ t, exec c s = .next t ∧ (t.dieOf y).flag rNET_STATUS 0 = true ∧
      (t.dieOf y).rd (rNET_CNT + 24) = min 0xFFFFFFFF ((s.dieOf y).rd (rNET_CNT + 24) + 1) ∧ FrameOf y [.regs, .ink] s t) ∧
    (s.whole.relayUp = true → ¬elsewhere → s.whole.hasToken 2 = true →
      ((∀ r, ¬good r) → ∃ t, exec c s = .next t ∧ (t.dieOf y).rd rQLL_QMP_REJECT = min 0xFFFFFFFF ((s.dieOf y).rd rQLL_QMP_REJECT + 1) ∧ (t.dieOf y).flag rQLL_STATUS 0 = true ∧
        OnlyIn [.regs, .ink] (s.dieOf y) (t.dieOf y) ∧ OnlyIn [] (s.dieOf y.other) (t.dieOf y.other) ∧ t.mem = s.mem ∧ t.mod = { s.mod with sw := t.mod.sw }) ∧
      (∀ r, good r → r.op = op → s.whole.reaches r.die = false → ∃ t, exec c s = .next t ∧ QmpNext s t r [] [] [] ∧
        (t.dieOf y).qll.fwd = (s.dieOf y).qll.fwd ++ [⟨r.op, r.role, r.seq, s.now⟩]) ∧
      (∀ r, good r → s.whole.reaches r.die = true → qmpKnown r.op = false → ∃ t, exec c s = .next t ∧ QmpReply s t r [] [] 3 []) ∧
      (∀ r, good r → s.whole.reaches r.die = true → r.op = op → r.role ∉ qmpRoles op → ∃ t, exec c s = .next t ∧ QmpReply s t r [] [] 1 []) ∧
      (∀ r, good r → s.whole.reaches r.die = true → r.op = op → r.role ∈ qmpRoles op → (s.dieOf r.die).dev.code ∉ qmpStates op → ∃ t, exec c s = .next t ∧
        QmpReply s t r (if op = 7 then [.regs, .ink] else []) [] 2 [] ∧ (op = 7 → (t.dieOf r.die).flag rCXP_STATUS 8 = true)))) ∧
  (∀ s : State,
    let y := s.whole.relay
    ((s.whole.relayUp = false ∨ (s.dieOf y).qll.fwd = []) → ∃ t, exec .qmpForwardTimeout s = .next t ∧ FrameOf y [] s t) ∧
    (∀ f rest, s.whole.relayUp = true → (s.dieOf y).qll.fwd = f :: rest → ∃ t, exec .qmpForwardTimeout s = .next t ∧ (t.dieOf y).qll = { (s.dieOf y).qll with fwd := rest } ∧
      (t.dieOf y).wire = (s.dieOf y).wire ++ [(Req.mk f.op y.other f.role f.seq []).answer s.mod.store 6 []] ∧ f.at_ + 10000000 ≤ t.now ∧ FrameOf y [.qll, .wire] s t)) ∧
  (∀ (s : State) (q hd sq pl tag : List (BitVec 8)) (r : Req), s.QmpServed q r → q = hd ++ sq ++ pl ++ tag →
    let x := s.dieOf r.die
    let u := s.caught r.die
    let a := r.field 0 4
    let n := r.field 4 2
    (r.op = 1 → ∃ t payload, exec (.hello q) s = .next t ∧ QmpReply s t r [] [] 0 payload ∧ payload.length ≤ 1440) ∧
    (r.op = 2 →
      ((r.data.length ≠ 6 ∨ n = 0 ∨ 256 < n) → ∃ t, exec (.regRead (hd ++ sq) pl tag) s = .next t ∧ QmpReply s t r [] [] 3 []) ∧
      (r.data.length = 6 → 0 < n → n ≤ 256 → ∃ t st payload, exec (.regRead (hd ++ sq) pl tag) s = .next t ∧ r.answer t.mod.store st payload ∈ (t.dieOf s.whole.relay).wire ∧
        payload.length = if st = 0 then 4 * n else 0) ∧
      (∀ off, r.data.length = 6 → n = 1 → place a = some (.reg off) → off % 4 = 0 →
        ((u.here r.die).permits (off / 0x10000) (off % 0x10000) r.die.num 0 false = true → (regDef? off).isSome = true → isLo off = false → isLo (off - 4) = false → off ≠ rQLL_USW_EVT →
          ∃ t, exec (.regRead (hd ++ sq) pl tag) s = .next t ∧ QmpReply u t r [] [] 0 (beBytes 4 (u.whole.regShow r.die off))) ∧
        ((u.here r.die).permits (off / 0x10000) (off % 0x10000) r.die.num 0 false = false → ∃ t, exec (.regRead (hd ++ sq) pl tag) s = .next t ∧
          QmpReply u t r [.regs, .ink, .chk, .net] [] 7 []))) ∧
    (r.op = 4 →
      ((r.data.length ≠ 6 ∨ n = 0 ∨ 1024 < n) → ∃ t, exec (.memRead (hd ++ sq) pl tag) s = .next t ∧ QmpReply s t r [] [] 3 []) ∧
      (∀ off, r.data.length = 6 → n = 4 → place a = some (.ink off) → off % 4 = 0 → (u.here r.die).permits 21 off r.die.num 0 false = true →
        ∃ t, exec (.memRead (hd ++ sq) pl tag) s = .next t ∧ QmpReply u t r [] [] 0 (memRead u.mem (Space.mram.base + off) 4)) ∧
      (∀ off, r.data.length = 6 → 0 < n → n ≤ 1024 → place a = some (.dram off) → place (a + (n - 1)) ≠ none → (u.here r.die).permits 20 off r.die.num 0 false = true →
        (u.dieOf r.die).windowAt off + n ≤ 64 * dramLines → ∃ t, exec (.memRead (hd ++ sq) pl tag) s = .next t ∧ QmpNext u t r [.mem] [] [] ∧
          (t.dieOf r.die).mem.quill = (u.dieOf r.die).mem.quill ++ [⟨(u.dieOf r.die).windowAt off, n, false, [], false, some (r.role, r.seq)⟩])) ∧
    (r.op = 6 → ∀ (p : Fin 8) (a : BitVec 32),
      (x.portOn p.val = false → ∃ t, exec (.camRead q p a) s = .next t ∧ QmpReply s t r [] [] 3 []) ∧
      (x.portOn p.val = true → x.cxp.driving = true → ∃ t payload, exec (.camRead q p a) s = .next t ∧ QmpReply s t r [] [⟨.cxpControl, [p.val, 2, a.toNat], []⟩] 0 payload ∧
        ∀ v, tget? (tget x.cxp.camRegs p.val []) a.toNat = some v → payload = beBytes 4 v) ∧
      (x.portOn p.val = true → x.cxp.driving = false → s.whole.paired = true → (s.dieOf r.die.other).cxp.driving = true → ∃ t payload, exec (.camRead q p a) s = .next t ∧
        ⟨.cxpControl, [p.val, 2, a.toNat], []⟩ ∈ (t.dieOf r.die.other).wire ∧ r.answer t.mod.store 0 payload ∈ (t.dieOf s.whole.relay).wire ∧ t.mem = s.mem ∧
        ∀ v, tget? (tget (s.dieOf r.die.other).cxp.camRegs p.val []) a.toNat = some v → payload = beBytes 4 v)) ∧
    (r.op = 8 → ∀ (i : Fin 8) (off : BitVec 32) (n : BitVec 16),
      let fits_ := x.portOn i.val = true ∧ n.toNat ≠ 0 ∧ n.toNat ≤ 1024 ∧ off.toNat + n.toNat ≤ 16 * 5184
      (¬fits_ → ∃ t, exec (.viewRead q true i off n) s = .next t ∧ QmpReply s t r [] [] 3 []) ∧
      (fits_ → ∃ t, exec (.viewRead q true i off n) s = .next t ∧ QmpReply s t r [] [] 0 ((s.here r.die).dramRead s.mem ((x.img i.val).statAt + off.toNat) n.toNat)) ∧
      ((x.out i.val).disp = none → ∃ t, exec (.viewRead q false i off n) s = .next t ∧ QmpReply s t r [] [] 3 [])) ∧
    (r.op = 0x15 →
      (r.data.length ≠ 32 → ∃ t, exec (.attest q) s = .next t ∧ QmpReply s t r [] [] 3 []) ∧
      (r.data.length = 32 → ∃ t payload, exec (.attest q) s = .next t ∧ QmpReply s t r [] [] 0 payload ∧ payload.take 3 = [0, 1, 0x0F] ∧ (payload.drop 36).take 32 = r.data)))

/-- Accepted QMP requests write registers and cameras, act on the device, stage, verify and commit an image, and set floor and keys. -/
def Obligations.QmpRequestsChangeTheDevice : Prop :=
  (∀ (s : State) (q hd sq pl tag : List (BitVec 8)) (r : Req), s.QmpServed q r → q = hd ++ sq ++ pl ++ tag → Memory.wf s.mem = true →
    let x := s.dieOf r.die
    let y := s.whole.relay
    let st := x.fld rQLL_STAGE 2 0
    let lock := x.flag rQLL_STAGE 3
    let live := x.dev = .run ∨ x.dev = .safe
    let said (t : State) := r.answer t.mod.store 0 [] ∈ (t.dieOf y).wire
    (r.op = 3 →
      let u := s.caught r.die
      let z := u.dieOf r.die
      let a := r.field 0 4
      let v := r.field 4 4
      ((r.data.length ≠ 8 ∨ ∀ off, place a ≠ some (.reg off)) → ∃ t, exec (.regWrite (hd ++ sq) pl tag) s = .next t ∧ QmpReply s t r [] [] 3 []) ∧
      (∀ off k, r.data.length = 8 → place a = some (.reg off) → off % 4 = 0 → regDef? off = some k → off / 0x10000 ≠ 10 →
        off ∉ [rQLL_USW_REQ, rTAR_FENCE_REQ, rSTM_FENCE_REQ, rSTM_MODE, rCHK_SAFE_REQ, rINK_MSG_GO, rTAR_FAULT, rSYN_ERR, rFWL_VIOL] →
        (live → k.w1c = 0 → ∃ t, exec (.regWrite (hd ++ sq) pl tag) s = .next t ∧ QmpReply s t r [] [] 2 []) ∧
        (¬live → (u.here r.die).permits (off / 0x10000) (off % 0x10000) r.die.num 0 true = true → ∃ t, exec (.regWrite (hd ++ sq) pl tag) s = .next t ∧ QmpReply u t r [.regs] [] 0 [] ∧
          (let rw := if configOnly off && z.dev != .config then 0 else k.rw
           (t.dieOf r.die).rd off = (((z.rd off &&& (0xFFFFFFFF ^^^ rw)) ||| (v &&& rw)) &&& (0xFFFFFFFF ^^^ (v &&& k.w1c))) % 2 ^ 32) ∧
          RegsOnly [off] z (t.dieOf r.die)))) ∧
    (r.op = 5 →
      let v := r.field 0 4
      let u := v / 2 ^ 16 % 32
      let act := v % 4
      let bad := r.data.length ≠ 4 ∨ 2 ^ 21 ≤ v ∨ v / 4 % 64 ≠ 0 ∨ 18 < u ∨ act = 0 ∨ act = 3
      (bad → ∃ t, exec (.unitState hd sq pl tag) s = .next t ∧ QmpReply s t r [] [] 3 []) ∧
      (¬bad → x.flag rQLL_USW_RESULT 31 = true → ∃ t, exec (.unitState hd sq pl tag) s = .next t ∧ QmpReply s t r [] [] 4 []) ∧
      (¬bad → x.flag rQLL_USW_RESULT 31 = false → x.stepping = true → s.a.paired = false → s.b.paired = false →
        ∃ t, exec (.unitState hd sq pl tag) s = .next t ∧ QmpNext s t r [.regs, .qll, .reqs] [] [] ∧ (t.dieOf r.die).rd rQLL_USW_RESULT = 0x80000000 ∧
          (t.dieOf r.die).qll.ans = some (r.role, r.seq) ∧ (t.dieOf r.die).reqs = x.reqs ++ [(rQLL_USW_REQ, uswValue u (v / 2 ^ 8 % 256) act, x.seq.step + 1)])) ∧
    (r.op = 7 → ∀ (p : Fin 8) (a v : BitVec 32),
      let may := x.portOn p.val = true ∧ (tget x.cxp.cams p.val default).allow.contains a.toNat = true
      (may → x.cxp.driving = true → ∃ t, exec (.camWrite q p a v) s = .next t ∧ QmpReply s t r [.cxp] [⟨.cxpControl, [p.val, 1, a.toNat, v.toNat], []⟩] 0 [] ∧
        tget? (tget (t.dieOf r.die).cxp.camRegs p.val []) a.toNat = some v.toNat) ∧
      (may → x.cxp.driving = false → s.whole.paired = true → (s.dieOf r.die.other).cxp.driving = true → ∃ t, exec (.camWrite q p a v) s = .next t ∧
        ⟨.cxpControl, [p.val, 1, a.toNat, v.toNat], []⟩ ∈ (t.dieOf r.die.other).wire ∧ said t ∧ t.mem = s.mem ∧
        tget? (tget (t.dieOf r.die.other).cxp.camRegs p.val []) a.toNat = some v.toNat) ∧
      (¬may → ∃ t, exec (.camWrite q p a v) s = .next t ∧ QmpReply s t r [.regs, .ink] [] 3 [] ∧ (t.dieOf r.die).flag rCXP_STATUS 8 = true)) ∧
    (r.op = 9 → ∃ t, exec (.ack q) s = .next t ∧ said t ∧ ∀ e : Die, (e = r.die ∨ s.whole.paired = true → (t.dieOf e).items = (s.dieOf e).items ++ [⟨none, none, .operatorAck⟩]) ∧
      (e ≠ r.die → s.whole.paired = false → (t.dieOf e).items = (s.dieOf e).items) ∧ OnlyIn [.items, .qll, .wire] (s.dieOf e) (t.dieOf e)) ∧
    (r.op = 0x0A →
      let may := x.stepping = true ∧ x.grpState false x.outGroup = 5 ∧ x.ctx.maint = false
      (¬may → ∃ t, exec (.maintStart q) s = .next t ∧ QmpReply s t r [] [] 0 []) ∧
      (may → ∃ t, exec (.maintStart q) s = .next t ∧ (t.dieOf r.die).ctx.maint = true ∧ said t ∧ OnlyIn [.qll, .wire] (s.dieOf r.die.other) (t.dieOf r.die.other))) ∧
    (r.op = 0x0B →
      (x.stepping = true → ∃ t, exec (.halt q) s = .next t ∧ QmpReply s t r [.reqs] [] 0 [] ∧ (t.dieOf r.die).reqs = x.reqs ++ [(rSYS_STATE, 8, x.seq.step + 1)]) ∧
      (x.stepping = false → ∃ t, exec (.halt q) s = .next t ∧ (t.dieOf r.die).dev = .halted ∧ (t.dieOf r.die).chk.okCmd = false ∧ said t)) ∧
    (r.op = 0x0C → ∀ mask : BitVec 2, ∃ t, exec (.reset q mask) s = .next t ∧ said t ∧ t.mod.ink.commits = s.mod.ink.commits + 1 ∧ ∀ e : Die,
      let named := bit e.num mask.toNat = true ∨ (s.whole.paired = true ∧ bit e.other.num mask.toNat = true)
      (named → (t.dieOf e).held.isSome = true ∧ (t.dieOf e).dev = .boot) ∧ (¬named → (t.dieOf e).dev = (s.dieOf e).dev ∧ (t.dieOf e).held = (s.dieOf e).held)) ∧
    (r.op = 0x10 → ∀ (len : BitVec 64) (digest : List (BitVec 8)),
      ((st = 2 ∨ st = 4) → ∃ t, exec (.stageBegin q len digest) s = .next t ∧ QmpReply s t r [] [] 4 []) ∧
      (st ≠ 2 → st ≠ 4 → x.staging.2 < len.toNat → ∃ t, exec (.stageBegin q len digest) s = .next t ∧ QmpReply s t r [] [] 3 []) ∧
      (st ≠ 2 → st ≠ 4 → len.toNat ≤ x.staging.2 → ∃ t, exec (.stageBegin q len digest) s = .next t ∧ QmpReply s t r [.regs, .qll] [] 0 [] ∧ (t.dieOf r.die).rd rQLL_STAGE = 1 ∧
        (t.dieOf r.die).qll.stLen = len.toNat ∧ (t.dieOf r.die).qll.staged = none ∧ (digest.length = 48 → (t.dieOf r.die).qll.stDigest = digest))) ∧
    (r.op = 0x11 →
      let off := beNat (r.data.take 8)
      let bs := r.data.drop 8
      let l := x.staging.1 + off
      let at_ := (Space.dram x.die).base + l
      let bad := r.data.length < 9 ∨ 1024 < bs.length ∨ x.qll.stLen < off + bs.length
      (lock = true → ∃ t, exec (.stageChunk q) s = .next t ∧ QmpReply s t r [] [] 4 []) ∧
      (lock = false → st ≠ 1 → ∃ t, exec (.stageChunk q) s = .next t ∧ QmpReply s t r [] [] 2 []) ∧
      (lock = false → st = 1 → bad → ∃ t, exec (.stageChunk q) s = .next t ∧ QmpReply s t r [] [] 3 []) ∧
      (lock = false → st = 1 → ¬bad → (∀ ch < 16, x.chFenced ch = false) → l + bs.length ≤ 64 * dramLines → (∀ k, l / 64 ≤ k → k ≤ (l + bs.length) / 64 → x.copyOf k = none) →
        ∃ t, exec (.stageChunk q) s = .next t ∧ QmpNext s t r [] [] [r.answer s.mod.store 0 []] ∧ memRead t.mem at_ bs.length = bs ∧
        ∀ a, (a < at_ ∨ at_ + bs.length ≤ a) → memGet t.mem a = memGet s.mem a)) ∧
    (r.op = 0x12 →
      (lock = true → ∃ t, exec (.stageVerify q) s = .next t ∧ QmpReply s t r [] [] 4 []) ∧
      (lock = false → st ≠ 1 → ∃ t, exec (.stageVerify q) s = .next t ∧ QmpReply s t r [] [] 2 []) ∧
      (lock = false → st = 1 → ∃ t, exec (.stageVerify q) s = .next t ∧ QmpReply s t r [.regs] [] 0 [] ∧ (t.dieOf r.die).rd rQLL_STAGE = 10)) ∧
    (r.op = 0x13 →
      let cause := x.fld rQLL_STAGE 7 4
      let may := x.qll.primary = true ∧ (st = 3 ∨ (st = 6 ∧ lock = true ∧ cause = 15))
      (∀ f, st = 6 → cause ≠ 15 → ∃ t, exec (.stageCommit q f) s = .next t ∧ QmpReply s t r [] [] 5 [BitVec.ofNat 8 cause]) ∧
      (∀ f, ¬(st = 6 ∧ cause ≠ 15) → ¬may → ∃ t, exec (.stageCommit q f) s = .next t ∧ QmpReply s t r [] [] 2 []) ∧
      (may → ∃ t, exec (.stageCommit q false) s = .next t ∧ QmpReply s t r [.regs] [] 3 [] ∧ (t.dieOf r.die).rd rQLL_STAGE = 246) ∧
      (may → ∃ t, exec (.stageCommit q true) s = .next t ∧ QmpNext s t r [.regs] [] [r.answer s.mod.store 0 []] ∧ (t.dieOf r.die).rd rQLL_STAGE = 12 ∧
        t.mod.store = { s.mod.store with image := none } ∧ t.mem = s.mem)) ∧
    (r.op = 0x14 → ∃ t, exec (.stageAbort q) s = .next t ∧ QmpReply s t r [.regs] [] 0 [] ∧ (t.dieOf r.die).rd rQLL_STAGE = 0) ∧
    (r.op = 0x16 →
      let n := max s.mod.store.svnFloor (min 64 (x.fld rQLL_BOOT 23 16))
      ∃ t, exec (.svnRaise q) s = .next t ∧ t.mod.store = { s.mod.store with svnFloor := n } ∧ said t ∧ t.mem = s.mem ∧
        ∀ e : Die, OnlyIn [.regs, .qll, .wire] (s.dieOf e) (t.dieOf e) ∧ ((s.dieOf e).held = none → (t.dieOf e).fld rQLL_BOOT 31 24 = n % 256)) ∧
    (r.op = 0x17 → ∀ (slot : BitVec 8) (blob : List (BitVec 8)),
      let opened := (s.mod.store.roleKey 4).bind (fun k => Config.gcmOpen k blob)
      (6 ≤ slot.toNat → ∃ t, exec (.keySet q slot blob) s = .next t ∧ QmpReply s t r [] [] 3 []) ∧
      (∀ key, slot.toNat < 6 → opened = some key → key.length = 32 → ∃ t, exec (.keySet q slot blob) s = .next t ∧ QmpNext s t r [] [] [r.answer t.mod.store 0 []] ∧
        t.mod.store = { s.mod.store with keysBad := false, keys := if s.mod.store.keysBad then [(slot.toNat, key)] else tset s.mod.store.keys slot.toNat key }) ∧
      (slot.toNat < 6 → opened = none → ∃ t status, exec (.keySet q slot blob) s = .next t ∧ status ≠ 0 ∧ QmpReply s t r [] [] status []))) ∧
  (∀ (s : State) (d : Die) (rs : List Rec),
    let x := s.dieOf d
    let img := stagedImage (s.here d) s.mem x.staging.1 x.qll.stLen s.mod.store.slotKeys
    let cause := stageCause d s.mod.store (s.here d) img ((List.range (min 65535 img.head.records)).map (fun i => stagedRec (s.here d) s.mem x.staging.1 x.qll.stLen i (rs.getD i default)))
    (x.fld rQLL_STAGE 2 0 ≠ 2 → ∃ t, exec (.stageVerifyDone d rs) s = .next t ∧ FrameOf d [] s t) ∧
    (∀ c, x.fld rQLL_STAGE 2 0 = 2 → cause = some c → ∃ t, exec (.stageVerifyDone d rs) s = .next t ∧ (t.dieOf d).rd rQLL_STAGE = (6 + 16 * c) % 2 ^ 32 ∧
      RegsOnly [rQLL_STAGE] x (t.dieOf d) ∧ FrameOf d [.regs] s t) ∧
    (x.fld rQLL_STAGE 2 0 = 2 → cause = none → ∃ t, exec (.stageVerifyDone d rs) s = .next t ∧ (t.dieOf d).rd rQLL_STAGE = 11 ∧
      (t.dieOf d).qll = { x.qll with staged := some img } ∧ RegsOnly [rQLL_STAGE] x (t.dieOf d) ∧ FrameOf d [.regs, .qll] s t)) ∧
  (∀ (s : State) (d : Die) (ok : Bool),
    let x := s.dieOf d
    (x.fld rQLL_STAGE 2 0 ≠ 4 → ∃ t, exec (.stageCommitDone d ok) s = .next t ∧ FrameOf d [] s t) ∧
    (x.fld rQLL_STAGE 2 0 = 4 → ok = false → ∃ t, exec (.stageCommitDone d ok) s = .next t ∧ (t.dieOf d).rd rQLL_STAGE = 254 ∧ FrameOf d [.regs] s t) ∧
    (x.fld rQLL_STAGE 2 0 = 4 → ok = true → ∃ t, exec (.stageCommitDone d ok) s = .next t ∧ (t.dieOf d).rd rQLL_STAGE = 13 ∧
      t.mod = { s.mod with store := { s.mod.store with image := x.qll.staged } } ∧ OnlyIn [.regs, .ink] x (t.dieOf d) ∧ OnlyIn [] (s.dieOf d.other) (t.dieOf d.other) ∧ t.mem = s.mem))
end

