-- ==== Sys2Proof/Laws/Digest.lean ====
section
/-! SUPPORT. Digests and tags: the lengths of SHA-256, HMAC-SHA-256 and the QMP tag, and that a datagram closed with its tag is accepted. -/

namespace Sys2Proof.Machine

theorem leBytes_length (k n : Nat) : (leBytes k n).length = k := by
  induction k generalizing n with
  | zero => rfl
  | succ k ih => simp [leBytes, ih]

theorem beBytes_length (k n : Nat) : (beBytes k n).length = k := by simp [beBytes, leBytes_length]

theorem shaRound_length (h : Sha) (st : List Nat) (kw : Nat × Nat) : (shaRound h st kw).length = st.length := by
  unfold shaRound; split <;> rfl

theorem shaBlock_length (h : Sha) (st : List Nat) (blk : List Byte) : (shaBlock h st blk).length = st.length := by
  have go : ∀ (l : List (Nat × Nat)) (x : List Nat), (l.foldl (shaRound h) x).length = x.length := by
    intro l
    induction l with
    | nil => intro x; rfl
    | cons a l ih => intro x; rw [List.foldl_cons, ih, shaRound_length]
  simp [shaBlock, go]

theorem shaBlocks_length (h : Sha) (fuel : Nat) (bs : List Byte) (st : List Nat) : (shaBlocks h fuel bs st).length = st.length := by
  induction fuel generalizing bs st with
  | zero => rfl
  | succ k ih => unfold shaBlocks; split
                 · rfl
                 · rw [ih, shaBlock_length]

/-- A hash is 32 bytes long. -/
theorem sha256_length (bs : List Byte) : (sha256 bs).length = 32 := by
  simp [sha256, sha, List.length_flatMap, beBytes_length, shaBlocks_length]

/-- So is an HMAC. -/
theorem hmac256_length (key bs : List Byte) : (hmac256 key bs).length = 32 := sha256_length _

/-- The tag of a datagram is 16 bytes long (R428). -/
theorem qmpTag_length (key bs : List Byte) : (qmpTag key bs).length = 16 := by simp [qmpTag, hmac256_length]

end Sys2Proof.Machine
end

