-- ==== Sys2Proof/Laws/State.lean ====
section
/-! SUPPORT. The small lemmas of State: what each way of reaching a die changes and keeps, one lemma per field per update. -/

namespace Sys2Proof.Machine

/-! ### The dies of a state -/

@[simp] theorem State.dieOf_a (s : State) : s.dieOf .a = s.a := rfl
@[simp] theorem State.dieOf_b (s : State) : s.dieOf .b = s.b := rfl
@[simp] theorem Die.other_a : Die.other .a = .b := rfl
@[simp] theorem Die.other_b : Die.other .b = .a := rfl
@[simp] theorem State.setDie_dieOf (s : State) (d : Die) (x : DieState) : (s.setDie d x).dieOf d = x := by cases d <;> rfl
@[simp] theorem State.setDie_other (s : State) (d : Die) (x : DieState) : (s.setDie d x).dieOf d.other = s.dieOf d.other := by
  cases d <;> rfl
@[simp] theorem State.setDie_now (s : State) (d : Die) (x : DieState) : (s.setDie d x).now = s.now := by cases d <;> rfl
@[simp] theorem State.setDie_pending (s : State) (d : Die) (x : DieState) : (s.setDie d x).pending = s.pending := by cases d <;> rfl
@[simp] theorem State.setDie_free (s : State) (d : Die) (x : DieState) : (s.setDie d x).free = s.free := by cases d <;> rfl
@[simp] theorem State.setDie_mod (s : State) (d : Die) (x : DieState) : (s.setDie d x).mod = s.mod := by cases d <;> rfl
@[simp] theorem State.setDie_mem (s : State) (d : Die) (x : DieState) : (s.setDie d x).mem = s.mem := by cases d <;> rfl

/-! ### A command of one die -/

section
variable (d : Die) (s : State)

@[simp] theorem State.onDie_dieOf (f : DieState → DieState) : (s.onDie d f).dieOf d = f ((s.dieOf d).sync s.now) := by cases d <;> rfl
@[simp] theorem State.onDie_other (f : DieState → DieState) : (s.onDie d f).dieOf d.other = s.dieOf d.other := by cases d <;> rfl
@[simp] theorem State.onDie_pending (f : DieState → DieState) : (s.onDie d f).pending = s.pending := by cases d <;> rfl
@[simp] theorem State.onDie_mod (f : DieState → DieState) : (s.onDie d f).mod = s.mod := by cases d <;> rfl
@[simp] theorem State.onDie_mem (f : DieState → DieState) : (s.onDie d f).mem = s.mem := by cases d <;> rfl
@[simp] theorem State.onDie_free (f : DieState → DieState) : (s.onDie d f).free = s.free := by cases d <;> rfl
@[simp] theorem State.onDie_now (f : DieState → DieState) : (s.onDie d f).now = max s.now (f ((s.dieOf d).sync s.now)).clk := by
  cases d <;> rfl

@[simp] theorem State.onDieFree_dieOf (f : Nat → DieState → DieState) :
    (s.onDieFree d f).dieOf d = f s.free ((s.dieOf d).sync s.now) := by cases d <;> rfl
@[simp] theorem State.onDieFree_other (f : Nat → DieState → DieState) : (s.onDieFree d f).dieOf d.other = s.dieOf d.other := by
  cases d <;> rfl
@[simp] theorem State.onDieFree_pending (f : Nat → DieState → DieState) : (s.onDieFree d f).pending = s.pending := by cases d <;> rfl
@[simp] theorem State.onDieFree_mod (f : Nat → DieState → DieState) : (s.onDieFree d f).mod = s.mod := by cases d <;> rfl
@[simp] theorem State.onDieFree_mem (f : Nat → DieState → DieState) : (s.onDieFree d f).mem = s.mem := by cases d <;> rfl
@[simp] theorem State.onDieFree_free (f : Nat → DieState → DieState) : (s.onDieFree d f).free = s.free + 1 := by cases d <;> rfl
@[simp] theorem State.onDieFree_now (f : Nat → DieState → DieState) :
    (s.onDieFree d f).now = max s.now (f s.free ((s.dieOf d).sync s.now)).clk := by cases d <;> rfl

variable (g : Nat → List Host.Cell → DieState → DieState × List Host.Cell)

@[simp] theorem State.onDieMem_dieOf : (s.onDieMem d g).dieOf d = (g s.free s.mem ((s.dieOf d).sync s.now)).1 := by cases d <;> rfl
@[simp] theorem State.onDieMem_other : (s.onDieMem d g).dieOf d.other = s.dieOf d.other := by cases d <;> rfl
@[simp] theorem State.onDieMem_pending : (s.onDieMem d g).pending = s.pending := by cases d <;> rfl
@[simp] theorem State.onDieMem_mod : (s.onDieMem d g).mod = s.mod := by cases d <;> rfl
@[simp] theorem State.onDieMem_mem :
    (s.onDieMem d g).mem = memApply s.mem (g s.free s.mem ((s.dieOf d).sync s.now)).2 := by cases d <;> rfl
@[simp] theorem State.onDieMem_free : (s.onDieMem d g).free = s.free + 1 := by cases d <;> rfl
@[simp] theorem State.onDieMem_now :
    (s.onDieMem d g).now = max s.now (g s.free s.mem ((s.dieOf d).sync s.now)).1.clk := by cases d <;> rfl

end

/-! ### A command of the module -/

section
variable (f : Whole → Whole) (s : State)

@[simp] theorem State.onWhole_a : (s.onWhole f).a = (f s.whole).a := rfl
@[simp] theorem State.onWhole_b : (s.onWhole f).b = (f s.whole).b := rfl
@[simp] theorem State.onWhole_mod : (s.onWhole f).mod = (f s.whole).mod := rfl
@[simp] theorem State.onWhole_pending : (s.onWhole f).pending = s.pending := rfl
@[simp] theorem State.onWhole_mem : (s.onWhole f).mem = memApply s.mem (f s.whole).stores := rfl
@[simp] theorem State.onWhole_now : (s.onWhole f).now = max s.now (f s.whole).now := rfl
@[simp] theorem State.onWhole_free : (s.onWhole f).free = s.free + 1 := rfl
@[simp] theorem State.whole_a : s.whole.a = s.a.sync s.now := rfl
@[simp] theorem State.whole_b : s.whole.b = s.b.sync s.now := rfl
@[simp] theorem State.whole_mod : s.whole.mod = s.mod := rfl
@[simp] theorem State.whole_mem : s.whole.mem = s.mem := rfl
@[simp] theorem State.whole_stores : s.whole.stores = [] := rfl
@[simp] theorem State.whole_now : s.whole.now = s.now := rfl
@[simp] theorem State.whole_free : s.whole.free = s.free := rfl
@[simp] theorem State.whole_die (d : Die) : s.whole.die d = (s.dieOf d).sync s.now := by cases d <;> rfl

end

section
variable (w : Whole) (d : Die) (f : DieState → DieState)

@[simp] theorem Whole.die_a : w.die .a = w.a := rfl
@[simp] theorem Whole.die_b : w.die .b = w.b := rfl
@[simp] theorem Whole.onDie_die : (w.onDie d f).die d = f ((w.die d).sync w.now) := by cases d <;> rfl
@[simp] theorem Whole.onDie_other : (w.onDie d f).die d.other = w.die d.other := by cases d <;> rfl
@[simp] theorem Whole.onDie_mod : (w.onDie d f).mod = w.mod := by cases d <;> rfl
@[simp] theorem Whole.onDie_mem : (w.onDie d f).mem = w.mem := by cases d <;> rfl
@[simp] theorem Whole.onDie_stores : (w.onDie d f).stores = w.stores := by cases d <;> rfl
@[simp] theorem Whole.onDie_now : (w.onDie d f).now = max w.now (f ((w.die d).sync w.now)).clk := by cases d <;> rfl
@[simp] theorem Whole.onDie_free : (w.onDie d f).free = w.free := by cases d <;> rfl

end

/-! ### A die's own updates -/

section
variable (x : DieState)

@[simp] theorem DieState.sync_clk (t : Nat) : (x.sync t).clk = t := rfl
@[simp] theorem DieState.sync_regs (t : Nat) : (x.sync t).regs = x.regs := rfl
@[simp] theorem DieState.sync_rd (t off : Nat) : (x.sync t).rd off = x.rd off := rfl
@[simp] theorem DieState.sync_fld (t off hi lo : Nat) : (x.sync t).fld off hi lo = x.fld off hi lo := rfl
@[simp] theorem DieState.sync_flag (t off b : Nat) : (x.sync t).flag off b = x.flag off b := rfl
@[simp] theorem DieState.sync_dev (t : Nat) : (x.sync t).dev = x.dev := rfl
@[simp] theorem DieState.sync_seq (t : Nat) : (x.sync t).seq = x.seq := rfl
@[simp] theorem DieState.sync_stepping (t : Nat) : (x.sync t).stepping = x.stepping := rfl
@[simp] theorem DieState.at_clk (t : Nat) : (x.at t).clk = max x.clk t := rfl
@[simp] theorem DieState.at_regs (t : Nat) : (x.at t).regs = x.regs := rfl
@[simp] theorem DieState.wr_regs (off v : Nat) : (x.wr off v).regs = tset x.regs off (v % 2 ^ 32) := rfl
@[simp] theorem DieState.wr_clk (off v : Nat) : (x.wr off v).clk = x.clk := rfl
@[simp] theorem DieState.wr_dev (off v : Nat) : (x.wr off v).dev = x.dev := rfl
@[simp] theorem DieState.wr_seq (off v : Nat) : (x.wr off v).seq = x.seq := rfl
@[simp] theorem DieState.send_wire (k : SentKind) (as : List Nat) (bs : List Byte) : (x.send k as bs).wire = x.wire ++ [⟨k, as, bs⟩] := rfl
@[simp] theorem DieState.send_regs (k : SentKind) (as : List Nat) (bs : List Byte) : (x.send k as bs).regs = x.regs := rfl

end

/-! ### A part of a die -/

section
variable (x : DieState)

@[simp] theorem DieState.onMem_mem (f : Mem → Mem) : (x.onMem f).mem = f x.mem := rfl
@[simp] theorem DieState.onMem_regs (f : Mem → Mem) : (x.onMem f).regs = x.regs := rfl
@[simp] theorem DieState.onMem_clk (f : Mem → Mem) : (x.onMem f).clk = x.clk := rfl
@[simp] theorem DieState.onTwl_twl (f : Twl → Twl) : (x.onTwl f).twl = f x.twl := rfl
@[simp] theorem DieState.onTwl_regs (f : Twl → Twl) : (x.onTwl f).regs = x.regs := rfl
@[simp] theorem DieState.setTport_regs (p : Nat) (y : TPort) : (x.setTport p y).regs = x.regs := rfl
@[simp] theorem DieState.setTport_wire (p : Nat) (y : TPort) : (x.setTport p y).wire = x.wire := rfl
@[simp] theorem DieState.setSlot_regs (p : Nat) (y : TileSlot) : (x.setSlot p y).regs = x.regs := rfl
@[simp] theorem DieState.setSlot_syn (p : Nat) (y : TileSlot) : (x.setSlot p y).syn = x.syn := rfl
@[simp] theorem DieState.setSlot_seq (p : Nat) (y : TileSlot) : (x.setSlot p y).seq = x.seq := rfl
@[simp] theorem DieState.setAux_regs (n : Nat) (a : Aux) : (x.setAux n a).regs = x.regs := rfl
@[simp] theorem DieState.modLane_regs (n : Nat) (f : LaneDyn → LaneDyn) : (x.modLane n f).regs = x.regs := rfl
@[simp] theorem DieState.modLane_parts (n : Nat) (f : LaneDyn → LaneDyn) : (x.modLane n f).ptk.parts = x.ptk.parts := rfl

end

/-! ### A die with memory -/

section
variable (x : DM)

@[simp] theorem DM.onD_d (f : DieState → DieState) : (x.onD f).d = f x.d := rfl
@[simp] theorem DM.onD_mem (f : DieState → DieState) : (x.onD f).mem = x.mem := rfl
@[simp] theorem DM.onD_stores (f : DieState → DieState) : (x.onD f).stores = x.stores := rfl
@[simp] theorem DM.store_d (ws : List Host.Cell) : (x.store ws).d = x.d := rfl
@[simp] theorem DM.store_mem (ws : List Host.Cell) : (x.store ws).mem = memApply x.mem ws := rfl
@[simp] theorem DM.store_stores (ws : List Host.Cell) : (x.store ws).stores = x.stores ++ ws := rfl
@[simp] theorem DM.writeDram_d (a : Nat) (bs : List Byte) : (x.writeDram a bs).d = x.d := rfl
@[simp] theorem DM.writeDram_mem (a : Nat) (bs : List Byte) : (x.writeDram a bs).mem = memApply x.mem (x.d.dramStore a bs) := rfl

end

end Sys2Proof.Machine
end

