-- ==== Sys2Proof/Laws/Frame.lean ====
section
/-! SUPPORT. What each shared operation of a die can change: one lemma each, cited in place of unfolding it. -/

namespace Sys2Proof

open Machine

theorem OnlyIn.refl (us : List DiePart) (x : DieState) : OnlyIn us x x := ⟨rfl, fun p _ => by cases p <;> rfl⟩

theorem OnlyIn.trans {us : List DiePart} {x y z : DieState} (h : OnlyIn us x y) (k : OnlyIn us y z) : OnlyIn us x z :=
  ⟨k.1.trans h.1, fun p hp => by have a := h.2 p hp; have b := k.2 p hp; cases p <;> exact Eq.trans b a⟩

theorem OnlyIn.mono {us vs : List DiePart} {x y : DieState} (h : OnlyIn us x y) (hs : ∀ p, p ∈ us → p ∈ vs) : OnlyIn vs x y :=
  ⟨h.1, fun p hp => h.2 p (fun q => hp (hs p q))⟩

/-- The die with the wall clock differs in no part. -/
theorem OnlyIn.sync (us : List DiePart) (x : DieState) (t : Nat) : OnlyIn us x (x.sync t) := ⟨rfl, fun p _ => by cases p <;> rfl⟩

theorem OnlyIn.at (us : List DiePart) (x : DieState) (t : Nat) : OnlyIn us x (x.at t) := ⟨rfl, fun p _ => by cases p <;> rfl⟩

/-- A die whose fields outside `us` are those of another. -/
theorem OnlyIn.ite {us : List DiePart} {x y z : DieState} (c : Prop) [Decidable c] (h : OnlyIn us x y) (k : OnlyIn us x z) :
    OnlyIn us x (if c then y else z) := by split <;> assumption

theorem OnlyIn.when {us : List DiePart} {x : DieState} {f : DieState → DieState} (c : Bool) (h : OnlyIn us x (f x)) :
    OnlyIn us x (x.when c f) := by unfold DieState.when; split <;> first | exact h | exact OnlyIn.refl _ _

/-- A fold of steps each of which keeps to `us`. -/
theorem OnlyIn.foldl {us : List DiePart} {A : Type} (f : DieState → A → DieState) (h : ∀ x a, OnlyIn us x (f x a)) (l : List A) (x : DieState) :
    OnlyIn us x (l.foldl f x) := by
  induction l generalizing x with
  | nil => exact OnlyIn.refl _ _
  | cons a r ih => exact (h x a).trans (ih _)

/-! ### The shared operations -/

section
variable (x : DieState)

theorem OnlyIn.wr (off v : Nat) : OnlyIn [.regs] x (x.wr off v) :=
  ⟨rfl, fun p hp => by cases p <;> first | rfl | exact absurd (by decide) hp⟩

theorem OnlyIn.setFld (off hi lo v : Nat) : OnlyIn [.regs] x (x.setFld off hi lo v) := OnlyIn.wr _ _ _
theorem OnlyIn.setFlag (off b : Nat) (v : Bool) : OnlyIn [.regs] x (x.setFlag off b v) := OnlyIn.wr _ _ _
theorem OnlyIn.count (off k : Nat) : OnlyIn [.regs] x (x.count off k) := OnlyIn.wr _ _ _
theorem OnlyIn.countFld (off hi lo k : Nat) : OnlyIn [.regs] x (x.countFld off hi lo k) := OnlyIn.wr _ _ _
theorem OnlyIn.peakFld (off hi lo v : Nat) : OnlyIn [.regs] x (x.peakFld off hi lo v) := OnlyIn.wr _ _ _
theorem OnlyIn.wr64 (off v : Nat) : OnlyIn [.regs] x (x.wr64 off v) := (OnlyIn.wr _ _ _).trans (OnlyIn.wr _ _ _)

theorem OnlyIn.send (k : SentKind) (as : List Nat) (bs : List Byte) : OnlyIn [.wire] x (x.send k as bs) :=
  ⟨rfl, fun p hp => by cases p <;> first | rfl | exact absurd (by decide) hp⟩

theorem OnlyIn.life (i k : Nat) : OnlyIn [.ink] x (x.life i k) :=
  ⟨rfl, fun p hp => by cases p <;> first | rfl | exact absurd (by decide) hp⟩

theorem OnlyIn.hist (h b : Nat) : OnlyIn [.ink] x (x.hist h b) :=
  ⟨rfl, fun p hp => by cases p <;> first | rfl | exact absurd (by decide) hp⟩

theorem OnlyIn.toCycle (c : Nat) : OnlyIn [.seq] x (x.toCycle c) :=
  ⟨rfl, fun p hp => by cases p <;> first | rfl | exact absurd (by decide) hp⟩

theorem OnlyIn.inkEnter (r : InkRec) : OnlyIn [.regs, .ink] x (x.inkEnter r) :=
  ⟨rfl, fun p hp => by cases p <;> first | rfl | exact absurd (by decide) hp⟩

theorem OnlyIn.inkLose : OnlyIn [.regs, .ink] x x.inkLose :=
  ⟨rfl, fun p hp => by cases p <;> first | rfl | exact absurd (by decide) hp⟩

theorem OnlyIn.inkQueue (r : InkRec) : OnlyIn [.regs, .ink] x (x.inkQueue r).1 := by
  unfold DieState.inkQueue
  split
  · exact OnlyIn.inkEnter _ _
  · exact OnlyIn.inkLose _

theorem OnlyIn.inkPut (cls unit code : Nat) (fault : Option Nat) (payload : List Byte) :
    OnlyIn [.regs, .ink] x (x.inkPut cls unit code fault payload) := by
  unfold DieState.inkPut
  dsimp only
  split
  · exact OnlyIn.inkQueue _ _
  · split
    · exact OnlyIn.inkQueue _ _
    · exact ((OnlyIn.inkQueue _ _).trans ((OnlyIn.setFlag _ _ _ _).mono (by decide))).trans (OnlyIn.inkQueue _ _)

theorem OnlyIn.inkNote (cls unit : Nat) (fault : Option Nat) (facts : List Nat) : OnlyIn [.regs, .ink] x (x.inkNote cls unit fault facts) :=
  OnlyIn.inkPut _ _ _ _ _ _

theorem OnlyIn.raiseWith (off b : Nat) (fault : Option Nat) (rec : List Byte) : OnlyIn [.regs, .ink] x (x.raiseWith off b fault rec) := by
  unfold DieState.raiseWith
  split
  · exact OnlyIn.refl _ _
  · exact ((OnlyIn.setFlag _ _ _ _).mono (by decide)).trans (OnlyIn.inkPut _ _ _ _ _ _)

theorem OnlyIn.raise (off b : Nat) : OnlyIn [.regs, .ink] x (x.raise off b) := OnlyIn.raiseWith _ _ _ _ _

theorem OnlyIn.uswEvent (u i st : Nat) : OnlyIn [.regs, .ink, .qll] x (x.uswEvent u i st) := by
  unfold DieState.uswEvent
  split
  · exact ⟨rfl, fun p hp => by cases p <;> first | rfl | exact absurd (by decide) hp⟩
  · exact (OnlyIn.raise _ _ _).mono (by decide)

theorem OnlyIn.setUsw (u st : Nat) : OnlyIn [.regs, .ink] x (x.setUsw u st) := by
  unfold DieState.setUsw
  split
  · exact OnlyIn.refl _ _
  · exact (((OnlyIn.setFld _ _ _ _ _).trans (OnlyIn.countFld _ _ _ _ _)).mono (by decide)).trans (OnlyIn.inkNote _ _ _ _ _)

theorem OnlyIn.setDev (st : DevState) : OnlyIn [.dev, .regs, .ink] x (x.setDev st) := by
  unfold DieState.setDev
  split
  · exact OnlyIn.refl _ _
  · refine OnlyIn.trans (y := DieState.setFld { x with dev := st } rSYS_STATE 3 0 st.code) ?_ ((OnlyIn.inkPut _ _ _ _ _ _).mono (by decide))
    exact ⟨rfl, fun p hp => by cases p <;> first | rfl | exact absurd (by decide) hp⟩

theorem OnlyIn.causeHold (k : Nat) : OnlyIn [.regs, .chk] x (x.causeHold k) :=
  ⟨rfl, fun p hp => by cases p <;> first | rfl | exact absurd (by decide) hp⟩

theorem OnlyIn.causeFirst (k : Nat) : OnlyIn [.regs, .chk] x (x.causeFirst k) := by
  unfold DieState.causeFirst
  split
  · exact OnlyIn.ite _ ((OnlyIn.setFld _ _ _ _ _).mono (by decide)) (OnlyIn.refl _ _)
  · exact ⟨rfl, fun p hp => by cases p <;> first | rfl | exact absurd (by decide) hp⟩

theorem OnlyIn.causeRecord (k : Nat) : OnlyIn [.regs, .ink] x (x.causeRecord k) :=
  (OnlyIn.inkPut _ _ _ _ _ _).trans ((OnlyIn.hist _ _ _).mono (by decide))

theorem OnlyIn.causeAct : OnlyIn [.chk, .net] x x.causeAct := by
  unfold DieState.causeAct
  refine OnlyIn.ite _ ?_ (OnlyIn.ite _ (OnlyIn.refl _ _) ?_)
  all_goals exact ⟨rfl, fun p hp => by cases p <;> first | rfl | exact absurd (by decide) hp⟩

theorem OnlyIn.detect (k : Nat) : OnlyIn [.regs, .ink, .chk, .net] x (x.detect k) := by
  unfold DieState.detect
  exact OnlyIn.ite _ (OnlyIn.refl _ _)
    (((((OnlyIn.causeHold _ _).mono (by decide)).trans ((OnlyIn.causeFirst _ _).mono (by decide))).trans
      ((OnlyIn.causeRecord _ _).mono (by decide))).trans ((OnlyIn.causeAct _).mono (by decide)))

end

/-! ### From a die to the module -/

/-- The frame of a command of one die follows from what its effect changes in the die. -/
theorem Frame.onDie (d : Die) (us : List DiePart) (s : State) (f : DieState → DieState)
    (h : ∀ x : DieState, OnlyIn us x (f x)) : Frame d us s (s.onDie d f) where
  other := State.onDie_other _ _ _
  mod := State.onDie_mod _ _ _
  mem := State.onDie_mem _ _ _
  pending := State.onDie_pending _ _ _
  time := by rw [State.onDie_now]; exact Nat.le_max_left _ _
  die := by rw [State.onDie_dieOf]; exact (OnlyIn.sync _ _ _).trans (h _)

theorem Frame.onDieFree (d : Die) (us : List DiePart) (s : State) (f : Nat → DieState → DieState)
    (h : ∀ n (x : DieState), OnlyIn us x (f n x)) : Frame d us s (s.onDieFree d f) where
  other := State.onDieFree_other _ _ _
  mod := State.onDieFree_mod _ _ _
  mem := State.onDieFree_mem _ _ _
  pending := State.onDieFree_pending _ _ _
  time := by rw [State.onDieFree_now]; exact Nat.le_max_left _ _
  die := by rw [State.onDieFree_dieOf]; exact (OnlyIn.sync _ _ _).trans (h _ _)

end Sys2Proof
end

