-- ==== Sys2Proof/Laws/Memory.lean ====
section
/-! SUPPORT. The laws of the byte memory: a read after a write, and that every store keeps the canonical form. -/

namespace Sys2Proof.Machine

/-- Below its lower bound a memory lists nothing. -/
theorem memGet_of_lt (m : List Host.Cell) (lo a : Nat) (h : memWfFrom lo m = true) (ha : a < lo) : memGet m a = 0 := by
  cases m with
  | nil => rfl
  | cons c r =>
    obtain ⟨a', v⟩ := c
    simp only [memWfFrom, Bool.and_eq_true, decide_eq_true_eq] at h
    simp only [memGet]
    rw [if_neg (by omega), if_pos (by omega)]

/-- A lower bound may be lowered. -/
theorem memWfFrom_mono (m : List Host.Cell) (lo lo' : Nat) (h : memWfFrom lo m = true) (hl : lo' ≤ lo) : memWfFrom lo' m = true := by
  cases m with
  | nil => rfl
  | cons c r =>
    obtain ⟨a, v⟩ := c
    simp only [memWfFrom, Bool.and_eq_true, decide_eq_true_eq] at h ⊢
    exact ⟨⟨by omega, h.1.2⟩, h.2⟩

/-- A store keeps the canonical form. -/
theorem memSet_wfFrom (m : List Host.Cell) (lo a : Nat) (v : Byte) (h : memWfFrom lo m = true) (ha : lo ≤ a) :
    memWfFrom lo (memSet m a v) = true := by
  induction m generalizing lo with
  | nil =>
    unfold memSet
    split
    · rfl
    · simp_all [memWfFrom]
  | cons c r ih =>
    obtain ⟨a', w⟩ := c
    simp only [memWfFrom, Bool.and_eq_true, decide_eq_true_eq] at h
    obtain ⟨⟨h1, h2⟩, h3⟩ := h
    unfold memSet
    split
    · split
      · exact memWfFrom_mono r _ lo h3 (by omega)
      · subst_vars; simp_all [memWfFrom]
    · split
      · split
        · simp_all [memWfFrom]
        · simp only [memWfFrom, Bool.and_eq_true, decide_eq_true_eq]
          exact ⟨⟨ha, by assumption⟩, ⟨by omega, h2⟩, h3⟩
      · simp only [memWfFrom, Bool.and_eq_true, decide_eq_true_eq]
        exact ⟨⟨h1, h2⟩, ih (a' + 1) h3 (by omega)⟩

/-- Any list of stores keeps the canonical form. -/
theorem memApply_wf (m ws : List Host.Cell) (h : Memory.wf m = true) : Memory.wf (memApply m ws) = true := by
  induction ws generalizing m with
  | nil => exact h
  | cons c r ih => exact ih _ (memSet_wfFrom m 0 c.1 c.2 h (Nat.zero_le _))

/-- A byte reads back what was stored there. -/
@[simp] theorem memGet_memSet_same (m : List Host.Cell) (lo a : Nat) (v : Byte) (h : memWfFrom lo m = true) :
    memGet (memSet m a v) a = v := by
  induction m generalizing lo with
  | nil =>
    unfold memSet
    split
    · subst_vars; rfl
    · simp [memGet]
  | cons c r ih =>
    obtain ⟨a', w⟩ := c
    simp only [memWfFrom, Bool.and_eq_true, decide_eq_true_eq] at h
    unfold memSet
    split
    · split
      · subst_vars; exact memGet_of_lt r _ _ h.2 (by omega)
      · simp [memGet]
    · split
      · split
        · simp only [memGet]; rw [if_neg (by omega), if_pos (by omega)]; simp_all
        · simp [memGet]
      · simp only [memGet]; rw [if_neg (by omega), if_neg (by omega)]; exact ih _ h.2

/-- A store leaves every other byte alone. -/
theorem memGet_memSet_ne (m : List Host.Cell) (lo a b : Nat) (v : Byte) (h : memWfFrom lo m = true) (hab : b ≠ a) :
    memGet (memSet m a v) b = memGet m b := by
  induction m generalizing lo with
  | nil =>
    unfold memSet
    split
    · rfl
    · simp [memGet, Ne.symm hab]
  | cons c r ih =>
    obtain ⟨a', w⟩ := c
    simp only [memWfFrom, Bool.and_eq_true, decide_eq_true_eq] at h
    unfold memSet
    split
    · subst_vars
      split
      · simp only [memGet]; rw [if_neg (Ne.symm hab)]
        split
        · exact memGet_of_lt r _ _ h.2 (by omega)
        · rfl
      · simp only [memGet]; rw [if_neg (Ne.symm hab), if_neg (Ne.symm hab)]
    · split
      · split
        · rfl
        · simp only [memGet]; rw [if_neg (Ne.symm hab)]
          split
          · rw [if_neg (by omega), if_pos (by omega)]
          · rfl
      · simp only [memGet, ih _ h.2]

/-- Stores leave every byte alone at which none of them is. -/
theorem memGet_memApply_ne (m ws : List Host.Cell) (b : Nat) (h : Memory.wf m = true) (hb : ∀ c ∈ ws, c.1 ≠ b) :
    memGet (memApply m ws) b = memGet m b := by
  induction ws generalizing m with
  | nil => rfl
  | cons c r ih =>
    simp only [List.mem_cons, forall_eq_or_imp] at hb
    have hw := memSet_wfFrom m 0 c.1 c.2 h (Nat.zero_le _)
    exact (ih _ hw hb.2).trans (memGet_memSet_ne m 0 c.1 b c.2 h (Ne.symm hb.1))

/-- Storing nothing changes nothing. -/
@[simp] theorem memApply_nil (m : List Host.Cell) : memApply m [] = m := rfl

/-- Two lists of stores one after the other. -/
theorem memApply_append (m xs ys : List Host.Cell) : memApply m (xs ++ ys) = memApply (memApply m xs) ys := by
  induction xs generalizing m with
  | nil => rfl
  | cons c r ih => exact ih _

/-- The stores of a byte string stand within it. -/
theorem cellsAt_range (a : Nat) (bs : List Byte) : ∀ c ∈ cellsAt a bs, a ≤ c.1 ∧ c.1 < a + bs.length := by
  induction bs generalizing a with
  | nil => simp [cellsAt]
  | cons x r ih =>
    intro c hc
    simp only [cellsAt, List.mem_cons] at hc
    rcases hc with rfl | hc
    · simp
    · have := ih (a + 1) c hc; simp only [List.length_cons]; omega

end Sys2Proof.Machine
end

