-- ==== Sys2Proof/Laws/Regs.lean ====
section
/-! SUPPORT. Sparse tables and registers: a read after a write, and bits after a set. -/

namespace Sys2Proof.Machine

theorem tget_tset_same {V : Type} (t : Tbl V) (k : Nat) (v d : V) : tget (tset t k v) k d = v := by
  induction t with
  | nil => simp [tset, tget]
  | cons c r ih =>
    obtain ⟨k', w⟩ := c
    unfold tset
    split
    · simp [tget]
    · split
      · simp [tget]
      · simp [tget, *]

theorem tget_tset_ne {V : Type} (t : Tbl V) (k j : Nat) (v d : V) (h : j ≠ k) : tget (tset t k v) j d = tget t j d := by
  induction t with
  | nil => simp [tset, tget, Ne.symm h]
  | cons c r ih =>
    obtain ⟨k', w⟩ := c
    unfold tset
    split
    · subst_vars; simp [tget, Ne.symm h]
    · split
      · simp [tget, Ne.symm h]
      · simp [tget, ih]

theorem DieState.rd_wr_same (x : DieState) (off v : Nat) : (x.wr off v).rd off = v % 2 ^ 32 := tget_tset_same _ _ _ _

theorem DieState.rd_wr_ne (x : DieState) (off j v : Nat) (h : j ≠ off) : (x.wr off v).rd j = x.rd j := tget_tset_ne _ _ _ _ _ h

theorem DieState.rd_setFld_ne (x : DieState) (off hi lo v j : Nat) (h : j ≠ off) : (x.setFld off hi lo v).rd j = x.rd j :=
  tget_tset_ne _ _ _ _ _ h

theorem DieState.rd_setFlag_ne (x : DieState) (off b j : Nat) (v : Bool) (h : j ≠ off) : (x.setFlag off b v).rd j = x.rd j :=
  tget_tset_ne _ _ _ _ _ h

theorem DieState.rd_count_ne (x : DieState) (off k j : Nat) (h : j ≠ off) : (x.count off k).rd j = x.rd j :=
  tget_tset_ne _ _ _ _ _ h

theorem DieState.rd_countFld_ne (x : DieState) (off hi lo k j : Nat) (h : j ≠ off) : (x.countFld off hi lo k).rd j = x.rd j :=
  tget_tset_ne _ _ _ _ _ h

/-- A saturating counter counts. -/
theorem DieState.rd_count_same (x : DieState) (off k : Nat) : (x.count off k).rd off = min max32 (x.rd off + k) := by
  unfold DieState.count
  rw [DieState.rd_wr_same]
  exact Nat.mod_eq_of_lt (by simp only [satAdd, max32]; omega)

/-- The bits of a field after it is set. -/
theorem bits_setBits_same (hi lo v n : Nat) (h : lo ≤ hi) : bits hi lo (setBits hi lo v n) = v % 2 ^ (hi + 1 - lo) := by
  unfold bits setBits
  have e : 2 ^ (hi + 1) = 2 ^ (hi + 1 - lo) * 2 ^ lo := by rw [← pow_add]; congr 1; omega
  have hp : 0 < 2 ^ lo := Nat.two_pow_pos lo
  rw [e]
  have : n / (2 ^ (hi + 1 - lo) * 2 ^ lo) * (2 ^ (hi + 1 - lo) * 2 ^ lo) + v % 2 ^ (hi + 1 - lo) * 2 ^ lo + n % 2 ^ lo
      = (n / (2 ^ (hi + 1 - lo) * 2 ^ lo) * 2 ^ (hi + 1 - lo) + v % 2 ^ (hi + 1 - lo)) * 2 ^ lo + n % 2 ^ lo := by ring
  rw [this, Nat.mul_comm _ (2 ^ lo), Nat.mul_add_div hp, Nat.div_eq_of_lt (Nat.mod_lt _ hp), Nat.add_zero, Nat.mul_comm _ (2 ^ (hi + 1 - lo)),
    Nat.mul_add_mod, Nat.mod_mod]

/-- A field that is set stays within 32 bits where the register does. -/
theorem setBits_lt (hi lo v n w : Nat) (hl : lo ≤ hi) (hw : hi < w) (h : n < 2 ^ w) : setBits hi lo v n < 2 ^ w := by
  unfold setBits
  have e : 2 ^ (hi + 1) = 2 ^ (hi + 1 - lo) * 2 ^ lo := by rw [← pow_add]; congr 1; omega
  have ew : 2 ^ w = 2 ^ (w - (hi + 1)) * 2 ^ (hi + 1) := by rw [← pow_add]; congr 1; omega
  have h1 : n / 2 ^ (hi + 1) < 2 ^ (w - (hi + 1)) := by
    rw [Nat.div_lt_iff_lt_mul (Nat.two_pow_pos _), ← ew]; exact h
  have h2 : v % 2 ^ (hi + 1 - lo) < 2 ^ (hi + 1 - lo) := Nat.mod_lt _ (Nat.two_pow_pos _)
  have h3 : n % 2 ^ lo < 2 ^ lo := Nat.mod_lt _ (Nat.two_pow_pos _)
  have h4 : v % 2 ^ (hi + 1 - lo) * 2 ^ lo + n % 2 ^ lo < 2 ^ (hi + 1) := by
    rw [e]
    calc _ < v % 2 ^ (hi + 1 - lo) * 2 ^ lo + 2 ^ lo := by omega
      _ = (v % 2 ^ (hi + 1 - lo) + 1) * 2 ^ lo := by ring
      _ ≤ _ := Nat.mul_le_mul_right _ h2
  calc _ < n / 2 ^ (hi + 1) * 2 ^ (hi + 1) + 2 ^ (hi + 1) := by omega
    _ = (n / 2 ^ (hi + 1) + 1) * 2 ^ (hi + 1) := by ring
    _ ≤ _ := by rw [ew]; exact Nat.mul_le_mul_right _ h1

/-- A field reads back what it was set to. -/
theorem DieState.fld_setFld_same (x : DieState) (off hi lo v : Nat) (h : lo ≤ hi) (h32 : hi < 32) :
    (x.setFld off hi lo v).fld off hi lo = v % 2 ^ (hi + 1 - lo) := by
  unfold DieState.setFld DieState.fld
  rw [DieState.rd_wr_same, ← bits_setBits_same hi lo v (x.rd off) h]
  unfold bits
  have e : 2 ^ 32 = 2 ^ lo * (2 ^ (hi + 1 - lo) * 2 ^ (32 - (hi + 1))) := by rw [← pow_add, ← pow_add]; congr 1; omega
  rw [e, Nat.mod_mul_right_div_self, Nat.mod_mul_right_mod]

theorem DieState.fld_setFld_ne (x : DieState) (off hi lo v j a b : Nat) (h : j ≠ off) : (x.setFld off hi lo v).fld j a b = x.fld j a b := by
  unfold DieState.fld; rw [DieState.rd_setFld_ne _ _ _ _ _ _ h]

theorem DieState.flag_setFlag_ne (x : DieState) (off b : Nat) (v : Bool) (j a : Nat) (h : j ≠ off) :
    (x.setFlag off b v).flag j a = x.flag j a := by
  unfold DieState.flag; rw [DieState.rd_setFlag_ne _ _ _ _ _ h]

theorem bit_eq_bits (b n : Nat) : bit b n = decide (bits b b n = 1) := by
  unfold bit bits; simp

/-- A bit reads back what it was set to. -/
theorem DieState.flag_setFlag_same (x : DieState) (off b : Nat) (v : Bool) (h : b < 32) : (x.setFlag off b v).flag off b = v := by
  have := DieState.fld_setFld_same x off b b (b2n v) (Nat.le_refl b) h
  unfold DieState.flag
  rw [bit_eq_bits]
  unfold DieState.setFlag setBit
  unfold DieState.fld DieState.setFld at this
  rw [this]
  cases v <;> simp [b2n]

end Sys2Proof.Machine

namespace Sys2Proof

open Machine

/-! ### Which registers a shared operation can change -/

theorem RegsOnly.refl (os : List Nat) (x : DieState) : RegsOnly os x x := fun _ _ => rfl

theorem RegsOnly.trans {os : List Nat} {x y z : DieState} (h : RegsOnly os x y) (k : RegsOnly os y z) : RegsOnly os x z :=
  fun o ho => (k o ho).trans (h o ho)

theorem RegsOnly.mono {os ps : List Nat} {x y : DieState} (h : RegsOnly os x y) (hs : ∀ o, o ∈ os → o ∈ ps) : RegsOnly ps x y :=
  fun o ho => h o (fun q => ho (hs o q))

theorem RegsOnly.of_regs (os : List Nat) {x y : DieState} (h : y.regs = x.regs) : RegsOnly os x y :=
  fun o _ => by unfold DieState.rd; rw [h]

theorem RegsOnly.ite {os : List Nat} {x y z : DieState} (c : Prop) [Decidable c] (h : RegsOnly os x y) (k : RegsOnly os x z) :
    RegsOnly os x (if c then y else z) := by split <;> assumption

theorem RegsOnly.foldl {os : List Nat} {A : Type} (f : DieState → A → DieState) (h : ∀ x a, RegsOnly os x (f x a)) (l : List A) (x : DieState) :
    RegsOnly os x (l.foldl f x) := by
  induction l generalizing x with
  | nil => exact RegsOnly.refl _ _
  | cons a r ih => exact (h x a).trans (ih _)

section
variable (x : DieState)

theorem RegsOnly.wr (off v : Nat) : RegsOnly [off] x (x.wr off v) :=
  fun o ho => DieState.rd_wr_ne x off o v (by simpa using ho)

theorem RegsOnly.setFld (off hi lo v : Nat) : RegsOnly [off] x (x.setFld off hi lo v) := RegsOnly.wr _ _ _
theorem RegsOnly.setFlag (off b : Nat) (v : Bool) : RegsOnly [off] x (x.setFlag off b v) := RegsOnly.wr _ _ _
theorem RegsOnly.count (off k : Nat) : RegsOnly [off] x (x.count off k) := RegsOnly.wr _ _ _
theorem RegsOnly.countFld (off hi lo k : Nat) : RegsOnly [off] x (x.countFld off hi lo k) := RegsOnly.wr _ _ _

theorem RegsOnly.wr64 (off v : Nat) : RegsOnly [off, off + 4] x (x.wr64 off v) :=
  ((RegsOnly.wr x off _).mono (by simp)).trans ((RegsOnly.wr _ (off + 4) _).mono (by simp))

theorem RegsOnly.inkEnter (r : InkRec) : RegsOnly inkRegs x (x.inkEnter r) := by
  unfold DieState.inkEnter DieState.peakFld
  exact (((RegsOnly.of_regs _ rfl).trans ((RegsOnly.setFld _ _ _ _ _).mono (by decide))).trans ((RegsOnly.setFld _ _ _ _ _).mono (by decide)))

theorem RegsOnly.inkLose : RegsOnly inkRegs x x.inkLose :=
  (RegsOnly.of_regs inkRegs (y := ({ x with ink := { x.ink with lost := x.ink.lost + 1 } } : DieState)) rfl).trans
    ((RegsOnly.count _ rINK_DROPS 1).mono (by decide))

theorem RegsOnly.inkQueue (r : InkRec) : RegsOnly inkRegs x (x.inkQueue r).1 := by
  unfold DieState.inkQueue
  split
  · exact RegsOnly.inkEnter _ _
  · exact RegsOnly.inkLose _

theorem RegsOnly.inkPut (cls unit code : Nat) (fault : Option Nat) (payload : List Byte) :
    RegsOnly inkRegs x (x.inkPut cls unit code fault payload) := by
  unfold DieState.inkPut
  dsimp only
  split
  · exact RegsOnly.inkQueue _ _
  · split
    · exact RegsOnly.inkQueue _ _
    · exact ((RegsOnly.inkQueue _ _).trans ((RegsOnly.setFlag _ _ _ _).mono (by decide))).trans (RegsOnly.inkQueue _ _)

theorem RegsOnly.raiseWith (off b : Nat) (fault : Option Nat) (rec : List Byte) : RegsOnly (off :: inkRegs) x (x.raiseWith off b fault rec) := by
  unfold DieState.raiseWith
  split
  · exact RegsOnly.refl _ _
  · exact ((RegsOnly.setFlag _ _ _ _).mono (by simp)).trans ((RegsOnly.inkPut _ _ _ _ _ _).mono (fun _ h => List.mem_cons_of_mem _ h))

theorem RegsOnly.raise (off b : Nat) : RegsOnly (off :: inkRegs) x (x.raise off b) := RegsOnly.raiseWith _ _ _ _ _

theorem RegsOnly.causeFirst (k : Nat) : RegsOnly causeRegs x (x.causeFirst k) := by
  unfold DieState.causeFirst
  split
  · exact RegsOnly.ite _ ((RegsOnly.setFld _ _ _ _ _).mono (by decide)) (RegsOnly.refl _ _)
  · exact (((RegsOnly.of_regs causeRegs (x := x) rfl).trans ((RegsOnly.wr _ rCHK_SAFE_FIRST _).mono (by decide)))).trans
      ((RegsOnly.wr64 _ rCHK_SAFE_STEP_LO _).mono (by decide))

theorem RegsOnly.causeAct : RegsOnly [] x x.causeAct := by
  unfold DieState.causeAct
  exact RegsOnly.ite _ (RegsOnly.of_regs _ rfl) (RegsOnly.ite _ (RegsOnly.refl _ _) (RegsOnly.of_regs _ rfl))

theorem RegsOnly.detect (k : Nat) : RegsOnly causeRegs x (x.detect k) := by
  unfold DieState.detect
  refine RegsOnly.ite _ (RegsOnly.refl _ _) ?_
  refine (((RegsOnly.trans (y := x.causeHold k) ?_ (RegsOnly.causeFirst _ k)).trans ?_).trans ((RegsOnly.causeAct _).mono (by simp)))
  · exact ((RegsOnly.setFlag x rCHK_SAFE_CAUSE k true).mono (by decide)).trans (RegsOnly.of_regs _ rfl)
  · exact ((RegsOnly.inkPut _ _ _ _ _ _).mono (by decide)).trans (RegsOnly.of_regs _ rfl)

/-- A sticky flag that is raised is set. -/
theorem DieState.flag_raise (off b : Nat) (h : b < 32) (ho : off ∉ inkRegs) : (x.raise off b).flag off b = true := by
  unfold DieState.raise DieState.raiseWith
  split
  · assumption
  · have e := RegsOnly.inkPut (x.setFlag off b true) 0 (off / 0x10000) (off % 0x10000 / 4) none
      (flagPayload b ((x.setFlag off b true).rd off) []) off ho
    dsimp only
    unfold DieState.flag
    rw [e]
    exact DieState.flag_setFlag_same x off b true h

end

end Sys2Proof
end

