-- ==== Sys2Proof/WellFormed.lean ====
section
/-! DEFINITION. Which commands are well formed: the operands that are lists have the lengths, and those that are plain numbers the range, that the spec gives them (a line: 16,384 columns of at most four samples, R245, R265). Every
other operand has a type of exactly its width, and every value of it is well formed; exec is defined on ill-formed commands too. -/

namespace Sys2Proof

open Machine

/-- A UDP payload fits an Ethernet frame without IP fragments (R428: 1,472 bytes). -/
def fitsUdp (q : List (BitVec 8)) : Bool := decide (q.length ≤ 1472)

/-- Records of an image: RECORDS is 1 to 65,535 (R415). -/
def fitsImage (rs : List Rec) : Bool := decide (rs.length ≤ 65535)

/-- The outcome of SELF_TEST names groups 0 to 16 (R116, R164) and SAFE causes 0 to 18 (R344). -/
def selfOk (r : SelfIn) : Bool := r.tiles.all (fun g => decide (g ≤ 16)) && r.stem.all (fun g => decide (g ≤ 16)) && r.causes.all (fun c => decide (c ≤ 18)) &&
  decide (r.kaRegrouped < 2 ^ 64 ∧ r.kaStem < 2 ^ 64)

/-- The command's operands keep the spec's bounds. -/
def Instr.wellFormed (i : Instr) : Bool :=
  match i with
  | .cxpLineReceive _ _ _ px _ _ _ => decide (px.length ≤ 4 * 16384)
  | .dramReadDelivery _ err _ => decide (err.length ≤ 32)
  | .recipeSelect q => fitsUdp q
  | .lineRunning q => fitsUdp q
  | .operatorAck q => fitsUdp q
  | .switchForward _ f _ _ => decide (f.length ≤ 1522)
  | .ingressFilter _ f => decide (f.length ≤ 1522)
  | .twillFrameReceive _ bs _ _ _ _ => decide (bs.length ≤ 272)
  | .probe _ _ rest => decide (rest.length ≤ 64)
  | .ident _ _ serial _ _ ports _ => decide (serial.length = 16 ∧ ports.length = 4)
  | .routeWrite _ _ rs ns => decide (rs.length = 16 ∧ ns.length = 256)
  | .configComplete _ _ rs => fitsImage rs
  | .selfTestComplete _ r => selfOk r
  | .hello q => fitsUdp q
  | .regRead hd pl tag => fitsUdp (hd ++ pl ++ tag)
  | .regWrite hd pl tag => fitsUdp (hd ++ pl ++ tag)
  | .memRead hd pl tag => fitsUdp (hd ++ pl ++ tag)
  | .unitState hd sq pl tag => fitsUdp (hd ++ sq ++ pl ++ tag)
  | .camRead q _ _ => fitsUdp q
  | .camWrite q _ _ _ => fitsUdp q
  | .viewRead q _ _ _ _ => fitsUdp q
  | .ack q => fitsUdp q
  | .maintStart q => fitsUdp q
  | .halt q => fitsUdp q
  | .reset q _ => fitsUdp q
  | .stageBegin q _ digest => fitsUdp q && decide (digest.length = 48)
  | .stageChunk q => fitsUdp q
  | .stageVerify q => fitsUdp q
  | .stageVerifyDone _ rs => fitsImage rs
  | .stageCommit q _ => fitsUdp q
  | .stageAbort q => fitsUdp q
  | .attest q => fitsUdp q
  | .svnRaise q => fitsUdp q
  | .keySet q _ blob => fitsUdp q && decide (blob.length ≤ 1440)
  | _ => true

end Sys2Proof
end

