-- ==== Sys2Proof/Tests/Slice0.lean ====
section
/-! SUPPORT. Tests: the ill-formed commands that the checks refuse; worked examples of the spec, with the values it gives; a state and operands that meet the
hypotheses of each statement of Certificates/Slice0/Obligations.lean. -/

namespace Sys2Proof.Tests

open Machine

/-- A module of which die A is changed by `f`. -/
def witA (f : DieState → DieState) : State := { State.reset with a := f State.reset.a }

/-- Die A in RUN, in step 5. -/
def runA : State := witA fun d => { d with dev := .run, held := none, seq := { d.seq with on := true, step := 5, stepAt := 100000 } }

/-! ### Ill-formed commands -/

/-- One payload byte more than R428 allows. -/
def longPayload : List (BitVec 8) := List.replicate 1473 0

/-- More records than R415 allows. -/
def manyRecs : List Rec := List.replicate 65536 default

theorem test_ill_payload : (Instr.hello longPayload).wellFormed = false ∧ (Instr.regRead [] longPayload []).wellFormed = false ∧
    (Instr.recipeSelect longPayload).wellFormed = false ∧ (Instr.operatorAck longPayload).wellFormed = false ∧
    (Instr.stageChunk longPayload).wellFormed = false ∧ (Instr.hello []).wellFormed = true := by
  simp only [Instr.wellFormed, fitsUdp, longPayload, List.nil_append, List.append_nil, List.length_replicate]; decide
theorem test_ill_frame : (Instr.switchForward true (List.replicate 1523 0) 0 false).wellFormed = false ∧
    (Instr.ingressFilter true (List.replicate 1523 0)).wellFormed = false ∧ (Instr.ingressFilter true []).wellFormed = true := by
  simp only [Instr.wellFormed, List.length_replicate]; decide
theorem test_ill_twill : (Instr.twillFrameReceive 0 (List.replicate 273 0) 0 0 0 0).wellFormed = false ∧
    (Instr.twillFrameReceive 0 [] 0 0 0 0).wellFormed = true := by
  simp only [Instr.wellFormed, List.length_replicate]; decide
theorem test_ill_probe : (Instr.probe 0 1 (List.replicate 65 0)).wellFormed = false ∧ (Instr.probe 0 1 []).wellFormed = true := by decide
theorem test_ill_ident : (Instr.ident 0 1 [] 0 0 [0, 0, 0, 0] 1).wellFormed = false ∧
    (Instr.ident 0 1 (List.replicate 16 0) 0 0 [0, 0, 0] 1).wellFormed = false ∧
    (Instr.ident 0 1 (List.replicate 16 0) 0 0 [0, 0, 0, 0] 1).wellFormed = true := by decide
theorem test_ill_route : (Instr.routeWrite .a 1 (List.replicate 15 0) (List.replicate 256 0)).wellFormed = false ∧
    (Instr.routeWrite .a 1 (List.replicate 16 0) (List.replicate 255 0)).wellFormed = false := by
  simp only [Instr.wellFormed, List.length_replicate]; decide
theorem test_ill_delivery : (Instr.dramReadDelivery .a (List.replicate 33 0) []).wellFormed = false ∧
    (Instr.dramReadDelivery .a [] []).wellFormed = true := by decide
theorem test_ill_self_test : (Instr.selfTestComplete .a ⟨[17], [], 0, 0, []⟩).wellFormed = false ∧
    (Instr.selfTestComplete .a ⟨[], [17], 0, 0, []⟩).wellFormed = false ∧
    (Instr.selfTestComplete .a ⟨[], [], 0, 0, [19]⟩).wellFormed = false ∧ (Instr.selfTestComplete .a ⟨[], [], 0, 2 ^ 64, []⟩).wellFormed = false ∧
    (Instr.selfTestComplete .a ⟨[16], [0], 1, 1, [18]⟩).wellFormed = true := by decide
theorem test_ill_digest : (Instr.stageBegin [] 1 (List.replicate 47 0)).wellFormed = false ∧
    (Instr.stageBegin [] 1 (List.replicate 48 0)).wellFormed = true := by decide
theorem test_ill_key : (Instr.keySet [] 0 (List.replicate 1441 0)).wellFormed = false ∧ (Instr.keySet [] 0 []).wellFormed = true := by
  simp only [Instr.wellFormed, List.length_replicate]; decide
theorem test_ill_receive : (Instr.cxpLineReceive .a 0 0 (List.replicate 65537 0) true false false).wellFormed = false := by
  simp only [Instr.wellFormed, List.length_replicate]; decide
theorem test_ill_records : (Instr.configComplete .a 0 manyRecs).wellFormed = false ∧ (Instr.stageVerifyDone .a manyRecs).wellFormed = false := by
  simp only [Instr.wellFormed, fitsImage, manyRecs, List.length_replicate]; decide

/-! ### Worked examples of the spec -/

/-- The block of R198's example. -/
def gzExample : List Nat := [100, 102, 105, 110, 120, 130, 131, 132, 140, 150, 160, 170, 175, 180, 190, 200]

/-- spec/07, the GZ8 example. -/
theorem test_gz8_encode : gz8Encode gzExample = 0xDAD91B4912000464 := by decide
/-- spec/07, the same block decoded. -/
theorem test_gz8_decode : gz8Decode 0xDAD91B4912000464 =
    ([100, 100, 100, 116, 116, 132, 132, 132, 148, 148, 164, 164, 180, 180, 196, 196], false) := by decide
/-- spec/07, the place of line 1,000,000 and the tag of its first burst. -/
theorem test_line_place : lineChan 1000000 = 10 ∧ lineInGroup 1000000 = 10 ∧ lineBurst 1000000 = 66666 ∧ locationTag 66666 10 = 0x1052A ∧
    burstCol 66666 = 10 ∧ burstBank 66666 = 3 ∧ burstRow 66666 = 130 ∧ burstCol 66667 = 11 := by decide
/-- spec/03, the four E4M3 products in a Long Accumulator of anchor 82: 0. -/
theorem test_long_acc_82 : laValue ([(200704, 0), (-200704, 0), (3, -10), (-3, -10)].foldl (fun a (t : Int × Int) => (laAdd a 82 (.fin t.1 t.2)).1) accZero) =
    (some 0, []) := by decide
/-- spec/03, the same products with anchor 92: −1. -/
theorem test_long_acc_92 : laValue ([(200704, 0), (-200704, 0), (3, -10), (-3, -10)].foldl (fun a (t : Int × Int) => (laAdd a 92 (.fin t.1 t.2)).1) accZero) =
    (some (-1), []) := by decide
/-- spec/03, the first two addends with anchor 82. -/
theorem test_long_acc_term : (laAdd accZero 82 (.fin 200704 0)).1.sum = 52613349376 ∧ (laAdd accZero 92 (.fin (-200704) 0)).1.sum = -51380224 := by decide
/-- spec/03: FP32 addition in the order p1, p3, p2, p4 gives −0.0029296875. -/
theorem test_fp32_order : add32 (add32 (add32 0x48440000 0x3B400000) 0xC8440000) 0xBB400000 = 0xBB400000 := by decide
/-- spec/03, exp2(0.5) and recip(3.0). -/
theorem test_func : fExp2 0x3F000000 = 0x3FB504F3 ∧ fRecip 0x40400000 = 0x3EAAAAAB := by decide

/-- R384: the levels of two bytes' pairs, and what a receiver makes of what the precoder sends. -/
theorem test_precoder : [(false, false), (false, true), (true, true), (true, false)].map grayLevel = [0, 1, 2, 3] ∧ precode 0 [3, 3, 1, 0] = [3, 0, 1, 3] ∧
    recover 0 [3, 0, 1, 3] = [3, 3, 1, 0] := by decide

/-- R385: the parity of one symbol is the generator, (x - 1)(x - α) … (x - α^7) worked out by hand; a frame of one byte; a descrambler follows its scrambler. -/
theorem test_line_code : rsParity [1] = [255, 11, 81, 54, 239, 173, 200, 24] ∧ (frameBlocks [7]).take 2 = [(true, [0x78, 0, 0, 0, 0, 0, 0, 0]), (false, [7, 0, 0, 0, 0, 0, 0, 0])] ∧
    (descramble 5 (scramble 5 [true, false, true, true]).1).1 = [true, false, true, true] := by decide

/-- R160: the 3 × 3 layer of spec/06's example, from 4 to 32 channels, INT8 × INT8 to INT8, fed by the machine-vision line, its rows to the next layer, on ports 0. -/
def stemExample : StemLayer := ⟨0, leBytes 4 0x8000 ++ leBytes 4 (4 + 32 * 128) ++ leBytes 4 (3 + 3 * 8) ++ leBytes 4 0 ++ leBytes 4 0x100 ++ leBytes 4 0x800 ++ leBytes 4 1 ++ leBytes 4 0⟩
theorem test_stem_layer : stemExample.ok = true ∧ stemExample.cin = 4 ∧ stemExample.cout = 32 ∧ stemExample.kh = 3 ∧ stemExample.kw = 3 ∧ stemExample.sx = 1 ∧
    stemExample.toPtk = false ∧ stemExample.wpar = 0x800 ∧ stemExample.runs [0] = true ∧ stemExample.runs [1, 2] = false := by decide
/-- R160: a reserved source, and R158: 64 channels in and out, are refused. -/
theorem test_stem_layer_bad : ({ stemExample with bytes := leBytes 4 3 ++ stemExample.bytes.drop 4 } : StemLayer).ok = false ∧
    ({ stemExample with bytes := stemExample.bytes.take 4 ++ leBytes 4 (64 + 64 * 128) ++ stemExample.bytes.drop 8 } : StemLayer).ok = false := by decide
/-- R108: padding across a line of 8 columns: none, replicate, mirror. -/
theorem test_padding : padCol 0 8 (-1) = none ∧ padCol 1 8 9 = some 7 ∧ padCol 2 8 (-2) = some 2 ∧ padCol 2 8 8 = some 6 ∧ padCol 0 8 3 = some 3 := by decide

/-- Channel 1 in ×4 with its last edge in sample `e` at count `c` and velocity `v`; its soft limits lie far off. -/
def beltDie (c : Int) (e : Nat) (v : Int) : DieState :=
  { State.reset.a with
    regs := tset (tset (tset (tset State.reset.a.regs (rPOS_CFG + 4) 1) (rPOS_LIMIT_HI_LO + 8) 0x7FFFFFFF)
      (rPOS_LIMIT_LO_LO + 8) 0x80000000) (rPOS_LIMIT_LO_LO + 12) 0xFFFFFFFF
    pos := { State.reset.a.pos with chans := [(1, { (default : Chan) with count := c, e := e, v := v })] } }

/-- spec/12, the example's tag of boundary b and its mark capture: 2,000,020 + 112/256 and + 184/256. -/
theorem test_extrapolate : (beltDie 2000020 3005000 1310720).p256 1 3005110 = 256 * 2000020 + 112 ∧
    (beltDie 2000020 3005000 1310720).p256 1 3005180 = 256 * 2000020 + 184 := by decide
/-- spec/12, the clamp of the example's next boundary: 2,000,021 + 255/256. -/
theorem test_extrapolate_clamp : (beltDie 2000021 3005250 1310720).p256 1 3010110 = 256 * 2000021 + 255 := by decide

/-- spec/13: the lead and margin of the example's rule, in 1/256 count. -/
theorem test_lead : ((4000 : Int) * 1966080).fdiv 5120 = 256 * 6000 ∧ ((200 : Int) * 1966080).fdiv 5120 = 256 * 300 := by decide

/-- A START message that arrives at `at_` with COUNT `count`, in 1/16 of a master cycle, with ρ = 1. -/
def startExample (at_ : Nat) (count : Int) : TMsg := ⟨3, 0, 0, [], none, at_, count, 2 ^ 40⟩

/-- spec/16, the START example: what is left to M1 and to M2 when the message arrives names the release instant 1,200,000 of both. -/
theorem test_start_instant : (startExample 1000641 (16 * 199359)).instant = 1200000 ∧ (startExample 1001999 (16 * 198001)).instant = 1200000 := by decide

/-- spec/20, virtual tile 37 on physical tile 21: its byte 0x1_0020 in the debug window at 0x20A9_0020. -/
theorem test_debug_place : place 0x20A90020 = some (.tile (21 * 0x80000 + 0x10020)) := by decide
/-- spec/20, POS_CAP3_INFO at 0x100A_0578. -/
theorem test_capture_place : 0x10000000 + rPOS_CAP_INFO + 32 * 3 = 0x100A0578 := by decide

/-- The events of spec/02's example: three SRAM words and, of one DRAM word, the replay and the read of its second copy (R50). -/
def replayExample : State :=
  [((3100 : Fin 20000), [((4 : Fin 54), Fate.passed)]), (9800, [(40, Fate.recovered)]), (15020, [(17, Fate.passed)]),
   (18000, [(12, Fate.passed)])].foldl (fun s e => match exec (.replayEvent .a e.1 e.2) s with | .next t => t | _ => s) runA

/-- spec/02: 5 events of 64, 400, 400 and 64 and 64 freeze cycles, 992 together, the fifth past the budget of R49. -/
theorem test_replay_example : replayExample.a.seq.frzStep = 992 ∧ replayExample.a.seq.events = 5 ∧
    replayExample.a.flag rSYS_DET_STATUS 0 = true ∧ replayExample.a.rd rSYS_FREEZE_EXCESS = 1 ∧ replayExample.b.seq = runA.b.seq := by decide

/-! ### The statements' hypotheses, met -/

/-! ### StepTakesTheFrontCommand -/

/-- A state with a command in front. -/
theorem test_front : ({ State.reset with pending := [.ptpDelayReq] } : State).pending = .ptpDelayReq :: [] := by decide

/-! ### IdleOnEmptyQueue -/

theorem test_idle : State.reset.pending = [] := by decide

/-! ### InvariantKeptByEveryStep -/

theorem test_inv : MachineInv State.reset := by unfold MachineInv; decide

/-! ### StepBoundaryAdvancesTheStep -/

theorem test_wit_boundary : (runA.dieOf .a).stepping = true ∧ (runA.dieOf .a).reqs = [] ∧ (State.reset.dieOf .a).stepping = false := by decide

/-! ### ReplayFreezesTheCoreDomain -/

/-- As `runA`, in Paired mode. -/
def runPairA : State := witA fun d => { runA.a with die := d.die, paired := true }

theorem test_wit_replay : (runA.dieOf .a).stepping = true ∧ (runA.dieOf .a).paired = false ∧ (runPairA.dieOf .a).stepping = true ∧
    (runPairA.dieOf .a).paired = true := by decide
theorem test_wit_replay_words : ([((0 : Fin 54), Fate.passed), (34, .passed)] ≠ []) ∧ ∀ x ∈ [((0 : Fin 54), Fate.passed), (34, .passed)], x.2 = .passed := by
  decide

/-! ### FifthFreezeIsExcess -/

theorem test_wit_excess : ((witA fun _ => { runPairA.a with seq := { runPairA.a.seq with events := 4 } }).dieOf .a).seq.events = 4 ∧
    (runPairA.dieOf .a).seq.excess = false ∧ (runPairA.dieOf .a).seq.events < 4 := by decide

/-! ### StepZeroReleased -/

/-- Die A at the start barrier, with a release instant. -/
def armedA : State :=
  { witA (fun d => { d with dev := .armed, held := none, line := true }) with mod := { (default : ModState) with grp := { (default : SyncGroup) with release := some 7 } } }

theorem test_wit_release : armedA.mod.grp.release = some 7 ∧ armedA.a.atBarrier = true ∧ armedA.a.rejoin = false ∧ armedA.a.reqs = [] ∧
    armedA.b.atBarrier = false ∧ State.reset.mod.grp.release = none := by decide

/-! ### ExternalDataArrives -/

/-- A Checker message for part 7 of lane 3, tagged or not, arrived or not. -/
def witItem (tag arr : Option Nat) : Item := ⟨tag, arr, .checker ⟨true, 3, 7, 1⟩⟩

theorem test_wit_arrival : ({ runA.a with items := [witItem none (some 1)] ++ witItem none none :: [] } : DieState).stepping = true ∧
    (witItem none none).arrival = none ∧ witItem none none ∉ [witItem none (some 1)] ∧ (witItem none none).body.lineState = false ∧
    (([witItem none (some 1)].filter (fun y => y.arrival.isNone)).length = (0 : Fin 256).val) ∧ runA.a.seq.step = 5 ∧
    (witItem (some 3) none).tag = some 3 ∧ 3 + 1 < runA.a.seq.step ∧ State.reset.a.stepping = false := by decide

/-! ### StepTagAdmittedTwoStepsLater -/

/-- A step tag of step 3. -/
def tag3 : StepTag := { (default : StepTag) with step := 3, time := 99 }

theorem test_wit_tag : ({ runA.a with pos := { runA.a.pos with tags := [tag3] } } : DieState).pos.tags.find? (fun y => y.step + 2 == 5) = some tag3 := by
  decide

/-! ### LatchPairsAndInputFramesAdmitted -/

/-- A latch pair of unit 2, step 3. -/
def latch3 : Latch := { (default : Latch) with unit := 2, step := 3 }

theorem test_wit_latch : runA.a.stepping = true ∧ ([latch3].find? (fun y => y.unit == (2 : Fin 8).val && decide (y.step + 2 ≤ runA.a.seq.step)) = some latch3) ∧
    runA.a.die = .a ∧ ([(3, 5, 6)].find? (fun (f : Nat × Nat × Nat) => f.1 + 2 == runA.a.seq.step) = some (runA.a.seq.step - 2, 5, 6)) := by decide

/-! ### CheckerMessages -/

/-- A closed part, number 7 of lane 3, without a verdict. -/
def part7 : Part := { (default : Part) with lane := 3, num := 7, seq := 9, kind := .slotted, held := true, closedAt := some 1 }

theorem test_wit_checker : (true && [part7].any (fun p => p.lane == (3 : BitVec 16).toNat && p.num == (7 : BitVec 32).toNat && p.tap)) = false ∧ part7.noCheck = false ∧
    (true && [{ part7 with tap := true }].any (fun p => p.lane == (3 : BitVec 16).toNat && p.num == (7 : BitVec 32).toNat && p.tap)) = true := by decide
theorem test_wit_checker_admit : runA.a.stepping = true ∧ 3 + 2 ≤ runA.a.seq.step ∧
    [part7].find? (fun p => p.lane == 3 && p.num == 7 && p.kind != .tail) = some part7 ∧ part7.final = none ∧ part7.outs = [] ∧ part7.checker = none ∧
    part7.closedAt.isSome = true ∧ ([] : List Part).find? (fun p => p.lane == 3 && p.num == 7 && p.kind != .tail) = none := by decide

/-! ### LineAdmission -/

/-- A fused line of group 2 that arrived in step 3. -/
def fline3 : FLine := { (default : FLine) with group := 2, k := 8, arrival := 3 }

theorem test_wit_line : [fline3].find? (fun l => l.group == (2 : Fin 8).val && decide (l.arrival + 2 ≤ runA.a.seq.step)) = some fline3 ∧
    fline3.k < 2 ^ 64 ∧ fline3.k ≠ (9 : BitVec 64).toNat ∧ runA.a.stripeOf 2 = none ∧ ([] : List FLine).find? (fun l => l.group == (2 : Fin 8).val && decide (l.arrival + 2 ≤ runA.a.seq.step)) = none := by decide

/-! ### RunOpensAPart -/

/-- A die with lane 3 working and nothing open. -/
def laneDie : DieState := ({ runA.a with ptk := { runA.a.ptk with cfg := [(3, { (default : LaneCfg) with corruptMax := 5 })] } } : DieState).setFld (rPTK_LANE + 12) 2 0 1

theorem test_wit_opens : laneDie.laneState 3 = 1 ∧ (∀ p ∈ laneDie.attaching 3, p.touches 4 9 = false) ∧ laneDie.descriptors < 8192 ∧
    (∀ p ∈ laneDie.ptk.parts, p.seq < laneDie.ptk.seq) := by decide

/-! ### PartsCloseAndBecomeUnadmitted -/

theorem test_wit_close : runA.a.stepping = true ∧ State.reset.a.stepping = false ∧ { part7 with isOpen := true, closing := true }.closing = true ∧
    { part7 with kind := .waiting, queued := 0 }.queued + 4 < runA.a.seq.step := by decide

/-! ### RetirementAndVerdicts -/

theorem test_wit_retire : ({ runA.a with ptk := { runA.a.ptk with parts := [{ part7 with readyAt := some 4 }] } } : DieState).readyParts false =
    [{ part7 with readyAt := some 4 }] ∧ runA.a.ptk.retiredNow < 16 ∧ 16 ≤ ({ runA.a with ptk := { runA.a.ptk with retiredNow := 16 } } : DieState).ptk.retiredNow := by
  decide
theorem test_wit_assembled : { part7 with batchAt := some 2 }.batchAt = some 2 ∧ part7.retired = none ∧
    2 + (runA.a.lane part7.lane).asmLatency ≤ runA.a.seq.step := by decide

/-! ### ComparatorDecidesParts -/

/-- A part due for its decision, the Checker's class `c`. -/
def duePart (c : Option Nat) : Part := { part7 with retired := some 1, primary := some none, checker := c }

/-- Die A with that part alone. -/
def dueDie (c : Option Nat) : DieState := { runA.a with ptk := { runA.a.ptk with parts := [duePart c] } }

theorem test_wit_decide : (dueDie (some 0)).dueParts = [duePart (some 0)] ∧ (dueDie none).dueParts = [duePart none] ∧
    (duePart (some 0)).checker = some ((dueDie (some 0)).expects ((duePart (some 0)).primary.getD none)) ∧ (duePart none).checker = none ∧ (duePart none).noCheck = false ∧ (duePart (some 0)).kind ≠ .tail ∧
    (duePart (some 0)).outs = [] := by decide

/-! ### HaloRows -/

/-- A striped lane with halos of 2 columns. -/
def stripedDie : DieState := { runA.a with ptk := { runA.a.ptk with cfg := [(3, { (default : LaneCfg) with striped := true, haloL := 2, haloR := 2 })] } }

theorem test_wit_halo : (stripedDie.lane 3).striped = true ∧ 2 = (if true then (stripedDie.lane 3).haloL else (stripedDie.lane 3).haloR) ∧
    5 ≠ (if true then (stripedDie.lane 3).haloL else (stripedDie.lane 3).haloR) ∧ ((stripedDie.laneDyn 3).halos.filter (fun h => h.left == true)).length < 16 ∧
    stripedDie.stepping = true := by decide
theorem test_wit_halo_old : [(⟨true, 5, 1, []⟩ : Halo)].find? (fun h => h.left == true && decide (h.step + 8 ≤ 9)) = some ⟨true, 5, 1, []⟩ := by decide

/-! ### NibCommitsArmsAndExecutes -/

/-- An event of rule 0 at T256 = 0, in state `k`. -/
def witEvent (k : EvState) : NibEvent :=
  { (default : NibEvent) with lane := 3, part := 7, pseq := 9, rule := 0, state := k, final := some (1, 4), f256 := if k = .fire then 1000 else 0 }

/-- Die A in step 5 with that event, a rule for output 6, and a tag whose entry is valid. -/
def nibDie (k : EvState) (act : Nat) (fire : Bool) : DieState :=
  { runA.a with
    pos := { runA.a.pos with last := some { tag3 with ents := [(0, { (default : TagEnt) with valid := true })] } }
    nib := { runA.a.nib with events := [witEvent k], rules := [{ (default : Rule) with target := 6, action := act }] }
    ptk := { runA.a.ptk with cfg := [(3, { (default : LaneCfg) with rejectMask := if fire then 16 else 0 })] } }

theorem test_wit_evaluate : (nibDie .pending 0 true).nib.events = [witEvent .pending] ∧ (witEvent .pending).final = some (1, 4) ∧ tag3.step + 2 = (nibDie .pending 0 true).seq.step ∧
    ((nibDie .pending 0 true).rule 0).remote = false ∧ (nibDie .pending 0 true).laneChan 3 = 0 ∧
    (nibDie .pending 0 true).fires ((nibDie .pending 0 true).rule 0) 3 1 4 = true ∧
    (nibDie .pending 0 false).fires ((nibDie .pending 0 false).rule 0) 3 1 4 = false := by decide
theorem test_wit_arm : (nibDie .fire 0 true).event? 3 7 0 = some (witEvent .fire) ∧ (nibDie .fire 0 true).p256 ((nibDie .fire 0 true).laneChan 3) 0 < (witEvent .fire).f256 := by
  decide
theorem test_wit_execute : (nibDie .armed 2 true).event? 3 7 0 = some (witEvent .armed) ∧ (nibDie .armed 2 true).ripe (witEvent .armed) 0 = true ∧
    (witA fun _ => nibDie .armed 2 true).whole.owner 6 = .a ∧ State.reset.mod.field.out 6 = default := by decide

/-! ### OutputsFollowTheirPulses -/

/-- The module with output 6 as given. -/
def witOut (o : OutSt) : State := { State.reset with mod := { State.reset.mod with field := { State.reset.mod.field with outs := [(6, o)] } } }

theorem test_wit_pulse : ((witOut { (default : OutSt) with level := true, pend := some 900 }).mod.field.out 6).pend = some 900 ∧
    ((witOut { (default : OutSt) with delayed := some (900, [(2, 50)]) }).mod.field.out 6).delayed = some (900, [(2, 50)]) := by decide
theorem test_wit_pwm : ((witOut { (default : OutSt) with level := true, rise := some 5 }).mod.field.out 6).rise = some 5 ∧
    4 ≤ (({ witOut { (default : OutSt) with level := true, rise := some 5 } with a := State.reset.a.setFld (rFIO_OUT_CFG + 24) 15 12 8 } : State).dieOf .a).fld
      (rFIO_OUT_CFG + 4 * 6) 15 12 ∧ ({ witOut default with a := State.reset.a.setFld (rFIO_OUT_CFG + 24) 15 12 8 } : State).whole.owner 6 = .a := by decide

/-! ### CommandPortsAndTakeover -/

theorem test_wit_ports : State.reset.mod.field.deadA = false ∧ State.reset.whole.ownsAny .a = true ∧ State.reset.whole.owner 6 = .a ∧
    ({ State.reset with a := State.reset.a.setFld (rNIB_OUT_CFG + 24) 3 2 2 } : State).whole.safeAction 6 = 2 ∧
    ({ State.reset with a := State.reset.a.setFld (rNIB_OUT_CFG + 24) 3 2 1 } : State).whole.safeAction 6 = 1 ∧ State.reset.mod.field.taken = false := by decide
/-- A pair whose die A has been declared FAILED, after RELEASE. -/
def witPair : State :=
  { State.reset with
    a := { State.reset.a with paired := true }
    b := ({ State.reset.b with paired := true } : DieState).setFld rTWL_PEER 1 0 2
    mod := { State.reset.mod with field := { State.reset.mod.field with relSent := true, release := some 3 } } }

theorem test_wit_takeover : witPair.whole.paired = true ∧ witPair.mod.field.taken = false ∧ witPair.b.fld rTWL_PEER 1 0 = 2 ∧
    witPair.mod.field.relSent = true ∧ witPair.mod.field.release = some 3 ∧ witPair.b.dev ≠ .safe ∧
    ({ witPair with b := ({ witPair.b with dev := .safe } : DieState).setFld (rNIB_OUT_CFG + 24) 3 2 2 } : State).b.fld (rNIB_OUT_CFG + 4 * 6) 3 2 = 2 ∧
    State.reset.mod.field.relSent = false := by decide

/-! ### OutputDiagnostics -/

theorem test_wit_diag : ({ State.reset with a := State.reset.a.setFlag (rFIO_OUT_CFG + 24) 0 true } : State).a.flag (rFIO_OUT_CFG + 4 * (6 : Fin 64).val) 0 = true ∧
    (State.reset.mod.field.out (6 : Fin 64).val).level = false ∧ (State.reset.mod.field.out (6 : Fin 64).val).shut = false ∧
    ((witOut { (default : OutSt) with level := true }).mod.field.out 6).level = true ∧ ((witOut { (default : OutSt) with shut := true }).mod.field.out 6).shut = true ∧
    State.reset.a.fld (rFIO_OUT_CFG + 4 * 6) 23 16 = 0 := by decide

/-! ### InputsAreDebounced -/

theorem test_wit_input : State.reset.a.flag (rFIO_IN_CFG + 4 * (9 : Fin 32).val) 31 = false ∧ inputDie (9 : Fin 32).val = .a ∧
    (State.reset.a.setFlag (rFIO_IN_CFG + 36) 31 true).flag (rFIO_IN_CFG + 4 * 9) 31 = true ∧
    (State.reset.a.setFlag (rFIO_IN_CFG + 36) 31 true).fld (rFIO_IN_CFG + 4 * 9) 15 0 ≤ 2 ∧ (tget State.reset.mod.field.ins 9 default).seen = false ∧
    (tget State.reset.mod.field.ins 9 default).wins + 1 < 2 ∧ ({ (default : InSt) with wins := 1 }).wins + 1 = 2 := by decide

/-! ### EncoderEdgesCount -/

/-- Die A in RUN with channel 2 in mode `m`, four counts a period. -/
def encDie (m : Nat) : DieState := { runA.a with regs := [(rPOS_CFG + 8, m + 16)] }

theorem test_wit_quad : (encDie 1).samples (2 : Fin 8).val = true ∧ (encDie 1).chMode 2 = 1 ∧ (encDie 1).counts 2 = true ∧
    (encDie 1).fld (rPOS_CFG + 4 * 2) 4 3 = 2 ∧ (filterStep ((encDie 1).holdOff 2) 90 true ((encDie 1).chan 2).fa).2.1 = true ∧
    (filterStep ((encDie 1).holdOff 2) 90 false ((encDie 1).chan 2).fb).2.1 = false ∧ (encDie 1).samples 6 = false := by decide
theorem test_wit_pulsedir : (encDie 2).chMode 2 = 2 ∧ (encDie 2).counts 2 = true ∧ (encDie 2).samples 2 = true := by decide

/-! ### IndexLatchesAndChecksDrift -/

/-- Die A with channel 2 in QUAD mode, CPR 100 and tolerance 2, an index latched at 0, at `count`. -/
def idxDie (count : Int) : DieState :=
  { runA.a with regs := [(rPOS_CFG + 8, 1), (rPOS_IDX + 8, 2 * 2 ^ 24 + 100)], pos := { runA.a.pos with chans := [(2, { (default : Chan) with count := count, latched := true })] } }

theorem test_wit_index : (idxDie 101).samples (2 : Fin 8).val = true ∧ (idxDie 101).chMode 2 = 1 ∧ (idxDie 101).flag (rPOS_CFG + 4 * 2) 8 = false ∧
    (filterStep ((idxDie 101).holdOff 2) 90 true ((idxDie 101).chan 2).fz).2.1 = true ∧ (idxDie 101).fld (rPOS_IDX + 4 * 2) 23 0 = 100 ∧
    (idxDie 101).fld (rPOS_IDX + 4 * 2) 31 24 = 2 ∧ ((idxDie 101).chan 2).latched = true ∧ ((idxDie 150).chan 2).count = 150 := by decide

/-! ### SsiFrames -/

/-- Die A with channel 2 in SSI mode, 10 data bits, parity `p`, a frame begun in sample 40. -/
def ssiDie (p : Nat) : DieState :=
  { runA.a with regs := [(rPOS_CFG + 8, 3), (rPOS_SSI + 8, 10 * 2 ^ 11 + p * 2 ^ 18)], pos := { runA.a.pos with chans := [(2, { (default : Chan) with start := some 40 })] } }

theorem test_wit_ssi : (ssiDie 1).samples (2 : Fin 8).val = true ∧ (ssiDie 1).chMode 2 = 3 ∧ ((ssiDie 1).chan 2).start = some 40 ∧
    (ssiDie 1).fld (rPOS_SSI + 4 * 2) 19 18 = 1 ∧ (ones ((ssiDie 1).fld (rPOS_SSI + 4 * 2) 16 11) ((7 : BitVec 48).toNat % 2 ^ ((ssiDie 1).fld (rPOS_SSI + 4 * 2) 16 11)) + b2n false) % 2 = 1 ∧
    (ssiDie 0).fld (rPOS_SSI + 4 * 2) 19 18 = 0 ∧ (ssiDie 0).flag (rPOS_SSI + 4 * 2) 17 = false ∧ (ssiDie 0).flag (rPOS_CFG + 4 * 2) 7 = false ∧
    (ssiDie 0).fld (rPOS_SSI + 4 * 2) 19 18 ≠ 1 ∧ ((ssiDie 0).chan 2).u = none ∧ (ssiDie 0).counts 2 = true ∧ 4 * 250 * (ssiDie 0).ssiPeriod 2 < (5 : BitVec 64).toNat - ((ssiDie 0).chan 2).goodAt := by decide

/-! ### CapturesAndEmulatedOutput -/

theorem test_wit_swcap : State.reset.a.stepping = false ∧ ({ State.reset.a with regs := [(rPOS_CAP_CFG + 4, 3 * 16)] } : DieState).capSrc (1 : Fin 8).val = 3 ∧
    tget? State.reset.a.pos.capStep 1 ≠ some State.reset.a.seq.step ∧ State.reset.a.samples (2 : Fin 8).val = true ∧ State.reset.a.paired = false ∧
    runA.a.stepping = true ∧ runA.a.paired = false ∧ runA.b.paired = false := by decide
/-- Die A with its emulated output on, ratio 1 to 1, the source at count 3. -/
def emuDie : DieState :=
  { runA.a with regs := [(rPOS_CFG, 1), (rPOS_EMU_CFG, 1), (rPOS_EMU_RATIO, 65537)], pos := { runA.a.pos with chans := [(0, { (default : Chan) with count := 3 })] } }

theorem test_wit_emu : emuDie.emuOn = true ∧ (emuDie.emuTrack (9 : BitVec 64).toNat).pos.emu.due ≠ [] ∧ emuDie.pos.emu.last = none ∧
    ({ emuDie.pos.emu with z := some 7 }).z = some 7 := by decide

/-! ### CameraLinesReceived -/

/-- Die A with port 1 in RUN, WIDTH 2, and the working state given. -/
def portDie (x : Port) : DieState :=
  { runA.a with regs := [(rCXP_PORT + 4, 2 ^ 31 + 3), (rCXP_PORT_STAT + 4, 2), (rCXP_LINE + 4, 2)], cxp := { runA.a.cxp with ports := [(1, x)], driving := true } }

theorem test_wit_trigger : ((portDie { (default : Port) with waiting := some (4, 90) }).port (1 : Fin 8).val).waiting = some (4, 90) ∧
    (portDie default).chMode ((portDie default).chanOf ((portDie default).fld (rRGN_GRP + 4 * (portDie default).groupOf 1) 26 24)) ≠ 3 ∧
    ((portDie { (default : Port) with waiting := some (4, 90), lastPkt := some 100 }).port 1).lastPkt = some 100 ∧
    max State.reset.now ((portDie default).sampleAt (3 : BitVec 64).toNat) < 100 + (portDie default).spacing 1 := by decide
theorem test_wit_receive : (portDie { (default : Port) with open_ := [⟨4, 5, true⟩] }).portState (1 : Fin 8).val = 2 ∧
    ((portDie { (default : Port) with open_ := [⟨4, 5, true⟩] }).port 1).open_ = [⟨4, 5, true⟩] ∧ (portDie default).paired = false ∧
    [(1 : BitVec 16), 2, 3, 4, 5, 6].length = (portDie default).width 1 * samplesOf ((portDie default).fld (rCXP_PORT + 4 * 1) 2 0) ((portDie default).img 1).sens ∧
    ((portDie default).port 1).truncs = [] ∧ ((portDie default).port 1).open_ = [] ∧ (portDie default).portOn 1 = true ∧ (portDie default).ink.queue.length < 240 := by
  decide

/-! ### PortStates -/

theorem test_wit_timeout : (portDie { (default : Port) with open_ := [⟨4, 5, true⟩] }).stepping = true ∧ 5 + (portDie default).fld (rCXP_LINE + 4 * (1 : Fin 8).val) 22 16 ≤
    (portDie default).seq.step ∧ (portDie { (default : Port) with downReq := true }).seq.cycle = 0 ∧ (portDie default).portOn 1 = true ∧ (portDie default).fld (rCXP_PORT + 4 * 1) 21 16 < 32 := by decide
/-- As `portDie`, the port in LINK_DOWN, its group's frames of 4 lines from k0 = 0. -/
def downDie (x : Port) : DieState :=
  { portDie x with
    regs := [(rCXP_PORT + 4, 2 ^ 31), (rCXP_PORT_STAT + 4, 3), (rCXP_LINE + 4, 64)]
    cxp := { (portDie x).cxp with groups := [(0, { (default : Group) with k0 := some 0 })] }
    ipp := { (portDie x).ipp with grps := [(0, { (default : GroupOut) with frameLines := 4 })] } }

theorem test_wit_discovery : (downDie default).portState (1 : Fin 8).val = 3 ∧ (downDie default).portOn 1 = true ∧ (downDie default).stepping = true ∧ (downDie default).camOk 1 = true ∧ { downDie default with dev := .linkTrain }.dev = .linkTrain ∧
    (0 : BitVec 256).toNat = (tget (downDie default).cxp.cams 1 default).model ∧
    ([] : List (BitVec 32)).map (·.toNat) = (tget (downDie default).cxp.cams 1 default).sets.map (·.2) := by decide
theorem test_wit_return : ((downDie { (default : Port) with rediscovered := true, nextK := 8 }).port (1 : Fin 8).val).rediscovered = true ∧
    (downDie { (default : Port) with rediscovered := true, nextK := 8 }).frameStart ((downDie default).groupOf 1) 8 = true ∧
    (downDie { (default : Port) with rediscovered := true, nextK := 8 }).draining 1 = false ∧ runA.a.ingest (3 : Fin 32).val = true := by decide

/-! ### LinesAreRegistered -/

/-- Die A with port 1 in RUN in group 0, its delay store of 4 entries, the Line Slot Table with `n` entries of group 0, the working states given. -/
def regDie (x : Port) (y : Group) (n : Nat) : DieState :=
  { runA.a with
    regs := [(rCXP_PORT + 4, 2 ^ 31), (rCXP_PORT_STAT + 4, 2), (rRGN_GRP, 2 ^ 31 + 2 * 2 ^ 16), (rRGN_DEPTH + 4, 4)]
    cxp := { runA.a.cxp with ports := [(1, x)], groups := [(0, y)] }
    ipp := { runA.a.ipp with lst := List.replicate n (0, 0) } }

/-- A held line, k = 8. -/
def held8 : HeldLine := { (default : HeldLine) with k := 8 }

theorem test_wit_store : ((regDie { (default : Port) with fifo := [held8] } default 0).port (1 : Fin 8).val).fifo = held8 :: [] ∧
    held8.k < ((regDie default { (default : Group) with nextReg := 9 } 0).group 0).nextReg ∧
    (regDie { (default : Port) with fifo := [held8] } default 0).storeUsed 1 < (regDie default default 0).fld (rRGN_DEPTH + 4 * 1) 11 0 := by decide
theorem test_wit_register : (regDie { (default : Port) with store := [held8] } { (default : Group) with k0 := some 0, nextReg := 8 } 0).groupPorts (0 : Fin 8).val = [1] ∧
    (regDie { (default : Port) with store := [held8] } { (default : Group) with k0 := some 0, nextReg := 8 } 0).awaited 1 8 = true ∧
    (regDie default default 0).stripeOf 0 = none ∧ (regDie default default 0).twl.outbox = [] ∧
    (tget? ((regDie { (default : Port) with fired := [(8, (1, default))] } default 0).port 1).fired 8).isSome = true ∧
    (regDie { (default : Port) with fired := [(8, (1, default))] } default 0).lastTrig 0 8 + (regDie default default 0).fld (rRGN_GRP + 4 * 0) 6 0 ≤ 5 := by decide
theorem test_wit_cross : ((regDie default { (default : Group) with regd := [default] } 1).group (0 : Fin 8).val).regd = default :: [] ∧
    (regDie default default 1).slotsOf 0 = 1 ∧ (regDie default default 0).slotsOf 0 ≤ 0 ∧ (regDie default default 0).paired = false ∧
    [(⟨0, 0, 4, []⟩ : LineDec)].find? (fun y => y.group == 0 && y.k == (default : FLine).k) = some ⟨0, 0, 4, []⟩ := by decide
/-- As `regDie`, the lane of port 1 striped. -/
def missDie : DieState :=
  { regDie { (default : Port) with fired := [(8, (1, default))] } { (default : Group) with k0 := some 0, nextReg := 8 } 1 with
    ptk := { runA.a.ptk with cfg := [(3, { (default : LaneCfg) with striped := true, ports := 2, stripeHold := 2 })] } }

theorem test_wit_miss : missDie.stripeOf (0 : Fin 8).val = some (3, { (default : LaneCfg) with striped := true, ports := 2, stripeHold := 2 }) ∧
    missDie.groupPorts 0 ≠ [] ∧ missDie.lastTrig 0 8 + 2 ≤ missDie.seq.step ∧ (missDie.group 0).k0.isSome = true ∧ missDie.stepping = true := by decide

/-! ### LinesAreServedAndExposureSet -/

/-- Die A in RUN with a served entry of group 0, a statistics word owed, a request pending on port 1 and writes outstanding. -/
def ippDie : DieState :=
  { runA.a with
    cxp := { runA.a.cxp with ports := [(1, { (default : Port) with nextK := 1 })] }
    ipp := { runA.a.ipp with
      lst := [(0, 10)], toServe := [(default, [])], fills := [(5, 3, 200, 77)],
      imgs := [(0, { (default : PortImg) with expoAddr := [64] })], exps := [(1, { (default : PortExp) with pend := some ⟨0, 9, [(0, 5)]⟩, unacked := 2 })] } }

/-- A request of tile 0 for port 0: one write, index 0, value 0. -/
def expoXfer (n : BitVec 8) : Xfer := ⟨0, 262, 0, [0, n] ++ List.replicate 62 0, true⟩

theorem test_wit_slot : ippDie.ipp.lst[(0 : Fin 64).val]? = some (0, 10) ∧ ippDie.ipp.toServe.find? (fun l => l.1.group == 0) = some (default, []) ∧
    ippDie.ipp.fills.find? (fun f => decide (f.1 ≤ ippDie.seq.step)) = some (5, 3, 200, 77) ∧ ippDie.wordState (ippDie.ptileOf 3) 200 ≤ 1 ∧
    ippDie.pairDepth 3 200 = none ∧ ippDie.syn.ops = [] ∧ ippDie.stepping = true ∧ (ippDie.out 0).disp = none ∧ (ippDie.out 0).coding = none := by decide
theorem test_wit_frame_end : (downDie default).frameEnd 0 0 = false := by decide
theorem test_wit_exposure : expoWrites (expoXfer 0).data = none ∧ expoWrites (expoXfer 1).data = some [(0, 0)] ∧
    ippDie.ctxOf (ippDie.ptileOf 0) = (ippDie.img 0).expoCtx ∧ (∀ w ∈ [((0 : Nat), (0 : Nat))], w.1 < (ippDie.img 0).expoAddr.length) ∧ (ippDie.expo 0).pend = none ∧
    (ippDie.expo (1 : Fin 8).val).pend = some ⟨0, 9, [(0, 5)]⟩ ∧ (ippDie.group (ippDie.groupOf 1)).k0.getD 0 < (ippDie.port 1).nextK ∧
    ippDie.frameOf (ippDie.groupOf 1) ((ippDie.port 1).nextK - 1) = 0 ∧ (ippDie.expo 1).unacked ≠ 0 := by decide

/-! ### VpuOperations -/

/-- Tile 3 issuing a bundle in cycle 7 of step 5 of die A: the bundle, the slot and the state. -/
def wIssue : Issue := ⟨.a, 3, 7, 0⟩
/-- See `wIssue`. -/
def wSlot : TileSlot := { slot0 with at_ := some 100007, cur := { tile0 with wait := .none } }
/-- Die A with tile 3 in the slot given. -/
def slotA (x : TileSlot) : State := witA fun _ => { runA.a with tar := { runA.a.tar with tiles := [(3, x)] } }
/-- What tile 3 acts in. -/
def wEnv (s : State) : TEnv := DM.tenv ⟨(s.here .a).toCycle 7, s.mem, []⟩ 3 100007

theorem test_wit_begun : (slotA wSlot).acts wIssue (wEnv (slotA wSlot)) := ⟨by decide, rfl⟩
/-- A tile that is ready to issue its first bundle in that cycle, its program of 1 KiB at 0. -/
def readySlot : TileSlot := { slot0 with cur := { tile0 with ready := 100007, regions := { (default : Regions) with prog := (0, 1) } } }
theorem test_wit_begin_ready : (slotA readySlot).a.slotOf 3 = readySlot ∧ readySlot.at_ ≠ some 100007 ∧
    (match (wEnv (slotA readySlot)).begin 0 with | .ready e => e.t.pc == 1 | _ => false) = true := by decide
theorem test_wit_vpu_fields : bits 11 0 (0#27).toNat = 0 ∧ bits 11 0 (1#27).toNat = 1 ∧ bits 11 3 (0#27).toNat = 0 ∧ bits 11 1 (2#27).toNat ≠ 0 ∧
    bits 11 6 (64#27).toNat ≠ 0 ∧ bits 11 3 (8#27).toNat ≠ 0 ∧ (bits 1 0 (0#27).toNat < 2 → bits 2 2 (0#27).toNat = 0) := by decide
set_option maxRecDepth 4000 in
theorem test_wit_cvt_clamps : (cvtLane 9 0x0A 0x7F000000).2 = true ∧ ((wEnv (slotA { wSlot with cur := { wSlot.cur with v := [(0, [(0, 0x7F000000)])] } })).t.lane 0 0) = 0x7F000000 := by
  decide

/-! ### ControlSlotOperations -/

theorem test_wit_control_fields : bits 18 14 (5#19).toNat = 0 ∧ bits 13 0 (5#19).toNat ≠ 0 ∧ bits 13 0 (0#19).toNat = 0 ∧ wSlot.pre.loops.length < 4 ∧
    bits 18 15 (5#19).toNat = 0 ∧ bits 18 16 (5#19).toNat = 0 ∧ bits 15 0 (5#19).toNat ≠ 0 ∧ bits 18 17 (5#19).toNat ≤ 1 ∧ bits 16 16 (5#19).toNat = 0 ∧ bits 18 6 (5#19).toNat = 0 := by
  decide
/-- The slot of a tile inside four loops. -/
def loopSlot : TileSlot := { wSlot with pre := { wSlot.pre with loops := List.replicate 4 ⟨0, 0, 0⟩ } }
theorem test_wit_loop : (slotA loopSlot).acts wIssue (wEnv (slotA loopSlot)) ∧ 4 ≤ (wEnv (slotA loopSlot)).slot.pre.loops.length := ⟨⟨by decide, rfl⟩, by decide⟩
/-- A waiting tile with a Stroke open since the start of step 2. -/
def strokeSlot : TileSlot := { wSlot with cur := { tile0 with wait := .timer, ready := 100050, stroke := some 40000 } }
theorem test_wit_expiry : ((slotA strokeSlot).a.slotOf (3 : Fin 272).val).cur.wait = .timer ∧ ((slotA strokeSlot).a.slotOf 3).cur.ready < ((slotA strokeSlot).a.seq.step + 1) * 20000 ∧
    ((slotA strokeSlot).a.slotOf 3).cur.stroke = some 40000 ∧ ((slotA strokeSlot).a.slotOf 3).cur.stat = .running ∧
    40000 + 64000 < ((slotA strokeSlot).a.seq.step + 1) * 20000 ∧ (slotA strokeSlot).a.stepping = true := by decide

/-! ### MacOperations -/

/-- A tile that issues with SRAM of 64 KiB in region ACT, its array idle. -/
def actSlot : TileSlot := { wSlot with cur := { wSlot.cur with regions := { (default : Regions) with act := (0, 64) } } }
/-- What it acts in. -/
def actEnv : TEnv := wEnv (slotA actSlot)
/-- Whether something is not a fault. -/
def isOk {A : Type} (r : Except Nat A) : Bool := match r with | .ok _ => true | .error _ => false

theorem test_wit_act : (slotA actSlot).acts wIssue actEnv := ⟨by decide, rfl⟩
theorem test_wit_act_idle : actEnv.t.macBusy ≤ (slotA actSlot).cycleOf wIssue ∧ actEnv.t.wldBusy ≤ 100007 ∧ Memory.wf (slotA actSlot).mem = true ∧ actEnv.t.jobs = [] := by decide
/-- The same tile with its array and its loader busy. -/
def busySlot : TileSlot := { wSlot with cur := { wSlot.cur with macBusy := 100008, wldBusy := 100008 } }
theorem test_wit_busy : (slotA busySlot).acts wIssue (wEnv (slotA busySlot)) := ⟨by decide, rfl⟩
theorem test_wit_busy_now : (slotA busySlot).cycleOf wIssue < (wEnv (slotA busySlot)).t.macBusy ∧ 100007 < (wEnv (slotA busySlot)).t.wldBusy := by decide
/-- `actEnv` with the array busy for `n` cycles. -/
def actBusy (n : Nat) : TEnv := actEnv.withT { actEnv.t with macBusy := 100007 + n }
theorem test_wit_mac_reads : isOk ((actEnv.withT { actEnv.t with wldBusy := 100007 + 32 + 0 }).reserve .wld 100007 0 32) = true ∧
    isOk (actEnv.read .mask 100007 0 32) = true ∧ isOk ((actBusy 8).reserve .wpar 100007 0 8) = true ∧
    isOk ((actBusy 8).reserve .bias 100007 0 8) = true ∧ wldLines (bits 26 21 (0#27).toNat) = some (32, 0) := by decide
theorem test_wit_mac_states : isOk ((actBusy 16).reserve .amerge 100007 0 (stateLines (tget actEnv.t.rows 0 default).kind)) = true ∧
    isOk ((actBusy 16).reserve .asave 100007 0 (stateLines (tget actEnv.t.rows 0 default).kind)) = true ∧
    actEnv.t.enabled 0 = true ∧ tile0.enabled 40 = false := by decide
/-- A descriptor of one line at 0. -/
def wWag : Wag := { (default : Wag) with h := 1, w := 1, kh := 1, kw := 1, sy := 1, sx := 1, dy := 1, dx := 1, nOx := 1, nOy := 1, nCb := 1, nG := 1, order := [0, 1, 2, 3, 4, 5] }
/-- A tile whose generators A, V and S stand at the first tuple of `wWag`. -/
def genSlot : TileSlot := { actSlot with cur := { actSlot.cur with genA := ⟨some wWag, 0⟩, genV := ⟨some wWag, 0⟩, genS := ⟨some wWag, 0⟩ } }
/-- What it acts in. -/
def genEnv : TEnv := wEnv (slotA genSlot)
theorem test_wit_mma : macKind 0 0 = some .int ∧ isOk (mmaRow 0 0 .int true 0 100007 (genEnv.withT { genEnv.t with macBusy := 100007 + (0 + 1) })) = true ∧
    isOk (genEnv.operandA 0 100007) = true := by decide
theorem test_wit_wb : wbFormat 0 = true ∧ isOk ((genEnv.job (.wb 0) 1 0 0).act genEnv) = true ∧ isMx 0 = false := by decide

/-! ### LoadStoreAndNetworkOperations -/

set_option maxRecDepth 8000 in
theorem test_wit_wag : isOk (actEnv.readLines .wcfg 100007 0 2) = true ∧ isOk (actEnv.read .vld 100007 0 256) = true ∧
    isOk (actEnv.write .vst 100007 0 (actEnv.t.laneBytes 0 0 64)) = true ∧
    isOk (actEnv.read .send 100007 0 64) = true ∧ isOk (actEnv.read .mcmd 100007 0 32) = true ∧
    actEnv.t.wagBusy ≤ 100007 ∧ (100007 : Nat) % 20000 % 16 ≠ 15 := by decide
set_option maxRecDepth 4000 in
theorem test_wit_wag_none : (wagOf (memRead actEnv.mem (sramBase .a 3) 64)).isNone = true := by decide
theorem test_wit_stream_none : (streamOf (memRead actEnv.mem (sramBase .a 3) 32)).isNone = true := by decide
/-- Words of four little-endian bytes. -/
def words4 (l : List Nat) : List Byte := l.flatMap (leBytes 4)
/-- As `slotA`, with bytes at the tile's address 0. -/
def slotMem (x : TileSlot) (bs : List Byte) : State := { slotA x with mem := memApply [] (cellsAt (sramBase .a 3) bs) }
/-- A tile that acts with a descriptor, and one with a memory command, at its address 0. -/
def wagState : State := slotMem actSlot (words4 [0, 0, 0, 0, 0, 0x00111111, 0, 0, 0, 0x2C688])
def cmdState : State := slotMem actSlot (words4 [5, 64, 2])
theorem test_wit_descriptor : (wagOf (memRead (wEnv wagState).mem (sramBase .a 3) 64)).isSome = true ∧ isOk ((wEnv wagState).readLines .wcfg 100007 0 2) = true := by decide
theorem test_wit_stream : (streamOf (memRead (wEnv cmdState).mem (sramBase .a 3) 32)).isSome = true ∧ isOk ((wEnv cmdState).read .mcmd 100007 0 32) = true := by decide
theorem test_wit_wag_acts : wagState.acts wIssue (wEnv wagState) ∧ cmdState.acts wIssue (wEnv cmdState) ∧ (slotA genSlot).acts wIssue genEnv :=
  ⟨⟨by decide, rfl⟩, ⟨by decide, rfl⟩, ⟨by decide, rfl⟩⟩
/-- A tile with its load/store slot busy. -/
def wagBusySlot : TileSlot := { wSlot with cur := { wSlot.cur with wagBusy := 100008 } }
theorem test_wit_wag_busy : (slotA wagBusySlot).acts wIssue (wEnv (slotA wagBusySlot)) ∧ 100007 < (wEnv (slotA wagBusySlot)).t.wagBusy := ⟨⟨by decide, rfl⟩, by decide⟩
theorem test_wit_generators : isOk genEnv.t.genV.next = true ∧ isOk genEnv.t.genS.next = true ∧
    isOk (genEnv.read .vldg 100007 0 32) = true ∧ isOk (genEnv.write .vstg 100007 0 (genEnv.t.laneBytes 0 0 8)) = true := by decide
theorem test_wit_padding : (match Gen.next ⟨some { wWag with pt := 1, kh := 1 }, 0⟩ with | .ok (_, _, a) => a.isNone | .error _ => false) = true := by decide
/-- Die A running tile 3, with a transfer due at it, and one at an engine, in cycle 100007; tile 3 is in no bundle of that cycle. -/
def netDie (got : Bool) (x : TileSlot) : State :=
  witA fun _ => { runA.a with tar := { runA.a.tar with tiles := [(3, x)], net := [⟨9, runA.a.vtileOf 3, 100007, List.replicate 64 1, got⟩, ⟨9, 262, 100007, [], false⟩] } }
theorem test_wit_recv_acts : (netDie false actSlot).acts wIssue (wEnv (netDie false actSlot)) := ⟨by decide, rfl⟩
theorem test_wit_recv : (wEnv (netDie false actSlot)).d.tar.net.filter (fun y => y.dst == (netDie false actSlot).a.vtileOf 3 && y.due == 100007) =
      [⟨9, runA.a.vtileOf 3, 100007, List.replicate 64 1, false⟩] ∧
    isOk ((wEnv (netDie false actSlot)).write (.recv false) 100007 0 (List.replicate 64 1)) = true ∧
    actEnv.d.tar.net.filter (fun y => y.dst == actEnv.d.vtileOf 3 && y.due == 100007) = [] := by decide
theorem test_wit_transfer : (netDie false readySlot).a.vtileOf 3 < 256 ∧ (netDie false readySlot).a.ptileOf ((netDie false readySlot).a.vtileOf 3) = 3 ∧
    ((netDie false readySlot).a.slotOf 3).cur.stat = .running ∧ ((netDie false readySlot).a.slotOf 3).at_ ≠ some 100007 ∧
    (∀ y ∈ (netDie true readySlot).a.tar.net.filter (fun y => y.dst == (netDie true readySlot).a.vtileOf 3 && y.due == 100007), y.got = true) := by decide

/-! ### SyncWordsAndResponses -/

/-- Die A with operation `op` of tile 0, context `c`, on word `i` in flight, that word in state `st`; the table maps segment 0 of the context to tile 0 where `m`. -/
def synOf (c op i st : Nat) (m : Bool) : DieState :=
  { runA.a with
    regs := if m then [(rSYN_STT + 4 * (256 * c), 0xC0000000)] else []
    syn := { runA.a.syn with ops := [⟨100000, 0, 0, c, op, i, 9⟩], words := wordsSet [] i st } }
/-- The inspection context that runs. -/
def insp : Nat := runA.a.inspCtx
theorem test_wit_sync : (synOf insp 0 5 0 true).sttCheck insp 5 0 = 0 ∧ (synOf insp 1 5 1 true).sttCheck insp 5 1 = 0 ∧ (synOf insp 2 5 1 true).sttCheck insp 5 2 = 0 ∧
    (synOf insp 0 5 0 false).sttCheck insp 5 0 ≠ 0 ∧ (synOf insp 3 5 0 true).sttCheck insp 5 3 = 0 ∧ (synOf insp 4 5 0 true).sttCheck insp 5 4 = 0 ∧
    (synOf insp 0 5 0 true).pairDepth 0 5 = none ∧ (synOf insp 0 5 2 true).wordState ((synOf insp 0 5 2 true).ptileOf 0) 5 = 2 ∧
    (synOf insp 0 5 1 true).wordState ((synOf insp 0 5 1 true).ptileOf 0) 5 = 1 := by decide
theorem test_wit_sync_due : (synOf insp 0 5 0 true).away 0 insp = false ∧ (synOf insp 0 5 0 true).syn.resps = [] ∧ Memory.wf State.reset.mem = true ∧
    100000 + 16 ≤ (synOf insp 0 5 0 true).seq.step * 20000 + (16 : Fin 20000).val := by decide
theorem test_wit_sync_away : (synOf 2 0 200 0 true).away 0 2 = true ∧ (synOf 2 0 200 0 true).sttCheck 2 200 0 = 0 ∧ (synOf 2 1 200 1 true).sttCheck 2 200 1 = 0 := by decide
/-- As `synOf`, words 4 and 5 a counter pair of depth `n`. -/
def pairSyn (op i n : Nat) : DieState :=
  { synOf insp op i 0 true with syn := { (synOf insp op i 0 true).syn with recs := [{ (default : SyncRec) with set := runA.a.setOf insp, word := 4, depth := n }] } }
theorem test_wit_counter_pair : (pairSyn 0 4 3).sttCheck insp 4 0 = 0 ∧ (pairSyn 0 4 3).pairDepth 0 4 = some 3 ∧ (pairSyn 1 5 3).sttCheck insp 5 1 = 0 ∧ (pairSyn 1 5 3).pairDepth 0 5 = some 3 ∧
    (pairSyn 4 5 3).sttCheck insp 5 4 = 0 ∧ (pairSyn 0 4 0).pairDepth 0 4 = none := by decide
/-- Die A with tile 0 of its inspection context waiting for word `i` to be FULL, its segment mapped. -/
def waitDie (i st : Nat) (rel : Option Nat) (recs : List SyncRec) : DieState :=
  { runA.a with
    regs := [(rSYN_STT + 4 * (256 * runA.a.ctxOf 0), 0x80000000)]
    tar := { runA.a.tar with tiles := [(0, { slot0 with cur := { tile0 with wait := .sync i 1 100040 4 1 false rel } })] }
    syn := { runA.a.syn with words := wordsSet [] i st, recs := recs } }
theorem test_wit_probe : (waitDie 5 1 none []).sttCheck ((waitDie 5 1 none []).ctxOf 0) 5 5 = 0 ∧ (waitDie 5 1 none []).wordState ((waitDie 5 1 none []).ptileOf 0) 5 = 1 ∧
    bits 7 0 ((waitDie 5 1 none []).stt ((waitDie 5 1 none []).ctxOf 0) 5) = 0 ∧ (waitDie 5 2 none []).wordState ((waitDie 5 2 none []).ptileOf 0) 5 = 2 ∧
    (waitDie 5 1 none []).pairDepth 0 5 = none ∧ ((waitDie 5 1 none []).slotOf (0 : Fin 272).val).cur.wait = .sync 5 1 100040 4 1 false none ∧
    100040 < ((waitDie 5 1 none []).seq.step + 1) * 20000 ∧ 4 + 1 ≤ (waitDie 5 1 (some 100001) []).seq.step ∧
    (waitDie 5 1 (some 100001) []).seq.step * 20000 < 100001 ∧ runA.a.sttCheck (runA.a.ctxOf 0) 5 5 ≠ 0 := by decide
theorem test_wit_probe_pair : (waitDie 5 0 none (pairSyn 0 4 3).syn.recs).pairDepth 0 5 = some 3 := by decide

/-! ### BarriersArriveCompleteAndRelease -/

/-- Die A with barrier 4 of context 2 in use, participants 3 and 256 + 1, those of `arr` arrived, `early` early; an arrival of tile 3 is due. -/
def barDie (arr early : List Nat) : DieState :=
  { runA.a with
    regs := [(rSYN_BAR + 16, 2 ^ 13 + 2 * 256), (rSYN_BAR_MASK + 256, 8), (rSYN_BAR_MASK + 256 + 32, 2)]
    tar := { runA.a.tar with tiles := [(3, { slot0 with cur := { tile0 with wait := .bar 4 0 5 1 true false none } }),
      (7, { slot0 with cur := { tile0 with wait := .bar 9 0 5 1 true false (some 100016) } })] }
    syn := { runA.a.syn with bars := [(4, ⟨arr, early, [], none⟩)], arrs := [⟨100020, 4, 3, 3, 2⟩] } }

theorem test_wit_barrier : (barDie [] []).syn.arrs.filter (fun a => a.index == (4 : Fin 64).val && decide (a.reach ≤ 100030 ∧ a.part < 512)) = [⟨100020, 4, 3, 3, 2⟩] ∧
    (barDie [] []).barOwned 4 2 = true ∧ (barDie [] []).barOwned 4 3 = false ∧ (barDie [] []).flag (rSYN_BAR + 16) 15 = false ∧ (barDie [] []).flag (rSYN_BAR + 16) 13 = true ∧
    (barDie [] []).barMask 4 3 = true ∧ (barDie [] []).barMask 4 5 = false ∧
    (barDie [] []).barMask 4 (256 + (1 : Fin 10).val) = true ∧ genPassed (((barDie [] []).barGen 4 + 1) % 65536) 0 = true ∧
    ((barDie [] []).slotOf 3).cur.wait = .bar 4 0 5 1 true false none ∧ ((barDie [] []).bar 4).doneAt = none := by decide
theorem test_wit_barrier_parts : (∃ q ∈ (barDie [] []).barParts 4, q ∉ [] ++ [3]) ∧ (∀ q ∈ (barDie [257] []).barParts 4, q ∈ [257] ++ [3]) := by
  have h : (barDie [] []).barParts 4 = [3, 257] ∧ (barDie [257] []).barParts 4 = [3, 257] := by decide
  rw [h.1, h.2]; decide
/-- As `barDie`, the barrier poisoned. -/
def poisonedDie : DieState := { barDie [] [] with regs := (rSYN_BAR + 16, 2 ^ 15 + 2 ^ 13 + 2 * 256) :: (barDie [] []).regs.drop 1 }
theorem test_wit_barrier_poisoned : poisonedDie.flag (rSYN_BAR + 16) 15 = true ∧ poisonedDie.barOwned 4 2 = true := by decide
theorem test_wit_bwait_release : (∀ r ∈ (barDie [] []).syn.resps, (barDie [] []).ptileOf r.issuer ≠ 7) ∧
    ((barDie [] []).slotOf (7 : Fin 272).val).cur.wait = .bar 9 0 5 1 true false (some 100016) ∧ 100016 < ((barDie [] []).seq.step + 1) * 20000 ∧
    (barDie [] []).ptileOf ((barDie [] []).vtileOf 7) = 7 ∧ (barDie [] []).away ((barDie [] []).vtileOf 7) ((barDie [] []).ctxOf 7) = false := by decide

/-! ### RotationHandsOverTestsAndFences -/

/-- Die A in RUN, in step 5,000, the spare group of both rotations in state `st`, rotation on; the handovers given. -/
def rotDie (st : Nat) (h : Option Handover) : DieState :=
  { runA.a with
    seq := { runA.a.seq with step := 5000 }
    regs := [(Rot.grp false (runA.a.rotOut false), st), (Rot.cfg false, 1), (Rot.dwell false, 1000)]
    tar := { runA.a.tar with rot := { runA.a.tar.rot with hand := h } } }
/-- The same of the Stem. -/
def rotStem (st : Nat) (h : Option Handover) : DieState :=
  { runA.a with
    seq := { runA.a.seq with step := 5000 }
    regs := [(Rot.grp true (runA.a.rotOut true), st), (Rot.cfg true, 1), (Rot.dwell true, 1000)]
    stm := { runA.a.stm with rot := { runA.a.stm.rot with hand := h } } }

theorem test_wit_hand_due : (rotDie 5 none).handDue false = true ∧ (rotDie 5 none).grpState false ((rotDie 5 none).rotOut false) = 5 ∧ (rotDie 5 none).maintBusy = false ∧
    (rotDie 5 none).rotOut false ≤ 16 ∧ (rotStem 5 none).handDue true = true ∧ (rotStem 5 none).grpState true ((rotStem 5 none).rotOut true) = 5 ∧
    (rotStem 5 none).rotOut true ≤ 16 ∧ runA.a.handDue false = false := by decide
theorem test_wit_hand_waits : (rotDie 4 none).handDue false = true ∧ (rotDie 4 none).grpState false ((rotDie 4 none).rotOut false) = 4 ∧ (rotDie 5 none).seq.cycle = 0 := by decide
theorem test_wit_hand_copy_die : (rotDie 5 (some ⟨0, 16, 4997⟩)).jobTiles = [] ∧ (rotDie 5 none).stepping = true ∧ ((rotDie 5 (some ⟨0, 16, 4997⟩)).rot false).mirror = [] ∧
    Memory.wf State.reset.mem = true := by decide
/-- As `rotDie` in a handover, 64 bytes on their way to the incoming group. -/
def copyDie : DieState :=
  { rotDie 5 none with tar := { runA.a.tar with rot := { runA.a.tar.rot with hand := some ⟨0, 16, 4997⟩, copies := [⟨0, 17, sramBase .a 0, List.replicate 64 1, []⟩] } } }
theorem test_wit_hand_copy_due : (copyDie.rot false).copies = [⟨0, 17, sramBase .a 0, List.replicate 64 1, []⟩] ∧ (17 : Nat) ≤ copyDie.seq.step * 20000 + 16 * (7 : Fin 1250).val + 15 := by decide
theorem test_wit_hand_copy : ((rotDie 5 (some ⟨0, 16, 4997⟩)).rot false).hand = some ⟨0, 16, 4997⟩ ∧ copyOffset false (5000 - 4997) (7 : Fin 1250).val = some (1024 * 234 + 448) ∧
    copyOffset true 6 (179 : Fin 1250).val = some (64 * 7679) ∧ copyOffset true 6 180 = none := by decide
theorem test_wit_hand_switch : ((rotStem 5 (some ⟨0, 16, 4992⟩)).rot true).hand = some ⟨0, 16, 4992⟩ ∧ 4992 + 8 ≤ (rotStem 5 none).seq.step ∧
    (rotStem 5 none).groupReady true 0 = true ∧ ((rotStem 5 none).rot true).fencing = none ∧ (rotDie 5 none).groupReady false 0 = true := by decide
theorem test_wit_hand_fence : ({ (rotStem 5 (some ⟨0, 16, 4992⟩)).stm.rot with fencing := some 0 } : Rotation).fencing = some 0 ∧ (rotStem 5 none).seq.cycle = 0 := by decide
theorem test_wit_not_ready : ({ rotDie 5 none with tar := { (rotDie 5 none).tar with tiles := [(2, { slot0 with at_ := some 7, cur := { tile0 with macBusy := 10 ^ 9 } })] } } : DieState).groupReady false 0 = false := by
  decide
theorem test_wit_group_test : (rotDie 4 none).grpState false ((rotDie 4 none).rotOut false) = 4 ∧ (rotStem 4 none).grpState true ((rotStem 4 none).rotOut true) = 4 := by decide
theorem test_wit_interval : (rotDie 5 none).exhausted false = false ∧ (rotDie 5 none).maxAge false ≤ 2 ^ 32 ∧ (rotDie 5 none).stepping = true ∧
    ({ rotDie 5 none with regs := [(Rot.limit false, 100)] } : DieState).rd (Rot.limit false) < (rotDie 5 none).maxAge false ∧
    runA.a.maxAge false ≤ runA.a.rd (Rot.limit false) := by decide
theorem test_wit_fence : (witA fun _ => rotDie 5 none).whole.paired = false ∧ State.reset.a.stepping = false ∧ bit 31 (0x80000011#32).toNat = true ∧ 16 < (0x80000011#32).toNat % 32 ∧
    (0x80000010#32).toNat % 32 = State.reset.a.rotOut false ∧ (State.reset.a.rot false).hand = none ∧ (0x80000010#32).toNat % 32 = State.reset.a.rotOut true ∧
    (0x80000003#32).toNat % 32 ≠ State.reset.a.rotOut true ∧ State.reset.a.exhausted true = false := by decide

/-! ### ContextsSliceStopSwitchAndReset -/

/-- Die A with auxiliary context 0, of one group, in state `st`, P2 of `p` groups, the ready queue `q`, resets `r` due. -/
def ctxDie (st p : Nat) (q r : List Nat) : DieState :=
  { runA.a with
    regs := [(rCTX_PART, p * 65536 + (16 - p)), (auxReg 0, 256 + st), (auxReg 1, 256 * p + 3)]
    ctx := { runA.a.ctx with queue := q, resets := r } }

theorem test_wit_slice : (ctxDie 3 2 [] []).axState (0 : Fin 16).val = 3 ∧ (ctxDie 3 2 [] []).stepping = true ∧ ((ctxDie 3 2 [] []).aux 0).sliceEnd ≤ (ctxDie 3 2 [] []).seq.step ∧
    (ctxDie 3 2 [1] []).ctx.queue ≠ [] ∧ (ctxDie 3 2 [] []).seq.cycle = 0 ∧ (2 + 0) ∉ (ctxDie 4 2 [] []).ctx.resets ∧ (ctxDie 4 2 [] []).axState 0 = 4 ∧ ((ctxDie 4 2 [] []).aux 0).disabled = false := by decide
theorem test_wit_stop : ∀ p ∈ ({ ctxDie 4 2 [] [] with tar := { runA.a.tar with tiles := ((ctxDie 4 2 [] []).axTiles 0).map (fun p => (p, { slot0 with cur := { tile0 with stat := .halted } })) } } : DieState).axTiles 0,
    (({ ctxDie 4 2 [] [] with tar := { runA.a.tar with tiles := ((ctxDie 4 2 [] []).axTiles 0).map (fun p => (p, { slot0 with cur := { tile0 with stat := .halted } })) } } : DieState).slotOf p).cur.stat ≠ .running ∧
    (({ ctxDie 4 2 [] [] with tar := { runA.a.tar with tiles := ((ctxDie 4 2 [] []).axTiles 0).map (fun p => (p, { slot0 with cur := { tile0 with stat := .halted } })) } } : DieState).slotOf p).cur.jobs = [] := by
  decide
theorem test_wit_regions : (default : Regions).inside := by decide
theorem test_wit_switch_done : ((ctxDie 5 0 [] []).aux 0).doneAt ≤ (ctxDie 5 0 [] []).seq.step ∧ (ctxDie 5 0 [] []).axState 0 = 5 ∧
    (ctxDie 5 0 [] []).p2Size < (ctxDie 5 0 [] []).axGroups 0 ∧ (ctxDie 5 1 [] []).axGroups 0 ≤ (ctxDie 5 1 [] []).p2Size ∧
    ({ ctxDie 5 1 [] [] with regs := [(rCTX_PART, 65536 + 15), (auxReg 0, 256 + 5), (auxReg 1, 256 + 15 * 16 + 3)] } : DieState).freeRun 1 = none ∧ (ctxDie 2 1 [] []).axState 0 = 2 ∧
    (ctxDie 5 2 [] []).freeRun 1 = some 14 ∧ (ctxDie 5 2 [] []).placeHeld = false := by
  decide
theorem test_wit_ctx_reset : (2 : Fin 20).val ∈ (ctxDie 3 2 [] [2]).ctx.resets ∧ (ctxDie 3 2 [] [0]).inspCtx = (0 : Fin 20).val ∧ (0 : Fin 20).val ∈ (ctxDie 3 2 [] [0]).ctx.resets ∧
    (3 : Fin 20).val ∉ (ctxDie 3 2 [] [2]).ctx.resets ∧ (18 : Fin 20).val ∈ (ctxDie 3 2 [] [18]).ctx.resets := by decide

/-! ### StemFenceAndRegroup -/

/-- Die A in RUN with the Stem's fence as given. -/
def stmDie (req fenced : Bool) (at_ : Option Nat) (step : Nat) : DieState :=
  { runA.a with seq := { runA.a.seq with step := step }, stm := { runA.a.stm with fenceReq := req, fenced := fenced, fenceAt := at_ } }

theorem test_wit_force : bit 31 (0x80000100#32).toNat = true ∧ (stmDie false false none 5).dev = .run ∧ (witA fun _ => stmDie false false none 5).whole.paired = false ∧
    State.reset.a.dev = .boot ∧ State.reset.a.stm.fenced = false ∧ bit 8 (0x80000100#32).toNat = true ∧ ({ State.reset.a with dev := .armed } : DieState).dev = .armed ∧
    ({ stmDie true false none 5 with dev := .armed, seq := { runA.a.seq with on := false } } : DieState).stepping = false ∧ (stmDie false true none 5).stm.fenced = true := by decide
theorem test_wit_stem_fence : (stmDie true false none 5).stm.fenceReq = true ∧ (stmDie true false none 5).stm.fenced = false ∧ (stmDie true false none 5).stepping = true ∧
    (stmDie true false none 5).seq.cycle = 0 ∧ (stmDie false true (some 5) 20).stm.fenceAt = some 5 ∧ (20 : Nat) < 5 + 16 ∧ 5 + 16 ≤ (stmDie false true (some 5) 21).seq.step ∧
    (stmDie false true (some 5) 21).ctx.chg.reached = false ∧ (stmDie true false none 5).stm.fenceFrom ≤ 5 * 20000 := by decide

/-! ### DramPositionsDeliveriesAndFences -/

/-- Die A in RUN with one entry of channel 1, position 3, static of line 15 or bound to stream 2, by owner `o` (18: MAINT, which runs; 2: context 0, RUNNING), one transfer of its tile arrived. -/
def dramDie (o : Nat) (wr last bound : Bool) : DieState :=
  { runA.a with
    regs := [(auxReg 0, 256 + 3)]
    ctx := { runA.a.ctx with maint := true }
    tar := { runA.a.tar with inbox := [⟨0, 260, 0, List.replicate 64 5, true⟩] }
    mem := { runA.a.mem with
      reads := [⟨100020, 0, 4, List.replicate 120 0, 0, 0, []⟩], fences := [(3, 2)]
      streams := [(2, ⟨b2n wr, 0, 0, 15, 2, 0, 0, 0, 0, last⟩)], held := [(30, List.replicate 4 7)]
      quill := [⟨960, 4, wr, if wr then [1, 2, 3, 4] else [], last, none⟩]
      sects := [{ (default : Section) with owner := o, period := 1, entries := [{ (default : TEntry) with ch := 1, pos := 3, line := 15, last := last, write := wr, bound := bound, stream := 2 }] }] } }

theorem test_wit_mr4 : (dramDie 2 false true false).chFenced (1 : Fin 16).val = false ∧ (dramDie 2 false true false).dev ≠ .boot ∧ (3 : Fin 4).val ≤ 3 := by decide
theorem test_wit_entry : (((dramDie 2 false true false).entryAt 1 (3 : Fin 6000).val).map (fun e => (e.2.1, e.2.2, e.1.line))) = some (2, 0, 15) ∧ (dramDie 2 false true false).entryAt 1 4 = none ∧
    (dramDie 2 false true false).stepping = true ∧ (dramDie 2 true false false).copyOf 15 = none ∧ (dramDie 2 true false false).chFenced (lineChan 15) = false ∧ (15 : Nat) < dramLines ∧
    (((dramDie 2 true false false).takeXfers 0 1).map (·.1)) = some (List.replicate 64 5) ∧ (tget? (dramDie 2 true true false).mem.held (2 * 15)) = some (List.replicate 4 7) ∧
    ((dramDie 19 false true false).entryAt 1 3).map (·.2.1) = some 19 := by decide
theorem test_wit_bound : (tget (dramDie 2 false true true).mem.streams 2 default).lines = 2 ∧ (tget (dramDie 2 false true true).mem.streams 3 default).lines ≤ 0 ∧
    (tget (dramDie 2 true false true).mem.streams 2 default).line = 15 ∧ lineInGroup 14 = 14 ∧ 960 / 960 % 16 = (1 : Fin 16).val ∧ 960 % 64 + 4 ≤ 64 := by decide
theorem test_wit_delivery : (dramDie 2 false true false).mem.reads = [⟨100020, 0, 4, List.replicate 120 0, 0, 0, []⟩] ∧ 100020 < ((dramDie 2 false true false).seq.step + 1) * 20000 := by decide
set_option maxRecDepth 8000 in
theorem test_wit_delivery_ok : (⟨100020, 0, 4, List.replicate 120 0, 0, 0, []⟩ : DramRead).ok [] = true ∧ (⟨100020, 0, 4, List.replicate 120 0, 0, 0, []⟩ : DramRead).ok [1, 1] = false := by decide
theorem test_wit_refresh : slotUsed (tget (dramDie 2 false true false).mem.rates 1 2) (2 : Fin 21).val = true ∧ slotUsed (tget [(1, 1)] 1 2) (3 : Fin 21).val = false := by decide
theorem test_wit_track : ({ runA.a.seq with step := 1024 }).step % 1024 = 0 ∧ (∀ f ∈ (dramDie 2 false true false).mem.fences, f.1 < 16) ∧ (dramDie 2 false true false).seq.cycle = 0 := by decide
theorem test_wit_period : ({ State.reset.a with dev := .armed } : DieState).stepping = false ∧ ({ State.reset.a with dev := .armed } : DieState).dev ≠ .boot ∧
    ({ State.reset.a with dev := .armed } : DieState).dev ≠ .halted := by decide
/-- Die A with line 0 to 14 of DRAM in a region of kind `k`. -/
def winDie (k : Nat) : DieState := { runA.a with mem := { runA.a.mem with regions := [{ (default : Region) with base := 0, len := 1, kind := k }] } }
theorem test_wit_window : (winDie 8).permits 20 (64#31).toNat (winDie 8).die.num 0 true = true ∧ ({ winDie 8 with chk := { runA.a.chk with fwlLoaded := true } } : DieState).permits 20 64 0 0 true = false ∧
    (((winDie 8).regionOf ((winDie 8).windowAt 64 / 64)).map (·.kind)) = some 8 ∧
    (((winDie 5).regionOf 1).map (·.kind)) = some 5 ∧
    ({ winDie 8 with regs := [(rMEM_QWIN, 15)] } : DieState).windowAt 0x7FFFFFFC + 4 = 64 * dramLines := by decide

/-! ### LineStateFramesAreCheckedAndAct -/

/-- Die A with one item that has arrived in step `a`. -/
def itemDie (x : DieState) (a : Nat) (p : Payload) : State := witA fun _ => { x with items := [⟨none, some a, p⟩] }
/-- Both dies out of reset and of BOOT; the relay's buckets hold their tokens, and no line-state key is set. -/
def frameWit : State := { witA (fun _ => { runA.a with held := none }) with b := { State.reset.b with held := none, dev := .armed } }

/-- A LINE_RUNNING payload with a zero tag. -/
def lineBytes (on : BitVec 8) : List (BitVec 8) := [0, 1, 2, 3] ++ List.replicate 16 0 ++ [on] ++ List.replicate 27 0

theorem test_wit_frames : frameWit.whole.relayUp = true ∧ frameWit.whole.hasToken 3 = true ∧ lineFormatOk (lineBytes 1) = true ∧ lineFormatOk (lineBytes 2) = false ∧
    frameWit.mod.store.lineKey.isNone = true ∧
    ({ frameWit.whole with mod := { frameWit.mod with sw := { frameWit.mod.sw with buckets := [(3, { used := 16000000000, at_ := frameWit.now })] } } } : Whole).hasToken 3 = false := by decide
set_option maxRecDepth 20000 in
theorem test_wit_frame_checks : beNat (((lineBytes 1).drop 4).take 8) = 0 ∧ beNat (((lineBytes 1).drop 12).take 8) = 0 ∧ bit (Die.a).num ((lineBytes 1).getD 3 0).toNat = true ∧
    (State.reset.dieOf .a).timeLost = true := by decide
theorem test_wit_select : (itemDie laneDie 2 (.recipeSelect 3 0 100)).a.items = [⟨none, some 2, .recipeSelect 3 0 100⟩] ∧ laneDie.stepping = true ∧ 2 + 2 ≤ laneDie.seq.step ∧
    laneDie.chgPhase = 0 ∧ laneDie.ctx.resident.contains 0 = false := by decide
theorem test_wit_running : (itemDie runA.a 2 (.lineRunning false)).a.dev = .run ∧ (itemDie runA.a 2 (.lineRunning false)).a.reqs = [] ∧ ¬(1 ≤ runA.a.chgPhase ∧ runA.a.chgPhase ≤ 3) ∧
    ({ runA.a with regs := [(rCTX_CHG, 2 * 256)] } : DieState).chgPhase = 2 ∧ (itemDie runA.a 2 (.lineRunning false)).whole.owner 5 = .a := by decide
theorem test_wit_ack : ({ runA with a := { runA.a with dev := .safe } } : State).here .a = { runA.a with dev := .safe, clk := runA.now } ∧
    ({ runA.a with dev := .safe, clk := runA.now } : DieState).causesClear = true ∧ ({ runA.a with dev := .safe, regs := [(rCHK_SAFE_CAUSE, 4)] } : DieState).causesClear = false ∧
    runA.a.chk.pending = false ∧ runA.a.causeNew = false ∧ ({ runA.a with chk := { runA.a.chk with newAt := some 4 } } : DieState).causeNew = true := by decide
theorem test_wit_select_reached : ((({ laneDie with ptk := { laneDie.ptk with dyn := [(3, { (default : LaneDyn) with top := some 100 })] } } : DieState).laneDyn 3).top = some 100) ∧
    laneDie.blind = false ∧ ({ laneDie with stm := { laneDie.stm with fenceAt := some 4 } } : DieState).blind = true ∧ laneDie.driftSealed = none := by decide

/-! ### ChangeoverDrainsSetsUpAndSwitches -/

/-- Die A in RUN in phase `p` of a changeover to recipe 1. -/
def chgDie (p : Nat) : DieState := { runA.a with regs := [(rCTX_CHG, p * 256 + 16)] }

theorem test_wit_drain : (chgDie 2).stepping = true ∧ (chgDie 2).seq.cycle = 0 ∧ (chgDie 2).chgPhase = 2 ∧ ((chgDie 2).ptk.parts.filter (·.old)).length = 0 ∧
    (({ chgDie 2 with ptk := { runA.a.ptk with parts := [part7] } } : DieState).ptk.parts.filter (·.old)).length ≠ 0 ∧
    ¬((({ chgDie 2 with ctx := { runA.a.ctx with chg := { (default : Chg) with k := 3, pair := { (default : Chg).pair with drain := 50 } } } } : DieState).ctx.chg.k + 50 ≤ 5)) := by decide
theorem test_wit_setup : (chgDie 3).chgPhase = 3 ∧ (chgDie 3).ctx.chg.setup = false ∧ (chgDie 3).ctx.chg.d + (chgDie 3).ctx.chg.pair.tr ≤ (chgDie 3).seq.step ∧
    (chgDie 3).ctx.chg.n ≤ (chgDie 3).seq.step ∧ (chgDie 3).ctx.chg.stopPend = false ∧ (chgDie 3).reqs = [] ∧ (chgDie 3).dev = .run ∧ (chgDie 3).driftSealed = none := by decide
theorem test_wit_warm : (chgDie 4).chgPhase = 4 ∧ ((chgDie 4).laneDyn ((chgDie 4).fld rCTX_CHG 20 16)).warmN = 0 ∧ (chgDie 3).chgPhase ≠ 4 := by decide

/-! ### SafeEntryMonitorAndSafeOk -/

/-- Die A in RUN at step `n`, SAFE_OK on, tests on, the monitor's state given. -/
def safeDie (n : Nat) (c : Chk) : DieState :=
  { runA.a with seq := { runA.a.seq with step := n }, regs := [(rCHK_CFG, 2)], chk := c }

theorem test_wit_safe_due : (safeDie 5 { runA.a.chk with pending := true }).safeDueNow = true ∧ runA.a.safeDueNow = false ∧ bit 31 (0x80000000#32).toNat = true ∧
    ((witA fun _ => { runA.a with paired := true }).whole.paired && Die.a == .a && !(witA fun _ => { runA.a with paired := true }).mod.field.taken) = true ∧
    (runA.whole.paired && (runA.dieOf .a).stepping && (runA.dieOf .b).stepping) = false := by decide
theorem test_wit_safe_both : (({ runA with a := { runA.a with paired := true }, b := { runA.a with die := .b, paired := true } } : State).whole.paired &&
    (({ runA with a := { runA.a with paired := true }, b := { runA.a with die := .b, paired := true } } : State).dieOf .a).stepping &&
    (({ runA with a := { runA.a with paired := true }, b := { runA.a with die := .b, paired := true } } : State).dieOf .b).stepping) = true := by decide
theorem test_wit_safe_pulse : (safeDie 3000000 { runA.a.chk with okCmd := true }).flag rCHK_CFG 1 = true ∧ (safeDie 3000000 { runA.a.chk with okCmd := true }).dev = .run ∧
    (safeDie 3000000 { runA.a.chk with okCmd := true }).seq.cycle = 0 ∧ (safeDie 3000000 { runA.a.chk with okCmd := true }).seq.step % 3000000 = 0 ∧
    (safeDie 3000000 { runA.a.chk with okCmd := true }).safeOk = true ∧ (safeDie 0 { runA.a.chk with pulse := some 9 }).chk.pulse = some 9 ∧
    (safeDie 5 { runA.a.chk with okMiss := 2 }).chk.okMiss = 2 := by decide

/-! ### SwitchForwardsFiltersAndFailsOver -/

/-- An untagged frame of EtherType `ty` and 32 bytes. -/
def ethBytes (ty : List (BitVec 8)) : List (BitVec 8) := List.replicate 6 1 ++ List.replicate 6 2 ++ ty ++ List.replicate 18 1
/-- Die A as the running relay with link on both ports. -/
def linkA : State := { frameWit with a := { frameWit.a with regs := [(rNET_PORT, 3)], net := { frameWit.a.net with mac := 5 } } }

theorem test_wit_forward : 14 ≤ (ethBytes [8, 0]).length ∧ ptpAt (ethBytes [8, 6]) = none ∧ ptpAt (ethBytes [0x88, 0xF7]) = some 14 ∧ linkA.a.portUp 0 = true ∧ frameWit.a.portUp 0 = false ∧
    ((ethBytes [0x88, 0xF7]).getD 14 0).toNat % 16 = 1 ∧ beNat ((ethBytes [8, 6]).take 6) ≠ linkA.a.net.mac ∧
    ipFor linkA.a.net.ip (ethBytes [8, 6]) = false := by decide
set_option maxRecDepth 4000 in
theorem test_wit_forward_learn : (linkA.mod.sw.learn (beNat (((ethBytes [8, 6]).drop 6).take 6)) 1 linkA.now).macs.any (fun e => e.1 == beNat ((ethBytes [8, 6]).take 6) && e.2.1 == 1) = false := by decide
theorem test_wit_filter : linkA.whole.relayUp = true ∧ frameClass linkA.a.net.ip false (ethBytes [8, 6]) = none ∧ frameClass linkA.a.net.ip false (ethBytes [0x88, 0xF7]) = some 0 ∧
    linkA.whole.hasToken 0 = true := by decide
theorem test_wit_ageing : ((1 : Nat), (0 : Nat), (7 : Nat)) ∈ [((1 : Nat), (0 : Nat), (7 : Nat)), (2, 1, 9)] ∧ ∀ x ∈ [((1 : Nat), (0 : Nat), (7 : Nat)), (2, 1, 9)], x ≠ (1, 0, 7) → 7 < x.2.2 := by decide

/-! ### NetworkTimeFollowsItsMaster -/

/-- Die A as the running relay, the servo in state `k`, its clock's working state as given. -/
def ptpA (k : Nat) (peer : Bool) : State :=
  { frameWit with a := { frameWit.a with regs := [(rNET_PTP_STAT, k)], ptp := { frameWit.a.ptp with peer := peer, good := 7, reqAt := some 5, sync := some (3, 4) } } }

theorem test_wit_ptp : (ptpA 0 false).whole.relayUp = true ∧ (ptpA 0 false).whole.hasToken (b2n false) = true ∧ (ptpA 0 false).a.slavePort = b2n false ∧
    (ptpA 0 false).a.slavePort ≠ b2n true ∧ (ptpA 0 false).a.servo = 0 ∧ (ptpA 2 true).a.servo = 2 ∧ (ptpA 2 true).a.ptp.peer = true ∧
    (((ptpA 2 false).here .a).ptpNow - (ptpA 2 false).a.ptp.delay - (0 : Int)).natAbs ≤ 1000 ∧ 100000 < (((ptpA 2 false).here .a).ptpNow - (ptpA 2 false).a.ptp.delay - (1000000 : Int)).natAbs ∧
    7 ≤ (ptpA 1 false).a.ptp.good := by decide

/-! ### FramesLeaveTheLaunchQueue -/

/-- Die A with a queued frame of kind `k`, to go at once or not, and a SAFE-STATE frame owed. -/
def queueDie (k : Nat) (now : Bool) : DieState :=
  { linkA.a with net := { linkA.a.net with queue := [{ kind := k, dest := 2, port := 0, at_ := 9, epoch := 1, seq := 4, now := now, data := [] }], safeDue := some (3, true) } }

theorem test_wit_launch : sortBy launchLt ((queueDie 0 false).net.queue.filter (fun f => f.kind == 0)) = { kind := 0, dest := 2, port := 0, at_ := 9, epoch := 1, seq := 4, now := false, data := [] } :: [] ∧
    (queueDie 0 false).portUp 0 = true ∧ ({ queueDie 1 true with regs := [] } : DieState).portUp 0 = false ∧ (1 : Nat) ≠ (queueDie 0 false).epoch ∧
    (∀ f ∈ (queueDie 0 false).net.queue, f.kind ≠ 1) := by decide
theorem test_wit_safe_frame : (∃ f ∈ (queueDie 2 true).net.queue, f.kind = 2) ∧ (∀ f ∈ (queueDie 1 true).net.queue, f.kind ≠ 2) ∧ (queueDie 1 true).net.safeDue.isSome = true ∧
    (witA fun _ => queueDie 1 true).whole.publishes .a = true ∧ ({ frameWit with a := { frameWit.a with dev := .armed } } : State).whole.publishes .a = true := by decide

/-! ### LinksTrainFailAndRetrain -/

/-- Die A whose port 0 is in state `st` with the working state `q`, route codes all `c`, other registers as given. -/
def linkDie (st c : Nat) (q : TPort) (rs : List (Nat × Nat)) : DieState :=
  { frameWit.a with regs := rs ++ [(rTWL_PORT, st), (rTWL_ROUTE_N, c)], twl := { frameWit.a.twl with ports := [(0, q)] } }
/-- A CTRL frame for this module, on its last hop. -/
def ctrlF : TFrame := { dest := 0, dstDie := 0, vc := 1, cls := 0, src := 3, srcDie := 1, hops := 1, first := true, last := true, msg := 0, frag := 0, data := [7], ref := none }
/-- A port whose frame `ctrlF` is outstanding for the `k`-th time. -/
def outPort (k : Nat) : TPort := { (default : TPort) with out := [(5, ctrlF, k)], rxSeq := 9, cfg := { (default : TPort).cfg with maxRate := 3, minRate := 1 }, agreed := 2, cr1 := 16 }

theorem test_wit_train : (linkDie 1 0 default []).tpState 0 = 1 ∧ (linkDie 2 0 default []).tpState 0 = 2 ∧ (linkDie 4 0 (outPort 0) []).tpState 0 = 4 ∧
    ((linkDie 4 0 (outPort 0) []).tport 0).parked = [] ∧ min 0 (outPort 0).agreed < (outPort 0).cfg.minRate ∧ (outPort 0).cfg.minRate ≤ min 1 (outPort 0).agreed ∧
    min 1 (outPort 0).agreed < (outPort 0).agreed ∧ (0 : Nat) = (outPort 0).cfg.eqId ∧ (3 : Nat) ≠ (outPort 0).cfg.eqId := by decide
theorem test_wit_retrain : (linkDie 5 0 (outPort 0) []).tpState 0 = 5 ∧ (linkDie 5 0 (outPort 0) []).route 0 = 0 ∧ stepTagged ctrlF.cls = false ∧ 1 ≤ ctrlF.hops ∧ ctrlF.hops ≤ 64 ∧
    ((linkDie 5 0 (outPort 0) []).tport 0).queue = [] := by decide
/-- Die A in LINK_TRAIN, its port 0 the ACTIVE reference link; or in RUN after it was lost. -/
def frefState (live : Bool) : State :=
  { frameWit with a := { linkDie (if live then 0 else 5) 0 { outPort 0 with fref := true } [(rTWL_CFG, 0), (rTWL_SYNC, if live then 2 ^ 29 else 0)] with dev := if live then .run else .linkTrain } }
theorem test_wit_fref : (frefState false).whole.carrier = .a ∧ ((frefState false).a.fld rTWL_CFG 29 27) = 0 ∧ (frefState false).a.dev = .linkTrain ∧ (frefState false).a.tpState 0 = 5 ∧
    ((frefState false).a.tport 0).fref = true ∧ (frefState true).a.dev = .run ∧ (frefState true).a.flag rTWL_SYNC 29 = true ∧ (frefState true).a.tpState 0 ≠ 5 := by decide

/-! ### FramesAreCheckedResentAndWithdrawn -/

/-- The bytes of a frame of class `c` for module 0, die A, whole, with sequence number 9 and one byte of payload. -/
def frameBytes (c : Nat) : List (BitVec 8) := leBytes 4 (2 ^ 26 * c) ++ leBytes 4 3 ++ leBytes 2 1 ++ [9, 3] ++ leBytes 2 0 ++ leBytes 2 0 ++ [7]

/-- SEQ, class, destination and FIRST and LAST of what a frame's bytes spell. -/
def frameFacts (bs : List (BitVec 8)) : Option (Nat × Nat × Nat × Bool × Bool) := (frameOf? bs).map (fun x => (x.1, x.2.cls, x.2.dest + x.2.dstDie, x.2.first, x.2.last))
set_option maxRecDepth 4000 in
theorem test_wit_frame : frameFacts (frameBytes 0) = some (9, 0, 0, true, true) ∧ frameFacts (frameBytes 1) = some (9, 1, 0, true, true) ∧
    (linkDie 5 5 (outPort 0) []).route 0 = 5 ∧ (frameOf? []).isNone = true ∧ (outPort 0).rxSeq = 9 := by decide
theorem test_wit_crc : ∃ c : BitVec 32, crc32 (frameBytes 0) = c.toNat := ⟨BitVec.ofNat 32 (crc32 (frameBytes 0)), by
  set_option maxRecDepth 20000 in decide⟩
theorem test_wit_retry : (linkDie 5 0 (outPort 0) []).tpState 0 = 5 ∧ (outPort 0).out ≠ [] ∧ (outPort 0).out.any (fun z => z.1 == 5) = true ∧ (outPort 0).out.any (fun z => z.1 == 6) = false ∧
    (∀ z ∈ (outPort 0).out, z.2.2 < 15) ∧ (∃ z ∈ (outPort 15).out, 15 ≤ z.2.2) ∧ (outPort 0).queue = [] ∧ ({ (outPort 0).acked 5 with cr1 := 16 } : TPort).credit 1 = true ∧
    ({ outPort 0 with queue := [ctrlF] } : TPort).queue = [ctrlF] ∧ ctrlF.vc ≤ 1 ∧ (linkDie 5 (5 * 2 ^ 9) default []).route ctrlF.src = 5 ∧ ctrlF.src = 3 ∧
    ¬(ctrlF.cls = 0 ∧ ctrlF.data.head? = some 5) ∧ ({ ctrlF with data := [5] } : TFrame).data.head? = some 5 ∧ ({ ctrlF with srcDie := 0 } : TFrame).srcDie = Die.num .a := by decide

/-! ### DiscoveryProbesAndRoutes -/

/-- The root module with port 0 ACTIVE, in ARMED, its die A's probes as given; `st` as TWL_CFG. -/
def discState (cfg : Nat) (probes : List Nat) : State :=
  { frameWit with a := { linkDie 5 0 default [(rTWL_CFG, cfg)] with dev := .armed, twl := { frameWit.a.twl with ports := [(0, { (default : TPort) with cfg := { (default : TPort).cfg with peer := 4 } })], found := [default], probes := probes } } }
theorem test_wit_disc_root : (discState (2 ^ 31) []).whole.carrier = .a ∧ (discState (2 ^ 31) []).a.flag rTWL_CFG 31 = true ∧ (discState (2 ^ 31) []).a.flag rTWL_CFG 30 = false ∧
    (discState (2 ^ 31) []).a.dev = .armed ∧ (List.range 4).filter (fun p => (discState (2 ^ 31) []).whole.portStates.getD p 0 == 5) = 0 :: [] ∧
    (discState (2 ^ 31) [0, 1]).a.twl.probes = 0 :: 1 :: [] ∧ (discState (2 ^ 30) []).a.flag rTWL_CFG 30 = true ∧ (discState (2 ^ 30) []).a.tpState 0 = 5 ∧
    ((discState (2 ^ 30) []).a.tport 0).cfg.peer = 4 ∧ ((discState (2 ^ 30) []).a.tport 0).out = [] ∧ (discState (2 ^ 31) []).a.twl.probes.head? ≠ some 3 ∧
    (∀ m ∈ (discState (2 ^ 31) [0, 1]).a.twl.found, m.serial ≠ [1]) ∧ ((discState (2 ^ 31) [0, 1]).a.twl.found.getD 0 default).path.length < 63 ∧
    (discState (2 ^ 31) []).b.tpState 3 ≠ 5 ∧ (∀ k ∈ [Die.a, Die.b], ∀ p ∈ List.range 4, (((discState 0 []).dieOf k).tport p).parked = []) := by decide

/-! ### StartBarrierAndAlignment -/

/-- A BARRIER message of kind `k` from module 3 with COUNT `c`. -/
def barMsg (k : Nat) (c : Int) : TMsg := { cls := 3, src := 3, srcDie := 0, data := barrierBytes k 1024, port := some 0, at_ := 5, count := c, rho := 2 ^ 40 }
/-- A module with that message at die A: a member, or without a group record; arrived or not; a release fixed or not. -/
def barState (m : TMsg) (sync : Nat) (arr : Bool) (rel : Option Nat) : State :=
  { frameWit with a := { frameWit.a with regs := [(rTWL_SYNC, sync)], twl := { frameWit.a.twl with inbox := [m] } }, mod := { frameWit.mod with grp := { frameWit.mod.grp with arrived := arr, release := rel } } }
set_option maxRecDepth 4000 in
theorem test_wit_start : ∀ k ∈ [1, 2, 3, 4], (barState (barMsg k 3) 0 false none).a.twl.inbox.find? (fun m => m.cls == 3 && m.data.head? == some (BitVec.ofNat 8 k)) = some (barMsg k 3) := by decide
theorem test_wit_start_master : (barState (barMsg 1 3) 0 false none).whole.isMaster = true ∧ (barState (barMsg 1 3) 0 false none).whole.members ≤ 1 ∧
    (barState (barMsg 1 3) (2 ^ 31) false none).whole.isMaster = false ∧ (barState (barMsg 1 3) 0 false (some 9)).mod.grp.release.isSome = true ∧
    (barState (barMsg 2 3) 0 true none).mod.grp.arrived = true ∧ (barMsg 2 (-1)).count < 0 ∧ 0 ≤ (barMsg 2 3).count ∧ leNat (((barMsg 3 0).data.drop 24).take 8) = 1024 ∧
    (barState (barMsg 3 0) 0 false none).a.stepping = true ∧ (barState (barMsg 3 0) (2 ^ 29) false none).a.flag rTWL_SYNC 29 = true := by decide
theorem test_wit_start_late : (barState (barMsg 1 3) 0 false (some 9)).whole.isMaster = true ∧ (barState (barMsg 1 3) 0 false (some 9)).now < 9 ∧
    (barState (barMsg 1 3) 0 false (some 0)).now = 0 ∧ ({ frameWit.mod.grp with addrs := [4] } : SyncGroup).addrs.length = 1 ∧
    ({ frameWit.mod.grp with running := [7] } : SyncGroup).running.contains 7 = true := by decide
theorem test_wit_align_miss : (barState (barMsg 1 3) (2 ^ 31) false none).a.stepping = true ∧ (1040 : Nat) % 1024 = 16 ∧ (barState (barMsg 1 3) 0 false none).a.twl.aligned < 1040 / 1024 := by decide

/-! ### PairComparesFailsOverAndRemaps -/

/-- A die of a pair in step 9 with a signature of step 7. -/
def pairDie (d : Die) (sig : Nat) (peer : Nat) : DieState :=
  { runA.a with die := d, paired := true, held := none, regs := [(rTWL_PEER, peer)], seq := { runA.a.seq with step := 9 }, twl := { runA.a.twl with signs := [{ step := 7, sig := sig, groups := [], map := [], outg := 0 }] } }
/-- Both dies of the pair. -/
def pairState (x y peer : Nat) : State := { frameWit with a := pairDie .a x peer, b := pairDie .b y peer }
theorem test_wit_pair : (pairState 1 2 1).a.paired = true ∧ (pairState 1 2 1).a.stepping = true ∧ (pairState 1 2 1).a.fld rTWL_PEER 1 0 = 1 ∧
    ((pairState 1 2 1).a.twl.signs.find? (fun y => y.step == 7)).isSome = true ∧ ((pairState 1 2 1).b.twl.signs.find? (fun y => y.step == 7)).map (·.sig) = some 2 ∧
    (pairState 1 1 1).a.flag rTWL_SIGN_DIFF 31 = false ∧ (pairState 1 1 2).a.fld rTWL_PEER 1 0 ≠ 1 ∧
    ({ pairDie .a 1 1 with paired := false } : DieState).paired = false ∧ (∀ n ∈ List.range 16, ((pairState 1 1 1).b.aux n).remap = 0) := by decide
theorem test_wit_pair_takeover : (pairState 1 1 1).b.twl.failAt = none ∧ (pairState 1 1 1).mod.field.taken = false ∧ (pairState 1 1 1).b.held = none ∧ frameWit.b.qll.primary = false := by decide
/-- A die with one offer under way to module 5, more candidates as given. -/
def offerDie (more : List (Option Nat)) : DieState := { runA.a with twl := { runA.a.twl with remaps := [{ ctx := 3, cands := some 5 :: more, at_ := 9 }] } }
theorem test_wit_offer : (offerDie []).twl.remaps = [{ ctx := 3, cands := some 5 :: [], at_ := 9 }] ∧ (offerDie [some 6]).twl.remaps = [{ ctx := 3, cands := some 5 :: [some 6], at_ := 9 }] ∧
    (2 + 3 : Nat) = (5 : Fin 20).val ∧ runA.a.twl.remaps = [] ∧ runA.a.reservation 4 0 5 = none := by decide
/-- A die with a BULK message of kind `k` and the payload [1, 2], and a region of that kind. -/
def bulkDie (k : Nat) (data : List (BitVec 8)) : DieState :=
  { runA.a with mem := { runA.a.mem with regions := [{ (default : Region) with kind := k, base := 4, len := 1 }] }, twl := { runA.a.twl with inbox := [{ cls := 1, src := 3, srcDie := 0, data := data, port := none, at_ := 0, count := 0, rho := 0 }] } }
theorem test_wit_bulk : ((bulkDie 8 ([8] ++ List.replicate 11 0 ++ [2, 0, 0, 0, 1, 2])).twl.inbox.find? (fun m => m.cls == 1)).map (fun m => m.data.length) = some 18 ∧
    ((bulkDie 8 []).mem.regions.find? (fun r => r.kind == 8)).isSome = true ∧ (bulkDie 8 []).flag rQLL_STAGE 3 = false ∧ runA.a.mem.regions.find? (fun r => r.kind == 0) = none := by decide
/-- A die whose first window of target 20 lets every initiator of partition 7 write everywhere. -/
def openDie : DieState := { bulkDie 8 [] with regs := [(rFWL_WIN_BASE + 20480, 0), (rFWL_WIN_LIMIT + 20480, 0xFFFFFFFF), (rFWL_WIN_ACC + 20480, 2 ^ 31 + 2 ^ 25 + 2 ^ 7)], chk := { runA.a.chk with fwlLoaded := true } }
theorem test_wit_bulk_window : openDie.permits 20 3840 0x70 7 true = true ∧ (bulkDie 8 []).permits 20 3840 0x70 7 true = false := by decide

/-! ### ResetsAndTheSupply -/

/-- Both dies in reset by cause `c`, the hold-up rail as given. -/
def heldState (c : Nat) (rail : Bool) : State :=
  { frameWit with a := { frameWit.a with held := some c }, b := { frameWit.b with held := some c }, mod := { frameWit.mod with pwr := { frameWit.mod.pwr with rail := rail } } }
theorem test_wit_resets : (heldState 0 true).a.held.isSome = true ∧ (heldState 0 true).b.held.isSome = true ∧ ¬((heldState 0 true).a.held = some 1) ∧ (heldState 1 true).b.held = some 1 ∧
    frameWit.a.held = none ∧ frameWit.mod.grp.arrived = false ∧ (heldState 0 true).mod.pwr.rail = true ∧ (heldState 0 true).mod.ink.commits = 0 ∧ (heldState 0 false).mod.pwr.rail = false ∧
    Memory.wf frameWit.mem = true ∧ frameWit.mod.pwr.warnAt = none ∧ ({ frameWit.mod.pwr with warnAt := some 3 } : Power).warnAt = some 3 ∧
    causeRank 5 ≤ causeRank 1 ∧ (1840 : Int) ≤ (1840 : BitVec 16).toInt ∧ (0xFFF0 : BitVec 16).toInt < 1840 := by decide

/-! ### BootConfigTrainingAndSelfTest -/

theorem test_wit_boot_release : ((heldState 0 true).a.held == some 2) = false ∧ ((heldState 2 true).a.held == some 2) = true ∧ ((heldState 5 true).b.held == some 5) = true ∧
    (match (heldState 0 true).a.held with | some h => h != 2 && h != 5 | none => false) = true ∧ frameWit.b.held = none ∧ State.reset.a.held = some 0 ∧ State.reset.b.dev = .boot ∧
    frameWit.mod.store.rejects true = some 1 := by decide
/-- Die A in the state `v`. -/
def phaseDie (v : DevState) : State := { frameWit with a := { State.reset.a with held := none, dev := v } }
/-- The image of one record, SYS MODULE, without content. -/
def oneRec : Rec := { (default : Rec) with ty := 1, hashOk := true, sound := true }
set_option maxRecDepth 20000 in
theorem test_wit_config : configRejects .a { (default : ImgHead) with records := 1 } [oneRec] = none := by decide
theorem test_wit_phases : (phaseDie .config).a.dev = .config ∧ (phaseDie .config).a.chk.pending = false ∧ (phaseDie .config).a.held = none ∧
    (phaseDie .linkTrain).a.linksDone = true ∧ ({ (phaseDie .linkTrain).a with twl := { (phaseDie .linkTrain).a.twl with ports := [(0, default)] } } : DieState).linksDone = false ∧
    (phaseDie .selfTest).a.flag rCHK_SAFE_CAUSE 5 = false ∧ (phaseDie .selfTest).a.flag rCHK_SAFE_CAUSE 11 = false ∧ 2 ≤ ((List.range 17).filter (fun g => [3, 4].contains g)).length := by decide
set_option maxRecDepth 4000 in
theorem test_wit_config_rejects : (configRejects .a default []).isSome = true := by decide

/-! ### RecordsBlocksAndUnitStates -/

/-- A record of class `c`. -/
def recOf (fault : Option Nat) : InkRec := { (default : InkRec) with fault := fault, payload := List.replicate 88 0 }
/-- Die A with that record queued. -/
def inkState (fault : Option Nat) (lost : Nat) : State := { frameWit with a := { frameWit.a with ink := { frameWit.a.ink with queue := [recOf fault], lost := lost } } }
theorem test_wit_ink : (inkState none 0).a.ink.queue = recOf none :: [] ∧ (inkState none 0).mod.ink.turn = .a ∧ (recOf none).payload.length = 88 ∧ frameWit.a.ink.queue = [] ∧
    frameWit.b.ink.queue = [] ∧ (inkState none 3).a.ink.lost ≠ 0 ∧ (inkState none 3).a.ink.queue.length < 240 ∧ (recOf (some 3)).fault = some 3 ∧ bit 31 (0x80000001 : BitVec 32).toNat = true := by decide
theorem test_wit_ink_slot : memGet (memSet [] (Space.mram.base + 256 * 3 + 5) 7) (Space.mram.base + 256 * 3 + 5) ≠ 0 ∧ (∀ i < 256, memGet (inkState none 0).mem (Space.mram.base + 256 * 3 + i) = 0) :=
  ⟨by decide, fun i _ => by simp [inkState, frameWit, witA, State.reset, memGet, default, instInhabitedState.default]⟩
theorem test_wit_usw : runA.a.flag rQLL_USW_RESULT 31 = false ∧ runA.a.stepping = true ∧ frameWit.b.stepping = false ∧ frameWit.b.qll.ans = none ∧ (5 : BitVec 5).toNat = 5 ∧
    (tget? ({ frameWit.b.ptk with cfg := [(3, default)] } : Ptk).cfg 3).isSome = true ∧ frameWit.b.laneState 3 ≠ 1 ∧
    ({ frameWit.b with regs := [(rPTK_LANE + 12, 1)] } : DieState).laneState 3 = 1 ∧ ({ frameWit.b with regs := [(rPTK_LANE + 12, 2)] } : DieState).laneState 3 = 2 ∧ frameWit.b.ptk.parts = [] ∧
    ({ frameWit.b with regs := [(rQLL_USW_RESULT, 2 ^ 31)] } : DieState).flag rQLL_USW_RESULT 31 = true := by decide
theorem test_wit_recon : frameWit.a.reqs = [] ∧ frameWit.a.held = none ∧ frameWit.a.dev ≠ .boot ∧ frameWit.a.qll.req = none ∧ bit 6 (64 : BitVec 19).toNat = true ∧ safetyUnit 6 = true ∧
    tget? ([(6, 0)] : Tbl Nat) 6 = some 0 ∧ 0 + 3000000 < max 0 (4000000 + 1000000) ∧ frameWit.a.qll.gapped = false := by decide

/-! ### LowReadCapturesTheUpperHalf -/

theorem test_wit_lo : isLo rSYS_STEP_COUNT_LO = true ∧ place (0x10000000 + rSYS_STEP_COUNT_LO) = some (.reg rSYS_STEP_COUNT_LO) ∧
    place (0x10000000 + rSYS_STEP_COUNT_LO + 4) = some (.reg (rSYS_STEP_COUNT_LO + 4)) ∧ runA.a.permits 0 (rSYS_STEP_COUNT_LO % 0x10000) 0 0 false = true ∧
    ({ runA.a with chk := { runA.a.chk with fwlLoaded := true } } : DieState).permits 0 256 0 0 false = false ∧
    tget? ({ runA.a with cap := [(rSYS_STEP_COUNT_LO, (0, 7))] } : DieState).cap rSYS_STEP_COUNT_LO = some (0, 7) ∧ place 0x70000000 = none ∧
    place 0x10000002 = some (.reg 2) ∧ regDef? 0xFFFC = none ∧ place 0x1000FFFC = some (.reg 0xFFFC) ∧
    place 0x30000008 = some (.ink 8) ∧ place 0x100008 = some (.quill 8) ∧ place 0x80000008 = some (.dram 8) := by decide
theorem test_wit_plain : (regDef? rFWL_STATUS).isSome = true ∧ rFWL_STATUS / 0x10000 ≠ 10 ∧ rFWL_STATUS % 4 = 0 ∧ place (0x10000000 + rFWL_STATUS) = some (.reg rFWL_STATUS) ∧
    rFWL_STATUS ∉ [rQLL_USW_REQ, rTAR_FENCE_REQ, rSTM_FENCE_REQ, rSTM_MODE, rCHK_SAFE_REQ, rINK_MSG_GO, rTAR_FAULT, rSYN_ERR, rFWL_VIOL] := by decide
theorem test_wit_debug : runA.a.permits 19 0x80004 0 0 true = true ∧ runA.a.debugWrites 1 = false ∧ ({ runA.a with dev := .config } : DieState).debugWrites 1 = true ∧
    ((0x80004 : BitVec 32).toNat < 272 * 0x80000) ∧ ¬((0xFFFFFFFF : BitVec 32).toNat < 272 * 0x80000) := by decide

/-! ### QmpRequestsAreCheckedAndReadsAnswered -/

/-- The header of a request to die A without payload: operation, role, number 1 of boot 0. -/
def reqHead (op role : BitVec 8) : List (BitVec 8) := [0, 1, op, 0, role, 0, 0, 0, 0, 0, 0, 0, 0, 0, 0, 1]
/-- The request with its tag under the key that the empty store accepts. -/
def reqBytes (op role : BitVec 8) : List (BitVec 8) := reqHead op role ++ qmpTag [] (reqHead op role)
/-- That request. -/
def reqOf (op role : BitVec 8) : Req := ⟨op.toNat, .a, role.toNat, 1, []⟩
/-- Die A, the relay, in the device state `v`. -/
def servState (v : DevState) : State := { frameWit with a := { frameWit.a with dev := v, held := none } }

/-- A tagged request parses. -/
theorem req_parse (op role : BitVec 8) (h : role.toNat ≤ 4) : qmpParse (reqBytes op role) = some (reqOf op role) := by
  have hl : (qmpTag [] (reqHead op role)).length = 16 := qmpTag_length _ _
  have h0 : beNat [0#8, 0#8] = 0 := by decide
  have h1 : beNat [0#8, 1#8] = 1 := by decide
  have h2 : beNat [0#8, 0#8, 0#8, 0#8, 0#8, 0#8, 0#8, 1#8] = 1 := by decide
  unfold reqBytes
  generalize qmpTag [] (reqHead op role) = tag at hl
  simp [qmpParse, reqHead, hl, h0, h1, h2, h, reqOf]

/-- Its tag is the key's. -/
theorem req_tag (s : Store) (op role : BitVec 8) (h : s.roleKey role.toNat = some []) : s.tagOk role.toNat (reqBytes op role) = true := by
  have hl : (reqBytes op role).length - 16 = (reqHead op role).length := by simp [reqBytes, qmpTag_length, reqHead]
  have ht : (reqBytes op role).take (reqHead op role).length = reqHead op role := List.take_left ..
  have hd : (reqBytes op role).drop (reqHead op role).length = qmpTag [] (reqHead op role) := List.drop_left ..
  rw [Store.tagOk, h]
  simp only [hl, ht, hd, beq_self_eq_true]

/-- A request of this role is served in this state. -/
theorem req_served (op role : BitVec 8) (v : DevState) (h : role.toNat ≤ 4)
    (hs : (servState v).whole.relayUp = true ∧ (servState v).whole.hasToken 2 = true ∧ (servState v).mod.store.roleKey role.toNat = some [] ∧
      (servState v).whole.fresh (reqOf op role) = true ∧ (servState v).whole.reaches .a = true ∧ qmpKnown op.toNat = true ∧ role.toNat ∈ qmpRoles op.toNat ∧
      ((servState v).dieOf .a).dev.code ∈ qmpStates op.toNat) : (servState v).QmpServed (reqBytes op role) (reqOf op role) :=
  ⟨hs.1, hs.2.1, req_parse op role h, req_tag _ op role hs.2.2.1, .inr hs.2.2.2.1, hs.2.2.2.2.1, hs.2.2.2.2.2.1, hs.2.2.2.2.2.2.1, hs.2.2.2.2.2.2.2⟩

theorem test_wit_qmp_parts (op role : BitVec 8) :
    reqBytes op role = (reqHead op role).take 8 ++ (reqHead op role).drop 8 ++ [] ++ qmpTag [] (reqHead op role) := by simp [reqBytes]
theorem test_wit_qmp_read : ∀ op ∈ [(1 : BitVec 8), 2, 4, 6, 8, 0x15], (servState .armed).QmpServed (reqBytes op 2) (reqOf op 2) := by
  intro op h; exact req_served op 2 .armed (by decide) (by fin_cases h <;> decide)
theorem test_wit_qmp_checks : State.reset.whole.relayUp = false ∧ (servState .armed).whole.relayUp = true ∧ qmpParse [] = none ∧ (servState .armed).whole.hasToken 2 = true ∧
    ({ servState .armed with mod := { (servState .armed).mod with sw := { (servState .armed).mod.sw with buckets := [(2, { (default : Bucket) with used := 128000000000 })] } } } : State).whole.hasToken 2 = false ∧
    (servState .boot).whole.reaches .b = true ∧ State.reset.whole.reaches .b = false ∧ (0 : Nat) ∉ qmpRoles 3 ∧ (0 : Nat) ∉ qmpStates 3 ∧ qmpKnown 0x20 = false := by decide
theorem test_wit_qmp_places : place 0x30000000 = some (.ink 0) ∧ (servState .armed).a.permits 21 0 0 0 false = true ∧ isLo rFWL_STATUS = false ∧ isLo (rFWL_STATUS - 4) = false ∧
    (servState .armed).a.portOn 3 = false ∧ ((servState .armed).a.out 0).disp = none ∧ (reqOf 0x15 2).data.length ≠ 32 ∧
    ({ (servState .armed).a.qll with fwd := [⟨2, 2, 1, 0⟩] } : Qll).fwd = ⟨2, 2, 1, 0⟩ :: [] := by decide

/-! ### QmpRequestsChangeTheDevice -/

theorem test_wit_qmp_roles : ∀ x ∈ [((3 : BitVec 8), (2 : BitVec 8), DevState.armed), (3, 2, .run), (5, 2, .run), (7, 2, .armed), (9, 1, .safe), (0x0A, 2, .run), (0x0B, 2, .safe),
    (0x0C, 2, .armed), (0x10, 3, .armed), (0x11, 3, .armed), (0x12, 3, .armed), (0x13, 3, .armed), (0x14, 3, .armed), (0x16, 4, .armed), (0x17, 4, .armed)],
    (servState x.2.2).QmpServed (reqBytes x.1 x.2.1) (reqOf x.1 x.2.1) := by
  intro x h; exact req_served x.1 x.2.1 x.2.2 (by fin_cases h <;> decide) (by fin_cases h <;> decide)
/-- Die A in ARMED with QLL_STAGE as given. -/
def stageDie (v : Nat) : DieState := { (servState .armed).a with regs := [(rQLL_STAGE, v)] }
theorem test_wit_stage : (stageDie 2).fld rQLL_STAGE 2 0 = 2 ∧ (stageDie 1).fld rQLL_STAGE 2 0 = 1 ∧ (stageDie 1).flag rQLL_STAGE 3 = false ∧ (stageDie 10).flag rQLL_STAGE 3 = true ∧
    (stageDie 0).staging.2 = 0 ∧ (stageDie 12).fld rQLL_STAGE 2 0 = 4 ∧ (stageDie 22).fld rQLL_STAGE 7 4 = 1 ∧ (stageDie 22).fld rQLL_STAGE 2 0 = 6 ∧
    (stageDie 254).fld rQLL_STAGE 7 4 = 15 ∧ (stageDie 254).flag rQLL_STAGE 3 = true ∧ (stageDie 11).fld rQLL_STAGE 2 0 = 3 ∧ (servState .run).a.stepping = true ∧ (servState .safe).whole.paired = false ∧
    ({ (servState .armed).a with dev := .recovery } : DieState).staging.2 = 2 ^ 32 ∧ (servState .run).a.flag rQLL_USW_RESULT 31 = false := by decide

end Sys2Proof.Tests
end

/-! SUPPORT. Accesses of a die's Quill: the registers that read and write plainly, the bytes of a window, what the firewall denies, and the frame of an access
that begins once the tiles have caught up. -/

namespace Sys2Proof.Machine

/-! ### Bytes in memory -/

theorem leNat_leBytes (k n : Nat) : leNat (leBytes k n) = n % 2 ^ (8 * k) := by
  induction k generalizing n with
  | zero => simp [leBytes, leNat, Nat.mod_one]
  | succ k ih =>
    have e : 2 ^ (8 * (k + 1)) = 256 * 2 ^ (8 * k) := by rw [Nat.mul_succ, pow_add]; ring
    rw [leBytes, leNat, ih, e, Nat.mod_mul]
    rfl

theorem memRead_succ (m : List Host.Cell) (a n : Nat) : memRead m a (n + 1) = memGet m a :: memRead m (a + 1) n := by
  simp [memRead, List.range_succ_eq_map, Function.comp_def, Nat.add_comm 1, Nat.add_assoc]

/-- A byte string that is stored reads back. -/
theorem memRead_memApply_cellsAt (m : List Host.Cell) (a : Nat) (bs : List Byte) (h : Memory.wf m = true) :
    memRead (memApply m (cellsAt a bs)) a bs.length = bs := by
  induction bs generalizing m a with
  | nil => rfl
  | cons b r ih =>
    have hw : Memory.wf (memSet m a b) = true := memSet_wfFrom m 0 a b h (Nat.zero_le _)
    have hb : memGet (memApply (memSet m a b) (cellsAt (a + 1) r)) a = b := by
      rw [memGet_memApply_ne _ _ _ hw fun c hc => by have := cellsAt_range _ _ c hc; omega]
      exact memGet_memSet_same m 0 a b h
    rw [List.length_cons, memRead_succ]
    exact congrArg₂ _ hb (ih _ _ hw)

/-! ### Tables -/

theorem tget?_tset_same {V : Type} (t : Tbl V) (k : Nat) (v : V) : tget? (tset t k v) k = some v := by
  induction t with
  | nil => simp [tset, tget?]
  | cons c r ih =>
    obtain ⟨k', w⟩ := c
    unfold tset
    split
    · simp [tget?]
    · split
      · simp [tget?]
      · simp [tget?, *]

theorem tget?_tdel_same {V : Type} (t : Tbl V) (k : Nat) : tget? (tdel t k) k = none := by
  induction t with
  | nil => rfl
  | cons c r ih =>
    obtain ⟨k', w⟩ := c
    by_cases hk : k' = k
    · simpa [tdel, hk] using ih
    · simpa [tdel, hk, tget?] using ih

/-! ### The `_LO` registers -/

/-- The places of the `_LO` registers (R16). -/
def loOffs : List Nat := loRegs.flatMap fun r => (List.range r.2.2).map fun i => r.1 + i * r.2.1

theorem mem_loOffs {off : Nat} (h : isLo off = true) : off ∈ loOffs := by
  obtain ⟨r, hr, h⟩ := List.any_eq_true.1 h
  obtain ⟨hle, hz, hlt⟩ := of_decide_eq_true h
  refine List.mem_flatMap.2 ⟨r, hr, List.mem_map.2 ⟨_, List.mem_range.2 hlt, ?_⟩⟩
  rw [Nat.div_mul_cancel (Nat.dvd_of_mod_eq_zero hz)]
  omega

theorem loOffs_registers : ∀ off ∈ loOffs, (regDef? off).isSome = true ∧ (regDef? (off + 4)).isSome = true ∧ off % 4 = 0 := by decide

theorem loOffs_apart : ∀ off ∈ loOffs, isLo (off + 4) = false ∧ off ≠ rQLL_USW_EVT ∧ off + 4 ≠ rQLL_USW_EVT := by decide

/-- A `_LO` register and the `_HI` register 4 above it exist, at aligned places. -/
theorem isLo_registers {off : Nat} (h : isLo off = true) : (regDef? off).isSome = true ∧ (regDef? (off + 4)).isSome = true ∧ off % 4 = 0 :=
  loOffs_registers off (mem_loOffs h)

/-- No `_HI` register is a `_LO` register, and QLL_USW_EVT is neither. -/
theorem isLo_apart {off : Nat} (h : isLo off = true) : isLo (off + 4) = false ∧ off ≠ rQLL_USW_EVT ∧ off + 4 ≠ rQLL_USW_EVT :=
  loOffs_apart off (mem_loOffs h)

/-! ### Reads and writes of registers -/

/-- What a register shows depends on its die and the shared parts alone. -/
theorem Whole.regShow_congr {w w' : Whole} {d : Die} (hd : w.die d = w'.die d) (hm : w.mod = w'.mod) (off : Nat) : w.regShow d off = w'.regShow d off := by
  simp only [Whole.regShow, Whole.outRead, hd, hm]

section
variable (w : Whole) (d : Die)

theorem Whole.regRead_none {off : Nat} (h : regDef? off = none) : w.regRead d off = (w, 0) := by simp [Whole.regRead, h]

theorem Whole.regRead_lo {off : Nat} (h : isLo off = true) :
    w.regRead d off = (w.onDie d (fun x => { x with cap := tset x.cap off (d.num, w.regShow d (off + 4)) }), w.regShow d off) := by
  obtain ⟨hr, -, -⟩ := isLo_registers h
  obtain ⟨-, he, -⟩ := isLo_apart h
  simp [Whole.regRead, Option.isNone_eq_false_iff.2 hr, he, h]

theorem Whole.regRead_hi {off i v : Nat} (h : isLo off = true) (hc : tget? (w.die d).cap off = some (i, v)) :
    w.regRead d (off + 4) = (w.onDie d (fun x => { x with cap := tdel x.cap off }), v) := by
  obtain ⟨-, hr, -⟩ := isLo_registers h
  obtain ⟨hl, -, he⟩ := isLo_apart h
  simp [Whole.regRead, Option.isNone_eq_false_iff.2 hr, he, hl, h, hc]

/-- A write of a register that submits nothing, clears no record and lies in no channel has its plain effect. -/
theorem Whole.regWrite_plain {off : Nat} (v : Nat) (hp : off / 0x10000 ≠ 10)
    (ho : off ∉ [rQLL_USW_REQ, rTAR_FENCE_REQ, rSTM_FENCE_REQ, rSTM_MODE, rCHK_SAFE_REQ, rINK_MSG_GO, rTAR_FAULT, rSYN_ERR, rFWL_VIOL]) :
    w.regWrite d off v = w.onDie d (fun x => x.plainWrite off v) := by
  simp only [List.mem_cons, List.not_mem_nil, or_false, not_or] at ho
  obtain ⟨h1, h2, h3, h4, h5, h6, h7, h8, h9⟩ := ho
  have hs : off ≠ rPOS_SWCAP := by rintro rfl; exact hp rfl
  have hc : ¬(rPOS_STAT ≤ off ∧ off < rPOS_STAT + 32) := by unfold rPOS_STAT; omega
  simp only [Whole.regWrite, h1, h2, h3, h4, h5, h6, h7, h8, h9, hs, hc, hp, or_self, if_false]

end

theorem DieState.rd_plainWrite (x : DieState) (off v : Nat) (r : RegDef) (h : regDef? off = some r) :
    (x.plainWrite off v).rd off = (let rw := if configOnly off && x.dev != .config then 0 else r.rw
      let n := v % 2 ^ 32
      (((x.rd off &&& (0xFFFFFFFF ^^^ rw)) ||| (n &&& rw)) &&& (0xFFFFFFFF ^^^ (n &&& r.w1c))) % 2 ^ 32) := by
  simp only [DieState.plainWrite, h, DieState.rd_wr_same]

/-! ### The address map -/

theorem place_eq_none_iff (a : Nat) : place a = none ↔ ¬(a < 0x10000 ∨ (0x100000 ≤ a ∧ a < 0x200000) ∨ (0x10000000 ≤ a ∧ a < 0x10000000 + 19 * 0x10000) ∨
    (0x20000000 ≤ a ∧ a < 0x20000000 + 272 * 0x80000) ∨ (0x30000000 ≤ a ∧ a < 0x31000000) ∨ (0x80000000 ≤ a ∧ a < 0x100000000)) := by
  unfold place
  split_ifs
  all_goals simp [*]

theorem place_reg {a off : Nat} (h : place a = some (.reg off)) : a = 0x10000000 + off := by
  unfold place at h
  split_ifs at h <;> simp only [Option.some.injEq, Place.reg.injEq, reduceCtorEq] at h
  omega

/-- Every window of the map begins and ends at a multiple of 8, so an aligned access that begins in one ends in one. -/
theorem place_last_ne_none {a : Nat} (sz : Fin 4) (ha : a % 2 ^ sz.val = 0) (h : place a ≠ none) : place (a + (2 ^ sz.val - 1)) ≠ none := by
  rw [Ne, place_eq_none_iff, not_not] at h ⊢
  fin_cases sz <;> simp only [] at ha ⊢ <;> omega

/-- An access of `n` bytes at `a` is not one that the place takes. -/
def Place.misplaced (p : Place) (a n : Nat) : Bool := match p with | .reg off => off % 4 != 0 || n != 4 | _ => place (a + (n - 1)) == none

/-- An aligned access is taken by its place, at a register where it has 32 bits. -/
theorem Place.not_misplaced {p : Place} {a : Nat} (sz : Fin 4) (ha : a % 2 ^ sz.val = 0) (hp : place a = some p) (hr : ∀ off, p = .reg off → sz = 2) :
    p.misplaced a (2 ^ sz.val) = false := by
  have hl : (place (a + (2 ^ sz.val - 1)) == none) = false := beq_eq_false_iff_ne.2 (place_last_ne_none sz ha (by simp [hp]))
  cases p with
  | reg off =>
    obtain rfl := hr off rfl
    have := place_reg hp
    have : off % 4 = 0 := by change a % 4 = 0 at ha; omega
    simp [misplaced, this]
  | _ => exact hl

/-! ### How an access ends -/

/-- The module as an access of a die's Quill finds it: the die's tiles have done what they do up to this cycle (log entry 14). -/
def Whole.caught (w : Whole) (d : Die) : Whole := w.onDM d DM.caughtUp

/-- The module as an access that the firewall lets pass acts on it: the die has the wall clock. -/
def Whole.entered (w : Whole) (d : Die) : Whole := (w.caught d).onDie d id

theorem Whole.entered_die (w : Whole) (d : Die) : (w.entered d).die d = ((w.onDM d DM.caughtUp).die d).sync (w.onDM d DM.caughtUp).now := Whole.onDie_die _ _ _

/-- A change of a die begins with the wall clock. -/
theorem Whole.onDie_synced (w : Whole) (d : Die) (f : DieState → DieState) : w.onDie d (fun _ => f ((w.die d).sync w.now)) = w.onDie d f := rfl

theorem DieState.fwl_permitted {x : DieState} {k o i p : Nat} {wr : Bool} (h : x.permits k o i p wr = true) : x.fwl k o i p wr = (x, true) := if_pos h

theorem DieState.fwl_denied {x : DieState} {k o i p : Nat} {wr : Bool} (h : x.permits k o i p wr = false) : x.fwl k o i p wr = (x.violate k o i p wr, false) :=
  if_neg (by simp [h])

section
variable (w : Whole) (d : Die) (a n : Nat) (write : Bool) (v : Nat) (req : Option (Nat × Nat))

theorem Whole.access_unplaced (h : place a = none) : w.access d a n write v req = (w.caught d, .error, 0) := by
  simp only [Whole.access, h, Whole.caught]

theorem Whole.access_misplaced {p : Place} (h : place a = some p) (hm : p.misplaced a n = true) :
    w.access d a n write v req = (w.caught d, .error, 0) := by
  cases p <;> simp only [Place.misplaced] at hm <;> simp only [Whole.access, h, hm, if_true, Whole.caught]

theorem Whole.access_denied {p : Place} (hp : place a = some p) (hm : p.misplaced a n = false) {k o : Nat} (ht : p.target = some (k, o))
    (hf : ((w.entered d).die d).permits k o d.num 0 write = false) :
    w.access d a n write v req = ((w.caught d).onDie d (fun x => x.violate k o d.num 0 write), .denied, 0) := by
  rw [Whole.entered_die] at hf
  cases p <;> simp only [Place.misplaced] at hm <;> simp only [Whole.access, hp, hm, ht, DieState.fwl_denied hf] <;> rfl

variable {off : Nat}

theorem Whole.access_reg (hp : place a = some (.reg off)) (h4 : off % 4 = 0)
    (hf : ((w.entered d).die d).permits (off / 0x10000) (off % 0x10000) d.num 0 write = true) :
    w.access d a 4 write v req = if write then ((w.entered d).regWrite d off v, .ok, 0) else (((w.entered d).regRead d off).1, .ok, ((w.entered d).regRead d off).2) := by
  rw [Whole.entered_die] at hf
  simp only [Whole.access, hp, h4, Place.target, DieState.fwl_permitted hf]
  rfl

theorem Whole.access_ink_read (hp : place a = some (.ink off)) (hm : (Place.ink off).misplaced a n = false)
    (hf : ((w.entered d).die d).permits 21 off d.num 0 false = true) :
    w.access d a n false v req = (w.entered d, .ok, leNat (memRead (w.entered d).mem (Space.mram.base + off) n)) := by
  rw [Whole.entered_die] at hf
  simp only [Place.misplaced] at hm
  simp only [Whole.access, hp, hm, Place.target, DieState.fwl_permitted hf]
  rfl

theorem Whole.access_quill (hp : place a = some (.quill off)) (hm : (Place.quill off).misplaced a n = false) :
    w.access d a n write v req = if write then ((w.entered d).store (cellsAt ((Space.quill d).base + off) (leBytes n v)), .ok, 0)
      else (w.entered d, .ok, leNat (memRead (w.entered d).mem ((Space.quill d).base + off) n)) := by
  simp only [Place.misplaced] at hm
  simp only [Whole.access, hp, hm, Place.target]
  rfl

theorem Whole.store_die (cs : List Host.Cell) (e : Die) : (w.store cs).die e = w.die e := by cases e <;> rfl

/-- A Quill read within DRAM waits in the Memory System (R195). -/
theorem DM.quillDram_read {x : DM} {off n : Nat} (h : x.d.windowAt off + n ≤ 64 * dramLines) :
    x.quillDram off n false v req = (x.onD (fun y => y.onMem (fun m => { m with quill := m.quill ++ [⟨x.d.windowAt off, n, false, [], false, req⟩] })), false) :=
  if_neg (Nat.not_lt.2 h)

theorem Whole.access_dram_read (hp : place a = some (.dram off)) (hm : (Place.dram off).misplaced a n = false)
    (hf : ((w.entered d).die d).permits 20 off d.num 0 false = true) (hn : ((w.entered d).die d).windowAt off + n ≤ 64 * dramLines) :
    w.access d a n false v req = (((w.entered d).onDie d (fun _ => ((w.entered d).die d).onMem (fun m =>
      { m with quill := m.quill ++ [⟨((w.entered d).die d).windowAt off, n, false, [], false, req⟩] }))).store [], .waits, 0) := by
  have hq := DM.quillDram_read v req (x := ⟨(w.entered d).die d, (w.entered d).mem, []⟩) hn
  rw [Whole.entered_die] at hf
  simp only [Place.misplaced] at hm
  simp only [Whole.access, hp, hm, Place.target, DieState.fwl_permitted hf]
  exact congrArg (fun r : DM × Bool => (((w.entered d).onDie d (fun _ => r.1.d)).store r.1.stores, if r.2 then AccEnd.error else .waits, 0)) hq

end

/-! ### The commands -/

section
variable (w w' : Whole) (d : Die) (a : Nat) (sz v : Nat) (e : AccEnd) (r : Nat)

theorem quillRead_misaligned (h : a % 2 ^ sz ≠ 0) : quillRead d a sz w = w.answer d .error 0 := if_pos h

theorem quillWrite_misaligned (h : a % 2 ^ sz ≠ 0) : quillWrite d a sz v w = w.answer d .error 0 := if_pos h

variable {w w' d a sz v e r}

theorem quillRead_of_access (h : a % 2 ^ sz = 0) (hr : w.access d a (2 ^ sz) false 0 none = (w', e, r)) : quillRead d a sz w = w'.answer d e r := by
  simp only [quillRead, h, hr, ne_eq, not_true_eq_false, if_false]

theorem quillWrite_of_access (h : a % 2 ^ sz = 0) (hr : w.access d a (2 ^ sz) true v none = (w', e, r)) : quillWrite d a sz v w = w'.answer d e 0 := by
  simp only [quillWrite, h, hr, ne_eq, not_true_eq_false, if_false]

end

section
variable (w : Whole) (d : Die) (off : Nat) (wr : Bool) (v : Nat) (bad : Bool)

theorem debugWindow_outside (h : 272 * 0x80000 ≤ off) : debugWindow d off wr v bad w = w.answer d .error 0 := if_pos h

variable (h : off < 272 * 0x80000)
include h

theorem debugWindow_denied (hf : ((w.entered d).die d).permits 19 off d.num 0 wr = false) :
    debugWindow d off wr v bad w = ((w.caught d).onDie d (fun x => x.violate 19 off d.num 0 wr)).answer d .denied 0 := by
  rw [Whole.entered_die] at hf
  simp only [debugWindow, Nat.not_le.2 h, if_false, DieState.fwl_denied hf, Bool.not_false, if_true]
  exact congrArg (fun w' => Whole.answer w' d .denied 0) (Whole.onDie_synced (w.caught d) d (fun x => x.violate 19 off d.num 0 wr))

theorem debugWindow_permitted {w' : Whole} {e : AccEnd} {r : Nat} (hf : ((w.entered d).die d).permits 19 off d.num 0 wr = true)
    (hr : (w.entered d).debugAcc d (off / 4 * 4) 4 wr v bad = (w', e, r)) : debugWindow d off wr v bad w = w'.answer d e r := by
  rw [Whole.entered_die] at hf
  simp only [debugWindow, Nat.not_le.2 h, if_false, DieState.fwl_permitted hf]
  exact congrArg (fun r : Whole × AccEnd × Nat => r.1.answer d r.2.1 r.2.2) hr

end

/-- A word of the debug window is read from the tile's SRAM where its parity holds, and written there where a write is taken (R474). -/
theorem Whole.debugAcc_word (w : Whole) (d : Die) (off : Nat) (wr : Bool) (v : Nat) (bad : Bool) :
    w.debugAcc d (off / 4 * 4) 4 wr v bad =
      let at_ := sramBase d (off / 0x80000) + off % 0x80000 / 4 * 4
      if wr then (if (w.die d).debugWrites (off / 0x80000) then (w.store (cellsAt at_ (leBytes 4 v)), .ok, 0) else (w, .error, 0))
      else if bad then (w, .error, 0) else (w, .ok, leNat (memRead w.mem at_ 4)) := by
  have hp : off / 4 * 4 / 0x80000 = off / 0x80000 := by omega
  have ha : off / 4 * 4 % 0x80000 = off % 0x80000 / 4 * 4 := by omega
  simp only [Whole.debugAcc, hp, ha]
  cases wr <;> rfl

end Sys2Proof.Machine

namespace Sys2Proof

open Machine

/-! ### Violations (R353 to R356) -/

section
variable (x : DieState)

/-- A sticky flag that an event sets is set. -/
theorem flag_raiseWith_same (off b : Nat) (f : Option Nat) (r : List Byte) (h : b < 32) (ho : off ∉ inkRegs) : (x.raiseWith off b f r).flag off b = true := by
  unfold DieState.raiseWith
  split
  · assumption
  · dsimp only
    unfold DieState.flag
    rw [RegsOnly.inkPut _ _ _ _ _ _ off ho]
    exact DieState.flag_setFlag_same x off b true h

/-- The event that sets bit 1 of a sticky register leaves its bit 0. -/
theorem flag_zero_raiseWith_one (off : Nat) (f : Option Nat) (r : List Byte) (ho : off ∉ inkRegs) : (x.raiseWith off 1 f r).flag off 0 = x.flag off 0 := by
  unfold DieState.raiseWith
  split
  · rfl
  · dsimp only
    unfold DieState.flag
    rw [RegsOnly.inkPut _ _ _ _ _ _ off ho, DieState.setFlag, DieState.rd_wr_same]
    unfold bit setBit setBits b2n
    congr 1
    simp only [if_true, eq_iff_iff]
    omega

/-- A violation as far as it is counted and the first recorded. -/
def violNoted (k o i p : Nat) (wr : Bool) : DieState :=
  let x := x.count rFWL_CNT 1
  if x.flag rFWL_VIOL 31 then x else (x.wr rFWL_VIOL (0x80000000 + 0x200000 * b2n wr + 0x10000 * k + 256 * p + i)).wr rFWL_VIOL_ADDR o

/-- The first violation as a FLAG record holds it. -/
def violFirst : List Byte := leBytes 4 (x.rd rFWL_VIOL) ++ leBytes 4 (x.rd rFWL_VIOL_ADDR)

/-- The instants of the violations against safety targets, and FIREWALL at the 17th within 1 s (R356). -/
def violSafety : DieState :=
  let again := if x.fwlQuiet && x.flag rCHK_SAFE_CAUSE 6 && !x.chk.rearmed.contains 6 then x.chk.rearmed ++ [6] else x.chk.rearmed
  let vs := x.chk.viols.drop (x.chk.viols.length - 16) ++ [x.clk]
  let x := { x with chk := { x.chk with viols := vs, rearmed := again } }
  if vs.length = 17 && decide (x.clk ≤ vs.getD 0 0 + secondNs) then x.detect 6 else x

/-- A violation is noted and sets FWL_STATUS bit 0; against a safety target it is counted once more, sets bit 1, and may be a SAFE cause. -/
theorem violate_eq (k o i p : Nat) (wr : Bool) : x.violate k o i p wr =
    let y := violNoted x k o i p wr
    let z := y.raiseWith rFWL_STATUS 0 none (violFirst y)
    if safetyTarget k then violSafety ((z.count rFWL_SAFE_CNT 1).raiseWith rFWL_STATUS 1 none (violFirst y)) else z := rfl

theorem OnlyIn.violNoted (k o i p : Nat) (wr : Bool) : OnlyIn [.regs] x (violNoted x k o i p wr) :=
  (OnlyIn.count x _ _).trans (.ite _ (.refl _ _) ((OnlyIn.wr _ _ _).trans (OnlyIn.wr _ _ _)))

theorem RegsOnly.violNoted (k o i p : Nat) (wr : Bool) : RegsOnly [rFWL_VIOL, rFWL_VIOL_ADDR] (x.count rFWL_CNT 1) (violNoted x k o i p wr) :=
  .ite _ (.refl _ _) (((RegsOnly.wr _ _ _).mono (by decide)).trans ((RegsOnly.wr _ _ _).mono (by decide)))

theorem OnlyIn.violSafety : OnlyIn [.regs, .ink, .chk, .net] x (violSafety x) := by
  refine OnlyIn.trans (y := { x with chk := _ }) ?_ (.ite _ (OnlyIn.detect _ _) (.refl _ _))
  exact ⟨rfl, fun p hp => by
    cases p with
    | chk => exact absurd (by decide) hp
    | _ => rfl⟩

theorem RegsOnly.violSafety : RegsOnly causeRegs x (violSafety x) :=
  RegsOnly.trans (y := { x with chk := _ }) (RegsOnly.of_regs _ rfl) (.ite _ (RegsOnly.detect _ _) (.refl _ _))

section
variable (k o i p : Nat) (wr : Bool)

theorem OnlyIn.violate : OnlyIn [.regs, .ink, .chk, .net] x (x.violate k o i p wr) := by
  have hz (y : DieState) (b : Nat) (r : List Byte) : OnlyIn [.regs, .ink, .chk, .net] y (y.raiseWith rFWL_STATUS b none r) := (OnlyIn.raiseWith y _ _ _ _).mono (by decide)
  rw [violate_eq]
  refine ((OnlyIn.violNoted x k o i p wr).mono (by decide)).trans ((hz _ 0 _).trans (.ite _ ?_ (.refl _ _)))
  exact (((OnlyIn.count _ _ _).mono (by decide)).trans (hz _ 1 _)).trans (OnlyIn.violSafety _)

theorem flag_violate : (x.violate k o i p wr).flag rFWL_STATUS 0 = true := by
  have hz (y : DieState) : (y.raiseWith rFWL_STATUS 0 none (violFirst y)).flag rFWL_STATUS 0 = true := flag_raiseWith_same _ _ _ _ _ (by decide) (by decide)
  rw [violate_eq]
  dsimp only
  split
  · unfold DieState.flag
    rw [RegsOnly.violSafety _ _ (by decide)]
    refine (flag_zero_raiseWith_one _ _ _ _ (by decide)).trans ?_
    unfold DieState.flag
    rw [RegsOnly.count _ _ _ _ (by decide)]
    exact hz _
  · exact hz _

theorem rd_violate_count : (x.violate k o i p wr).rd rFWL_CNT = min 0xFFFFFFFF (x.rd rFWL_CNT + 1) := by
  have hy : (violNoted x k o i p wr).rd rFWL_CNT = min 0xFFFFFFFF (x.rd rFWL_CNT + 1) := (RegsOnly.violNoted x k o i p wr _ (by decide)).trans (DieState.rd_count_same _ _ _)
  have hz (y : DieState) (b : Nat) (r : List Byte) : (y.raiseWith rFWL_STATUS b none r).rd rFWL_CNT = y.rd rFWL_CNT := RegsOnly.raiseWith _ _ _ _ _ _ (by decide)
  rw [violate_eq]
  dsimp only
  split
  · rw [RegsOnly.violSafety _ _ (by decide), hz, RegsOnly.count _ _ _ _ (by decide), hz, hy]
  · rw [hz, hy]

end

end

/-! ### The frame of a command of the module that concerns one die -/

theorem onWhole_dieOf (f : Whole → Whole) (s : State) (e : Die) : (s.onWhole f).dieOf e = (f s.whole).die e := by cases e <;> rfl

theorem answer_eq (w : Whole) (d : Die) {e : AccEnd} (v : Nat) (he : e ≠ .waits) : w.answer d e v = w.onDie d (fun x => x.send .quill [b2n (e != .ok), v] []) := if_neg he

/-- The Quill of die `d` hears an answer: whether it is an error, and a value. -/
def Hears (s t : State) (d : Die) (err v : Nat) : Prop := (t.dieOf d).wire = (s.dieOf d).wire ++ [⟨.quill, [err, v], []⟩]

/-- In a command that began in `s`, `w` is the state `u` with die `d` changed in no part but those of `us`, after the stores `ws`. -/
structure Led (s u : State) (d : Die) (us : List DiePart) (ws : List Host.Cell) (w : Whole) : Prop where
  other : OnlyIn [] (u.dieOf d.other) (w.die d.other)
  die : OnlyIn us (u.dieOf d) (w.die d)
  mod : w.mod = u.mod
  mem : w.mem = memApply u.mem ws
  stores : memApply s.mem w.stores = memApply u.mem ws
  time : u.now ≤ w.now
  pending : u.pending = s.pending

theorem Led.start (s : State) (d : Die) : Led s s d [] [] s.whole where
  other := by rw [State.whole_die]; exact .sync _ _ _
  die := by rw [State.whole_die]; exact .sync _ _ _
  mod := rfl
  mem := rfl
  stores := rfl
  time := Nat.le_refl _
  pending := rfl

theorem caught_now (s : State) (d : Die) : (s.caught d).now = (s.whole.caught d).now := by
  refine max_eq_right ?_
  show s.whole.now ≤ (s.whole.onDie d _).now
  rw [Whole.onDie_now]
  exact Nat.le_max_left _ _

theorem caught_mem (s : State) (d : Die) : (s.caught d).mem = (s.whole.caught d).mem := by cases d <;> rfl

theorem Led.caught (s : State) (d : Die) : Led s (s.caught d) d [] [] (s.whole.caught d) where
  other := by rw [State.caught, onWhole_dieOf]; exact .refl _ _
  die := by rw [State.caught, onWhole_dieOf]; exact .refl _ _
  mod := rfl
  mem := (caught_mem s d).symm
  stores := rfl
  time := (caught_now s d).le
  pending := rfl

/-- What an access finds in its die, once the tiles have caught up. -/
theorem entered_die (s : State) (d : Die) : (s.whole.entered d).die d = (s.caught d).here d := by
  rw [State.here, caught_now, State.caught, onWhole_dieOf]
  exact Whole.onDie_die _ _ _

/-- A register shows to an access what it shows in the state it finds. -/
theorem entered_regShow (s : State) (d : Die) (off : Nat) : (s.whole.entered d).regShow d off = (s.caught d).whole.regShow d off :=
  Whole.regShow_congr (by rw [entered_die, State.whole_die]; rfl) (by rw [Whole.entered, Whole.onDie_mod]; rfl) off

section
variable {s u : State} {d : Die} {us vs : List DiePart} {ws : List Host.Cell} {w : Whole}

theorem Led.setDie {y : DieState} (h : Led s u d us ws w) (hy : OnlyIn vs (w.die d) y) : Led s u d (us ++ vs) ws (w.onDie d (fun _ => y)) where
  other := by rw [Whole.onDie_other]; exact h.other
  die := by rw [Whole.onDie_die]; exact (h.die.mono fun _ => List.mem_append_left _).trans (hy.mono fun _ => List.mem_append_right _)
  mod := by rw [Whole.onDie_mod]; exact h.mod
  mem := by rw [Whole.onDie_mem]; exact h.mem
  stores := by rw [Whole.onDie_stores]; exact h.stores
  time := by rw [Whole.onDie_now]; exact h.time.trans (Nat.le_max_left _ _)
  pending := h.pending

theorem Led.onDie {f : DieState → DieState} (h : Led s u d us ws w) (hf : ∀ x, OnlyIn vs x (f x)) : Led s u d (us ++ vs) ws (w.onDie d f) := by
  rw [← Whole.onDie_synced]
  exact h.setDie ((OnlyIn.sync _ _ _).trans (hf _))

theorem Led.store (cs : List Host.Cell) (h : Led s u d us ws w) : Led s u d us (ws ++ cs) (w.store cs) where
  other := h.other
  die := h.die
  mod := h.mod
  mem := by rw [memApply_append, ← h.mem]; rfl
  stores := by rw [memApply_append, ← h.stores, ← memApply_append]; rfl
  time := h.time
  pending := h.pending

theorem Led.entered (s : State) (d : Die) : Led s (s.caught d) d [] [] (s.whole.entered d) := (Led.caught s d).onDie (fun x => .refl [] x)

theorem Led.answer (e : AccEnd) (v : Nat) (h : Led s u d us ws w) : Led s u d (us ++ [.wire]) ws (w.answer d e v) := by
  unfold Whole.answer
  split
  · exact { h with die := h.die.mono fun _ => List.mem_append_left _ }
  · exact h.onDie fun x => .send x _ _ _

section
variable {g : Whole → Whole} (hg : g s.whole = w)
include hg

theorem Led.frameOf (h : Led s u d us [] w) : FrameOf d us u (s.onWhole g) where
  other := by rw [onWhole_dieOf, hg]; exact h.other
  mod := by rw [State.onWhole_mod, hg]; exact h.mod
  mem := by rw [State.onWhole_mem, hg]; exact h.stores
  pending := h.pending.symm
  time := by rw [State.onWhole_now, hg]; exact h.time.trans (Nat.le_max_right _ _)
  die := by rw [onWhole_dieOf, hg]; exact h.die

variable {a : Nat} {bs : List Byte} (hw : Memory.wf u.mem = true)
include hw

theorem Led.frameOfMem (h : Led s u d us (cellsAt a bs) w) : FrameOfMem d us (fun y => y < a ∨ a + bs.length ≤ y) u (s.onWhole g) where
  other := by rw [onWhole_dieOf, hg]; exact h.other
  mod := by rw [State.onWhole_mod, hg]; exact h.mod
  mem y hy := by
    rw [State.onWhole_mem, hg, h.stores]
    exact memGet_memApply_ne _ _ _ hw fun c hc => by have := cellsAt_range _ _ c hc; omega
  pending := h.pending.symm
  time := by rw [State.onWhole_now, hg]; exact h.time.trans (Nat.le_max_right _ _)
  die := by rw [onWhole_dieOf, hg]; exact h.die

theorem Led.memRead (h : Led s u d us (cellsAt a bs) w) : memRead (s.onWhole g).mem a bs.length = bs := by
  rw [State.onWhole_mem, hg, h.stores]
  exact memRead_memApply_cellsAt _ _ _ hw

end

section
variable {g : Whole → Whole} {e : AccEnd} {v : Nat} (hg : g s.whole = w.answer d e v) (he : e ≠ .waits)
include hg he

/-- The die after an access that is answered. -/
theorem answered_die : (s.onWhole g).dieOf d = ((w.die d).sync w.now).send .quill [b2n (e != .ok), v] [] := by
  rw [onWhole_dieOf, hg, answer_eq _ _ _ he, Whole.onDie_die]

theorem Led.hears (h : Led s u d us ws w) (hu : DiePart.wire ∉ us) : Hears u (s.onWhole g) d (b2n (e != .ok)) v := by
  have hw : (w.die d).wire = (u.dieOf d).wire := h.die.2 .wire hu
  rw [Hears, answered_die hg he, DieState.send_wire, ← hw]
  rfl

/-- An access that stores nothing and is answered. -/
theorem Led.reply (h : Led s u d us [] w) (hu : DiePart.wire ∉ us) :
    Hears u (s.onWhole g) d (b2n (e != .ok)) v ∧ FrameOf d (us ++ [.wire]) u (s.onWhole g) :=
  ⟨h.hears hg he hu, (h.answer e v).frameOf hg⟩

end

end

/-- An access that the firewall denies answers an error, and its violation is recorded. -/
theorem denied_reply {s : State} {d : Die} {g : Whole → Whole} {k o : Nat} {wr : Bool}
    (hg : g s.whole = ((s.whole.caught d).onDie d (fun x => x.violate k o d.num 0 wr)).answer d .denied 0) :
    Hears (s.caught d) (s.onWhole g) d 1 0 ∧ ((s.onWhole g).dieOf d).flag rFWL_STATUS 0 = true ∧
      ((s.onWhole g).dieOf d).rd rFWL_CNT = min 0xFFFFFFFF (((s.caught d).dieOf d).rd rFWL_CNT + 1) ∧
      FrameOf d [.regs, .ink, .chk, .net, .wire] (s.caught d) (s.onWhole g) := by
  have hl := (Led.caught s d).onDie (fun x => OnlyIn.violate x k o d.num 0 wr)
  obtain ⟨hh, hf⟩ := hl.reply hg (by decide) (by decide)
  refine ⟨hh, ?_, ?_, hf⟩
  · rw [answered_die hg (by decide), Whole.onDie_die]
    exact flag_violate _ _ _ _ _ _
  · rw [answered_die hg (by decide), Whole.onDie_die, State.caught, onWhole_dieOf]
    exact rd_violate_count _ _ _ _ _ _

/-! ### Accesses of a register -/

theorem OnlyIn.cap (x : DieState) (c : Tbl (Nat × Nat)) : OnlyIn [.cap] x { x with cap := c } :=
  ⟨rfl, fun p hp => by
    cases p with
    | cap => exact absurd (by decide) hp
    | _ => rfl⟩

theorem OnlyIn.plainWrite (x : DieState) (off v : Nat) : OnlyIn [.regs] x (x.plainWrite off v) := by
  unfold DieState.plainWrite
  split
  · exact .refl _ _
  · exact .wr _ _ _

theorem RegsOnly.plainWrite (x : DieState) (off v : Nat) : RegsOnly [off] x (x.plainWrite off v) := by
  unfold DieState.plainWrite
  split
  · exact .refl _ _
  · exact .wr _ _ _

section
variable {s : State} {d : Die} {a off : Nat} (hp : place a = some (.reg off)) (h4 : off % 4 = 0)
include hp h4

theorem aligned_of_reg : a % 2 ^ 2 = 0 := by
  have := place_reg hp
  omega

/-- A word read from a register that the firewall permits answers what the register's read gives. -/
theorem quillRead_reg {w' : Whole} {r : Nat} (hf : ((s.caught d).here d).permits (off / 0x10000) (off % 0x10000) d.num 0 false = true)
    (hr : (s.whole.entered d).regRead d off = (w', r)) : quillRead d a 2 s.whole = w'.answer d .ok r := by
  rw [← entered_die] at hf
  exact quillRead_of_access (aligned_of_reg hp h4) ((Whole.access_reg _ _ _ _ _ _ hp h4 hf).trans (by rw [hr]; rfl))

theorem quillWrite_reg (v : Nat) (hf : ((s.caught d).here d).permits (off / 0x10000) (off % 0x10000) d.num 0 true = true) :
    quillWrite d a 2 v s.whole = ((s.whole.entered d).regWrite d off v).answer d .ok 0 := by
  rw [← entered_die] at hf
  exact quillWrite_of_access (aligned_of_reg hp h4) (Whole.access_reg _ _ _ _ _ _ hp h4 hf)

end

section
variable {s : State} {d : Die} {a : BitVec 32} {off : Nat}

/-- A read of a `_LO` register answers the lower word and captures the upper word of the same instant (R16). -/
theorem loRead_captures (hl : isLo off = true) (hp : place a.toNat = some (.reg off))
    (hf : ((s.caught d).here d).permits (off / 0x10000) (off % 0x10000) d.num 0 false = true) :
    ∃ t, exec (.loRegisterRead d (a, 2)) s = .next t ∧ Hears (s.caught d) t d 0 ((s.caught d).whole.regShow d off) ∧
      tget? (t.dieOf d).cap off = some (d.num, (s.caught d).whole.regShow d (off + 4)) ∧ FrameOf d [.cap, .wire] (s.caught d) t := by
  have hg := quillRead_reg hp (isLo_registers hl).2.2 hf (Whole.regRead_lo _ d hl)
  obtain ⟨hh, hfr⟩ := ((Led.entered s d).onDie fun x => OnlyIn.cap x _).reply hg (by decide) (by decide)
  rw [entered_regShow] at hh
  refine ⟨s.onWhole (quillRead d a.toNat 2), rfl, hh, ?_, hfr⟩
  rw [answered_die hg (by decide), Whole.onDie_die, ← entered_regShow]
  exact tget?_tset_same _ _ _

/-- The next read of its `_HI` register answers the captured word and uses it up (R16). -/
theorem hiRead_takes_capture {i v : Nat} (hl : isLo off = true) (hp : place a.toNat = some (.reg (off + 4)))
    (hf : ((s.caught d).here d).permits ((off + 4) / 0x10000) ((off + 4) % 0x10000) d.num 0 false = true)
    (hc : tget? ((s.caught d).dieOf d).cap off = some (i, v)) :
    ∃ t, exec (.loRegisterRead d (a, 2)) s = .next t ∧ Hears (s.caught d) t d 0 v ∧ tget? (t.dieOf d).cap off = none ∧ FrameOf d [.cap, .wire] (s.caught d) t := by
  have h4 : (off + 4) % 4 = 0 := by rw [Nat.add_mod_right]; exact (isLo_registers hl).2.2
  have hc' : tget? ((s.whole.entered d).die d).cap off = some (i, v) := by rw [entered_die]; exact hc
  have hg := quillRead_reg hp h4 hf (Whole.regRead_hi _ d hl hc')
  obtain ⟨hh, hfr⟩ := ((Led.entered s d).onDie fun x => OnlyIn.cap x _).reply hg (by decide) (by decide)
  refine ⟨s.onWhole (quillRead d a.toNat 2), rfl, hh, ?_, hfr⟩
  rw [answered_die hg (by decide), Whole.onDie_die]
  exact tget?_tdel_same _ _

/-- An offset without a register reads zero (R472). -/
theorem read_without_register (hp : place a.toNat = some (.reg off)) (h4 : off % 4 = 0)
    (hf : ((s.caught d).here d).permits (off / 0x10000) (off % 0x10000) d.num 0 false = true) (hr : regDef? off = none) :
    ∃ t, exec (.loRegisterRead d (a, 2)) s = .next t ∧ Hears (s.caught d) t d 0 0 ∧ FrameOf d [.wire] (s.caught d) t :=
  ⟨_, rfl, (Led.entered s d).reply (quillRead_reg hp h4 hf (Whole.regRead_none _ d hr)) (by decide) (by decide)⟩

theorem write_plain_register (v : BitVec 64) (hp : place a.toNat = some (.reg off)) (h4 : off % 4 = 0)
    (hf : ((s.caught d).here d).permits (off / 0x10000) (off % 0x10000) d.num 0 true = true) (hb : off / 0x10000 ≠ 10)
    (ho : off ∉ [rQLL_USW_REQ, rTAR_FENCE_REQ, rSTM_FENCE_REQ, rSTM_MODE, rCHK_SAFE_REQ, rINK_MSG_GO, rTAR_FAULT, rSYN_ERR, rFWL_VIOL])
    {r : RegDef} (hr : regDef? off = some r) :
    ∃ t, exec (.registerWrite d (a, 2) v) s = .next t ∧ Hears (s.caught d) t d 0 0 ∧
      (let x := (s.caught d).dieOf d
       let rw := if configOnly off && x.dev != .config then 0 else r.rw
       let n := v.toNat % 2 ^ 32
       (t.dieOf d).rd off = (((x.rd off &&& (0xFFFFFFFF ^^^ rw)) ||| (n &&& rw)) &&& (0xFFFFFFFF ^^^ (n &&& r.w1c))) % 2 ^ 32) ∧
      RegsOnly [off] ((s.caught d).dieOf d) (t.dieOf d) ∧ FrameOf d [.regs, .wire] (s.caught d) t := by
  have hg := quillWrite_reg hp h4 v.toNat hf
  rw [Whole.regWrite_plain _ d _ hb ho] at hg
  obtain ⟨hh, hfr⟩ := ((Led.entered s d).onDie fun x => OnlyIn.plainWrite x off v.toNat).reply hg (by decide) (by decide)
  refine ⟨s.onWhole (quillWrite d a.toNat 2 v.toNat), rfl, hh, ?_, ?_, hfr⟩
  · rw [answered_die hg (by decide), Whole.onDie_die, entered_die]
    exact DieState.rd_plainWrite _ off v.toNat r hr
  · rw [answered_die hg (by decide), Whole.onDie_die, entered_die]
    exact RegsOnly.plainWrite _ off v.toNat

end

/-! ### Accesses that are turned away -/

section
variable {s : State} {d : Die} {a : BitVec 32} {sz : Fin 4} {v : BitVec 64}

theorem misaligned_errs (ha : a.toNat % 2 ^ sz.val ≠ 0) : ∀ c ∈ [Instr.loRegisterRead d (a, sz), .registerWrite d (a, sz) v],
    ∃ t, exec c s = .next t ∧ Hears s t d 1 0 ∧ FrameOf d [.wire] s t := by
  simp only [List.mem_cons, List.not_mem_nil, or_false, forall_eq_or_imp, forall_eq]
  exact ⟨⟨_, rfl, (Led.start s d).reply (quillRead_misaligned _ _ _ _ ha) (by decide) (by decide)⟩,
    ⟨_, rfl, (Led.start s d).reply (quillWrite_misaligned _ _ _ _ _ ha) (by decide) (by decide)⟩⟩

/-- An access of no row of the map, or of a register with another size than a word, answers an error. -/
theorem misplaced_errs (ha : a.toNat % 2 ^ sz.val = 0) (hm : place a.toNat = none ∨ ((∃ off, place a.toNat = some (.reg off)) ∧ sz ≠ 2)) :
    ∀ c ∈ [Instr.loRegisterRead d (a, sz), .registerWrite d (a, sz) v],
      ∃ t, exec c s = .next t ∧ Hears (s.caught d) t d 1 0 ∧ FrameOf d [.wire] (s.caught d) t := by
  have hacc (write : Bool) (n : Nat) : s.whole.access d a.toNat (2 ^ sz.val) write n none = (s.whole.caught d, .error, 0) := by
    obtain hp | ⟨⟨off, hp⟩, hz⟩ := hm
    · exact Whole.access_unplaced _ _ _ _ _ _ _ hp
    · have hn : 2 ^ sz.val ≠ 4 := (by decide : ∀ z : Fin 4, z ≠ 2 → 2 ^ z.val ≠ 4) sz hz
      exact Whole.access_misplaced _ _ _ _ _ _ _ hp (by simp [Place.misplaced, hn])
  simp only [List.mem_cons, List.not_mem_nil, or_false, forall_eq_or_imp, forall_eq]
  exact ⟨⟨_, rfl, (Led.caught s d).reply (quillRead_of_access ha (hacc _ _)) (by decide) (by decide)⟩,
    ⟨_, rfl, (Led.caught s d).reply (quillWrite_of_access ha (hacc _ _)) (by decide) (by decide)⟩⟩

/-- An access that the firewall denies answers an error, with the violation recorded (R353 to R356). -/
theorem denied_errs {p : Place} {k o : Nat} {wr : Bool} (ha : a.toNat % 2 ^ sz.val = 0) (hp : place a.toNat = some p) (ht : p.target = some (k, o))
    (hr : ∀ off, p = .reg off → sz = 2) (hf : ((s.caught d).here d).permits k o d.num 0 wr = false) :
    ∃ t, exec (if wr then .registerWrite d (a, sz) v else .loRegisterRead d (a, sz)) s = .next t ∧ Hears (s.caught d) t d 1 0 ∧
      (t.dieOf d).flag rFWL_STATUS 0 = true ∧ (t.dieOf d).rd rFWL_CNT = min 0xFFFFFFFF (((s.caught d).dieOf d).rd rFWL_CNT + 1) ∧
      FrameOf d [.regs, .ink, .chk, .net, .wire] (s.caught d) t := by
  have hm := Place.not_misplaced sz ha hp hr
  rw [← entered_die] at hf
  cases wr with
  | false => exact ⟨_, rfl, denied_reply (quillRead_of_access ha (Whole.access_denied _ _ _ _ _ _ _ hp hm ht hf))⟩
  | true => exact ⟨_, rfl, denied_reply (quillWrite_of_access ha (Whole.access_denied _ _ _ _ _ _ _ hp hm ht hf))⟩

end

/-! ### Accesses of the memory windows -/

theorem OnlyIn.onMem (x : DieState) (f : Mem → Mem) : OnlyIn [.mem] x (x.onMem f) :=
  ⟨rfl, fun p hp => by
    cases p with
    | mem => exact absurd (by decide) hp
    | _ => rfl⟩

/-- Bytes that an answered access stores. -/
theorem stored_reply {s : State} {d : Die} {g : Whole → Whole} {a n v : Nat} (hw : Memory.wf (s.caught d).mem = true)
    (hg : g s.whole = ((s.whole.entered d).store (cellsAt a (leBytes n v))).answer d .ok 0) :
    Hears (s.caught d) (s.onWhole g) d 0 0 ∧ leNat (memRead (s.onWhole g).mem a n) = v % 2 ^ (8 * n) ∧
      FrameOfMem d [.wire] (fun y => y < a ∨ a + n ≤ y) (s.caught d) (s.onWhole g) := by
  have hl := (Led.entered s d).store (cellsAt a (leBytes n v))
  have hm := (hl.answer .ok 0).memRead hg hw
  have hfr := (hl.answer .ok 0).frameOfMem hg hw
  rw [leBytes_length] at hm
  simp only [leBytes_length] at hfr
  exact ⟨hl.hears hg (by decide) (by decide), by rw [hm, leNat_leBytes], hfr⟩

section
variable {s : State} {d : Die} {a : BitVec 32} {sz : Fin 4} {off : Nat} (ha : a.toNat % 2 ^ sz.val = 0)
include ha

theorem ink_read (hp : place a.toNat = some (.ink off)) (hf : ((s.caught d).here d).permits 21 off d.num 0 false = true) :
    ∃ t, exec (.loRegisterRead d (a, sz)) s = .next t ∧ Hears (s.caught d) t d 0 (leNat (memRead (s.caught d).mem (Space.mram.base + off) (2 ^ sz.val))) ∧
      FrameOf d [.wire] (s.caught d) t := by
  have hm := Place.not_misplaced sz ha hp (by simp)
  rw [← entered_die] at hf
  obtain ⟨hh, hfr⟩ := (Led.entered s d).reply (quillRead_of_access ha (Whole.access_ink_read _ _ _ _ _ _ hp hm hf)) (by decide) (by decide)
  rw [(Led.entered s d).mem] at hh
  exact ⟨_, rfl, hh, hfr⟩

/-- The firewall never permits a write of Inkwell (R473). -/
theorem ink_write_denied (v : BitVec 64) (hp : place a.toNat = some (.ink off)) :
    ∃ t, exec (.registerWrite d (a, sz) v) s = .next t ∧ Hears (s.caught d) t d 1 0 ∧ (t.dieOf d).flag rFWL_STATUS 0 = true ∧
      (t.dieOf d).rd rFWL_CNT = min 0xFFFFFFFF (((s.caught d).dieOf d).rd rFWL_CNT + 1) ∧ FrameOf d [.regs, .ink, .chk, .net, .wire] (s.caught d) t :=
  denied_errs (wr := true) ha hp rfl (by simp) rfl

theorem quillSram_read (hp : place a.toNat = some (.quill off)) :
    ∃ t, exec (.loRegisterRead d (a, sz)) s = .next t ∧ Hears (s.caught d) t d 0 (leNat (memRead (s.caught d).mem ((Space.quill d).base + off) (2 ^ sz.val))) ∧
      FrameOf d [.wire] (s.caught d) t := by
  have hm := Place.not_misplaced sz ha hp (by simp)
  obtain ⟨hh, hfr⟩ := (Led.entered s d).reply (quillRead_of_access ha (Whole.access_quill _ _ _ _ _ _ _ hp hm)) (by decide) (by decide)
  rw [(Led.entered s d).mem] at hh
  exact ⟨_, rfl, hh, hfr⟩

theorem quillSram_write (v : BitVec 64) (hp : place a.toNat = some (.quill off)) (hw : Memory.wf (s.caught d).mem = true) :
    let at_ := (Space.quill d).base + off
    ∃ t, exec (.registerWrite d (a, sz) v) s = .next t ∧ Hears (s.caught d) t d 0 0 ∧ leNat (memRead t.mem at_ (2 ^ sz.val)) = v.toNat % 2 ^ (8 * 2 ^ sz.val) ∧
      FrameOfMem d [.wire] (fun y => y < at_ ∨ at_ + 2 ^ sz.val ≤ y) (s.caught d) t := by
  have hm := Place.not_misplaced sz ha hp (by simp)
  exact ⟨_, rfl, stored_reply hw (quillWrite_of_access ha (Whole.access_quill _ _ _ _ _ _ _ hp hm))⟩

/-- A read of the DRAM window joins the accesses that wait for QUILL positions (R195). -/
theorem dram_read_waits (hp : place a.toNat = some (.dram off)) (hf : ((s.caught d).here d).permits 20 off d.num 0 false = true)
    (hn : ((s.caught d).dieOf d).windowAt off + 2 ^ sz.val ≤ 64 * dramLines) :
    ∃ t, exec (.loRegisterRead d (a, sz)) s = .next t ∧
      (t.dieOf d).mem = { ((s.caught d).dieOf d).mem with quill := ((s.caught d).dieOf d).mem.quill ++
        [⟨((s.caught d).dieOf d).windowAt off, 2 ^ sz.val, false, [], false, none⟩] } ∧ FrameOf d [.mem] (s.caught d) t := by
  have hm := Place.not_misplaced sz ha hp (by simp)
  rw [← entered_die] at hf
  have hn' : ((s.whole.entered d).die d).windowAt off + 2 ^ sz.val ≤ 64 * dramLines := by rw [entered_die]; exact hn
  have hg := (quillRead_of_access ha (Whole.access_dram_read _ _ _ _ _ _ hp hm hf hn')).trans (if_pos rfl)
  refine ⟨s.onWhole (quillRead d a.toNat sz.val), rfl, ?_, (((Led.entered s d).setDie (OnlyIn.onMem _ _)).store []).frameOf hg⟩
  rw [onWhole_dieOf, hg, Whole.store_die, Whole.onDie_die, entered_die]
  rfl

end

/-! ### The debug window -/

section
variable {s : State} {d : Die} {off v : BitVec 32} {wr bad : Bool}

theorem debug_outside (h : ¬off.toNat < 272 * 0x80000) :
    ∃ t, exec (.debugWindowAccess d off wr v bad) s = .next t ∧ Hears s t d 1 0 ∧ FrameOf d [.wire] s t :=
  ⟨_, rfl, (Led.start s d).reply (debugWindow_outside _ _ _ _ _ _ (Nat.not_lt.1 h)) (by decide) (by decide)⟩

variable (h : off.toNat < 272 * 0x80000)
include h

theorem debug_denied (hf : ¬((s.caught d).here d).permits 19 off.toNat d.num 0 wr = true) :
    ∃ t, exec (.debugWindowAccess d off wr v bad) s = .next t ∧ Hears (s.caught d) t d 1 0 ∧ (t.dieOf d).flag rFWL_STATUS 0 = true ∧
      FrameOf d [.regs, .ink, .chk, .net, .wire] (s.caught d) t := by
  rw [Bool.not_eq_true, ← entered_die] at hf
  obtain ⟨hh, hs, -, hfr⟩ := denied_reply (debugWindow_denied s.whole d off.toNat wr v.toNat bad h hf)
  exact ⟨_, rfl, hh, hs, hfr⟩

variable (hf : ((s.caught d).here d).permits 19 off.toNat d.num 0 wr = true)
include hf

theorem debugWindow_of_debugAcc {w' : Whole} {e : AccEnd} {r : Nat} (hr : (s.whole.entered d).debugAcc d (off.toNat / 4 * 4) 4 wr v.toNat bad = (w', e, r)) :
    debugWindow d off.toNat wr v.toNat bad s.whole = w'.answer d e r := by
  rw [← entered_die] at hf
  exact debugWindow_permitted _ _ _ _ _ _ h hf hr

/-- A word that fails its parity, and a write where none is taken, answer an error (R474). -/
theorem debug_fails (hk : ¬if wr = true then ((s.caught d).dieOf d).debugWrites (off.toNat / 0x80000) = true else bad = false) :
    ∃ t, exec (.debugWindowAccess d off wr v bad) s = .next t ∧ Hears (s.caught d) t d 1 0 ∧ FrameOf d [.wire] (s.caught d) t := by
  have hr : (s.whole.entered d).debugAcc d (off.toNat / 4 * 4) 4 wr v.toNat bad = (s.whole.entered d, .error, 0) := by
    rw [Whole.debugAcc_word, entered_die]
    cases wr with
    | false => exact if_pos (by simpa using hk)
    | true => exact if_neg hk
  exact ⟨_, rfl, (Led.entered s d).reply (debugWindow_of_debugAcc h hf hr) (by decide) (by decide)⟩

theorem debug_read (hwr : wr = false) (hb : bad = false) :
    ∃ t, exec (.debugWindowAccess d off wr v bad) s = .next t ∧
      Hears (s.caught d) t d 0 (leNat (memRead (s.caught d).mem (sramBase d (off.toNat / 0x80000) + off.toNat % 0x80000 / 4 * 4) 4)) ∧ FrameOf d [.wire] (s.caught d) t := by
  subst hwr hb
  have hr := Whole.debugAcc_word (s.whole.entered d) d off.toNat false v.toNat false
  obtain ⟨hh, hfr⟩ := (Led.entered s d).reply (e := .ok) (debugWindow_of_debugAcc h hf hr) (by decide) (by decide)
  rw [(Led.entered s d).mem] at hh
  exact ⟨_, rfl, hh, hfr⟩

theorem debug_write (hwr : wr = true) (hk : ((s.caught d).dieOf d).debugWrites (off.toNat / 0x80000) = true) (hw : Memory.wf (s.caught d).mem = true) :
    let at_ := sramBase d (off.toNat / 0x80000) + off.toNat % 0x80000 / 4 * 4
    ∃ t, exec (.debugWindowAccess d off wr v bad) s = .next t ∧ Hears (s.caught d) t d 0 0 ∧ leNat (memRead t.mem at_ 4) = v.toNat ∧
      FrameOfMem d [.wire] (fun y => y < at_ ∨ at_ + 4 ≤ y) (s.caught d) t := by
  subst hwr
  intro at_
  have hr : (s.whole.entered d).debugAcc d (off.toNat / 4 * 4) 4 true v.toNat bad = ((s.whole.entered d).store (cellsAt at_ (leBytes 4 v.toNat)), .ok, 0) := by
    rw [Whole.debugAcc_word, entered_die]
    exact if_pos hk
  obtain ⟨hh, hm, hfr⟩ := stored_reply hw (debugWindow_of_debugAcc h hf hr)
  exact ⟨_, rfl, hh, hm.trans (Nat.mod_eq_of_lt v.isLt), hfr⟩

end

/-! ### The statement -/

/-- Settles O58: reads and writes of the Quill, by the place that the address reaches and by what the firewall says. -/
theorem lowReadCapturesTheUpperHalf : Obligations.LowReadCapturesTheUpperHalf := by
  unfold Obligations.LowReadCapturesTheUpperHalf
  refine ⟨fun off hl => isLo_registers hl, fun s d a off hl => ⟨loRead_captures hl, fun i v => hiRead_takes_capture hl⟩, fun s d a sz v c hc => ?_,
    fun s d a sz v p k o wr ha hp ht hr => denied_errs ha hp ht hr, fun s d a v off hp h4 => ?_, fun s d a sz v ha => ?_, fun s d off v wr bad => ?_⟩
  · exact ⟨fun ha => misaligned_errs ha c hc, fun ha hm => misplaced_errs ha hm c hc⟩
  · exact ⟨read_without_register hp h4, fun hf hb ho r => write_plain_register v hp h4 hf hb ho⟩
  · exact ⟨fun off hp => ⟨ink_read ha hp, ink_write_denied ha v hp⟩, fun off hp => ⟨quillSram_read ha hp, quillSram_write ha v hp⟩, fun off hp => dram_read_waits ha hp⟩
  · refine ⟨debug_outside, debug_denied, debug_fails, fun h hf hk hwr => debug_read h hf hwr ?_, fun h hf hk hwr => debug_write h hf hwr ?_⟩
    · exact (if_neg (by simp [hwr])).mp hk
    · exact (if_pos hwr).mp hk

end Sys2Proof

/-! SUPPORT. The module after reset, and the statement on it. -/

namespace Sys2Proof
open Machine

theorem reset_dieOf (d : Die) : State.reset.dieOf d = DieState.reset d := by cases d <;> rfl

/-- A die in reset has written no register. -/
theorem rd_reset (d : Die) (off : Nat) : (DieState.reset d).rd off = regReset off := rfl

theorem fld_sysState_reset (d : Die) : (DieState.reset d).fld rSYS_STATE 3 0 = DevState.boot.code := by
  rw [DieState.fld, rd_reset]
  decide

/-- Settles O6: the register file of a die in reset is empty, so that every register reads its reset value. -/
theorem resetState : Obligations.ResetState := by
  unfold Obligations.ResetState
  refine ⟨fun d => ?_, rfl, rfl, rfl⟩
  rw [reset_dieOf]
  exact ⟨rfl, rfl, rfl, fld_sysState_reset d, rd_reset d, rfl, rfl, rfl⟩
end Sys2Proof

/-! SUPPORT. Unit State requests for a lane in FAULT, and the statement on records, blocks and Unit States that they refute. -/

namespace Sys2Proof
open Machine

/-- Die A has inspection lane 0 configured and in FAULT (R138); nothing runs, and no request is PENDING. -/
def laneInFault : State :=
  { State.reset with a := { DieState.reset .a with held := none, dev := .armed, regs := [(rPTK_LANE, 3)], ptk := { (default : Ptk) with cfg := [(0, default)] } } }

/-- The hardware refuses to disable a lane in FAULT: the result of the request is REJECTED (R138, log entry 9). -/
theorem disable_laneInFault_rejected (t : State) (h : exec (.uswDisable .a 5 0) laneInFault = .next t) : (t.dieOf .a).rd rQLL_USW_RESULT = 3 := by
  obtain rfl := Host.Outcome.next.inj h
  rfl

/-- Refutes O57: the statement has every lane that is neither OFF nor DRAINING turned OFF by a USW_DISABLE where no step runs, and answers APPLIED; a lane in FAULT is among
them, and the model answers REJECTED for it. -/
theorem not_recordsBlocksAndUnitStates : ¬ Obligations.RecordsBlocksAndUnitStates := by
  unfold Obligations.RecordsBlocksAndUnitStates
  rintro ⟨-, -, -, -, h, -⟩
  obtain ⟨-, -, hidle⟩ := h laneInFault .a 5 0 (.uswDisable .a 5 0) _ (.inl ⟨rfl, rfl⟩)
  obtain ⟨-, hlane⟩ := hidle ⟨rfl, rfl, rfl⟩ rfl rfl
  obtain ⟨t, ht, hres, -⟩ := hlane rfl (by decide) rfl (.inl ⟨rfl, by decide, by decide⟩)
  rw [disable_laneInFault_rejected t ht] at hres
  exact absurd hres (by decide)
end Sys2Proof

/-! SUPPORT. What keeps a die's wall clock, and what a message over the links changes. -/

namespace Sys2Proof
open Machine

/-! ### The wall clock -/

section
variable (x : DieState)

@[simp] theorem Machine.DieState.setFld_clk (off hi lo v : Nat) : (x.setFld off hi lo v).clk = x.clk := rfl
@[simp] theorem Machine.DieState.setFlag_clk (off b : Nat) (v : Bool) : (x.setFlag off b v).clk = x.clk := rfl
@[simp] theorem Machine.DieState.count_clk (off k : Nat) : (x.count off k).clk = x.clk := rfl
@[simp] theorem Machine.DieState.wr64_clk (off v : Nat) : (x.wr64 off v).clk = x.clk := rfl
@[simp] theorem Machine.DieState.life_clk (i k : Nat) : (x.life i k).clk = x.clk := rfl
@[simp] theorem Machine.DieState.hist_clk (h b : Nat) : (x.hist h b).clk = x.clk := rfl
@[simp] theorem Machine.DieState.send_clk (k : SentKind) (as : List Nat) (bs : List Byte) : (x.send k as bs).clk = x.clk := rfl
@[simp] theorem Machine.DieState.inkQueue_clk (r : InkRec) : (x.inkQueue r).1.clk = x.clk := by
  unfold DieState.inkQueue
  split <;> rfl

@[simp] theorem Machine.DieState.inkPut_clk (cls unit code : Nat) (fault : Option Nat) (payload : List Byte) : (x.inkPut cls unit code fault payload).clk = x.clk := by
  unfold DieState.inkPut
  dsimp only
  split
  · simp
  · split <;> simp

@[simp] theorem Machine.DieState.inkNote_clk (cls unit : Nat) (fault : Option Nat) (facts : List Nat) : (x.inkNote cls unit fault facts).clk = x.clk :=
  DieState.inkPut_clk _ _ _ _ _ _

@[simp] theorem Machine.DieState.raiseWith_clk (off b : Nat) (fault : Option Nat) (r : List Byte) : (x.raiseWith off b fault r).clk = x.clk := by
  unfold DieState.raiseWith
  split <;> simp

@[simp] theorem Machine.DieState.raise_clk (off b : Nat) : (x.raise off b).clk = x.clk := DieState.raiseWith_clk _ _ _ _ _

@[simp] theorem Machine.DieState.causeFirst_clk (k : Nat) : (x.causeFirst k).clk = x.clk := by
  unfold DieState.causeFirst
  split
  · split <;> rfl
  · rfl

@[simp] theorem Machine.DieState.causeAct_clk : x.causeAct.clk = x.clk := by
  unfold DieState.causeAct
  split
  · rfl
  · split <;> rfl

@[simp] theorem Machine.DieState.detect_clk (k : Nat) : (x.detect k).clk = x.clk := by
  unfold DieState.detect
  split
  · rfl
  · simp [DieState.causeRecord, DieState.causeHold]

@[simp] theorem Machine.DieState.setDev_clk (st : DevState) : (x.setDev st).clk = x.clk := by
  unfold DieState.setDev
  split <;> simp

end

/-! ### What a message over the links changes -/

/-- The registers that a message over the links may change: the ports' counts of discarded frames and the flag of a missing route, Inkwell's included. -/
def linkRegs : List Nat := [rTWL_CNT + 20, rTWL_CNT + 52, rTWL_CNT + 84, rTWL_CNT + 116, rTWL_STATUS] ++ inkRegs

/-- From `x` to `y` a die does no more than send and receive messages of its links. -/
structure Talks (x y : DieState) : Prop where
  only : OnlyIn [.ink, .twl, .regs, .wire] x y
  regs : RegsOnly linkRegs x y
  wire : x.wire <+: y.wire

theorem Talks.refl (x : DieState) : Talks x x := ⟨.refl _ _, .refl _ _, List.prefix_rfl⟩

theorem Talks.trans {x y z : DieState} (h : Talks x y) (k : Talks y z) : Talks x z :=
  ⟨h.only.trans k.only, h.regs.trans k.regs, h.wire.trans k.wire⟩

theorem Talks.sync (x : DieState) (t : Nat) : Talks x (x.sync t) := ⟨.sync _ _ _, .refl _ _, List.prefix_rfl⟩

theorem OnlyIn.twl (x : DieState) (t : Twl) : OnlyIn [.twl] x { x with twl := t } :=
  ⟨rfl, fun p hp => by cases p <;> simp_all [DiePart.Same]⟩

theorem Talks.twl (x : DieState) (t : Twl) : Talks x { x with twl := t } := ⟨(OnlyIn.twl x t).mono (by decide), .of_regs _ rfl, List.prefix_rfl⟩

theorem Talks.modTport (x : DieState) (p : Nat) (f : TPort → TPort) : Talks x (x.modTport p f) := .twl _ _

theorem Talks.send (x : DieState) (k : SentKind) (as : List Nat) (bs : List Byte) : Talks x (x.send k as bs) :=
  ⟨(OnlyIn.send x k as bs).mono (by decide), .of_regs _ rfl, List.prefix_append _ _⟩

/-- A die's wire holds all that it held before. -/
theorem wire_of_onlyIn {us : List DiePart} {x y : DieState} (h : OnlyIn us x y) (hu : DiePart.wire ∉ us) : x.wire <+: y.wire := by
  rw [show y.wire = x.wire from h.2 .wire hu]

theorem Talks.discardFrame (x : DieState) (p : Nat) (hp : p < 4) : Talks x (x.discardFrame p) := by
  have honly : OnlyIn [.regs, .ink] x (x.discardFrame p) := ((OnlyIn.count _ _ _).mono (by decide)).trans (OnlyIn.raise _ _ _)
  have hin : rTWL_CNT + 32 * p + 4 * 5 ∈ linkRegs := by interval_cases p <;> decide
  exact ⟨honly.mono (by decide), ((RegsOnly.count _ _ _).mono (by simpa using hin)).trans ((RegsOnly.raise _ _ _).mono (by decide)),
    wire_of_onlyIn honly (by decide)⟩

theorem Talks.pumpPort (fuel p : Nat) (x : DieState) : Talks x (pumpPort fuel p x) := by
  induction fuel generalizing x with
  | zero => exact .refl x
  | succ k ih =>
    unfold Machine.pumpPort
    dsimp only
    split
    · exact .refl x
    · split
      · exact .refl x
      · exact ((Talks.twl _ _).trans (Talks.send _ _ _ _)).trans (ih _)

theorem pumpPort_clk (fuel p : Nat) (x : DieState) : (pumpPort fuel p x).clk = x.clk := by
  induction fuel generalizing x with
  | zero => rfl
  | succ k ih =>
    unfold Machine.pumpPort
    dsimp only
    split
    · rfl
    · split
      · rfl
      · rw [ih]; rfl

theorem Talks.toPort (x : DieState) (p : Nat) (f : TFrame) (hp : p < 4) : Talks x (x.toPort p f) := by
  unfold DieState.toPort
  dsimp only
  split
  · have hin : rTWL_CNT + 32 * p + 4 * 5 ∈ linkRegs := by interval_cases p <;> decide
    exact ⟨(OnlyIn.count _ _ _).mono (by decide), (RegsOnly.count _ _ _).mono (by simpa using hin), List.prefix_rfl⟩
  · split
    · exact (Talks.modTport _ _ _).trans (Talks.pumpPort _ _ _)
    · split
      · exact .discardFrame x p hp
      · exact .modTport _ _ _

theorem toPort_clk (x : DieState) (p : Nat) (f : TFrame) : (x.toPort p f).clk = x.clk := by
  unfold DieState.toPort
  dsimp only
  split
  · rfl
  · split
    · exact pumpPort_clk _ _ _
    · split
      · exact DieState.raise_clk _ _ _
      · rfl

theorem message_barrier (x : DieState) (m : TMsg) (hm : m.cls = 3) : x.message m = { x with twl := { x.twl with inbox := x.twl.inbox ++ [m] } } := by
  simp [DieState.message, hm]

/-- A BARRIER message of one frame that reaches its die waits there. -/
theorem deliverFrame_barrier (x : DieState) (p : Option Nat) (f : TFrame) (hf : f.cls = 3) (h1 : f.first = true) : ∃ t, x.deliverFrame p f = { x with twl := t } := by
  unfold DieState.deliverFrame
  dsimp only
  split
  · exact ⟨_, message_barrier _ _ (by simp [hf])⟩
  · exact ⟨_, rfl⟩

theorem Talks.deliverFrame (x : DieState) (p : Option Nat) (f : TFrame) (hf : f.cls = 3) (h1 : f.first = true) : Talks x (x.deliverFrame p f) := by
  obtain ⟨t, ht⟩ := deliverFrame_barrier x p f hf h1
  exact ht ▸ .twl x t

theorem deliverFrame_clk (x : DieState) (p : Option Nat) (f : TFrame) (hf : f.cls = 3) (h1 : f.first = true) : (x.deliverFrame p f).clk = x.clk := by
  obtain ⟨t, ht⟩ := deliverFrame_barrier x p f hf h1
  rw [ht]

/-- From `w` to `v` the dies send and receive messages of their links, and nothing else changes but the synchronisation group. -/
structure WholeTalks (w v : Whole) : Prop where
  die : ∀ e, Talks (w.die e) (v.die e)
  now : v.now = w.now
  mem : v.mem = w.mem
  stores : v.stores = w.stores
  mod : v.mod = { w.mod with grp := v.mod.grp }

theorem WholeTalks.refl (w : Whole) : WholeTalks w w := ⟨fun _ => .refl _, rfl, rfl, rfl, rfl⟩

theorem WholeTalks.trans {w v u : Whole} (h : WholeTalks w v) (k : WholeTalks v u) : WholeTalks w u where
  die e := (h.die e).trans (k.die e)
  now := k.now.trans h.now
  mem := k.mem.trans h.mem
  stores := k.stores.trans h.stores
  mod := by rw [k.mod, h.mod]

/-- What holds of one die and the other holds of every die. -/
theorem forall_die {P : Die → Prop} (d : Die) (h : P d) (ho : P d.other) : ∀ e, P e := by
  intro e
  cases d <;> cases e <;> assumption

theorem WholeTalks.onDie (w : Whole) (d : Die) {f : DieState → DieState} (hf : ∀ x, Talks x (f x)) (hc : ∀ x, (f x).clk = x.clk) : WholeTalks w (w.onDie d f) where
  die := forall_die d (by rw [Whole.onDie_die]; exact (Talks.sync _ _).trans (hf _)) (by rw [Whole.onDie_other]; exact .refl _)
  now := by rw [Whole.onDie_now, hc]; simp
  mem := Whole.onDie_mem _ _ _
  stores := Whole.onDie_stores _ _ _
  mod := by rw [Whole.onDie_mod]

theorem WholeTalks.onGrp (w : Whole) (f : SyncGroup → SyncGroup) : WholeTalks w (w.onGrp f) :=
  ⟨fun e => by cases e <;> exact .refl _, rfl, rfl, rfl, rfl⟩

/-- A BARRIER message of one frame goes its way over the links of the module. -/
theorem WholeTalks.forward (fuel : Nat) (e : Die) (f : TFrame) (w : Whole) (hf : f.cls = 3) (h1 : f.first = true) : WholeTalks w (w.forward fuel e none f) := by
  induction fuel generalizing e f w with
  | zero => exact .onDie w e (fun x => .discardFrame x 0 (by decide)) (fun x => DieState.raise_clk _ _ _)
  | succ k ih =>
    unfold Whole.forward
    dsimp only
    split
    · exact ih _ _ _ hf h1
    · split <;> exact .onDie w _ (fun x => .deliverFrame x _ f hf h1) (fun x => deliverFrame_clk x _ f hf h1)
    · split
      next hc => exact .onDie w e (fun x => .toPort x _ f (by omega)) (fun x => toPort_clk x _ f)
      next =>
        have hs : stepTagged f.cls = false := by rw [hf]; rfl
        simp only [hs, Bool.false_eq_true, if_false]
        exact .onDie w e (fun x => .modTport x _ _) (fun _ => rfl)

/-- A BARRIER message of at most 256 bytes is sent. -/
theorem WholeTalks.twlSend (w : Whole) (e : Die) (dest dstDie : Nat) (bs : List Byte) (r : Option (Int × Nat × Nat)) (hb : bs.length ≤ 256) :
    WholeTalks w (w.twlSend e dest dstDie 3 bs r) := by
  have hfs : fragments (bs.length / 256 + 1) 0 bs = [(0, bs)] := by simp [fragments, hb]
  unfold Whole.twlSend
  rw [hfs]
  exact (WholeTalks.onDie w e (f := fun d => { d with twl := { d.twl with tag := (d.twl.tag + 1) % 65536 } }) (fun x => .twl x _) (fun _ => rfl)).trans
    (.forward _ _ _ _ rfl rfl)

theorem barrierBytes_length (k n : Nat) : (barrierBytes k n).length = 32 := by simp [barrierBytes, leBytes_length]

/-- A module that leaves ARMED changes nothing outside its synchronisation group and its links. -/
theorem WholeTalks.withdraw (w : Whole) : WholeTalks w w.withdraw := by
  unfold Whole.withdraw
  dsimp only
  split
  · exact .refl w
  · split
    · exact (WholeTalks.onGrp w _).trans (.onGrp _ _)
    · exact (WholeTalks.onGrp w _).trans (.twlSend _ _ _ _ _ _ (by simp [barrierBytes_length]))

theorem WholeTalks.foldl {A : Type} (f : Whole → A → Whole) (h : ∀ w a, WholeTalks w (f w a)) (l : List A) (w : Whole) : WholeTalks w (l.foldl f w) := by
  induction l generalizing w with
  | nil => exact .refl w
  | cons a r ih => exact (h w a).trans (ih _)

theorem WholeTalks.startGroup (w : Whole) (extra : Nat) : WholeTalks w (w.startGroup extra) := by
  unfold Whole.startGroup
  dsimp only
  split
  · exact .refl w
  · exact (WholeTalks.foldl _ (fun v a => .twlSend v _ _ _ _ _ (by simp [barrierBytes_length])) _ w).trans (.onGrp _ _)

theorem WholeTalks.joinBarrier (w : Whole) : WholeTalks w w.joinBarrier := by
  unfold Whole.joinBarrier
  dsimp only
  split
  · exact .refl w
  · split
    · exact (WholeTalks.onGrp w _).trans ((WholeTalks.onGrp _ _).trans (.startGroup _ _))
    · exact (WholeTalks.onGrp w _).trans (.twlSend _ _ _ _ _ _ (by simp [barrierBytes_length]))

end Sys2Proof

/-! SUPPORT. The field interface silicon and the lifetime commit: what forcing outputs and committing the blocks change. -/

namespace Sys2Proof
open Machine

/-! ### The field interface silicon (R25, R318, R324) -/

theorem tget_foldl_tset {V : Type} (g : Nat → V → V) (d : V) (l : List Nat) (hl : l.Nodup) (t : Tbl V) (n : Nat) :
    tget (l.foldl (fun o k => tset o k (g k (tget o k d))) t) n d = if n ∈ l then g n (tget t n d) else tget t n d := by
  induction l generalizing t with
  | nil => simp
  | cons k r ih =>
    obtain ⟨hk, hr⟩ := List.nodup_cons.1 hl
    rw [List.foldl_cons, ih hr]
    by_cases hn : n = k
    · subst hn
      simp [hk, tget_tset_same]
    · simp [hn, tget_tset_ne _ _ _ _ _ hn]

/-- Every output that is selected is forced. -/
theorem tget_force (w : Whole) (t : Nat) (c : Nat → Bool) (k : Nat → Nat) {n : Nat} (hn : n < 64) (hc : c n = true) :
    tget (w.force t c k).mod.field.outs n default = (tget w.mod.field.outs n default).force t (k n) := by
  refine (tget_foldl_tset (fun n o => o.force t (k n)) default _ (List.nodup_range.filter _) w.mod.field.outs n).trans (if_pos ?_)
  simp [hn, hc]

@[simp] theorem Machine.Whole.onMod_die (w : Whole) (f : ModState → ModState) (e : Die) : (w.onMod f).die e = w.die e := by cases e <;> rfl
@[simp] theorem Machine.Whole.onField_die (w : Whole) (f : FieldIf → FieldIf) (e : Die) : (w.onField f).die e = w.die e := Whole.onMod_die _ _ _
@[simp] theorem Machine.Whole.force_die (w : Whole) (t : Nat) (c : Nat → Bool) (k : Nat → Nat) (e : Die) : (w.force t c k).die e = w.die e := Whole.onMod_die _ _ _
@[simp] theorem Machine.Whole.safeActs_die (w : Whole) (t : Nat) (d e : Die) : (w.safeActs t d).die e = w.die e := Whole.onMod_die _ _ _
@[simp] theorem Machine.Whole.safeActs_now (w : Whole) (t : Nat) (d : Die) : (w.safeActs t d).now = w.now := rfl
@[simp] theorem Machine.Whole.safeActs_mem (w : Whole) (t : Nat) (d : Die) : (w.safeActs t d).mem = w.mem := rfl
@[simp] theorem Machine.Whole.safeActs_stores (w : Whole) (t : Nat) (d : Die) : (w.safeActs t d).stores = w.stores := rfl

theorem safeActs_mod (w : Whole) (t : Nat) (d : Die) : { (w.safeActs t d).mod with field := { (w.safeActs t d).mod.field with outs := w.mod.field.outs } } = w.mod := rfl

/-- What names an output's owner and safe action. -/
theorem owner_congr {w v : Whole} {n : Nat} (hp : ∀ e, (v.die e).paired = (w.die e).paired) (hf : v.mod.field.taken = w.mod.field.taken)
    (hr : ∀ e, (v.die e).rd (rNIB_OUT_CFG + 4 * n) = (w.die e).rd (rNIB_OUT_CFG + 4 * n)) : v.owner n = w.owner n ∧ v.safeAction n = w.safeAction n := by
  have ha := hr .a
  have hb := hr .b
  have hpair : v.paired = w.paired := by simpa [Whole.paired] using congrArg₂ or (hp .a) (hp .b)
  have ho : v.owner n = w.owner n := by
    unfold Whole.owner DieState.flag
    rw [hpair, hf, show v.a.rd _ = w.a.rd _ from ha, show v.b.rd _ = w.b.rd _ from hb]
  refine ⟨ho, ?_⟩
  unfold Whole.safeAction DieState.fld
  rw [ho, hr]

/-- An output's configuration is in none of the registers that a cause, a state, the Nib's cancellations or a link changes. -/
theorem outCfg_apart : ∀ n < 64, rNIB_OUT_CFG + 4 * n ∉ [rSYS_STATE, rNIB_CNT + 20] ++ causeRegs ++ linkRegs := by decide

/-- The owned outputs take their safe action, as the state `w` names it. -/
theorem tget_safeActs {w v : Whole} (t : Nat) {d : Die} {n : Nat} (hn : n < 64) (hv : v.owner n = w.owner n ∧ v.safeAction n = w.safeAction n) (hd : w.owner n = d) :
    tget (v.safeActs t d).mod.field.outs n default = (tget v.mod.field.outs n default).force t (w.safeAction n) := by
  rw [Whole.safeActs, tget_force v t _ _ hn (by simp [hv.1, hd]), hv.2]

/-! ### The lifetime commit (R445, R446) -/

/-- From `w` to `v` the Inkwell writer stores to the MRAM; of a die no more than its tallies change. -/
structure WritesMram (w v : Whole) : Prop where
  die : ∀ e, OnlyIn [.ink] (w.die e) (v.die e)
  now : v.now = w.now
  stores : ∃ ws, v.stores = w.stores ++ ws ∧ ∀ c ∈ ws, Space.mram.base ≤ c.1
  mod : v.mod = { w.mod with ink := v.mod.ink }

theorem WritesMram.trans {w v u : Whole} (h : WritesMram w v) (k : WritesMram v u) : WritesMram w u where
  die e := (h.die e).trans (k.die e)
  now := k.now.trans h.now
  stores := by
    obtain ⟨xs, hx, hxs⟩ := h.stores
    obtain ⟨ys, hy, hys⟩ := k.stores
    exact ⟨xs ++ ys, by simp [hy, hx], fun c hc => (List.mem_append.1 hc).elim (hxs c) (hys c)⟩
  mod := by rw [k.mod, h.mod]

theorem WritesMram.onInk (w : Whole) (f : InkMod → InkMod) : WritesMram w (w.onInk f) :=
  ⟨fun e => by cases e <;> exact .refl _ _, rfl, ⟨[], by simp [Whole.onInk, Whole.onMod]⟩, rfl⟩

theorem WritesMram.onDie (w : Whole) (d : Die) (f : DieState → DieState) (hf : ∀ x, OnlyIn [.ink] x (f x)) (hc : ∀ x, (f x).clk = x.clk) : WritesMram w (w.onDie d f) where
  die := forall_die d (by rw [Whole.onDie_die]; exact (OnlyIn.sync _ _ _).trans (hf _)) (by rw [Whole.onDie_other]; exact .refl _ _)
  now := by simp [hc]
  stores := ⟨[], by simp⟩
  mod := by rw [Whole.onDie_mod]

theorem WritesMram.mram (w : Whole) (a : Nat) (bs : List Byte) : WritesMram w (w.mram a bs) where
  die e := by cases e <;> exact .refl _ _
  now := rfl
  stores := ⟨_, rfl, fun c hc => (Nat.le_add_right _ _).trans (cellsAt_range _ _ c hc).1⟩
  mod := rfl

theorem OnlyIn.ink (x : DieState) (i : Ink) : OnlyIn [.ink] x { x with ink := i } :=
  ⟨rfl, fun p hp => by cases p <;> simp_all [DiePart.Same]⟩

/-- The writer commits the lifetime blocks (R446). -/
theorem WritesMram.commit (w : Whole) : WritesMram w (w.commit false) ∧ (w.commit false).mod.ink.commits = w.mod.ink.commits + 1 := by
  unfold Whole.commit
  extract_lets v none_ u k c block z
  have hu : WritesMram w u :=
    ((WritesMram.onInk w _).trans (.onDie v .a none_ (fun x => .ink x _) (fun _ => rfl))).trans (.onDie _ .b none_ (fun x => .ink x _) (fun _ => rfl))
  have hz : WritesMram u z := (WritesMram.mram u _ _).trans (.mram _ _ _)
  have hk : u.mod.ink.commits = w.mod.ink.commits := by simp [u, v, Whole.onInk, Whole.onMod, InkMod.take]
  rw [if_neg Bool.false_ne_true]
  exact ⟨(hu.trans hz).trans (.onInk z _), congrArg (· + 1) hk⟩

end Sys2Proof

/-! SUPPORT. A die's device state, its events, and the sealing of a SAFE-STATE set: what each changes. -/

namespace Sys2Proof
open Machine

section
variable (x : DieState)

/-! ### Parts of a die -/

theorem OnlyIn.chk (c : Chk) : OnlyIn [.chk] x { x with chk := c } := ⟨rfl, fun p hp => by cases p <;> simp_all [DiePart.Same]⟩
theorem OnlyIn.net (n : Net) : OnlyIn [.net] x { x with net := n } := ⟨rfl, fun p hp => by cases p <;> simp_all [DiePart.Same]⟩
theorem OnlyIn.nib (n : Nib) : OnlyIn [.nib] x { x with nib := n } := ⟨rfl, fun p hp => by cases p <;> simp_all [DiePart.Same]⟩
theorem OnlyIn.line (l : Bool) : OnlyIn [.line] x { x with line := l } := ⟨rfl, fun p hp => by cases p <;> simp_all [DiePart.Same]⟩
theorem OnlyIn.cxp (c : Cxp) : OnlyIn [.cxp] x { x with cxp := c } := ⟨rfl, fun p hp => by cases p <;> simp_all [DiePart.Same]⟩

theorem RegsOnly.chk (os : List Nat) (c : Chk) : RegsOnly os x { x with chk := c } := .of_regs _ rfl
theorem RegsOnly.net (os : List Nat) (n : Net) : RegsOnly os x { x with net := n } := .of_regs _ rfl
theorem RegsOnly.nib (os : List Nat) (n : Nib) : RegsOnly os x { x with nib := n } := .of_regs _ rfl
theorem RegsOnly.line (os : List Nat) (l : Bool) : RegsOnly os x { x with line := l } := .of_regs _ rfl
theorem RegsOnly.life (os : List Nat) (i k : Nat) : RegsOnly os x (x.life i k) := .of_regs _ rfl
theorem RegsOnly.hist (os : List Nat) (h b : Nat) : RegsOnly os x (x.hist h b) := .of_regs _ rfl

/-! ### The device state -/

theorem setDev_dev (st : DevState) : (x.setDev st).dev = st := by
  unfold DieState.setDev
  split
  · assumption
  · exact (OnlyIn.inkPut _ _ _ _ _ _).2 .dev (by decide)

theorem RegsOnly.setDev (st : DevState) : RegsOnly (rSYS_STATE :: inkRegs) x (x.setDev st) := by
  unfold DieState.setDev
  split
  · exact .refl _ _
  · exact ((RegsOnly.of_regs [rSYS_STATE] rfl).trans (.setFld { x with dev := st } _ _ _ _)).mono (by decide) |>.trans ((RegsOnly.inkPut _ _ _ _ _ _).mono (by decide))

theorem fld_setDev (st : DevState) (h : x.dev ≠ st) : (x.setDev st).fld rSYS_STATE 3 0 = st.code := by
  unfold DieState.setDev
  rw [if_neg h, DieState.fld, RegsOnly.inkPut _ _ _ _ _ _ rSYS_STATE (by decide), ← DieState.fld, DieState.fld_setFld_same _ _ _ _ _ (by decide) (by decide)]
  cases st <;> rfl

/-! ### Events and frames -/

theorem OnlyIn.cancelEvents (c : NibEvent → Bool) : OnlyIn [.regs, .nib] x (x.cancelEvents c) :=
  ((OnlyIn.count _ _ _).mono (by decide)).trans ((OnlyIn.nib _ _).mono (by decide))

theorem OnlyIn.dropActions : OnlyIn [.regs, .nib, .net] x x.dropActions :=
  (((OnlyIn.cancelEvents x _).mono (by decide)).trans ((OnlyIn.net _ _).mono (by decide))).trans ((OnlyIn.count _ _ _).mono (by decide))

theorem RegsOnly.dropActions : RegsOnly [rNIB_CNT + 20] x x.dropActions :=
  ((RegsOnly.count x (rNIB_CNT + 4 * 5) _).trans (.of_regs _ rfl)).trans (RegsOnly.count _ (rNIB_CNT + 4 * 5) _)

theorem dropActions_events : x.dropActions.nib.events = [] := by
  simp [DieState.dropActions, DieState.cancelEvents, DieState.nibCount, DieState.count, DieState.wr]

/-- Packing frames changes only what the die keeps of its network. -/
theorem packFrames_net (fuel frag : Nat) (h : SetHead) (ss : List SRec) (vs : List VRec) (l : Nat → Nat) (acc : List Packed) :
    ∃ n, (packFrames fuel frag h ss vs l x acc).1 = { x with net := n } := by
  induction fuel generalizing frag ss vs x acc with
  | zero => exact ⟨x.net, rfl⟩
  | succ f ih =>
    unfold packFrames
    extract_lets room ns nv restS restV last src y data p src' z
    have hz : ∃ n, z = { x with net := n } := by
      simp only [z, y]
      split <;> exact ⟨_, rfl⟩
    split
    · exact hz
    · obtain ⟨n, hn⟩ := hz
      obtain ⟨m, hm⟩ := ih z (frag + 1) restS restV (acc ++ [p])
      exact ⟨m, by rw [hm, hn]⟩

/-- The registers that sealing a SAFE-STATE set may change. -/
def sealRegs : List Nat := [rNET_CNT + 8, rNET_STATUS] ++ inkRegs

/-- What sealing a SAFE-STATE set changes. -/
structure Seals (y : DieState) : Prop where
  only : OnlyIn [.regs, .ink, .net] x y
  regs : RegsOnly sealRegs x y
  clk : y.clk = x.clk
  sent : y.net.safeSent = true

/-- The SAFE-STATE set of a run that ends is sealed (R381). -/
theorem Seals.sealSafe (pub : Bool) : Seals x (x.sealSafe pub) := by
  unfold DieState.sealSafe
  extract_lets h src y r lost src₁ src₂ z u
  have hy : ∃ n, y = { x with net := n } := by
    simp only [y]
    split <;> exact ⟨_, rfl⟩
  have hz : ∃ n : Net, z = { x with net := n } ∧ n.safeSent = true := by
    obtain ⟨n, hn⟩ := hy
    obtain ⟨m, hm⟩ := packFrames_net y 32 0 h (sortBy srecLt y.net.srecs) (sortBy vrecLt y.net.recs) (fun n => n) []
    exact ⟨{ m with recs := [], srecs := [], safeSent := true }, by simp only [z, src₁, src₂, r, hm]; rw [hn], rfl⟩
  obtain ⟨n, hn, hsent⟩ := hz
  have hu : Seals x u := by
    have hxz : Seals x z := hn ▸ ⟨(OnlyIn.net x n).mono (by decide), .of_regs _ rfl, rfl, hsent⟩
    clear_value z
    simp only [u]
    split
    · exact hxz
    · have honly : OnlyIn [.regs, .ink] z ((z.count (rNET_CNT + 8) lost).raise rNET_STATUS 3) :=
        ((OnlyIn.count _ _ _).mono (by decide)).trans (OnlyIn.raise _ _ _)
      exact ⟨hxz.only.trans (honly.mono (by decide)),
        hxz.regs.trans (((RegsOnly.count z _ _).mono (by decide)).trans ((RegsOnly.raise _ _ _).mono (by decide))),
        by simp [hxz.clk], by rw [show DieState.net _ = z.net from honly.2 .net (by decide), hxz.sent]⟩
  clear_value u
  split
  · exact ⟨hu.only.trans ((OnlyIn.net _ _).mono (by decide)), hu.regs.trans (.of_regs _ rfl), hu.clk, hu.sent⟩
  · exact hu
end

end Sys2Proof

/-! SUPPORT. SAFE_ENTRY: the die, its links, its outputs, and the lifetime commit. -/

namespace Sys2Proof
open Machine

/-! ### The entry into SAFE (R347 to R349) -/

/-- The die `d` takes the state SAFE, and counts it. -/
def takeSafe (d : Die) (x : DieState) : DieState := (DieState.setDev { x with chk := { x.chk with pending := false } } .safe).life (8 + d.num) 1

/-- The die `d` as it enters SAFE: its state, its events and its line. -/
def enterSafe (d : Die) (x : DieState) : DieState := { (takeSafe d x).dropActions with line := false }

/-- The die that has entered SAFE drops SAFE_OK, tells its peer and seals what it publishes; `ran`: it was in RUN. -/
def signSafe (ran pub : Bool) (x : DieState) : DieState :=
  let x := x.safeOkOff.tellState
  if ran then x.sealSafe pub else { x with net := { x.net with safeDue := some (0, false) } }

/-- The die lends its outputs: it is die A of a pair, before a takeover. -/
def lends (w : Whole) (d : Die) : Bool := w.paired && d == .a && !w.mod.field.taken

/-- The outputs of a die that enters SAFE: RELEASE where it lends them, else the safe actions. -/
def outputsToSafe (d : Die) (w : Whole) : Whole :=
  if lends w d then w.sendRelease.onDie .a (fun x => { x with cxp := { x.cxp with driving := false } })
  else w.safeActs w.now d

theorem safeEntry_eq {w : Whole} {d : Die} (h : (w.die d).safeDueNow = true) :
    safeEntry d w = ((outputsToSafe d (w.onDie d (enterSafe d)).withdraw).onDie d (signSafe ((w.die d).dev == .run) (w.publishes d))).commit false := by
  unfold safeEntry
  rw [h]
  rfl

/-- `y` is in SAFE as a die is once it has entered it, its step sequencer as in `x`. -/
structure InSafe (x y : DieState) : Prop where
  dev : y.dev = .safe
  state : y.fld rSYS_STATE 3 0 = 6
  events : y.nib.events = []
  line : y.line = false
  seq : y.seq = x.seq
  pending : y.chk.pending = false

/-- What follows the entry keeps the die in SAFE. -/
theorem InSafe.keep {x y z : DieState} {us : List DiePart} {os : List Nat} (h : InSafe x y) (hz : OnlyIn us y z) (hr : RegsOnly os y z)
    (hu : DiePart.dev ∉ us ∧ DiePart.nib ∉ us ∧ DiePart.line ∉ us ∧ DiePart.seq ∉ us) (ho : rSYS_STATE ∉ os) (hc : z.chk.pending = y.chk.pending) : InSafe x z where
  dev := (hz.2 .dev hu.1).trans h.dev
  state := by rw [DieState.fld, hr _ ho]; exact h.state
  events := by rw [show z.nib = y.nib from hz.2 .nib hu.2.1, h.events]
  line := (hz.2 .line hu.2.2.1).trans h.line
  seq := (hz.2 .seq hu.2.2.2).trans h.seq
  pending := hc.trans h.pending

/-- The registers that entering SAFE changes in the die. -/
def enterRegs : List Nat := [rSYS_STATE, rNIB_CNT + 20] ++ inkRegs

theorem takeSafe_only (d : Die) (x : DieState) : OnlyIn [.dev, .regs, .ink, .chk] x (takeSafe d x) :=
  (((OnlyIn.chk x { x.chk with pending := false }).mono (by decide)).trans ((OnlyIn.setDev _ .safe).mono (by decide))).trans ((OnlyIn.life _ _ _).mono (by decide))

theorem takeSafe_regs (d : Die) (x : DieState) : RegsOnly (rSYS_STATE :: inkRegs) x (takeSafe d x) :=
  ((RegsOnly.of_regs _ rfl).trans (RegsOnly.setDev { x with chk := { x.chk with pending := false } } .safe)).trans (RegsOnly.of_regs _ rfl)

theorem takeSafe_dev (d : Die) (x : DieState) : (takeSafe d x).dev = .safe := setDev_dev _ _

theorem takeSafe_fld (d : Die) {x : DieState} (h : x.dev ≠ .safe) : (takeSafe d x).fld rSYS_STATE 3 0 = 6 := by
  have hr := RegsOnly.of_regs (x := DieState.setDev { x with chk := { x.chk with pending := false } } .safe) (y := takeSafe d x) [] rfl
  rw [DieState.fld, hr _ (by decide), ← DieState.fld]
  exact fld_setDev _ .safe h

theorem takeSafe_chk (d : Die) (x : DieState) : (takeSafe d x).chk = { x.chk with pending := false } :=
  (OnlyIn.setDev { x with chk := { x.chk with pending := false } } .safe).2 .chk (by decide)

theorem takeSafe_clk (d : Die) (x : DieState) : (takeSafe d x).clk = x.clk := DieState.setDev_clk _ _

theorem dropActions_clk (x : DieState) : x.dropActions.clk = x.clk := rfl

theorem enterSafe_only (d : Die) (x : DieState) : OnlyIn [.dev, .line, .regs, .ink, .chk, .nib, .net] x (enterSafe d x) :=
  (((takeSafe_only d x).mono (by decide)).trans ((OnlyIn.dropActions _).mono (by decide))).trans ((OnlyIn.line _ _).mono (by decide))

theorem enterSafe_regs (d : Die) (x : DieState) : RegsOnly enterRegs x (enterSafe d x) :=
  (((takeSafe_regs d x).mono (by decide)).trans ((RegsOnly.dropActions (takeSafe d x)).mono (by decide))).trans (.line _ _ _)

theorem enterSafe_clk (d : Die) (x : DieState) : (enterSafe d x).clk = x.clk := (dropActions_clk (takeSafe d x)).trans (takeSafe_clk d x)

theorem enterSafe_inSafe (d : Die) {x : DieState} (h : x.dev ≠ .safe) : InSafe x (enterSafe d x) := by
  have hlast : OnlyIn [.regs, .nib, .net, .line] (takeSafe d x) (enterSafe d x) :=
    ((OnlyIn.dropActions (takeSafe d x)).mono (by decide)).trans ((OnlyIn.line _ _).mono (by decide))
  have hdev : (enterSafe d x).dev = (takeSafe d x).dev := hlast.2 .dev (by decide)
  have hchk : (enterSafe d x).chk = (takeSafe d x).chk := hlast.2 .chk (by decide)
  have hregs : (enterSafe d x).rd rSYS_STATE = (takeSafe d x).rd rSYS_STATE :=
    ((RegsOnly.dropActions (takeSafe d x)).trans (.line _ _ false)) rSYS_STATE (by decide)
  exact {
    dev := hdev.trans (takeSafe_dev d x)
    state := by rw [DieState.fld, hregs]; exact takeSafe_fld d h
    events := dropActions_events (takeSafe d x)
    line := rfl
    seq := (enterSafe_only d x).2 .seq (by decide)
    pending := by rw [hchk, takeSafe_chk] }

/-- What a die in SAFE does as it drops SAFE_OK and seals what it publishes. -/
structure Signs (ran : Bool) (x y : DieState) : Prop where
  only : OnlyIn [.chk, .wire, .net, .regs, .ink] x y
  regs : RegsOnly sealRegs x y
  chk : y.chk = { x.chk with okCmd := false, pulse := none, okMiss := 0 }
  wire : y.wire = x.wire ++ [⟨.toDie, [x.dev.code], []⟩]
  clk : y.clk = x.clk
  due : ran = false → y.net.safeDue = some (0, false)
  sent : ran = true → y.net.safeSent = true

theorem signSafe_signs (ran pub : Bool) (x : DieState) : Signs ran x (signSafe ran pub x) := by
  unfold signSafe
  have h : OnlyIn [.chk, .wire] x x.safeOkOff.tellState := ((OnlyIn.chk x _).mono (by decide)).trans ((OnlyIn.send _ _ _ _).mono (by decide))
  cases ran with
  | true =>
    obtain ⟨honly, hregs, hclk, hsent⟩ := Seals.sealSafe x.safeOkOff.tellState pub
    exact ⟨(h.mono (by decide)).trans (honly.mono (by decide)), hregs, honly.2 .chk (by decide), honly.2 .wire (by decide), hclk, nofun, fun _ => hsent⟩
  | false => exact ⟨(h.mono (by decide)).trans ((OnlyIn.net _ _).mono (by decide)), .of_regs _ rfl, rfl, rfl, rfl, fun _ => rfl, nofun⟩

/-- Where the registers stay, none changes. -/
theorem RegsOnly.of_onlyIn {us : List DiePart} {x y : DieState} (os : List Nat) (h : OnlyIn us x y) (hu : DiePart.regs ∉ us) : RegsOnly os x y :=
  .of_regs os (h.2 .regs hu)

/-- What bringing the outputs to safety changes in the dies. -/
structure OutputsOnly (d : Die) (w v : Whole) : Prop where
  die : OnlyIn [.cxp] (w.die d) (v.die d)
  other : v.die d.other = w.die d.other
  now : v.now = w.now
  stores : v.stores = w.stores

theorem outputsToSafe_only (d : Die) (w : Whole) : OutputsOnly d w (outputsToSafe d w) := by
  unfold outputsToSafe
  split
  next h =>
    obtain rfl : d = .a := by simp_all [lends]
    exact ⟨(OnlyIn.sync _ _ _).trans (OnlyIn.cxp _ _), rfl, Nat.max_self _, rfl⟩
  next => exact ⟨by rw [Whole.safeActs_die]; exact .refl _ _, Whole.safeActs_die _ _ _ _, rfl, rfl⟩

theorem outputsToSafe_lent {d : Die} {w : Whole} (h : lends w d = true) :
    (outputsToSafe d w).mod.field = { w.mod.field with release := some w.now, relSent := true } ∧ ((outputsToSafe d w).die d).cxp.driving = false := by
  obtain rfl : d = .a := by simp_all [lends]
  rw [outputsToSafe, if_pos h]
  exact ⟨rfl, rfl⟩

theorem outputsToSafe_kept {d : Die} {w : Whole} (h : lends w d = false) : outputsToSafe d w = w.safeActs w.now d := if_neg (by simp [h])

/-- A die that enters SAFE, before its outputs do: the module's dies, its clock and its stores. -/
def enteredSafe (d : Die) (w : Whole) : Whole := (w.onDie d (enterSafe d)).withdraw

section
variable (d : Die) (w : Whole)

theorem enteredSafe_talks : WholeTalks (w.onDie d (enterSafe d)) (enteredSafe d w) := .withdraw _

theorem enteredSafe_other : Talks (w.die d.other) ((enteredSafe d w).die d.other) := by
  have h := (enteredSafe_talks d w).die d.other
  rwa [Whole.onDie_other] at h

theorem enteredSafe_die : Talks (enterSafe d ((w.die d).sync w.now)) ((enteredSafe d w).die d) := by
  have h := (enteredSafe_talks d w).die d
  rwa [Whole.onDie_die] at h

theorem enteredSafe_now : (enteredSafe d w).now = w.now := by
  rw [(enteredSafe_talks d w).now, Whole.onDie_now, enterSafe_clk]
  simp

theorem enteredSafe_mod : (enteredSafe d w).mod = { w.mod with grp := (enteredSafe d w).mod.grp } := by
  have h := (enteredSafe_talks d w).mod
  rwa [Whole.onDie_mod] at h

theorem enteredSafe_only : OnlyIn [.dev, .line, .regs, .ink, .chk, .nib, .net, .twl, .wire] (w.die d) ((enteredSafe d w).die d) :=
  ((OnlyIn.sync _ _ _).trans ((enterSafe_only d _).mono (by decide))).trans ((enteredSafe_die d w).only.mono (by decide))

/-- The registers that the entry changes before the outputs go to safety. -/
def entryRegs : List Nat := enterRegs ++ linkRegs

theorem enteredSafe_regs : RegsOnly entryRegs (w.die d) ((enteredSafe d w).die d) :=
  have h : RegsOnly enterRegs (w.die d) (enterSafe d ((w.die d).sync w.now)) := enterSafe_regs d _
  (h.mono (by decide)).trans ((enteredSafe_die d w).regs.mono (by decide))

theorem enteredSafe_inSafe (h : (w.die d).dev ≠ .safe) : InSafe (w.die d) ((enteredSafe d w).die d) :=
  have hs : InSafe (w.die d) (enterSafe d ((w.die d).sync w.now)) := { enterSafe_inSafe d (x := (w.die d).sync w.now) h with }
  hs.keep (enteredSafe_die d w).only (enteredSafe_die d w).regs (by decide) (by decide)
    (congrArg (·.pending) ((enteredSafe_die d w).only.2 .chk (by decide)))

/-- The entry changes neither who owns an output nor its safe action. -/
theorem enteredSafe_owner {n : Nat} (hn : n < 64) : (enteredSafe d w).owner n = w.owner n ∧ (enteredSafe d w).safeAction n = w.safeAction n := by
  have hin : rNIB_OUT_CFG + 4 * n ∉ entryRegs ∧ rNIB_OUT_CFG + 4 * n ∉ linkRegs := by
    have h := outCfg_apart n hn
    simp only [entryRegs, enterRegs, causeRegs, List.mem_append, not_or] at h ⊢
    tauto
  refine owner_congr (forall_die d ?_ ?_) (by rw [enteredSafe_mod]) (forall_die d ?_ ?_)
  · exact (enteredSafe_only d w).2 .paired (by decide)
  · exact (enteredSafe_other d w).only.2 .paired (by decide)
  · exact enteredSafe_regs d w _ hin.1
  · exact (enteredSafe_other d w).regs _ hin.2

theorem enteredSafe_lends : lends (enteredSafe d w) d = lends w d := by
  have ha : ∀ e, ((enteredSafe d w).die e).paired = (w.die e).paired :=
    forall_die d ((enteredSafe_only d w).2 .paired (by decide)) ((enteredSafe_other d w).only.2 .paired (by decide))
  have hp : (enteredSafe d w).paired = w.paired := by simpa [Whole.paired] using congrArg₂ or (ha .a) (ha .b)
  rw [lends, hp, enteredSafe_mod]
  rfl
end

theorem safeDueNow_dev {x : DieState} (h : x.safeDueNow = true) : x.dev ≠ .safe := by
  intro hd
  simp [DieState.safeDueNow, hd] at h

section
variable (d : Die) (w : Whole)

/-- The module once die `d` has entered SAFE, before the lifetime commit. -/
def signedSafe : Whole := (outputsToSafe d (enteredSafe d w)).onDie d (signSafe ((w.die d).dev == .run) (w.publishes d))

theorem signedSafe_signs : Signs ((w.die d).dev == .run) (((outputsToSafe d (enteredSafe d w)).die d).sync w.now) ((signedSafe d w).die d) := by
  have hn : (outputsToSafe d (enteredSafe d w)).now = w.now := (outputsToSafe_only d _).now.trans (enteredSafe_now d w)
  rw [signedSafe, Whole.onDie_die, hn]
  exact signSafe_signs _ _ _

theorem signedSafe_now : (signedSafe d w).now = w.now := by
  have hn : (outputsToSafe d (enteredSafe d w)).now = w.now := (outputsToSafe_only d _).now.trans (enteredSafe_now d w)
  rw [signedSafe, Whole.onDie_now, (signSafe_signs _ _ _).clk, hn]
  simp

theorem signedSafe_stores : (signedSafe d w).stores = w.stores := by
  rw [signedSafe, Whole.onDie_stores, (outputsToSafe_only d _).stores, (enteredSafe_talks d w).stores, Whole.onDie_stores]

theorem signedSafe_mod : (signedSafe d w).mod = (outputsToSafe d (enteredSafe d w)).mod := Whole.onDie_mod _ _ _

theorem signedSafe_other : Talks (w.die d.other) ((signedSafe d w).die d.other) := by
  rw [signedSafe, Whole.onDie_other, (outputsToSafe_only d _).other]
  exact enteredSafe_other d w

theorem signedSafe_inSafe (h : (w.die d).dev ≠ .safe) : InSafe (w.die d) ((signedSafe d w).die d) := by
  have ho := (outputsToSafe_only d (enteredSafe d w)).die
  have hs := signedSafe_signs d w
  have h₁ : InSafe (w.die d) ((outputsToSafe d (enteredSafe d w)).die d) :=
    (enteredSafe_inSafe d w h).keep ho (.of_onlyIn [] ho (by decide)) (by decide) (by decide) (congrArg (·.pending) (ho.2 .chk (by decide)))
  exact h₁.keep ((OnlyIn.sync _ _ _).trans hs.only) hs.regs (by decide) (by decide) (by rw [hs.chk]; rfl)

end

/-- SAFE_ENTRY where a cause is due to act. -/
theorem safeEntry_due (s : State) (d : Die) (h : (s.dieOf d).safeDueNow = true) (hm : Memory.wf s.mem = true) :
    let t := s.onWhole (safeEntry d)
    (t.dieOf d).dev = .safe ∧ (t.dieOf d).fld rSYS_STATE 3 0 = 6 ∧ (t.dieOf d).nib.events = [] ∧ (t.dieOf d).line = false ∧
      (t.dieOf d).chk.okCmd = false ∧ (t.dieOf d).chk.pending = false ∧ ⟨.toDie, [6], []⟩ ∈ (t.dieOf d).wire ∧ (t.dieOf d).seq = (s.dieOf d).seq ∧
      ((s.dieOf d).dev ≠ .run → (t.dieOf d).net.safeDue = some (0, false)) ∧ ((s.dieOf d).dev = .run → (t.dieOf d).net.safeSent = true) ∧
      (lends s.whole d = false → ∀ n, n < 64 → s.whole.owner n = d →
        tget t.mod.field.outs n default = (tget s.mod.field.outs n default).force s.now (s.whole.safeAction n)) ∧
      (lends s.whole d = true → t.mod.field = { s.mod.field with release := some s.now, relSent := true } ∧ (t.dieOf d).cxp.driving = false) ∧
      (∀ a, a < Space.mram.base → memGet t.mem a = memGet s.mem a) ∧
      OnlyIn [.ink, .twl, .regs, .wire] (s.dieOf d.other) (t.dieOf d.other) ∧ t.pending = s.pending := by
  intro t
  have hdie : s.whole.die d = (s.dieOf d).sync s.now := State.whole_die s d
  have hdue : (s.whole.die d).safeDueNow = true := hdie ▸ h
  have hz : safeEntry d s.whole = (signedSafe d s.whole).commit false := safeEntry_eq hdue
  obtain ⟨hr, -⟩ := WritesMram.commit (signedSafe d s.whole)
  rw [← hz] at hr
  have htd : ∀ e, OnlyIn [.ink] ((signedSafe d s.whole).die e) (t.dieOf e) := fun e => by rw [onWhole_dieOf]; exact hr.die e
  have hin : InSafe (s.whole.die d) (t.dieOf d) := by
    refine (signedSafe_inSafe d s.whole (safeDueNow_dev hdue)).keep (htd d) (.of_onlyIn [] (htd d) (by decide)) (by decide) (by decide) ?_
    exact congrArg (·.pending) ((htd d).2 .chk (by decide))
  have hsig := signedSafe_signs d s.whole
  have hchk : (t.dieOf d).chk = ((signedSafe d s.whole).die d).chk := (htd d).2 .chk (by decide)
  have hwire : (t.dieOf d).wire = ((signedSafe d s.whole).die d).wire := (htd d).2 .wire (by decide)
  have hnet : (t.dieOf d).net = ((signedSafe d s.whole).die d).net := (htd d).2 .net (by decide)
  have hcxp : (t.dieOf d).cxp = ((signedSafe d s.whole).die d).cxp := (htd d).2 .cxp (by decide)
  have hfield : t.mod.field = (outputsToSafe d (enteredSafe d s.whole)).mod.field := by
    rw [State.onWhole_mod, hr.mod, signedSafe_mod]
  have hdev : (t.dieOf d).dev = ((outputsToSafe d (enteredSafe d s.whole)).die d).dev :=
    Eq.trans ((htd d).2 .dev (by decide)) (hsig.only.2 .dev (by decide))
  refine ⟨hin.dev, hin.state, hin.events, hin.line, by rw [hchk, hsig.chk], hin.pending, ?_, ?_, ?_, ?_, ?_, ?_, ?_, ?_, rfl⟩
  · rw [hwire, hsig.wire, DieState.sync_dev, ← hdev, hin.dev]
    simp [DevState.code]
  · rw [hin.seq, hdie]; rfl
  · intro hd
    rw [hnet]
    exact hsig.due (by simpa [hdie] using hd)
  · intro hd
    rw [hnet]
    exact hsig.sent (by simp [hdie, hd])
  · intro hl n hn hown
    rw [hfield, outputsToSafe_kept (by rw [enteredSafe_lends, hl]), tget_safeActs _ hn (enteredSafe_owner d s.whole hn) hown, enteredSafe_now, enteredSafe_mod]
    rfl
  · intro hl
    obtain ⟨hf, hdrive⟩ := outputsToSafe_lent (d := d) (w := enteredSafe d s.whole) (by rw [enteredSafe_lends, hl])
    refine ⟨by rw [hfield, hf, enteredSafe_now, enteredSafe_mod]; rfl, ?_⟩
    rw [hcxp, show (DieState.cxp _) = _ from hsig.only.2 .cxp (by decide)]
    exact hdrive
  · intro a ha
    obtain ⟨ws, hws, hbase⟩ := hr.stores
    rw [signedSafe_stores] at hws
    rw [State.onWhole_mem, hws]
    exact memGet_memApply_ne _ _ _ hm (fun c hc => (ha.trans_le (hbase c (by simpa using hc))).ne')
  · have ho : s.whole.die d.other = (s.dieOf d.other).sync s.now := State.whole_die s _
    have h₁ := (signedSafe_other d s.whole).only
    rw [ho] at h₁
    exact (((OnlyIn.sync _ _ _).trans h₁).mono (by decide)).trans ((htd _).mono (by decide))

end Sys2Proof

/-! SUPPORT. Causes, the monitor, SAFE_OK and its test, and the statement on SAFE. -/

namespace Sys2Proof
open Machine

/-! ### Causes -/

/-- The first cause is noted elsewhere than among the causes. -/
theorem causeFirst_regs (x : DieState) (k : Nat) : RegsOnly [rCHK_SAFE_FIRST, rCHK_SAFE_STEP_LO, rCHK_SAFE_STEP_LO + 4] x (x.causeFirst k) := by
  unfold DieState.causeFirst
  split
  · exact RegsOnly.ite _ ((RegsOnly.setFld _ _ _ _ _).mono (by decide)) (.refl _ _)
  · exact (((RegsOnly.chk x _ _).trans ((RegsOnly.wr _ rCHK_SAFE_FIRST _).mono (by decide)))).trans ((RegsOnly.wr64 _ rCHK_SAFE_STEP_LO _).mono (by decide))

/-- A cause that is detected is held in CHK_SAFE_CAUSE. -/
theorem flag_detect (x : DieState) (k : Nat) (hk : k < 32) : (x.detect k).flag rCHK_SAFE_CAUSE k = true := by
  unfold DieState.detect
  split
  next h => simp_all
  next =>
    have hhold : RegsOnly [] (x.setFlag rCHK_SAFE_CAUSE k true) (x.causeHold k) := .of_regs _ rfl
    have hrec : RegsOnly inkRegs ((x.causeHold k).causeFirst k) (((x.causeHold k).causeFirst k).causeRecord k) :=
      (RegsOnly.inkPut _ _ _ _ _ _).trans (.hist _ _ _ _)
    rw [DieState.flag, RegsOnly.causeAct _ _ (by decide), hrec _ (by decide), causeFirst_regs _ _ _ (by decide), hhold _ (by decide), ← DieState.flag,
      DieState.flag_setFlag_same _ _ _ _ hk]

/-! ### CHK_SAFE_REQ -/

theorem OnlyIn.chkSafeReq (v : Nat) (x : DieState) : OnlyIn [.regs, .ink, .chk, .net] x (chkSafeReq v x) := by
  unfold Machine.chkSafeReq
  split
  · exact .detect x 18
  · exact .refl _ x

theorem chkSafeReq_without_go {v : Nat} (h : bit 31 v = false) (x : DieState) : chkSafeReq v x = x := by simp [chkSafeReq, h]

theorem chkSafeReq_flag {v : Nat} (h : bit 31 v = true) (x : DieState) : (chkSafeReq v x).flag rCHK_SAFE_CAUSE 18 = true := by
  rw [chkSafeReq, if_pos h]
  exact flag_detect x 18 (by decide)

/-- The dies of a pair that both step. -/
def bothStep (s : State) (d : Die) : Bool := s.whole.paired && (s.dieOf d).stepping && (s.dieOf d.other).stepping

section
variable {s : State} {d : Die}

theorem bothStep_whole : (s.whole.paired && (s.whole.die d).stepping && (s.whole.die d.other).stepping) = bothStep s d := by
  rw [State.whole_die, State.whole_die]
  rfl

theorem chkSafeAsk_one (v : Nat) (h : bothStep s d = false) : chkSafeAsk d v s.whole = s.whole.onDie d (chkSafeReq v) := by
  rw [chkSafeAsk, bothStep_whole, if_neg (by simp [h])]

theorem chkSafeAsk_both (v : Nat) (h : bothStep s d = true) : chkSafeAsk d v s.whole = (s.whole.onDie .a (chkSafeReq v)).onDie .b (chkSafeReq v) := by
  rw [chkSafeAsk, bothStep_whole, if_pos h]
  rfl

/-- The frame of a command of the module that acts on each die by its own. -/
theorem both_frame {f : DieState → DieState} {us : List DiePart} {g : Whole → Whole} (hg : g s.whole = (s.whole.onDie .a f).onDie .b f) (hf : ∀ x, OnlyIn us x (f x)) :
    FrameBoth us us s (s.onWhole g) where
  mem := by rw [State.onWhole_mem, hg]; rfl
  pending := rfl
  time := Nat.le_max_left _ _
  a := by rw [State.onWhole_a, hg]; exact (OnlyIn.sync _ _ _).trans (hf _)
  b := by rw [State.onWhole_b, hg]; exact (OnlyIn.sync _ _ _).trans (hf _)

/-- Without GO, CHK_SAFE_REQ changes nothing. -/
theorem chkSafeAsk_without_go {v : Nat} (h : bit 31 v = false) : FrameOf d [] s (s.onWhole (chkSafeAsk d v)) := by
  have hf : ∀ x, OnlyIn [] x (chkSafeReq v x) := fun x => by rw [chkSafeReq_without_go h]; exact .refl _ x
  by_cases hb : bothStep s d = true
  · have hboth := both_frame (chkSafeAsk_both v hb) hf
    have hmod : (s.onWhole (chkSafeAsk d v)).mod = s.mod := by rw [State.onWhole_mod, chkSafeAsk_both v hb]; rfl
    cases d with
    | a => exact ⟨hboth.b, hmod, hboth.mem, rfl, hboth.time, hboth.a⟩
    | b => exact ⟨hboth.a, hmod, hboth.mem, rfl, hboth.time, hboth.b⟩
  · exact ((Led.start s d).onDie hf).frameOf (chkSafeAsk_one v (by simpa using hb))

end

/-! ### The monitor (R350) -/

section
variable (d : Die) (w : Whole)

theorem monitor_clk (x : DieState) : (x.detect 5).safeOkOff.clk = x.clk := DieState.detect_clk x 5

theorem OnlyIn.monitor (x : DieState) : OnlyIn [.regs, .ink, .chk, .net] x (x.detect 5).safeOkOff :=
  (OnlyIn.detect x 5).trans ((OnlyIn.chk _ _).mono (by decide))

theorem monitor_die : (w.monitor d).die d = (((w.die d).sync w.now).detect 5).safeOkOff := by
  rw [Whole.monitor, Whole.safeActs_die, Whole.onDie_die]

theorem monitor_other : (w.monitor d).die d.other = w.die d.other := by
  rw [Whole.monitor, Whole.safeActs_die, Whole.onDie_other]

theorem monitor_now : (w.monitor d).now = w.now := by
  rw [Whole.monitor, Whole.safeActs_now, Whole.onDie_now, monitor_clk]
  simp

theorem monitor_stores : (w.monitor d).stores = w.stores := Whole.onDie_stores _ _ _

theorem monitor_mod : { (w.monitor d).mod with field := { (w.monitor d).mod.field with outs := w.mod.field.outs } } = w.mod := by
  have h := safeActs_mod (w.onDie d (fun x => (x.detect 5).safeOkOff)) w.now d
  rwa [Whole.onDie_mod] at h

theorem monitor_outs {n : Nat} (hn : n < 64) (ho : w.owner n = d) :
    tget (w.monitor d).mod.field.outs n default = (tget w.mod.field.outs n default).force w.now (w.safeAction n) := by
  have hx := OnlyIn.monitor ((w.die d).sync w.now)
  have hr : RegsOnly causeRegs ((w.die d).sync w.now) (((w.die d).sync w.now).detect 5).safeOkOff :=
    (RegsOnly.detect _ 5).trans (.chk _ _ _)
  have hn' : rNIB_OUT_CFG + 4 * n ∉ causeRegs := by
    have h := outCfg_apart n hn
    simp only [List.mem_append, not_or] at h
    exact h.1.2
  have hv : (w.onDie d (fun x => (x.detect 5).safeOkOff)).owner n = w.owner n ∧ (w.onDie d (fun x => (x.detect 5).safeOkOff)).safeAction n = w.safeAction n := by
    refine owner_congr (forall_die d ?_ ?_) (by rw [Whole.onDie_mod]) (forall_die d ?_ ?_)
    · rw [Whole.onDie_die]; exact hx.2 .paired (by decide)
    · rw [Whole.onDie_other]
    · rw [Whole.onDie_die]; exact hr _ hn'
    · rw [Whole.onDie_other]
  rw [Whole.monitor, tget_safeActs _ hn hv ho, Whole.onDie_mod]

end

theorem Machine.Whole.at_die (w : Whole) (n : Nat) (e : Die) : (w.at n).die e = w.die e := by cases e <;> rfl

/-- What the monitor leaves: the cause CLOCK, SAFE_OK off, the owned outputs at their safe action. -/
structure Monitored (s t : State) (d : Die) : Prop where
  cause : (t.dieOf d).flag rCHK_SAFE_CAUSE 5 = true
  okCmd : (t.dieOf d).chk.okCmd = false
  outs : ∀ n, n < 64 → s.whole.owner n = d → tget t.mod.field.outs n default = (tget s.mod.field.outs n default).force t.now (s.whole.safeAction n)
  mod : { t.mod with field := { t.mod.field with outs := s.mod.field.outs } } = s.mod
  die : OnlyIn [.regs, .ink, .chk, .net] (s.dieOf d) (t.dieOf d)
  other : OnlyIn [] (s.dieOf d.other) (t.dieOf d.other)
  mem : t.mem = s.mem

/-- The monitor acts at instant `n`. -/
theorem monitored {s : State} {d : Die} {n : Nat} {g : Whole → Whole} (hg : g s.whole = (s.whole.at n).monitor d) : Monitored s (s.onWhole g) d where
  cause := by
    rw [onWhole_dieOf, hg, monitor_die]
    exact flag_detect _ 5 (by decide)
  okCmd := by rw [onWhole_dieOf, hg, monitor_die]; rfl
  outs k hk ho := by
    have hnow : (s.onWhole g).now = (s.whole.at n).now := by
      rw [State.onWhole_now, hg, monitor_now]
      exact max_eq_right (Nat.le_max_left _ _)
    rw [State.onWhole_mod, hg, monitor_outs d (s.whole.at n) hk ho, hnow]
    rfl
  mod := by
    rw [State.onWhole_mod, hg]
    exact monitor_mod d (s.whole.at n)
  die := by
    rw [onWhole_dieOf, hg, monitor_die, Whole.at_die, State.whole_die]
    exact ((OnlyIn.sync _ _ _).trans (.sync _ _ _)).trans (.monitor _)
  other := by
    rw [onWhole_dieOf, hg, monitor_other, Whole.at_die, State.whole_die]
    exact .sync _ _ _
  mem := by rw [State.onWhole_mem, hg, monitor_stores]; rfl

/-! ### The readback and the test of SAFE_OK (R332, R351) -/

section
variable (x : DieState)

theorem OnlyIn.safeOkReadback (pad : Bool) : OnlyIn [.regs, .ink, .chk, .net] x (safeOkReadback pad x) := by
  unfold Machine.safeOkReadback
  split
  · exact (OnlyIn.chk x _).mono (by decide)
  · exact .ite _ (((OnlyIn.chk x _).mono (by decide)).trans (.detect _ 7)) ((OnlyIn.chk x _).mono (by decide))

/-- Two states of a die agree in what its readback and its test pulses know. -/
def SameReadback (x y : DieState) : Prop := y.chk.okMiss = x.chk.okMiss ∧ y.chk.pulse = x.chk.pulse

theorem causeAct_readback : SameReadback x x.causeAct := by
  unfold DieState.causeAct
  split
  · exact ⟨rfl, rfl⟩
  · split <;> exact ⟨rfl, rfl⟩

theorem causeFirst_readback (k : Nat) : SameReadback x (x.causeFirst k) := by
  unfold DieState.causeFirst
  split
  · split <;> exact ⟨rfl, rfl⟩
  · exact ⟨rfl, rfl⟩

/-- A cause does not count as a readback, and leaves a test pulse as it is. -/
theorem detect_readback (k : Nat) : SameReadback x (x.detect k) := by
  unfold DieState.detect
  split
  · exact ⟨rfl, rfl⟩
  · have hfirst := causeFirst_readback (x.causeHold k) k
    have hrec : DieState.chk _ = ((x.causeHold k).causeFirst k).chk := (OnlyIn.causeRecord ((x.causeHold k).causeFirst k) k).2 .chk (by decide)
    have hact := causeAct_readback (((x.causeHold k).causeFirst k).causeRecord k)
    unfold SameReadback at hfirst hact ⊢
    rw [hact.1, hact.2, hrec, hfirst.1, hfirst.2]
    exact ⟨rfl, rfl⟩

theorem safeOkReadback_agrees {pad : Bool} (h : pad = x.safeOk) : safeOkReadback pad x = { x with chk := { x.chk with okMiss := 0 } } := if_pos h

theorem safeOkReadback_third {pad : Bool} (h : pad ≠ x.safeOk) (hm : x.chk.okMiss = 2) :
    safeOkReadback pad x = DieState.detect { x with chk := { x.chk with okMiss := 3 } } 7 := by
  rw [safeOkReadback, if_neg h, hm]
  rfl

theorem safeOkReadback_counts {pad : Bool} (h : pad ≠ x.safeOk) (hm : x.chk.okMiss ≠ 2) :
    safeOkReadback pad x = { x with chk := { x.chk with okMiss := x.chk.okMiss + 1 } } := by
  rw [safeOkReadback, if_neg h]
  exact if_neg (by omega)

/-- The die whose test pulse ends at `e`, before the readback is held against it. -/
def pulseEnded (e : Nat) : DieState := { x.at e with chk := { x.chk with pulse := none, okMiss := 0 } }

theorem testPulseEnd_open (high : Bool) {e : Nat} (h : x.chk.pulse = some e) : testPulseEnd high x = if high then (pulseEnded x e).detect 7 else pulseEnded x e := by
  unfold testPulseEnd
  rw [h]
  rfl

/-- What the end of a test pulse leaves, whatever the readback. -/
theorem testPulseEnd_ends (high : Bool) {e : Nat} (h : x.chk.pulse = some e) :
    (testPulseEnd high x).chk.pulse = none ∧ (testPulseEnd high x).chk.okMiss = 0 ∧ e ≤ (testPulseEnd high x).clk ∧
      OnlyIn [.regs, .ink, .chk, .net] x (testPulseEnd high x) := by
  have honly : OnlyIn [.chk] x (pulseEnded x e) := (OnlyIn.at _ x e).trans (.chk _ _)
  have hclk : e ≤ (pulseEnded x e).clk := Nat.le_max_right _ _
  rw [testPulseEnd_open x high h]
  cases high with
  | false => exact ⟨rfl, rfl, hclk, honly.mono (by decide)⟩
  | true =>
    obtain ⟨hmiss, hpulse⟩ := detect_readback (pulseEnded x e) 7
    exact ⟨hpulse, hmiss, by rw [if_pos rfl, DieState.detect_clk]; exact hclk, (honly.mono (by decide)).trans (.detect _ 7)⟩

end

/-- The frame of a command of one die follows from what its effect changes in the die as it finds it. -/
theorem frame_of_here {s : State} {d : Die} {us : List DiePart} {f : DieState → DieState} (h : OnlyIn us (s.here d) (f (s.here d))) : Frame d us s (s.onDie d f) where
  other := State.onDie_other _ _ _
  mod := State.onDie_mod _ _ _
  mem := State.onDie_mem _ _ _
  pending := State.onDie_pending _ _ _
  time := by rw [State.onDie_now]; exact Nat.le_max_left _ _
  die := by rw [State.onDie_dieOf]; exact (OnlyIn.sync _ _ _).trans h

section
variable (s : State) (d : Die)

theorem safeEntry_not_due (h : (s.dieOf d).safeDueNow = false) : FrameOf d [] s (s.onWhole (safeEntry d)) := by
  have hw : (s.whole.die d).safeDueNow = false := by rw [State.whole_die]; exact h
  refine (Led.start s d).frameOf ?_
  unfold safeEntry
  rw [hw]
  rfl

/-- CHK_SAFE_REQ records FORCED, of both dies of a pair that step, and does nothing without GO. -/
theorem chkSafeReq_cases (v : BitVec 32) :
    (bit 31 v.toNat = false → ∃ t, exec (.chkSafeReq d v) s = .next t ∧ FrameOf d [] s t) ∧
    (bit 31 v.toNat = true → bothStep s d = false →
      ∃ t, exec (.chkSafeReq d v) s = .next t ∧ (t.dieOf d).flag rCHK_SAFE_CAUSE 18 = true ∧ FrameOf d [.regs, .ink, .chk, .net] s t) ∧
    (bit 31 v.toNat = true → bothStep s d = true →
      ∃ t, exec (.chkSafeReq d v) s = .next t ∧ (∀ x, (t.dieOf x).flag rCHK_SAFE_CAUSE 18 = true) ∧ t.mod = s.mod ∧
        FrameBoth [.regs, .ink, .chk, .net] [.regs, .ink, .chk, .net] s t) := by
  refine ⟨fun h => ⟨_, rfl, chkSafeAsk_without_go h⟩, fun h hb => ⟨_, rfl, ?_, ?_⟩, fun h hb => ⟨_, rfl, ?_, ?_, ?_⟩⟩
  · rw [onWhole_dieOf, chkSafeAsk_one _ hb, Whole.onDie_die]
    exact chkSafeReq_flag h _
  · exact ((Led.start s d).onDie (OnlyIn.chkSafeReq _)).frameOf (chkSafeAsk_one _ hb)
  · intro x
    rw [onWhole_dieOf, chkSafeAsk_both _ hb]
    cases x <;> exact chkSafeReq_flag h _
  · rw [State.onWhole_mod, chkSafeAsk_both _ hb]
    rfl
  · exact both_frame (chkSafeAsk_both _ hb) (OnlyIn.chkSafeReq _)

/-- The monitor's two commands. -/
theorem monitor_commands {c : Instr} (hc : c = .clockDeviation d ∨ (c = .stepHeartbeatLoss d ∧ ((s.dieOf d).dev = .run ∨ (s.dieOf d).dev = .safe))) :
    ∃ t, exec c s = .next t ∧ (c = .stepHeartbeatLoss d → (s.dieOf d).seq.stepAt + 1000000 ≤ t.now) ∧ Monitored s t d ∧ t.pending = s.pending := by
  obtain rfl | ⟨rfl, hd⟩ := hc
  · have hg : clockDeviation d s.whole = (s.whole.at s.now).monitor d := by
      rw [show s.whole.at s.now = s.whole from by simp [Whole.at, State.whole]]
      rfl
    exact ⟨_, rfl, nofun, monitored hg, rfl⟩
  · have hg : heartbeatLoss d s.whole = (s.whole.at ((s.dieOf d).seq.stepAt + 1000000)).monitor d := by
      have hrun : ((s.whole.die d).dev == .run || (s.whole.die d).dev == .safe) = true := by
        rw [State.whole_die, DieState.sync_dev]
        simpa using hd
      rw [heartbeatLoss, if_pos hrun, State.whole_die]
      rfl
    refine ⟨_, rfl, fun _ => ?_, monitored hg, rfl⟩
    rw [State.onWhole_now, hg, monitor_now]
    exact (Nat.le_max_right _ _).trans (Nat.le_max_right _ _)

theorem heartbeatLoss_elsewhere (hr : (s.dieOf d).dev ≠ .run) (hs : (s.dieOf d).dev ≠ .safe) : FrameOf d [] s (s.onWhole (heartbeatLoss d)) := by
  refine (Led.start s d).frameOf ?_
  have hrun : ((s.whole.die d).dev == .run || (s.whole.die d).dev == .safe) = false := by
    rw [State.whole_die, DieState.sync_dev]
    simp [hr, hs]
  rw [heartbeatLoss, hrun]
  rfl

/-- SAFE_OK_READBACK by its outcome. -/
theorem safeOkReadback_cases (pad : Bool) :
    (pad = (s.dieOf d).safeOk → ∃ t, exec (.safeOkReadback d pad) s = .next t ∧ (t.dieOf d).chk = { (s.dieOf d).chk with okMiss := 0 } ∧ Frame d [.chk] s t) ∧
    (pad ≠ (s.dieOf d).safeOk → ∃ t, exec (.safeOkReadback d pad) s = .next t ∧ (t.dieOf d).chk.okMiss = (s.dieOf d).chk.okMiss + 1 ∧
      ((s.dieOf d).chk.okMiss = 2 → (t.dieOf d).flag rCHK_SAFE_CAUSE 7 = true) ∧
      ((s.dieOf d).chk.okMiss ≠ 2 → (t.dieOf d).regs = (s.dieOf d).regs) ∧ Frame d [.regs, .ink, .chk, .net] s t) := by
  refine ⟨fun h => ⟨_, rfl, ?_, frame_of_here ?_⟩, fun h => ⟨_, rfl, ?_, fun hm => ?_, fun hm => ?_, Frame.onDie _ _ _ _ (fun x => .safeOkReadback x pad)⟩⟩
  · rw [State.onDie_dieOf, safeOkReadback_agrees ((s.dieOf d).sync s.now) h]
    rfl
  · rw [safeOkReadback_agrees (s.here d) h]
    exact OnlyIn.chk _ _
  · rw [State.onDie_dieOf]
    by_cases hm : (s.dieOf d).chk.okMiss = 2
    · rw [safeOkReadback_third ((s.dieOf d).sync s.now) h hm, (detect_readback _ 7).1, hm]
    · rw [safeOkReadback_counts ((s.dieOf d).sync s.now) h hm]
      rfl
  · rw [State.onDie_dieOf, safeOkReadback_third ((s.dieOf d).sync s.now) h hm]
    exact flag_detect _ 7 (by decide)
  · rw [State.onDie_dieOf, safeOkReadback_counts ((s.dieOf d).sync s.now) h hm]
    rfl

/-- When a test pulse is due (R351). -/
def pulseDue (x : DieState) : Prop :=
  x.flag rCHK_CFG 1 = true ∧ x.dev = .run ∧ x.seq.cycle = 0 ∧ 0 < x.seq.step ∧ x.seq.step % 3000000 = 0 ∧ x.safeOk = true

theorem testPulse_due {x : DieState} (h : pulseDue x) : testPulse x = { x with chk := { x.chk with pulse := some (x.clk + 300000) } } := by
  obtain ⟨hcfg, hdev, hcyc, hstep, hmod, hok⟩ := h
  exact if_pos (by simp [hcfg, hdev, hcyc, hstep, hmod, hok])

theorem testPulse_not_due {x : DieState} (h : ¬pulseDue x) : testPulse x = x := by
  refine if_neg fun hc => h ?_
  simp only [Bool.and_eq_true, beq_iff_eq, decide_eq_true_eq] at hc
  obtain ⟨⟨⟨⟨⟨hcfg, hdev⟩, hcyc⟩, hstep⟩, hmod⟩, hok⟩ := hc
  exact ⟨hcfg, hdev, hcyc, hstep, hmod, hok⟩

theorem testPulse_cases :
    (pulseDue (s.dieOf d) → ∃ t, exec (.testPulse d) s = .next t ∧ (t.dieOf d).chk.pulse = some (s.now + 300000) ∧ (t.dieOf d).safeOk = false ∧ Frame d [.chk] s t) ∧
    (¬pulseDue (s.dieOf d) → ∃ t, exec (.testPulse d) s = .next t ∧ Frame d [] s t) := by
  refine ⟨fun h => ⟨_, rfl, ?_, ?_, frame_of_here ?_⟩, fun h => ⟨_, rfl, frame_of_here ?_⟩⟩
  · rw [State.onDie_dieOf, testPulse_due (x := ((s.dieOf d).sync s.now)) h]
    rfl
  · rw [State.onDie_dieOf, testPulse_due (x := ((s.dieOf d).sync s.now)) h]
    exact Bool.and_false _
  · rw [testPulse_due (x := s.here d) h]
    exact OnlyIn.chk _ _
  · rw [testPulse_not_due (x := s.here d) h]
    exact .refl _ _

theorem testPulseEnd_cases (e : Nat) (high : Bool) (h : (s.dieOf d).chk.pulse = some e) :
    ∃ t, exec (.testPulseEnd d high) s = .next t ∧ (t.dieOf d).chk.pulse = none ∧ (t.dieOf d).chk.okMiss = 0 ∧ e ≤ t.now ∧
      (high = true → (t.dieOf d).flag rCHK_SAFE_CAUSE 7 = true) ∧ (high = false → (t.dieOf d).regs = (s.dieOf d).regs) ∧ Frame d [.regs, .ink, .chk, .net] s t := by
  obtain ⟨hpulse, hmiss, htime, honly⟩ := testPulseEnd_ends (s.here d) high h
  refine ⟨_, rfl, ?_, ?_, ?_, fun hh => ?_, fun hh => ?_, frame_of_here honly⟩
  · rw [State.onDie_dieOf]
    exact hpulse
  · rw [State.onDie_dieOf]
    exact hmiss
  · rw [State.onDie_now]
    exact htime.trans (Nat.le_max_right _ _)
  · rw [State.onDie_dieOf, testPulseEnd_open ((s.dieOf d).sync s.now) high h, if_pos hh]
    exact flag_detect _ 7 (by decide)
  · rw [State.onDie_dieOf, testPulseEnd_open ((s.dieOf d).sync s.now) high h, if_neg (by simp [hh])]
    rfl

end

/-- Settles O46: SAFE entry is followed part by part through its die, its links, its outputs and the lifetime commit; the other commands act on one die. -/
theorem safeEntryMonitorAndSafeOk : Obligations.SafeEntryMonitorAndSafeOk := by
  unfold Obligations.SafeEntryMonitorAndSafeOk
  refine ⟨fun s d h => ⟨_, rfl, safeEntry_not_due s d h⟩, fun s d h hm => ⟨_, rfl, safeEntry_due s d h hm⟩, chkSafeReq_cases, fun s d c hc => ?_,
    fun s d hr hs => ⟨_, rfl, heartbeatLoss_elsewhere s d hr hs⟩, safeOkReadback_cases, testPulse_cases, testPulseEnd_cases⟩
  obtain ⟨t, ht, htime, hmon, hpend⟩ := monitor_commands s d hc
  exact ⟨t, ht, hmon.cause, hmon.okCmd, htime, hmon.outs, hmon.mod, hmon.die, hmon.other, hmon.mem, hpend⟩

end Sys2Proof

/-! SUPPORT. A recipe select for a lane that there is not, and the statement on line-state frames that it refutes. -/

namespace Sys2Proof
open Machine

/-- Die A in ARMED, with a sealed Drift update in its staging area, one record in its Inkwell queue, and a recipe select that is due, for recipe 1 with pilot lane 180225: no
lane has that number, and where its LANE register would stand is INK_QUEUE. -/
def selectBeyondLanes : State :=
  { State.reset with
    a := { DieState.reset .a with
      held := none, dev := .armed, regs := [(rINK_QUEUE, 1)], ink := { (DieState.reset .a).ink with queue := [default] }
      ctx := { (DieState.reset .a).ctx with resident := [1] }, ptk := { (DieState.reset .a).ptk with drift := some (0, 0, 0, 0, 0) }
      syn := { (DieState.reset .a).syn with words := [(256 * (DieState.reset .a).ptileOf 0, 1)] }
      items := [⟨none, some 0, .recipeSelect 180225 1 0⟩] } }

/-- The record of the Drift update enters the queue before the select is judged: INK_QUEUE then reads 2, the pilot "lane" is no longer ACTIVE, and the select is discarded. -/
theorem selectBeyondLanes_discarded (t : State) (h : exec (.recipeSelectAdmit .a) selectBeyondLanes = .next t) : (t.dieOf .a).fld rCTX_CHG 3 0 = 0 := by
  obtain rfl := Host.Outcome.next.inj h
  rfl

/-- Refutes O44: the statement bounds neither the pilot of a recipe select nor what stands at its LANE register. In ARMED the model logs a sealed Drift update before it
looks at the pilot lane again; for a pilot that is no lane (R128) the log itself changes what is read there, and a select that the statement has admitted is discarded. -/
theorem not_lineStateFramesAreCheckedAndAct : ¬ Obligations.LineStateFramesAreCheckedAndAct := by
  unfold Obligations.LineStateFramesAreCheckedAndAct
  rintro ⟨-, h, -, -⟩
  obtain ⟨-, hgood⟩ := h selectBeyondLanes .a 0 180225 1 0 rfl (fun h => absurd h (by decide)) (.inr rfl)
  obtain ⟨harmed, -, -⟩ := hgood rfl rfl rfl
  obtain ⟨t, ht, -, hrecipe, -⟩ := harmed rfl rfl
  rw [selectBeyondLanes_discarded t ht] at hrecipe
  exact absurd hrecipe (by decide)

end Sys2Proof

/-! SUPPORT. Accepted QMP requests: what taking, serving and answering one changes, and the requests that stage an image. -/

namespace Sys2Proof
open Machine

/-! ### A request that is served (R428 to R431) -/

theorem OnlyIn.qll (x : DieState) (k : Qll) : OnlyIn [.qll] x { x with qll := k } := ⟨rfl, fun p hp => by cases p <;> simp_all [DiePart.Same]⟩

/-- The number of a request is noted for its role. -/
def noteSeq (r : Req) (x : DieState) : DieState := { x with qll := { x.qll with qseq := tset x.qll.qseq r.role (r.seq % 2 ^ 32) } }

/-- The module once the request `r` is taken: a token is used, and its number is noted. -/
def takenReq (r : Req) (w : Whole) : Whole := (w.useToken 2).onDie w.relay (noteSeq r)

/-- What the buckets hold apart, a token that is used changes nothing. -/
theorem useToken_die (w : Whole) (n : Nat) (e : Die) : (w.useToken n).die e = w.die e := Whole.onMod_die _ _ _

section
variable (r : Req) (w : Whole)

theorem takenReq_relay : (takenReq r w).die w.relay = noteSeq r ((w.die w.relay).sync w.now) := by
  rw [takenReq, Whole.onDie_die, useToken_die]
  rfl

theorem takenReq_other : (takenReq r w).die w.relay.other = w.die w.relay.other := by rw [takenReq, Whole.onDie_other, useToken_die]

theorem takenReq_only (e : Die) : OnlyIn [.qll] (w.die e) ((takenReq r w).die e) := by
  refine forall_die (P := fun e => OnlyIn [.qll] (w.die e) ((takenReq r w).die e)) w.relay ?_ ?_ e
  · rw [takenReq_relay]
    exact (OnlyIn.sync _ _ _).trans (.qll _ _)
  · rw [takenReq_other]
    exact .refl _ _

theorem takenReq_reaches (d : Die) : (takenReq r w).reaches d = w.reaches d := by
  have hrelay : (takenReq r w).relay = w.relay := by rw [Whole.relay, takenReq, Whole.onDie_mod]; rfl
  have hheld : ((takenReq r w).die d).held = (w.die d).held := (takenReq_only r w d).2 .held (by decide)
  have hregs : ((takenReq r w).die w.relay).regs = (w.die w.relay).regs := (takenReq_only r w _).2 .regs (by decide)
  unfold Whole.reaches DieState.fld DieState.rd
  rw [hrelay, hheld, hregs]

end

theorem qmpParse_op {q : List Byte} {r : Req} (h : qmpParse q = some r) : (q.getD 2 0).toNat = r.op := by
  unfold qmpParse at h
  dsimp only at h
  split at h
  · exact congrArg Req.op (Option.some.inj h)
  · simp at h

/-- A request that passes every check is served. -/
theorem qmp_served {s : State} {q : List Byte} {r : Req} {op : Nat} (act : Req → Whole → Whole) (h : s.QmpServed q r) (hop : r.op = op) (h1 : op ≠ 1) :
    qmp op act q s.whole = act r (takenReq r s.whole) := by
  obtain ⟨hup, htoken, hparse, htag, hfresh, hreach, hknown, hrole, hstate⟩ := h
  have ho := qmpParse_op hparse
  subst hop
  have htag' : (s.whole.useToken 2).mod.store.tagOk r.role q = true := htag
  have hfresh' : (s.whole.useToken 2).fresh r = true := hfresh.resolve_left h1
  have hdev : ((takenReq r s.whole).die r.die).dev = (s.dieOf r.die).dev := by
    rw [show DieState.dev _ = (s.whole.die r.die).dev from (takenReq_only r s.whole r.die).2 .dev (by decide), State.whole_die]
    rfl
  have hreach' : (takenReq r s.whole).reaches r.die = true := (takenReq_reaches r s.whole r.die).trans hreach
  have hserve : (takenReq r s.whole).serve r act = act r (takenReq r s.whole) := by
    rw [Whole.serve, if_neg (by simp [hknown]), if_neg (by simpa using hrole), if_neg (by rw [hdev]; simpa using hstate)]
  unfold qmp
  dsimp only
  rw [if_neg (fun hc => hc.2.1 ho), Whole.admitFrame, if_neg (by simp [hup]), if_pos htoken, hparse]
  dsimp only
  rw [if_neg (by simp [htag']), if_neg (by simp [hfresh']), if_neg h1]
  exact (if_pos hreach').trans hserve

theorem Die.other_ne (d : Die) : d.other ≠ d := by cases d <;> decide

/-! ### What a request that is served changes -/

/-- Serving the request `r` from `u` on, the module has come to `w`: its number is noted for its role, the addressed die has sent `pre` and the relay die `ans`, and no die has changed in any
other part but the addressed one in those of `us`. -/
structure Served (u : State) (r : Req) (us : List DiePart) (pre ans : List Sent) (w : Whole) : Prop where
  seq : tget? (w.die u.whole.relay).qll.qseq r.role = some (r.seq % 2 ^ 32)
  sw : w.mod.sw = { u.mod.sw with buckets := w.mod.sw.buckets }
  time : u.now ≤ w.now
  wire : ∀ e, (w.die e).wire = (u.dieOf e).wire ++ (if e = r.die then pre else []) ++ if e = u.whole.relay then ans else []
  only : ∀ e, OnlyIn ((if e = u.whole.relay then [.qll, .wire] else []) ++ if e = r.die then .wire :: us else []) (u.dieOf e) (w.die e)

theorem served_taken (s : State) (r : Req) : Served s r [] [] [] (takenReq r s.whole) where
  seq := by
    rw [takenReq_relay]
    exact tget?_tset_same _ _ _
  sw := by rw [takenReq, Whole.onDie_mod]; rfl
  time := by
    rw [takenReq, Whole.onDie_now]
    exact Nat.le_max_left _ _
  wire e := by
    rw [show DieState.wire _ = (s.whole.die e).wire from (takenReq_only r s.whole e).2 .wire (by decide), State.whole_die, ite_self, ite_self, List.append_nil, List.append_nil]
    rfl
  only := by
    refine forall_die s.whole.relay ?_ ?_
    · rw [takenReq_relay, State.whole_die]
      exact ((OnlyIn.sync _ _ _).trans ((OnlyIn.sync _ _ _).trans (OnlyIn.qll _ _))).mono (by simp)
    · rw [takenReq_other, State.whole_die]
      exact .sync _ _ _

section
variable {u : State} {r : Req} {us vs : List DiePart} {pre post ans : List Sent} {w : Whole}

/-- The addressed die acts. -/
theorem Served.onDie {f : DieState → DieState} (h : Served u r us pre ans w) (hpost : post = [] ∨ ans = []) (hf : ∀ x, OnlyIn (.wire :: vs) x (f x))
    (hw : ∀ x, (f x).wire = x.wire ++ post) (hq : ∀ x, (f x).qll.qseq = x.qll.qseq) (hus : ∀ p, p ∈ us → p ∈ vs) : Served u r vs (pre ++ post) ans (w.onDie r.die f) where
  seq := by
    have hd : ∀ e, ((w.onDie r.die f).die e).qll.qseq = (w.die e).qll.qseq :=
      forall_die r.die (by rw [Whole.onDie_die, hq]; rfl) (by rw [Whole.onDie_other])
    rw [hd]
    exact h.seq
  sw := by rw [Whole.onDie_mod]; exact h.sw
  time := by
    rw [Whole.onDie_now]
    exact h.time.trans (Nat.le_max_left _ _)
  wire := by
    refine forall_die r.die ?_ ?_
    · have hd := h.wire r.die
      rw [if_pos rfl] at hd
      rw [Whole.onDie_die, hw, DieState.sync, hd, if_pos rfl]
      rcases hpost with rfl | rfl <;> simp
    · rw [Whole.onDie_other, h.wire, if_neg r.die.other_ne, if_neg r.die.other_ne]
  only := by
    refine forall_die r.die ?_ ?_
    · rw [Whole.onDie_die]
      refine ((h.only r.die).mono fun p hp => ?_).trans ((OnlyIn.sync _ _ _).trans ((hf _).mono fun p hp => ?_))
      · simp only [if_true, List.mem_append, List.mem_cons] at hp ⊢
        exact hp.imp_right (Or.imp_right (hus p))
      · rw [if_pos rfl]
        exact List.mem_append_right _ hp
    · rw [Whole.onDie_other]
      refine (h.only _).mono fun p hp => ?_
      rwa [if_neg r.die.other_ne] at hp ⊢

/-- The addressed die acts without a word. -/
theorem Served.act {f : DieState → DieState} (h : Served u r us pre ans w) (hf : ∀ x, OnlyIn vs x (f x)) (hv : DiePart.wire ∉ vs) (hq : ∀ x, (f x).qll.qseq = x.qll.qseq)
    (hus : ∀ p, p ∈ us → p ∈ vs) : Served u r vs pre ans (w.onDie r.die f) := by
  have hd := h.onDie (.inl rfl) (fun x => (hf x).mono fun _ => List.mem_cons_of_mem _) (fun x => ((hf x).2 .wire hv).trans (List.append_nil _).symm) hq hus
  rwa [List.append_nil] at hd

/-- The shared parts change elsewhere than in the switch. -/
theorem Served.onMod {f : ModState → ModState} (h : Served u r us pre ans w) (hf : (f w.mod).sw = w.mod.sw) : Served u r us pre ans (w.onMod f) where
  seq := by rw [Whole.onMod_die]; exact h.seq
  sw := by rw [Whole.onMod, hf]; exact h.sw
  time := h.time
  wire e := by rw [Whole.onMod_die]; exact h.wire e
  only e := by rw [Whole.onMod_die]; exact h.only e

theorem Served.store (cs : List Host.Cell) (h : Served u r us pre ans w) : Served u r us pre ans (w.store cs) where
  seq := by rw [Whole.store_die]; exact h.seq
  sw := h.sw
  time := h.time
  wire e := by rw [Whole.store_die]; exact h.wire e
  only e := by rw [Whole.store_die]; exact h.only e

theorem Served.relay (h : Served u r us pre ans w) : w.relay = u.whole.relay := by rw [Whole.relay, h.sw]; rfl

/-- What the relay die sends as the response. -/
theorem reply_eq (status : Nat) (payload : List Byte) :
    w.reply r status payload = w.onDie w.relay (fun x => x.send (r.answer w.mod.store status payload).kind (r.answer w.mod.store status payload).args (r.answer w.mod.store status payload).data) :=
  rfl

theorem reply_mod (status : Nat) (payload : List Byte) : (w.reply r status payload).mod = w.mod := Whole.onDie_mod _ _ _
theorem reply_stores (status : Nat) (payload : List Byte) : (w.reply r status payload).stores = w.stores := Whole.onDie_stores _ _ _

theorem reply_relay (status : Nat) (payload : List Byte) : ((w.reply r status payload).die w.relay).wire = (w.die w.relay).wire ++ [r.answer w.mod.store status payload] := by
  rw [reply_eq, Whole.onDie_die]
  rfl

/-- The response is the last word of the relay die, and touches nothing else. -/
theorem reply_only (status : Nat) (payload : List Byte) (e : Die) : OnlyIn [.wire] (w.die e) ((w.reply r status payload).die e) := by
  refine forall_die (P := fun e => OnlyIn [.wire] (w.die e) ((w.reply r status payload).die e)) w.relay ?_ ?_ e
  · rw [reply_eq, Whole.onDie_die]
    exact (OnlyIn.sync _ _ _).trans (.send _ _ _ _)
  · rw [reply_eq, Whole.onDie_other]
    exact .refl _ _

theorem reply_wire (status : Nat) (payload : List Byte) (e : Die) :
    ((w.reply r status payload).die e).wire = (w.die e).wire ++ if e = w.relay then [r.answer w.mod.store status payload] else [] := by
  refine forall_die (P := fun e => ((w.reply r status payload).die e).wire = (w.die e).wire ++ if e = w.relay then [r.answer w.mod.store status payload] else []) w.relay ?_ ?_ e
  · rw [reply_relay, if_pos rfl]
  · rw [reply_eq, Whole.onDie_other, if_neg w.relay.other_ne, List.append_nil]

/-- The relay die answers. -/
theorem Served.reply (h : Served u r us pre [] w) (status : Nat) (payload : List Byte) :
    Served u r us pre [r.answer w.mod.store status payload] (w.reply r status payload) where
  seq := by
    rw [show DieState.qll _ = _ from (reply_only status payload u.whole.relay).2 .qll (by decide)]
    exact h.seq
  sw := by rw [reply_mod]; exact h.sw
  time := by
    rw [reply_eq, Whole.onDie_now]
    exact h.time.trans (Nat.le_max_left _ _)
  wire e := by rw [reply_wire, h.wire, h.relay, ite_self, List.append_nil]
  only := by
    refine forall_die w.relay ?_ ?_
    · refine (h.only _).trans ((reply_only status payload _).mono fun p hq => ?_)
      rw [if_pos h.relay]
      simp_all
    · rw [reply_eq, Whole.onDie_other]
      exact h.only _

end

section
variable {s u : State} {r : Req} {us : List DiePart} {pre ans : List Sent} {w : Whole} {g : Whole → Whole} (hp : u.pending = s.pending) (hg : g s.whole = w)
include hp hg

/-- A request that is served. -/
theorem Served.next (h : Served u r us pre ans w) : QmpNext u (s.onWhole g) r us pre ans := by
  have hd : ∀ e, (s.onWhole g).dieOf e = w.die e := fun e => by rw [onWhole_dieOf, hg]
  refine ⟨fun _ => ?_, ?_, hp.symm, ?_, fun e => ⟨?_, ?_⟩⟩
  · rw [hd]
    exact h.seq
  · rw [State.onWhole_mod, hg]
    exact h.sw
  · rw [State.onWhole_now, hg]
    exact h.time.trans (Nat.le_max_right _ _)
  · rw [hd]
    exact h.wire e
  · rw [hd]
    exact h.only e

/-- A request that is served and answered, and stores nothing. -/
theorem Served.qmpReply {st : Store} {status : Nat} {payload : List Byte} (h : Served u r us pre [r.answer st status payload] w) (hst : w.mod.store = st) (hm : memApply s.mem w.stores = u.mem)
    (hmod : w.mod = { u.mod with sw := w.mod.sw }) : QmpReply u (s.onWhole g) r us pre status payload := by
  have hmod' : (s.onWhole g).mod = w.mod := by rw [State.onWhole_mod, hg]
  refine ⟨?_, ?_, ?_⟩
  · rw [hmod', hst]
    exact h.next hp hg
  · rw [State.onWhole_mem, hg, hm]
  · rw [hmod']
    exact hmod

end

/-! ### What a request finds -/

/-- A die whose highest accepted numbers are `k`. -/
def noted (k : Tbl Nat) (x : DieState) : DieState := { x with qll := { x.qll with qseq := k } }

theorem noted_only (k : Tbl Nat) (x : DieState) : OnlyIn [.qll] x (noted k x) := .qll _ _

section
variable (s : State) (r : Req)

/-- A die as a request finds it: with the wall clock, and the request's number noted. -/
theorem taken_die (e : Die) : ∃ k, (takenReq r s.whole).die e = noted k (s.here e) := by
  refine forall_die (P := fun e => ∃ k, (takenReq r s.whole).die e = noted k (s.here e)) s.whole.relay ?_ ?_ e
  · rw [takenReq_relay, State.whole_die]
    exact ⟨_, rfl⟩
  · rw [takenReq_other, State.whole_die]
    exact ⟨(s.dieOf _).qll.qseq, rfl⟩

theorem taken_mem : (takenReq r s.whole).mem = s.mem := Whole.onDie_mem _ _ _
theorem taken_stores : (takenReq r s.whole).stores = [] := Whole.onDie_stores _ _ _
theorem taken_mod : (takenReq r s.whole).mod = { s.mod with sw := (takenReq r s.whole).mod.sw } := by rw [takenReq, Whole.onDie_mod]; rfl
theorem taken_store : (takenReq r s.whole).mod.store = s.mod.store := by rw [taken_mod]
theorem taken_now : (takenReq r s.whole).now = s.now := by
  rw [takenReq, Whole.onDie_now]
  exact Nat.max_self _

theorem taken_sync (e : Die) : ((takenReq r s.whole).die e).sync (takenReq r s.whole).now = (takenReq r s.whole).die e := by
  obtain ⟨k, hk⟩ := taken_die s r e
  rw [hk, taken_now]
  rfl

end

section
variable {s : State} {q : List Byte} {r : Req} {op : Nat} {act : Req → Whole → Whole} {status : Nat} {payload : List Byte} {us : List DiePart} {f : DieState → DieState}
  (h : s.QmpServed q r) (hop : r.op = op) (h1 : op ≠ 1)
include h hop h1

/-- A request that is only answered. -/
theorem answered (hact : act r (takenReq r s.whole) = (takenReq r s.whole).reply r status payload) : QmpReply s (s.onWhole (qmp op act q)) r [] [] status payload :=
  ((served_taken s r).reply status payload).qmpReply rfl ((qmp_served act h hop h1).trans hact) (by rw [reply_mod]) (by rw [reply_stores, taken_stores]; rfl) (by rw [reply_mod]; exact taken_mod s r)

/-- A request that acts on the addressed die, and is then answered. -/
theorem acted (hact : act r (takenReq r s.whole) = ((takenReq r s.whole).onDie r.die f).reply r status payload) (hf : ∀ x, OnlyIn us x (f x)) (hw : DiePart.wire ∉ us)
    (hq : ∀ x, (f x).qll.qseq = x.qll.qseq) :
    QmpReply s (s.onWhole (qmp op act q)) r us [] status payload ∧
      ∃ k, OnlyIn [.wire] (f (noted k (s.here r.die))) ((s.onWhole (qmp op act q)).dieOf r.die) := by
  have hg := (qmp_served act h hop h1).trans hact
  refine ⟨(((served_taken s r).act hf hw hq (by simp)).reply status payload).qmpReply rfl hg (by rw [reply_mod]) ?_ ?_, ?_⟩
  · rw [reply_stores, Whole.onDie_stores, taken_stores]
    rfl
  · rw [reply_mod, Whole.onDie_mod]
    exact taken_mod s r
  · obtain ⟨k, hk⟩ := taken_die s r r.die
    refine ⟨k, ?_⟩
    have ho := reply_only (r := r) (w := (takenReq r s.whole).onDie r.die f) status payload r.die
    rw [onWhole_dieOf, hg]
    rwa [Whole.onDie_die, taken_sync, hk] at ho

end
/-! ### Staging (R422 to R425) -/

theorem OnlyIn.stage (x : DieState) (st : Nat) (locked : Bool) (cause : Nat) : OnlyIn [.regs] x (x.stage st locked cause) := .wr _ _ _

theorem rd_stage (x : DieState) (st : Nat) (locked : Bool) (cause : Nat) : (x.stage st locked cause).rd rQLL_STAGE = (st + 8 * b2n locked + 16 * cause) % 2 ^ 32 :=
  DieState.rd_wr_same _ _ _

/-- Where the registers stay, a register reads the same. -/
theorem rd_of_onlyIn {us : List DiePart} {x y : DieState} (h : OnlyIn us x y) (hu : DiePart.regs ∉ us) (off : Nat) : y.rd off = x.rd off := RegsOnly.of_onlyIn [] h hu off (by simp)

section
variable {s : State} {q : List Byte} {r : Req} (h : s.QmpServed q r)
include h

theorem stageAbort_served (hop : r.op = 0x14) : ∃ t, exec (.stageAbort q) s = .next t ∧ QmpReply s t r [.regs] [] 0 [] ∧ (t.dieOf r.die).rd rQLL_STAGE = 0 := by
  obtain ⟨hr, k, hk⟩ := acted (act := stageAbort) h hop (by decide) rfl (fun x => OnlyIn.stage x 0 false 0) (by decide) (fun _ => rfl)
  exact ⟨_, rfl, hr, (rd_of_onlyIn hk (by decide) _).trans (rd_stage _ _ _ _)⟩

theorem stageVerify_served (hop : r.op = 0x12) :
    let x := s.dieOf r.die
    let st := x.fld rQLL_STAGE 2 0
    let lock := x.flag rQLL_STAGE 3
    (lock = true → ∃ t, exec (.stageVerify q) s = .next t ∧ QmpReply s t r [] [] 4 []) ∧
      (lock = false → st ≠ 1 → ∃ t, exec (.stageVerify q) s = .next t ∧ QmpReply s t r [] [] 2 []) ∧
      (lock = false → st = 1 → ∃ t, exec (.stageVerify q) s = .next t ∧ QmpReply s t r [.regs] [] 0 [] ∧ (t.dieOf r.die).rd rQLL_STAGE = 10) := by
  intro x st lock
  obtain ⟨k, hk⟩ := taken_die s r r.die
  have hlock : ((takenReq r s.whole).die r.die).flag rQLL_STAGE 3 = lock := by rw [hk]; rfl
  have hst : ((takenReq r s.whole).die r.die).stState = st := by rw [hk]; rfl
  refine ⟨fun hl => ⟨_, rfl, answered h hop (by decide) ?_⟩, fun hl hs => ⟨_, rfl, answered h hop (by decide) ?_⟩, fun hl hs => ?_⟩
  · rw [stageVerify, hlock, if_pos hl]
  · rw [stageVerify, hlock, hst, if_neg (by simp [hl]), if_pos hs]
  · obtain ⟨hr, k, hk⟩ := acted (act := stageVerify) h hop (by decide) (by rw [stageVerify, hlock, hst, if_neg (by simp [hl]), if_neg (by simp [hs])])
      (fun x => OnlyIn.stage x 2 true 0) (by decide) (fun _ => rfl)
    exact ⟨_, rfl, hr, (rd_of_onlyIn hk (by decide) _).trans (rd_stage _ _ _ _)⟩

end

/-- Staging begins: the length and the digest expected. -/
def begun (len : Nat) (digest : List Byte) (x : DieState) : DieState :=
  { x.stage 1 false 0 with qll := { x.qll with stLen := len, stDigest := fit 48 digest, staged := none } }

theorem begun_only (len : Nat) (digest : List Byte) (x : DieState) : OnlyIn [.regs, .qll] x (begun len digest x) :=
  ((OnlyIn.stage x 1 false 0).mono (by decide)).trans ((OnlyIn.qll _ _).mono (by decide))

theorem begun_rd (len : Nat) (digest : List Byte) (x : DieState) : (begun len digest x).rd rQLL_STAGE = 1 := rd_stage x 1 false 0

section
variable {s : State} {q : List Byte} {r : Req} (h : s.QmpServed q r)
include h

theorem stageBegin_served (hop : r.op = 0x10) (len : BitVec 64) (digest : List Byte) :
    let x := s.dieOf r.die
    let st := x.fld rQLL_STAGE 2 0
    ((st = 2 ∨ st = 4) → ∃ t, exec (.stageBegin q len digest) s = .next t ∧ QmpReply s t r [] [] 4 []) ∧
      (st ≠ 2 → st ≠ 4 → x.staging.2 < len.toNat → ∃ t, exec (.stageBegin q len digest) s = .next t ∧ QmpReply s t r [] [] 3 []) ∧
      (st ≠ 2 → st ≠ 4 → len.toNat ≤ x.staging.2 → ∃ t, exec (.stageBegin q len digest) s = .next t ∧ QmpReply s t r [.regs, .qll] [] 0 [] ∧ (t.dieOf r.die).rd rQLL_STAGE = 1 ∧
        (t.dieOf r.die).qll.stLen = len.toNat ∧ (t.dieOf r.die).qll.staged = none ∧ (digest.length = 48 → (t.dieOf r.die).qll.stDigest = digest)) := by
  intro x st
  obtain ⟨k, hk⟩ := taken_die s r r.die
  have hst : ((takenReq r s.whole).die r.die).stState = st := by rw [hk]; rfl
  have hfits : ((takenReq r s.whole).die r.die).staging = x.staging := by rw [hk]; rfl
  refine ⟨fun hs => ⟨_, rfl, answered h hop (by decide) ?_⟩, fun h2 h4 hl => ⟨_, rfl, answered h hop (by decide) ?_⟩, fun h2 h4 hl => ?_⟩
  · rw [stageBegin, hst, if_pos hs]
  · rw [stageBegin, hst, hfits, if_neg (by simp [h2, h4]), if_pos hl]
  · obtain ⟨hr, k, hk⟩ := acted (act := stageBegin len.toNat digest) (us := [.regs, .qll]) h hop (by decide)
      (by rw [stageBegin, hst, hfits, if_neg (by simp [h2, h4]), if_neg (by omega)]; rfl) (begun_only len.toNat digest) (by decide) (fun _ => rfl)
    have hqll := hk.2 .qll (by decide)
    refine ⟨_, rfl, hr, (rd_of_onlyIn hk (by decide) _).trans (begun_rd _ _ _), ?_, ?_, fun hd => ?_⟩
    · exact congrArg Qll.stLen hqll
    · exact congrArg Qll.staged hqll
    · refine (congrArg Qll.stDigest hqll).trans ?_
      show fit 48 digest = digest
      simp [fit, ← hd]

end

end Sys2Proof

/-! SUPPORT. QMP requests of the store and of the staging area: commit, SVN floor, keys, chunks, and the ends of verification and commit. -/

namespace Sys2Proof
open Machine

/-! ### Commit of an image, the SVN floor and keys (R424, R426, R430) -/

/-! ### Commands of both dies -/

section
variable (w : Whole) (f : DieState → DieState)

theorem both_die (e : Die) : ∃ m, (w.both f).die e = f ((w.die e).sync m) := by
  cases e
  · exact ⟨_, rfl⟩
  · exact ⟨_, rfl⟩

theorem both_mod : (w.both f).mod = w.mod := rfl
theorem both_stores : (w.both f).stores = w.stores := rfl

end

/-- A die out of reset shows the SVN floor `n`. -/
def floorShown (n : Nat) (d : DieState) : DieState := if d.held.isSome then d else d.setFld rQLL_BOOT 31 24 n

theorem floorShown_only (n : Nat) (x : DieState) : OnlyIn [.regs] x (floorShown n x) := .ite _ (.refl _ _) (.setFld _ _ _ _ _)

theorem floorShown_fld (n : Nat) {x : DieState} (h : x.held = none) : (floorShown n x).fld rQLL_BOOT 31 24 = n % 256 := by
  rw [floorShown, if_neg (by simp [h]), DieState.fld_setFld_same _ _ _ _ _ (by decide) (by decide)]
  rfl

/-- What a request is answered depends on the store by its role's key alone. -/
theorem answer_congr (r : Req) {s t : Store} (h : s.roleKey r.role = t.roleKey r.role) (status : Nat) (payload : List Byte) : r.answer s status payload = r.answer t status payload := by
  unfold Req.answer
  rw [h]

/-- The store without an image. -/
def imageGone (s : Store) : Store := { s with image := none }

theorem imageGone_roleKey (s : Store) (n : Nat) : (imageGone s).roleKey n = s.roleKey n := rfl

section
variable {s : State} {q : List Byte} {r : Req} (h : s.QmpServed q r)
include h

/-- A request whose image goes to the store: the old image boots no more. -/
theorem commit_begins (hop : r.op = 0x13)
    (hact : stageCommit true r (takenReq r s.whole) = (((takenReq r s.whole).onStore imageGone).onDie r.die (fun d => d.stage 4 true 0)).reply r 0 []) :
    ∃ t, exec (.stageCommit q true) s = .next t ∧ QmpNext s t r [.regs] [] [r.answer s.mod.store 0 []] ∧ (t.dieOf r.die).rd rQLL_STAGE = 12 ∧
        t.mod.store = { s.mod.store with image := none } ∧ t.mem = s.mem := by
  have hg := (qmp_served (stageCommit true) h hop (by decide)).trans hact
  have hstore : ((takenReq r s.whole).onStore imageGone).mod.store = imageGone s.mod.store := congrArg imageGone (taken_store s r)
  have hserved : Served s r [.regs] [] [] (((takenReq r s.whole).onStore imageGone).onDie r.die (fun d => d.stage 4 true 0)) :=
    ((served_taken s r).onMod rfl).act (fun x => OnlyIn.stage x 4 true 0) (by decide) (fun _ => rfl) (by simp)
  refine ⟨_, rfl, ?_, ?_, ?_, ?_⟩
  · have hnext := (hserved.reply 0 []).next rfl hg
    rwa [Whole.onDie_mod, hstore, answer_congr r (imageGone_roleKey _ _)] at hnext
  · rw [onWhole_dieOf, hg, rd_of_onlyIn (reply_only 0 [] r.die) (by decide), Whole.onDie_die]
    exact rd_stage _ 4 true 0
  · rw [State.onWhole_mod, hg, reply_mod, Whole.onDie_mod, hstore]
    rfl
  · rw [State.onWhole_mem, hg, reply_stores, Whole.onDie_stores]
    exact congrArg (memApply s.mem) (taken_stores s r)

theorem stageCommit_served (hop : r.op = 0x13) :
    let x := s.dieOf r.die
    let st := x.fld rQLL_STAGE 2 0
    let lock := x.flag rQLL_STAGE 3
    let cause := x.fld rQLL_STAGE 7 4
    let may := x.qll.primary = true ∧ (st = 3 ∨ (st = 6 ∧ lock = true ∧ cause = 15))
    (∀ f, st = 6 → cause ≠ 15 → ∃ t, exec (.stageCommit q f) s = .next t ∧ QmpReply s t r [] [] 5 [BitVec.ofNat 8 cause]) ∧
      (∀ f, ¬(st = 6 ∧ cause ≠ 15) → ¬may → ∃ t, exec (.stageCommit q f) s = .next t ∧ QmpReply s t r [] [] 2 []) ∧
      (may → ∃ t, exec (.stageCommit q false) s = .next t ∧ QmpReply s t r [.regs] [] 3 [] ∧ (t.dieOf r.die).rd rQLL_STAGE = 246) ∧
      (may → ∃ t, exec (.stageCommit q true) s = .next t ∧ QmpNext s t r [.regs] [] [r.answer s.mod.store 0 []] ∧ (t.dieOf r.die).rd rQLL_STAGE = 12 ∧
        t.mod.store = { s.mod.store with image := none } ∧ t.mem = s.mem) := by
  intro x st lock cause may
  obtain ⟨k, hk⟩ := taken_die s r r.die
  have hst : ((takenReq r s.whole).die r.die).stState = st := by rw [hk]; rfl
  have hlock : ((takenReq r s.whole).die r.die).flag rQLL_STAGE 3 = lock := by rw [hk]; rfl
  have hcause : ((takenReq r s.whole).die r.die).fld rQLL_STAGE 7 4 = cause := by rw [hk]; rfl
  have hprimary : ((takenReq r s.whole).die r.die).qll.primary = x.qll.primary := by rw [hk]; rfl
  clear_value st lock cause
  have hmay : ¬(st = 6 ∧ cause ≠ 15) → (may ↔ ¬((!x.qll.primary) = true ∨ ¬(st = 3 ∨ st = 6 ∧ lock = true))) := by
    intro hfail
    simp only [may, Bool.not_eq_true', not_or, Bool.not_eq_false]
    tauto
  have hnofail : may → ¬(st = 6 ∧ cause ≠ 15) := by
    rintro ⟨-, hs⟩ ⟨rfl, hc⟩
    simp [hc] at hs
  refine ⟨fun f h6 hc => ⟨_, rfl, answered h hop (by decide) ?_⟩, fun f h6 hm => ⟨_, rfl, answered h hop (by decide) ?_⟩, fun hm => ?_, fun hm => ?_⟩
  · rw [stageCommit, hst, hcause, if_pos ⟨h6, hc⟩]
  · rw [stageCommit, hst, hcause, if_neg h6, hprimary, hlock, if_pos (not_not.1 fun hc => hm ((hmay h6).2 hc))]
  · obtain ⟨hr, k, hk⟩ := acted (act := stageCommit false) (status := 3) (payload := []) h hop (by decide)
      (by rw [stageCommit, hst, hcause, if_neg (hnofail hm), hprimary, hlock, if_neg ((hmay (hnofail hm)).1 hm), if_pos (by decide)])
      (fun x => OnlyIn.stage x 6 false 15) (by decide) (fun _ => rfl)
    exact ⟨_, rfl, hr, (rd_of_onlyIn hk (by decide) _).trans (rd_stage _ _ _ _)⟩
  · refine commit_begins h hop ?_
    rw [stageCommit, hst, hcause, if_neg (hnofail hm), hprimary, hlock, if_neg ((hmay (hnofail hm)).1 hm), if_neg (by decide)]
    rfl

theorem svnRaise_served (hop : r.op = 0x16) :
    let n := max s.mod.store.svnFloor (min 64 ((s.dieOf r.die).fld rQLL_BOOT 23 16))
    ∃ t, exec (.svnRaise q) s = .next t ∧ t.mod.store = { s.mod.store with svnFloor := n } ∧ r.answer t.mod.store 0 [] ∈ (t.dieOf s.whole.relay).wire ∧ t.mem = s.mem ∧
      ∀ e : Die, OnlyIn [.regs, .qll, .wire] (s.dieOf e) (t.dieOf e) ∧ ((s.dieOf e).held = none → (t.dieOf e).fld rQLL_BOOT 31 24 = n % 256) := by
  intro n
  have hact : svnRaise r (takenReq r s.whole) = (((takenReq r s.whole).onStore (fun st => { st with svnFloor := n })).both (floorShown n)).reply r 0 [] := by
    have hn : max (takenReq r s.whole).mod.store.svnFloor (min 64 (((takenReq r s.whole).die r.die).fld rQLL_BOOT 23 16)) = n := by
      obtain ⟨k, hk⟩ := taken_die s r r.die
      rw [taken_store, hk]
      rfl
    rw [svnRaise, hn]
    rfl
  have hg := (qmp_served svnRaise h hop (by decide)).trans hact
  generalize hw : ((takenReq r s.whole).onStore (fun st => { st with svnFloor := n })).both (floorShown n) = w at hg
  have hmod : w.mod = { (takenReq r s.whole).mod with store := { s.mod.store with svnFloor := n } } := by
    rw [← hw, both_mod, ← taken_store s r]
    rfl
  have hrelay : w.relay = s.whole.relay := by
    rw [← (served_taken s r).relay, Whole.relay, hmod]
    rfl
  have hdie : ∀ e, ∃ k m, w.die e = floorShown n ((noted k (s.here e)).sync m) := fun e => by
    obtain ⟨k, hk⟩ := taken_die s r e
    obtain ⟨m, hm⟩ := both_die ((takenReq r s.whole).onStore (fun st => { st with svnFloor := n })) (floorShown n) e
    exact ⟨k, m, by rw [← hw, hm, ← hk]; exact congrArg _ (congrArg (DieState.sync · m) (Whole.onMod_die _ _ _))⟩
  have hstore : (s.onWhole (qmp 0x16 svnRaise q)).mod.store = { s.mod.store with svnFloor := n } := by rw [State.onWhole_mod, hg, reply_mod, hmod]
  refine ⟨_, rfl, hstore, ?_, ?_, fun e => ?_⟩
  · rw [State.onWhole_mod, onWhole_dieOf, hg, reply_mod, ← hrelay, reply_relay]
    exact List.mem_append_right _ (List.mem_singleton_self _)
  · rw [State.onWhole_mem, hg, reply_stores, ← hw, both_stores]
    exact congrArg (memApply s.mem) (taken_stores s r)
  · obtain ⟨k, m, hk⟩ := hdie e
    have hlast := reply_only (r := r) (w := w) 0 [] e
    rw [hk] at hlast
    rw [onWhole_dieOf, hg]
    refine ⟨?_, fun hheld => ?_⟩
    · exact ((((OnlyIn.sync _ _ _).trans ((noted_only k _).mono (by decide))).trans (OnlyIn.sync _ _ _)).trans ((floorShown_only n _).mono (by decide))).trans (hlast.mono (by decide))
    · rw [DieState.fld, rd_of_onlyIn hlast (by decide)]
      exact floorShown_fld n hheld

theorem keySet_served (hop : r.op = 0x17) (slot : BitVec 8) (blob : List Byte) :
    let opened := (s.mod.store.roleKey 4).bind (fun k => Config.gcmOpen k blob)
    (6 ≤ slot.toNat → ∃ t, exec (.keySet q slot blob) s = .next t ∧ QmpReply s t r [] [] 3 []) ∧
      (∀ key, slot.toNat < 6 → opened = some key → key.length = 32 → ∃ t, exec (.keySet q slot blob) s = .next t ∧ QmpNext s t r [] [] [r.answer t.mod.store 0 []] ∧
        t.mod.store = { s.mod.store with keysBad := false, keys := if s.mod.store.keysBad then [(slot.toNat, key)] else tset s.mod.store.keys slot.toNat key }) ∧
      (slot.toNat < 6 → opened = none → ∃ t status, exec (.keySet q slot blob) s = .next t ∧ status ≠ 0 ∧ QmpReply s t r [] [] status []) := by
  intro opened
  have hopened : ((takenReq r s.whole).mod.store.roleKey 4).bind (fun k => Config.gcmOpen k blob) = opened := by rw [taken_store]
  refine ⟨fun hs => ⟨_, rfl, answered h hop (by decide) ?_⟩, fun key hs ho hl => ?_, 
    fun hs ho => ⟨_, 1 + Config.freeNat (takenReq r s.whole).free 0 % 7, rfl, by omega, answered h hop (by decide) ?_⟩⟩
  · rw [keySet, if_pos hs]
  · have hg := (qmp_served (keySet slot.toNat blob) h hop (by decide)).trans
      (show keySet slot.toNat blob r (takenReq r s.whole) = ((takenReq r s.whole).onStore (fun s => s.setKey slot.toNat key)).reply r 0 [] by
        rw [keySet, if_neg (by omega), hopened, ho]
        exact if_pos hl)
    have hmod : (s.onWhole (qmp 0x17 (keySet slot.toNat blob) q)).mod = ((takenReq r s.whole).onStore (fun s => s.setKey slot.toNat key)).mod := by
      rw [State.onWhole_mod, hg, reply_mod]
    refine ⟨_, rfl, ?_, ?_⟩
    · rw [hmod]
      exact ((served_taken s r).onMod (f := fun m => { m with store := m.store.setKey slot.toNat key }) rfl).reply 0 [] |>.next rfl hg
    · rw [hmod]
      exact congrArg (fun st : Store => st.setKey slot.toNat key) (taken_store s r)
  · rw [keySet, if_neg (by omega), hopened, ho]

end

/-! ### The end of verification and of the commit (R423, R424) -/

section
variable (s : State) (d : Die)

theorem stage_regs (x : DieState) (st : Nat) (locked : Bool) (cause : Nat) : RegsOnly [rQLL_STAGE] x (x.stage st locked cause) := .wr _ _ _

/-- The die of which an image is verified. -/
def verified (img : StoreImage) (x : DieState) : DieState := { x.stage 3 true 0 with qll := { x.qll with staged := some img } }

theorem verified_only (img : StoreImage) (x : DieState) : OnlyIn [.regs, .qll] x (verified img x) :=
  ((OnlyIn.stage x 3 true 0).mono (by decide)).trans ((OnlyIn.qll _ _).mono (by decide))

theorem verified_regs (img : StoreImage) (x : DieState) : RegsOnly [rQLL_STAGE] x (verified img x) := stage_regs x 3 true 0

theorem verified_rd (img : StoreImage) (x : DieState) : (verified img x).rd rQLL_STAGE = 11 := rd_stage x 3 true 0

/-- A command of the module that acts on one die alone. -/
theorem onWhole_onDie_die {g : Whole → Whole} {f : DieState → DieState} (hg : g s.whole = s.whole.onDie d f) : (s.onWhole g).dieOf d = f (s.here d) := by
  rw [onWhole_dieOf, hg, Whole.onDie_die, State.whole_die]
  rfl

theorem stageVerifyDone_cases (rs : List Rec) :
    let x := s.dieOf d
    let img := stagedImage (s.here d) s.mem x.staging.1 x.qll.stLen s.mod.store.slotKeys
    let cause := stageCause d s.mod.store (s.here d) img ((List.range (min 65535 img.head.records)).map (fun i => stagedRec (s.here d) s.mem x.staging.1 x.qll.stLen i (rs.getD i default)))
    (x.fld rQLL_STAGE 2 0 ≠ 2 → ∃ t, exec (.stageVerifyDone d rs) s = .next t ∧ FrameOf d [] s t) ∧
    (∀ c, x.fld rQLL_STAGE 2 0 = 2 → cause = some c → ∃ t, exec (.stageVerifyDone d rs) s = .next t ∧ (t.dieOf d).rd rQLL_STAGE = (6 + 16 * c) % 2 ^ 32 ∧
      RegsOnly [rQLL_STAGE] x (t.dieOf d) ∧ FrameOf d [.regs] s t) ∧
    (x.fld rQLL_STAGE 2 0 = 2 → cause = none → ∃ t, exec (.stageVerifyDone d rs) s = .next t ∧ (t.dieOf d).rd rQLL_STAGE = 11 ∧
      (t.dieOf d).qll = { x.qll with staged := some img } ∧ RegsOnly [rQLL_STAGE] x (t.dieOf d) ∧ FrameOf d [.regs, .qll] s t) := by
  intro x img cause
  have hst : (s.whole.die d).stState = x.fld rQLL_STAGE 2 0 := by rw [State.whole_die]; rfl
  have hcause : x.fld rQLL_STAGE 2 0 = 2 → stageVerified d rs s.whole =
      match cause with
      | some c => s.whole.onDie d (fun y => y.stage 6 false c)
      | none => s.whole.onDie d (verified img) := fun h2 => by
    unfold stageVerified
    dsimp only
    rw [hst, if_neg (by simp [h2]), State.whole_die]
    rfl
  clear_value cause
  refine ⟨fun h2 => ⟨_, rfl, (Led.start s d).frameOf ?_⟩, fun c h2 hc => ?_, fun h2 hc => ?_⟩
  · unfold stageVerified
    dsimp only
    rw [hst, if_pos h2]
  · have hg := hcause h2
    rw [hc] at hg
    have hd := onWhole_onDie_die s d hg
    refine ⟨_, rfl, (congrArg (DieState.rd · rQLL_STAGE) hd).trans (rd_stage _ 6 false c), ?_, ((Led.start s d).onDie (fun y => OnlyIn.stage y 6 false c)).frameOf hg⟩
    rw [hd]
    exact stage_regs _ _ _ _
  · have hg := hcause h2
    rw [hc] at hg
    have hd := onWhole_onDie_die s d hg
    refine ⟨_, rfl, (congrArg (DieState.rd · rQLL_STAGE) hd).trans (verified_rd img _), (congrArg DieState.qll hd).trans rfl, ?_,
      ((Led.start s d).onDie (verified_only img)).frameOf hg⟩
    rw [hd]
    exact verified_regs img _

theorem stageCommitDone_cases (ok : Bool) :
    let x := s.dieOf d
    (x.fld rQLL_STAGE 2 0 ≠ 4 → ∃ t, exec (.stageCommitDone d ok) s = .next t ∧ FrameOf d [] s t) ∧
    (x.fld rQLL_STAGE 2 0 = 4 → ok = false → ∃ t, exec (.stageCommitDone d ok) s = .next t ∧ (t.dieOf d).rd rQLL_STAGE = 254 ∧ FrameOf d [.regs] s t) ∧
    (x.fld rQLL_STAGE 2 0 = 4 → ok = true → ∃ t, exec (.stageCommitDone d ok) s = .next t ∧ (t.dieOf d).rd rQLL_STAGE = 13 ∧
      t.mod = { s.mod with store := { s.mod.store with image := x.qll.staged } } ∧ OnlyIn [.regs, .ink] x (t.dieOf d) ∧ OnlyIn [] (s.dieOf d.other) (t.dieOf d.other) ∧ t.mem = s.mem) := by
  intro x
  have hst : (s.whole.die d).stState = x.fld rQLL_STAGE 2 0 := by rw [State.whole_die]; rfl
  refine ⟨fun h4 => ⟨_, rfl, (Led.start s d).frameOf ?_⟩, fun h4 hok => ?_, fun h4 hok => ?_⟩
  · unfold stageCommitted
    dsimp only
    rw [hst, if_pos h4]
  · have hg : stageCommitted d ok s.whole = s.whole.onDie d (fun y => y.stage 6 true 15) := by
      unfold stageCommitted
      dsimp only
      rw [hst, if_neg (by simp [h4]), hok]
      rfl
    exact ⟨_, rfl, (congrArg (DieState.rd · rQLL_STAGE) (onWhole_onDie_die s d hg)).trans (rd_stage _ 6 true 15),
      ((Led.start s d).onDie (fun y => OnlyIn.stage y 6 true 15)).frameOf hg⟩
  · have hg : stageCommitted d ok s.whole = (s.whole.onStore (fun st => { st with image := x.qll.staged })).onDie d (fun y => (y.stage 5 true 0).life 36 1) := by
      unfold stageCommitted
      dsimp only
      rw [hst, if_neg (by simp [h4]), hok, State.whole_die]
      rfl
    have hdie : (s.onWhole (stageCommitted d ok)).dieOf d = ((s.here d).stage 5 true 0).life 36 1 := by
      rw [onWhole_dieOf, hg, Whole.onDie_die, Whole.onStore, Whole.onMod_die, State.whole_die]
      rfl
    refine ⟨_, rfl, (congrArg (DieState.rd · rQLL_STAGE) hdie).trans (rd_stage _ 5 true 0), ?_, ?_, ?_, ?_⟩
    · rw [State.onWhole_mod, hg, Whole.onDie_mod]
      rfl
    · rw [hdie]
      exact ((OnlyIn.sync _ _ _).trans ((OnlyIn.stage _ _ _ _).mono (by decide))).trans ((OnlyIn.life _ _ _).mono (by decide))
    · rw [onWhole_dieOf, hg, Whole.onDie_other, Whole.onStore, Whole.onMod_die, State.whole_die]
      exact .sync _ _ _
    · rw [State.onWhole_mem, hg, Whole.onDie_stores]
      rfl

end

/-! ### Bytes in DRAM (R191, R193) -/

theorem cellsAt_append (a : Nat) (xs ys : List Byte) : cellsAt a (xs ++ ys) = cellsAt a xs ++ cellsAt (a + xs.length) ys := by
  induction xs generalizing a with
  | nil => rfl
  | cons x xs ih => simp [cellsAt, ih, Nat.add_assoc, Nat.add_comm 1]

section
variable (d : DieState) (a : Nat) (bs : List Byte)

/-- A line without second copy, on a channel in service. -/
theorem lineCells_plain {line : Nat} (hl : line < dramLines) (hf : ∀ ch < 16, d.chFenced ch = false) (hc : d.copyOf line = none) (off : Nat) :
    d.lineCells line off bs = cellsAt ((Space.dram d.die).base + 64 * line + off) bs := by
  have hch : d.chFenced (lineChan line) = false := hf _ (Nat.mod_lt _ (by decide))
  simp [DieState.lineCells, hc, hch, hl]

/-- The bytes of consecutive lines stand one after the other. -/
theorem lines_cells (b m : Nat) :
    (List.range m).flatMap (fun i => cellsAt (b + max a (64 * (a / 64 + i))) ((bs.drop (max a (64 * (a / 64 + i)) - a)).take (64 * (a / 64 + i + 1) - max a (64 * (a / 64 + i))))) =
      cellsAt (b + a) (bs.take (64 * (a / 64 + m) - a)) := by
  induction m with
  | zero =>
    rw [show 64 * (a / 64 + 0) - a = 0 by omega]
    rfl
  | succ m ih =>
    have hsplit : 64 * (a / 64 + (m + 1)) - a = (64 * (a / 64 + m) - a) + (64 * (a / 64 + m + 1) - max a (64 * (a / 64 + m))) := by omega
    have hlo : max a (64 * (a / 64 + m)) - a = 64 * (a / 64 + m) - a := by omega
    rw [List.range_succ, List.flatMap_append, ih, List.flatMap_singleton, hsplit, List.take_add, cellsAt_append, hlo, List.length_take]
    congr 1
    rcases Nat.le_total (64 * (a / 64 + m) - a) bs.length with hle | hle
    · rw [min_eq_left hle, show b + a + (64 * (a / 64 + m) - a) = b + max a (64 * (a / 64 + m)) by omega]
    · rw [List.drop_eq_nil_of_le hle, List.take_nil]
      rfl

/-- Bytes where every channel is in service and no line has a second copy. -/
theorem dramStore_plain (hf : ∀ ch < 16, d.chFenced ch = false) (hl : a + bs.length ≤ 64 * dramLines) (hc : ∀ k, a / 64 ≤ k → k ≤ (a + bs.length) / 64 → d.copyOf k = none) :
    d.dramStore a bs = cellsAt ((Space.dram d.die).base + a) bs := by
  have hfull : bs.take (64 * (a / 64 + ((a + bs.length + 63) / 64 - a / 64)) - a) = bs := List.take_of_length_le (by omega)
  rw [← congrArg (cellsAt _) hfull, ← lines_cells]
  unfold DieState.dramStore
  refine List.flatMap_congr fun i hi => ?_
  have hi' : i < (a + bs.length + 63) / 64 - a / 64 := List.mem_range.1 hi
  dsimp only
  rw [lineCells_plain d _ (by omega) hf (hc _ (by omega) (by omega))]
  congr 1
  omega

end

section
variable {s : State} {q : List Byte} {r : Req} (h : s.QmpServed q r)
include h

theorem stageChunk_served (hop : r.op = 0x11) (hwf : Memory.wf s.mem = true) :
    let x := s.dieOf r.die
    let st := x.fld rQLL_STAGE 2 0
    let lock := x.flag rQLL_STAGE 3
    let off := beNat (r.data.take 8)
    let bs := r.data.drop 8
    let l := x.staging.1 + off
    let at_ := (Space.dram x.die).base + l
    let bad := r.data.length < 9 ∨ 1024 < bs.length ∨ x.qll.stLen < off + bs.length
    (lock = true → ∃ t, exec (.stageChunk q) s = .next t ∧ QmpReply s t r [] [] 4 []) ∧
      (lock = false → st ≠ 1 → ∃ t, exec (.stageChunk q) s = .next t ∧ QmpReply s t r [] [] 2 []) ∧
      (lock = false → st = 1 → bad → ∃ t, exec (.stageChunk q) s = .next t ∧ QmpReply s t r [] [] 3 []) ∧
      (lock = false → st = 1 → ¬bad → (∀ ch < 16, x.chFenced ch = false) → l + bs.length ≤ 64 * dramLines → (∀ k, l / 64 ≤ k → k ≤ (l + bs.length) / 64 → x.copyOf k = none) →
        ∃ t, exec (.stageChunk q) s = .next t ∧ QmpNext s t r [] [] [r.answer s.mod.store 0 []] ∧ memRead t.mem at_ bs.length = bs ∧
        ∀ a, (a < at_ ∨ at_ + bs.length ≤ a) → memGet t.mem a = memGet s.mem a) := by
  intro x st lock off bs l at_ bad
  obtain ⟨k, hk⟩ := taken_die s r r.die
  have hlock : ((takenReq r s.whole).die r.die).flag rQLL_STAGE 3 = lock := by rw [hk]; rfl
  have hst : ((takenReq r s.whole).die r.die).stState = st := by rw [hk]; rfl
  have hbad : (r.data.length < 9 ∨ 1024 < bs.length ∨ ((takenReq r s.whole).die r.die).qll.stLen < off + bs.length) = bad := by rw [hk]; rfl
  refine ⟨fun hl => ⟨_, rfl, answered h hop (by decide) ?_⟩, fun hl hs => ⟨_, rfl, answered h hop (by decide) ?_⟩, fun hl hs hb => ⟨_, rfl, answered h hop (by decide) ?_⟩,
    fun hl hs hb hf hend hc => ?_⟩
  · rw [stageChunk, hlock, if_pos hl]
  · rw [stageChunk, hlock, hst, if_neg (by simp [hl]), if_pos hs]
  · rw [stageChunk, hlock, hst, if_neg (by simp [hl]), if_neg (by simp [hs])]
    exact if_pos (hbad ▸ hb)
  · have hcells : ((takenReq r s.whole).die r.die).dramStore l bs = cellsAt at_ bs := by
      rw [hk]
      exact dramStore_plain x l bs hf hend hc
    have hact : stageChunk r (takenReq r s.whole) = ((takenReq r s.whole).store (cellsAt at_ bs)).reply r 0 [] := by
      rw [stageChunk, hlock, hst, if_neg (by simp [hl]), if_neg (by simp [hs])]
      refine (if_neg (by rw [hbad]; exact hb)).trans ?_
      rw [← hcells, hk]
      rfl
    have hg := (qmp_served stageChunk h hop (by decide)).trans hact
    have hmem : (s.onWhole (qmp 0x11 stageChunk q)).mem = memApply s.mem (cellsAt at_ bs) := by
      rw [State.onWhole_mem, hg, reply_stores]
      exact congrArg (fun ws => memApply s.mem (ws ++ cellsAt at_ bs)) (taken_stores s r)
    refine ⟨_, rfl, ?_, ?_, fun a ha => ?_⟩
    · rw [← taken_store s r]
      exact (((served_taken s r).store _).reply 0 []).next rfl hg
    · rw [hmem]
      exact memRead_memApply_cellsAt _ _ _ hwf
    · rw [hmem]
      exact memGet_memApply_ne _ _ _ hwf fun c hc => by have := cellsAt_range _ _ c hc; omega

end

end Sys2Proof

/-! SUPPORT. QMP requests that acknowledge, ask for a unit state, or write a camera. -/

namespace Sys2Proof
open Machine

/-! ### Acknowledge, camera writes and unit states (R248, R432, R434) -/

theorem OnlyIn.items (x : DieState) (is : List Item) : OnlyIn [.items] x { x with items := is } := ⟨rfl, fun p hp => by cases p <;> simp_all [DiePart.Same]⟩

/-- A change of one die reaches that die alone. -/
theorem onDie_cases (w : Whole) (d : Die) (f : DieState → DieState) (e : Die) : (w.onDie d f).die e = if e = d then f ((w.die e).sync w.now) else w.die e := by
  refine forall_die (P := fun e => (w.onDie d f).die e = if e = d then f ((w.die e).sync w.now) else w.die e) d ?_ ?_ e
  · rw [Whole.onDie_die, if_pos rfl]
  · rw [Whole.onDie_other, if_neg d.other_ne]

theorem taken_paired (r : Req) (w : Whole) : (takenReq r w).paired = w.paired := by
  have h : ∀ e, ((takenReq r w).die e).paired = (w.die e).paired := fun e => (takenReq_only r w e).2 .paired (by decide)
  simpa [Whole.paired] using congrArg₂ or (h .a) (h .b)

/-- A request whose last act is its answer. -/
theorem said_reply {s : State} {g : Whole → Whole} {r : Req} {w : Whole} {status : Nat} {payload : List Byte} (hg : g s.whole = w.reply r status payload)
    (hr : w.relay = s.whole.relay) : r.answer (s.onWhole g).mod.store status payload ∈ ((s.onWhole g).dieOf s.whole.relay).wire := by
  rw [State.onWhole_mod, onWhole_dieOf, hg, reply_mod, ← hr, reply_relay]
  exact List.mem_append_right _ (List.mem_singleton_self _)

/-- An acknowledge sets out for the core domain. -/
def ackPost (x : DieState) : DieState := x.post none .operatorAck

theorem ackPost_only (x : DieState) : OnlyIn [.items] x (ackPost x) := .items _ _

/-- The dies that an acknowledge reaches. -/
def ackDies (r : Req) (w : Whole) : Whole := if w.paired then w.both ackPost else w.onDie r.die ackPost

theorem ackDies_mod (r : Req) (w : Whole) : (ackDies r w).mod = w.mod := by
  unfold ackDies
  split
  · exact both_mod _ _
  · exact Whole.onDie_mod _ _ _

/-- An acknowledge reaches the addressed die, or both of a pair. -/
theorem ackDies_die (r : Req) (w : Whole) (e : Die) : ∃ m, (ackDies r w).die e = if e = r.die ∨ w.paired = true then ackPost ((w.die e).sync m) else w.die e := by
  unfold ackDies
  split
  next h =>
    obtain ⟨m, hm⟩ := both_die w ackPost e
    exact ⟨m, by rw [hm, if_pos (.inr h)]⟩
  next h =>
    refine ⟨w.now, ?_⟩
    rw [onDie_cases]
    simp [h]

section
variable {s : State} {q : List Byte} {r : Req} (h : s.QmpServed q r)
include h

theorem ack_served (hop : r.op = 9) : ∃ t, exec (.ack q) s = .next t ∧ r.answer t.mod.store 0 [] ∈ (t.dieOf s.whole.relay).wire ∧
    ∀ e : Die, (e = r.die ∨ s.whole.paired = true → (t.dieOf e).items = (s.dieOf e).items ++ [⟨none, none, .operatorAck⟩]) ∧
      (e ≠ r.die → s.whole.paired = false → (t.dieOf e).items = (s.dieOf e).items) ∧ OnlyIn [.items, .qll, .wire] (s.dieOf e) (t.dieOf e) := by
  have hg : qmp 0x09 ackReq q s.whole = (ackDies r (takenReq r s.whole)).reply r 0 [] := qmp_served ackReq h hop (by decide)
  have hrelay : (ackDies r (takenReq r s.whole)).relay = s.whole.relay := by
    rw [Whole.relay, ackDies_mod]
    exact (served_taken s r).relay
  refine ⟨_, rfl, said_reply hg hrelay, fun e => ?_⟩
  obtain ⟨k, hk⟩ := taken_die s r e
  obtain ⟨m, hm⟩ := ackDies_die r (takenReq r s.whole) e
  have hlast := reply_only (r := r) (w := ackDies r (takenReq r s.whole)) 0 [] e
  rw [hm, hk, taken_paired] at hlast
  have hitems : ((s.onWhole (qmp 0x09 ackReq q)).dieOf e).items = _ := (congrArg DieState.items ((onWhole_dieOf _ s e).trans (congrArg (Whole.die · e) hg))).trans (hlast.2 .items (by decide))
  rw [hitems, onWhole_dieOf, hg]
  have hnoted : OnlyIn [.qll] (s.dieOf e) (noted k (s.here e)) := (OnlyIn.sync _ _ _).trans (noted_only k _)
  refine ⟨fun ha => ?_, fun hne hp => ?_, ?_⟩
  · rw [if_pos ha]
    rfl
  · rw [if_neg (by simp [hne, hp])]
    rfl
  · refine OnlyIn.trans ?_ (hlast.mono (by decide))
    exact .ite _ ((hnoted.mono (by decide)).trans ((OnlyIn.sync _ _ _).trans ((ackPost_only _).mono (by decide)))) (hnoted.mono (by decide))

end

theorem OnlyIn.reqs (x : DieState) (rs : List (Nat × Nat × Nat)) : OnlyIn [.reqs] x { x with reqs := rs } := ⟨rfl, fun p hp => by cases p <;> simp_all [DiePart.Same]⟩

/-- A request for QLL_USW_REQ has GO. -/
theorem bit_uswValue {u i act : Nat} (ha : act < 4) : bit 31 (uswValue u i act) = true := by
  have hu := Nat.mod_lt u (show 0 < 32 by decide)
  have hi := Nat.mod_lt i (show 0 < 256 by decide)
  refine decide_eq_true ?_
  unfold uswValue
  omega

/-- The response to a request waits for its result. -/
def ansWaits (r : Req) (d : DieState) : DieState := { d with qll := { d.qll with ans := some (r.role, r.seq) } }

theorem ansWaits_only (r : Req) (x : DieState) : OnlyIn [.qll] x (ansWaits r x) := .qll _ _

theorem uswPend_only (v : Nat) (x : DieState) : OnlyIn [.regs, .qll] x (x.uswPend v) :=
  ((OnlyIn.wr x _ _).mono (by decide)).trans ((OnlyIn.qll _ _).mono (by decide))

theorem queueReq_only (off v n : Nat) (x : DieState) : OnlyIn [.reqs] x (x.queueReq off v n) := .reqs _ _

/-- A die whose request for QLL_USW_REQ waits for boundary `n`. -/
def pended (v n : Nat) (x : DieState) : DieState := (x.uswPend v).queueReq rQLL_USW_REQ v n

section
variable (v n : Nat) (x : DieState)

theorem pended_only : OnlyIn [.regs, .qll, .reqs] x (pended v n x) := ((uswPend_only v x).mono (by decide)).trans ((queueReq_only _ _ _ _).mono (by decide))
theorem pended_rd : (pended v n x).rd rQLL_USW_RESULT = 0x80000000 := DieState.rd_wr_same x rQLL_USW_RESULT 0x80000000
theorem pended_ans : (pended v n x).qll.ans = x.qll.ans := rfl
theorem pended_reqs : (pended v n x).reqs = x.reqs ++ [(rQLL_USW_REQ, v, n)] := rfl

end

/-- What a die's own change keeps, the pairing is. -/
theorem onDie_paired (w : Whole) (d : Die) (f : DieState → DieState) (hf : ∀ x, (f x).paired = x.paired) : (w.onDie d f).paired = w.paired := by
  have h : ∀ e, ((w.onDie d f).die e).paired = (w.die e).paired := forall_die d (by rw [Whole.onDie_die, hf]; rfl) (by rw [Whole.onDie_other])
  simpa [Whole.paired] using congrArg₂ or (h .a) (h .b)

theorem Machine.DieState.sync_self {x : DieState} {n : Nat} (h : x.clk = n) : x.sync n = x := by
  subst h
  rfl

/-- What a die does in one command one after the other, where its clock stays. -/
theorem onDie_onDie (w : Whole) (d : Die) (f g : DieState → DieState) (hf : ∀ x, (f x).clk = x.clk) (hg : ∀ x, (g x).clk = x.clk) :
    (w.onDie d f).onDie d g = w.onDie d (fun x => g (f x)) := by
  have hsync : (f ((w.die d).sync w.now)).sync w.now = f ((w.die d).sync w.now) := DieState.sync_self (hf _)
  cases d <;> simp_all [Whole.onDie, Whole.die]

/-- A request of a die that steps alone waits for its next boundary. -/
theorem ask_alone {w : Whole} {d : Die} {off v : Nat} (hs : (w.die d).stepping = true) (hp : w.paired = false) :
    w.ask d off v = w.onDie d (fun x => x.queueReq off v ((w.die d).seq.step + 1)) := by
  simp [Whole.ask, hs, hp]

/-- A Unit State request of a die that steps alone is PENDING. -/
theorem uswWrite_alone {w : Whole} {d : Die} {v : Nat} (hgo : bit 31 v = true) (hf : (w.die d).flag rQLL_USW_RESULT 31 = false) (hs : (w.die d).stepping = true)
    (hp : w.paired = false) : uswWrite d v w = w.onDie d (pended v ((w.die d).seq.step + 1)) := by
  have hdie : (w.onDie d (·.uswPend v)).die d = ((w.die d).sync w.now).uswPend v := Whole.onDie_die _ _ _
  have hpair : (w.onDie d (·.uswPend v)).paired = false := (onDie_paired w d (·.uswPend v) fun _ => rfl).trans hp
  rw [uswWrite, hgo, hf]
  refine (ask_alone (by rw [hdie]; exact hs) hpair).trans ?_
  rw [hdie]
  exact onDie_onDie w d _ _ (fun _ => rfl) (fun _ => rfl)

section
variable {s : State} {q : List Byte} {r : Req} (h : s.QmpServed q r)
include h

theorem unitState_served (hd sq pl tag : List Byte) (hq : q = hd ++ sq ++ pl ++ tag) (hop : r.op = 5) :
      let x := s.dieOf r.die
      let v := r.field 0 4
      let u := v / 2 ^ 16 % 32
      let act := v % 4
      let bad := r.data.length ≠ 4 ∨ 2 ^ 21 ≤ v ∨ v / 4 % 64 ≠ 0 ∨ 18 < u ∨ act = 0 ∨ act = 3
      (bad → ∃ t, exec (.unitState hd sq pl tag) s = .next t ∧ QmpReply s t r [] [] 3 []) ∧
      (¬bad → x.flag rQLL_USW_RESULT 31 = true → ∃ t, exec (.unitState hd sq pl tag) s = .next t ∧ QmpReply s t r [] [] 4 []) ∧
      (¬bad → x.flag rQLL_USW_RESULT 31 = false → x.stepping = true → s.a.paired = false → s.b.paired = false →
        ∃ t, exec (.unitState hd sq pl tag) s = .next t ∧ QmpNext s t r [.regs, .qll, .reqs] [] [] ∧ (t.dieOf r.die).rd rQLL_USW_RESULT = 0x80000000 ∧
          (t.dieOf r.die).qll.ans = some (r.role, r.seq) ∧ (t.dieOf r.die).reqs = x.reqs ++ [(rQLL_USW_REQ, uswValue u (v / 2 ^ 8 % 256) act, x.seq.step + 1)]) := by
  intro x v u act bad
  subst hq
  obtain ⟨k, hk⟩ := taken_die s r r.die
  have hflag : ((takenReq r s.whole).die r.die).flag rQLL_USW_RESULT 31 = x.flag rQLL_USW_RESULT 31 := by rw [hk]; rfl
  refine ⟨fun hb => ⟨_, rfl, answered h hop (by decide) (if_pos hb)⟩, fun hb hf => ⟨_, rfl, answered h hop (by decide) ?_⟩, fun hb hf hstep ha hb' => ?_⟩
  · exact (if_neg hb).trans (if_pos (hflag.trans hf))
  · generalize hv : uswValue u (v / 2 ^ 8 % 256) act = val
    have hgo : bit 31 val = true := hv ▸ bit_uswValue (Nat.mod_lt _ (by decide))
    generalize hw : (takenReq r s.whole).onDie r.die (ansWaits r) = w
    have hd : w.die r.die = ansWaits r (noted k (s.here r.die)) := by rw [← hw, Whole.onDie_die, taken_sync, hk]
    have hact : unitState r (takenReq r s.whole) = uswWrite r.die val w := by
      rw [← hv, ← hw]
      exact (if_neg hb).trans (if_neg (by rw [hflag, hf]; decide))
    have hpair : w.paired = false := by
      rw [← hw, onDie_paired _ _ (ansWaits r) (fun _ => rfl), taken_paired]
      exact Bool.or_eq_false_iff.2 ⟨ha, hb'⟩
    have hpend := uswWrite_alone hgo (by rw [hd]; exact hf) (by rw [hd]; exact hstep) hpair
    rw [hd] at hpend
    have hg := ((qmp_served unitState h hop (by decide)).trans hact).trans hpend
    have hserved : Served s r [.qll] [] [] w := hw ▸ (served_taken s r).act (ansWaits_only r) (by decide) (fun _ => rfl) (by simp)
    have hnext := (hserved.act (pended_only val (x.seq.step + 1)) (by decide) (fun _ => rfl) (by decide)).next rfl hg
    have hdie := (onWhole_dieOf _ s r.die).trans (congrArg (Whole.die · r.die) hg)
    rw [Whole.onDie_die, hd] at hdie
    exact ⟨_, rfl, hnext, (congrArg (DieState.rd · rQLL_USW_RESULT) hdie).trans (pended_rd _ _ _), (congrArg (fun y : DieState => y.qll.ans) hdie).trans (pended_ans _ _ _),
      (congrArg DieState.reqs hdie).trans (pended_reqs _ _ _)⟩

end

/-! ### Camera writes (R248) -/

/-- A die whose record of camera `p` has `v` in register `a`. -/
def camNoted (p a v : Nat) (d : DieState) : DieState := { d with cxp := { d.cxp with camRegs := tmod d.cxp.camRegs p [] (fun t => tset t a v) } }

/-- The same, where the die drives the uplink: the write is sent. -/
def camSent (p a v : Nat) (d : DieState) : DieState := (camNoted p a v d).send .cxpControl [p, 1, a, v] []

section
variable (p a v : Nat) (x : DieState)

theorem camNoted_only : OnlyIn [.cxp] x (camNoted p a v x) := .cxp _ _

theorem camSent_only : OnlyIn [.wire, .cxp] x (camSent p a v x) := ((camNoted_only p a v x).mono (by decide)).trans ((OnlyIn.send _ _ _ _).mono (by decide))

theorem camSent_wire : (camSent p a v x).wire = x.wire ++ [⟨.cxpControl, [p, 1, a, v], []⟩] := rfl

theorem camSent_reg : tget? (tget (camSent p a v x).cxp.camRegs p []) a = some v := by
  rw [show (camSent p a v x).cxp.camRegs = tmod x.cxp.camRegs p [] (fun t => tset t a v) from rfl, tmod, tget_tset_same]
  exact tget?_tset_same _ _ _

theorem camSend_driving {args : List Nat} (h : x.cxp.driving = true) : x.camSend args = x.send .cxpControl args [] := if_pos h

end

theorem onDie_congr {w : Whole} {d : Die} {f g : DieState → DieState} (h : f ((w.die d).sync w.now) = g ((w.die d).sync w.now)) : w.onDie d f = w.onDie d g := by
  unfold Whole.onDie
  rw [h]

/-- A camera write on the allow-list. -/
theorem camWrite_may {p a v : Nat} {r : Req} {w : Whole} (h : ((w.die r.die).portOn p && (tget (w.die r.die).cxp.cams p default).allow.contains a) = true)
    (hd : (w.die (w.camDie r.die)).cxp.driving = true) : camWrite p a v r w = (w.onDie (w.camDie r.die) (camSent p a v)).reply r 0 [] := by
  refine (if_pos h).trans ?_
  congr 1
  exact onDie_congr (camSend_driving (camNoted p a v _) hd)

section
variable {s : State} {q : List Byte} {r : Req} (h : s.QmpServed q r)
include h

theorem camWrite_served (hop : r.op = 7) (p : Fin 8) (a v : BitVec 32) :
    let x := s.dieOf r.die
    let may := x.portOn p.val = true ∧ (tget x.cxp.cams p.val default).allow.contains a.toNat = true
    (may → x.cxp.driving = true → ∃ t, exec (.camWrite q p a v) s = .next t ∧ QmpReply s t r [.cxp] [⟨.cxpControl, [p.val, 1, a.toNat, v.toNat], []⟩] 0 [] ∧
        tget? (tget (t.dieOf r.die).cxp.camRegs p.val []) a.toNat = some v.toNat) ∧
      (may → x.cxp.driving = false → s.whole.paired = true → (s.dieOf r.die.other).cxp.driving = true → ∃ t, exec (.camWrite q p a v) s = .next t ∧
        ⟨.cxpControl, [p.val, 1, a.toNat, v.toNat], []⟩ ∈ (t.dieOf r.die.other).wire ∧ r.answer t.mod.store 0 [] ∈ (t.dieOf s.whole.relay).wire ∧ t.mem = s.mem ∧
        tget? (tget (t.dieOf r.die.other).cxp.camRegs p.val []) a.toNat = some v.toNat) ∧
      (¬may → ∃ t, exec (.camWrite q p a v) s = .next t ∧ QmpReply s t r [.regs, .ink] [] 3 [] ∧ (t.dieOf r.die).flag rCXP_STATUS 8 = true) := by
  intro x may
  generalize hw : takenReq r s.whole = w
  have hdie : ∀ e, ∃ k, w.die e = noted k (s.here e) := hw ▸ taken_die s r
  have hcan : ((w.die r.die).portOn p.val && (tget (w.die r.die).cxp.cams p.val default).allow.contains a.toNat) = true ↔ may := by
    obtain ⟨k, hk⟩ := hdie r.die
    rw [hk, Bool.and_eq_true]
    rfl
  have hdrive : ∀ e, (w.die e).cxp.driving = (s.dieOf e).cxp.driving := fun e => by
    obtain ⟨k, hk⟩ := hdie e
    rw [hk]
    rfl
  have hpaired : w.paired = s.whole.paired := hw ▸ taken_paired r s.whole
  have hserved : Served s r [] [] [] w := hw ▸ served_taken s r
  have hq := qmp_served (camWrite p.val a.toNat v.toNat) h hop (by decide)
  rw [hw] at hq
  have hstores : w.stores = [] := hw ▸ taken_stores s r
  refine ⟨fun hm hd => ?_, fun hm hd hp ho => ?_, fun hm => ?_⟩
  · have hcam : w.camDie r.die = r.die := if_pos (.inl ((hdrive _).trans hd))
    have hg := hq.trans (camWrite_may (hcan.2 hm) (by rw [hcam, hdrive]; exact hd))
    rw [hcam] at hg
    have hact := (hserved.onDie (.inr rfl) (camSent_only p.val a.toNat v.toNat) (camSent_wire p.val a.toNat v.toNat) (fun _ => rfl) (by simp)).reply 0 []
    refine ⟨_, rfl, hact.qmpReply rfl hg (by rw [reply_mod]) ?_ ?_, ?_⟩
    · rw [reply_stores, Whole.onDie_stores, hstores]
      rfl
    · rw [reply_mod, Whole.onDie_mod, ← hw]
      exact taken_mod s r
    · rw [onWhole_dieOf, hg, show DieState.cxp _ = _ from (reply_only (r := r) 0 [] r.die).2 .cxp (by decide), Whole.onDie_die]
      exact camSent_reg _ _ _ _
  · have hcam : w.camDie r.die = r.die.other := if_neg (by simp [hdrive, hpaired, hp, ho, show (s.dieOf r.die).cxp.driving = false from hd])
    have hg := hq.trans (camWrite_may (hcan.2 hm) (by rw [hcam, hdrive]; exact ho))
    rw [hcam] at hg
    have hrelay : (w.onDie r.die.other (camSent p.val a.toNat v.toNat)).relay = s.whole.relay := by
      rw [Whole.relay, Whole.onDie_mod]
      exact hserved.relay
    refine ⟨_, rfl, ?_, said_reply hg hrelay, ?_, ?_⟩
    · rw [onWhole_dieOf, hg, reply_wire, Whole.onDie_die, camSent_wire]
      simp
    · rw [State.onWhole_mem, hg, reply_stores, Whole.onDie_stores, hstores]
      rfl
    · rw [onWhole_dieOf, hg, show DieState.cxp _ = _ from (reply_only (r := r) 0 [] r.die.other).2 .cxp (by decide), Whole.onDie_die]
      exact camSent_reg _ _ _ _
  · subst hw
    obtain ⟨hr, k, hk⟩ := acted (act := camWrite p.val a.toNat v.toNat) (status := 3) (payload := []) h hop (by decide) (if_neg (fun hc => hm (hcan.1 hc)))
      (fun y => OnlyIn.raise y rCXP_STATUS 8) (by decide) (fun y => congrArg Qll.qseq ((OnlyIn.raise y rCXP_STATUS 8).2 .qll (by decide)))
    refine ⟨_, rfl, hr, ?_⟩
    rw [DieState.flag, rd_of_onlyIn hk (by decide)]
    exact DieState.flag_raise _ _ _ (by decide) (by decide)

end

end Sys2Proof

/-! SUPPORT. QMP requests that start MAINT, halt and reset. -/

namespace Sys2Proof
open Machine

/-! ### MAINT (R227) -/

/-- What starting a context's objects and programs changes in the die. -/
def startParts : List DiePart := [.regs, .syn, .tar]

theorem OnlyIn.syn (x : DieState) (y : Syn) : OnlyIn [.syn] x { x with syn := y } := ⟨rfl, fun p hp => by cases p <;> simp_all [DiePart.Same]⟩
theorem OnlyIn.tar (x : DieState) (y : Tar) : OnlyIn [.tar] x { x with tar := y } := ⟨rfl, fun p hp => by cases p <;> simp_all [DiePart.Same]⟩
theorem OnlyIn.ctx (x : DieState) (y : Ctx) : OnlyIn [.ctx] x { x with ctx := y } := ⟨rfl, fun p hp => by cases p <;> simp_all [DiePart.Same]⟩

theorem setSlot_only (x : DieState) (p : Nat) (y : TileSlot) : OnlyIn [.tar] x (x.setSlot p y) := .tar _ _
theorem setBar_only (x : DieState) (n : Nat) (b : Bar) : OnlyIn [.syn] x (x.setBar n b) := .syn _ _
theorem mirrorSram_only (x : DieState) (now : Nat) (ws : List Host.Cell) : OnlyIn [.tar] x (x.mirrorSram now ws) := .tar _ _

theorem mirrorWord_only (x : DieState) (p i st now : Nat) : OnlyIn [.tar] x (x.mirrorWord p i st now) := by
  unfold DieState.mirrorWord
  split
  · exact .refl _ _
  · exact .ite _ (.tar _ _) (.refl _ _)

theorem setWord_only (x : DieState) (p i st : Nat) : OnlyIn startParts x (x.setWord p i st) :=
  ((OnlyIn.syn x _).mono (by decide)).trans ((mirrorWord_only _ _ _ _ _).mono (by decide))

theorem storeSram_only (x : DM) (ws : List Host.Cell) : OnlyIn startParts x.d (x.storeSram ws).d := (mirrorSram_only _ _ _).mono (by decide)

theorem setWordData_only (x : DM) (p i st v : Nat) : OnlyIn startParts x.d (x.setWordData p i st v).d :=
  (setWord_only x.d p i st).trans ((mirrorSram_only _ _ _).mono (by decide))

theorem dmFoldl_only {us : List DiePart} {A : Type} (f : DM → A → DM) (h : ∀ x a, OnlyIn us x.d (f x a).d) (l : List A) (x : DM) : OnlyIn us x.d (l.foldl f x).d := by
  induction l generalizing x with
  | nil => exact .refl _ _
  | cons a l ih => exact (h x a).trans (ih _)

theorem ownedBars_only (x : DieState) (l : List Nat) : OnlyIn startParts x (l.foldl (fun d n =>
    ((d.setFld (rSYN_BAR + 4 * n) 31 16 0).setFlag (rSYN_BAR + 4 * n) 15 false).setBar n default) x) :=
  .foldl _ (fun x n => (((OnlyIn.setFld x _ _ _ _).trans (.setFlag _ _ _ _)).mono (by decide)).trans ((setBar_only _ _ _).mono (by decide))) _ _

theorem initObjects_only (c : Nat) (x : DM) : OnlyIn startParts x.d (initObjects c x).d := by
  unfold initObjects
  extract_lets ws y z
  have hy : OnlyIn startParts x.d y.d := by
    refine dmFoldl_only _ (fun x w => ?_) _ _
    exact (setWord_only x.d (x.d.ptileOf w.1) w.2 0).trans (storeSram_only (x.onD (·.setWord (x.d.ptileOf w.1) w.2 0)) _)
  have hz : OnlyIn startParts y.d z.d := by
    refine dmFoldl_only _ (fun x r => ?_) _ _
    dsimp only
    split
    · exact (setWordData_only _ _ _ _ _).trans (setWordData_only _ _ _ _ _)
    · split
      · exact setWordData_only _ _ _ _ _
      · exact .refl _ _
  exact (hy.trans hz).trans (ownedBars_only z.d _)

theorem loadProgram_only (g : Prog) (p : Nat) (x : DM) : OnlyIn startParts x.d (loadProgram g p x).d := (storeSram_only x _).trans (storeSram_only _ _)

/-- MAINT starts where the outgoing group is STANDBY. -/
theorem maintStart_runs {x : DM} (hs : x.d.stepping = true) (hg : x.d.grpState false x.d.outGroup = 5) (hm : x.d.ctx.maint = false) : (maintStart x).d.ctx.maint = true := by
  have hif : ¬(!x.d.stepping ∨ x.d.grpState false x.d.outGroup ≠ 5 ∨ x.d.ctx.maint) := by simp [hs, hg, hm]
  unfold maintStart
  extract_lets d y z
  have hy : y.d.ctx.maint = true := rfl
  have hz : OnlyIn startParts y.d z.d := initObjects_only 18 y
  rw [if_neg hif]
  have hlast := dmFoldl_only (us := startParts) (fun x (g : Prog) =>
    (loadProgram g (16 * x.d.outGroup + g.tile % 16) x).onD (fun d => d.setSlot (16 * x.d.outGroup + g.tile % 16) (startTile g (d.seq.step * 20000))))
    (fun x g => (loadProgram_only g _ x).trans ((setSlot_only _ _ _).mono (by decide))) (z.d.ctx.progs.filter (fun g => g.ctx == 18)) z
  exact (congrArg Ctx.maint ((hz.trans hlast).2 .ctx (by decide))).trans hy

theorem maintStart_waits {x : DM} (h : ¬(x.d.stepping = true ∧ x.d.grpState false x.d.outGroup = 5 ∧ x.d.ctx.maint = false)) : maintStart x = x := by
  unfold maintStart
  refine if_pos ?_
  by_contra hc
  simp only [not_or, Bool.not_eq_true', Bool.not_eq_false, not_not, Bool.not_eq_true] at hc
  exact h hc

theorem store_nil (w : Whole) : w.store [] = w := by simp [Whole.store, memApply]

section
variable {s : State} {q : List Byte} {r : Req} (h : s.QmpServed q r)
include h

theorem maintStart_served (hop : r.op = 0x0A) :
    let x := s.dieOf r.die
    let may := x.stepping = true ∧ x.grpState false x.outGroup = 5 ∧ x.ctx.maint = false
    (¬may → ∃ t, exec (.maintStart q) s = .next t ∧ QmpReply s t r [] [] 0 []) ∧
      (may → ∃ t, exec (.maintStart q) s = .next t ∧ (t.dieOf r.die).ctx.maint = true ∧ r.answer t.mod.store 0 [] ∈ (t.dieOf s.whole.relay).wire ∧
        OnlyIn [.qll, .wire] (s.dieOf r.die.other) (t.dieOf r.die.other)) := by
  intro x may
  obtain ⟨k, hk⟩ := taken_die s r r.die
  generalize hz : maintStart ⟨((takenReq r s.whole).die r.die).sync (takenReq r s.whole).now, (takenReq r s.whole).mem, []⟩ = z
  have hact : maintReq r (takenReq r s.whole) = (((takenReq r s.whole).onDie r.die (fun _ => z.d)).store z.stores).reply r 0 [] := by rw [← hz]; rfl
  rw [taken_sync, hk] at hz
  refine ⟨fun hm => ?_, fun hm => ?_⟩
  · have hz' : z = ⟨noted k (s.here r.die), (takenReq r s.whole).mem, []⟩ := hz ▸ maintStart_waits hm
    have hidle : maintReq r (takenReq r s.whole) = ((takenReq r s.whole).onDie r.die id).reply r 0 [] := by
      rw [hact, hz', onDie_congr (f := fun _ => noted k (s.here r.die)) (g := id) (by rw [taken_sync, hk]; rfl), store_nil]
    exact ⟨_, rfl, (acted (us := []) h hop (by decide) hidle (fun y => .refl _ y) (by decide) (fun _ => rfl)).1⟩
  · have hmaint : z.d.ctx.maint = true := hz ▸ maintStart_runs (x := ⟨noted k (s.here r.die), (takenReq r s.whole).mem, []⟩) hm.1 hm.2.1 hm.2.2
    have hg := (qmp_served maintReq h hop (by decide)).trans hact
    have hrelay : (((takenReq r s.whole).onDie r.die (fun _ => z.d)).store z.stores).relay = s.whole.relay := by
      rw [← (served_taken s r).relay]
      exact congrArg (fun m : ModState => m.sw.relay) (Whole.onDie_mod _ _ _)
    refine ⟨_, rfl, ?_, said_reply hg hrelay, ?_⟩
    · rw [onWhole_dieOf, hg, show DieState.ctx _ = _ from (reply_only (r := r) 0 [] r.die).2 .ctx (by decide), Whole.store_die, Whole.onDie_die]
      exact hmaint
    · have hlast := reply_only (r := r) (w := ((takenReq r s.whole).onDie r.die (fun _ => z.d)).store z.stores) 0 [] r.die.other
      rw [Whole.store_die, Whole.onDie_other] at hlast
      rw [onWhole_dieOf, hg]
      have htaken := takenReq_only r s.whole r.die.other
      rw [State.whole_die] at htaken
      exact ((OnlyIn.sync _ _ _).trans (htaken.mono (by decide))).trans (hlast.mono (by decide))

end

/-! ### HALT (R32) and RESET (R465) -/

theorem OnlyIn.seq (x : DieState) (k : Seq) : OnlyIn [.seq] x { x with seq := k } := ⟨rfl, fun p hp => by cases p <;> simp_all [DiePart.Same]⟩

theorem setUsw_only (x : DieState) (u st : Nat) : OnlyIn [.regs, .ink] x (x.setUsw u st) := by
  unfold DieState.setUsw
  exact .ite _ (.refl _ _) ((((OnlyIn.setFld x _ _ _ _).trans (.countFld _ _ _ _ _)).mono (by decide)).trans (.inkPut _ _ _ _ _ _))

theorem unitsOff_only (x : DieState) : OnlyIn [.regs, .ink] x x.unitsOff := .foldl _ (fun _ _ => .ite _ (.refl _ _) (setUsw_only _ _ _)) _ _

/-- The step sequencer stops, and SEQ counts from 0. -/
def seqStopped (d : DieState) : DieState := { d with seq := { d.seq with on := false }, net := { d.net with seq := 0 } }

theorem seqStopped_only (x : DieState) : OnlyIn [.seq, .net] x (seqStopped x) := by
  have h₁ : OnlyIn [.seq] x { x with seq := { x.seq with on := false } } := .seq _ _
  exact (h₁.mono (by decide)).trans ((OnlyIn.net _ { x.net with seq := 0 }).mono (by decide))

/-- The die stops in HALTED. -/
def halted (x : DieState) : DieState := seqStopped (x.setDev .halted).unitsOff.safeOkOff

/-- What stops in a die that halts. -/
theorem halted_only (x : DieState) : OnlyIn [.dev, .regs, .ink, .chk, .seq, .net] x (halted x) := by
  have hd : OnlyIn [.dev, .regs, .ink, .chk] x (x.setDev .halted).unitsOff.safeOkOff :=
    (((OnlyIn.setDev x .halted).mono (by decide)).trans ((unitsOff_only _).mono (by decide))).trans ((OnlyIn.chk _ _).mono (by decide))
  exact (hd.mono (by decide)).trans ((seqStopped_only _).mono (by decide))

theorem halted_dev (x : DieState) : (halted x).dev = .halted := by
  have h₁ : (halted x).dev = (x.setDev .halted).unitsOff.safeOkOff.dev := (seqStopped_only _).2 .dev (by decide)
  have h₂ : (x.setDev .halted).unitsOff.safeOkOff.dev = (x.setDev .halted).unitsOff.dev := (OnlyIn.chk _ _).2 .dev (by decide)
  rw [h₁, h₂, show DieState.dev _ = _ from (unitsOff_only (x.setDev .halted)).2 .dev (by decide), setDev_dev]

theorem halted_okCmd (x : DieState) : (halted x).chk.okCmd = false := rfl

theorem WritesMram.store {w v : Whole} (h : WritesMram w v) : v.mod.store = w.mod.store := by rw [h.mod]

section
variable (w : Whole) (d : Die)

theorem deEnergise_die (t : Nat) (e : Die) : (w.deEnergise t d).die e = w.die e := by
  unfold Whole.deEnergise
  dsimp only
  split <;> simp

theorem deEnergise_store (t : Nat) : (w.deEnergise t d).mod.store = w.mod.store := by
  unfold Whole.deEnergise
  dsimp only
  split <;> rfl

theorem reached_die (e : Die) : (w.reached d).die e = w.die e := by cases e <;> rfl

theorem reached_roleKey (n : Nat) : (w.reached d).mod.store.roleKey n = w.mod.store.roleKey n := rfl

theorem halt_eq : w.halt d = (((w.onDie d halted).deEnergise w.now d).reached d).commit false := rfl

/-- A die that halts: the other keeps every part but its tallies, and the keys of the store stay. -/
theorem halt_die (e : Die) : OnlyIn [.ink] (if e = d then halted ((w.die e).sync w.now) else w.die e) ((w.halt d).die e) := by
  have hc := (WritesMram.commit (((w.onDie d halted).deEnergise w.now d).reached d)).1.die e
  rwa [reached_die, deEnergise_die, onDie_cases, ← halt_eq] at hc

theorem halt_roleKey (n : Nat) : (w.halt d).mod.store.roleKey n = w.mod.store.roleKey n := by
  rw [halt_eq, (WritesMram.commit _).1.store, reached_roleKey, deEnergise_store, Whole.onDie_mod]

end

section
variable {s : State} {q : List Byte} {r : Req} (h : s.QmpServed q r)
include h

theorem halt_served (hop : r.op = 0x0B) :
    let x := s.dieOf r.die
    (x.stepping = true → ∃ t, exec (.halt q) s = .next t ∧ QmpReply s t r [.reqs] [] 0 [] ∧ (t.dieOf r.die).reqs = x.reqs ++ [(rSYS_STATE, 8, x.seq.step + 1)]) ∧
      (x.stepping = false → ∃ t, exec (.halt q) s = .next t ∧ (t.dieOf r.die).dev = .halted ∧ (t.dieOf r.die).chk.okCmd = false ∧
        r.answer t.mod.store 0 [] ∈ (t.dieOf s.whole.relay).wire) := by
  intro x
  obtain ⟨k, hk⟩ := taken_die s r r.die
  generalize hw : (takenReq r s.whole).reply r 0 [] = w
  have hserved : Served s r [] [] [r.answer s.mod.store 0 []] w := by rw [← hw, ← taken_store s r]; exact (served_taken s r).reply 0 []
  have hx : OnlyIn [.qll, .wire] x (w.die r.die) := by
    have hlast := reply_only (r := r) (w := takenReq r s.whole) 0 [] r.die
    rw [hw, hk] at hlast
    exact ((OnlyIn.sync _ _ _).trans ((noted_only k _).mono (by decide))).trans (hlast.mono (by decide))
  have hdev : (w.die r.die).dev = x.dev := hx.2 .dev (by decide)
  have hseq : (w.die r.die).seq = x.seq := hx.2 .seq (by decide)
  have hreqs : (w.die r.die).reqs = x.reqs := hx.2 .reqs (by decide)
  have hstep : (w.die r.die).stepping = x.stepping := by rw [DieState.stepping, hdev, hseq]; rfl
  have hstore : w.mod.store = s.mod.store := by rw [← hw, reply_mod, taken_store]
  have hact : haltReq r (takenReq r s.whole) = if x.stepping then w.onDie r.die (fun d => d.queueReq rSYS_STATE 8 (x.seq.step + 1)) else w.halt r.die := by
    rw [← hstep, ← hseq, ← hw]
    rfl
  have hq := (qmp_served haltReq h hop (by decide)).trans hact
  refine ⟨fun hs => ?_, fun hs => ?_⟩
  · rw [if_pos hs] at hq
    refine ⟨_, rfl, (hserved.act (queueReq_only rSYS_STATE 8 (x.seq.step + 1)) (by decide) (fun _ => rfl) (by simp)).qmpReply rfl hq ?_ ?_ ?_, ?_⟩
    · rw [Whole.onDie_mod, hstore]
    · rw [Whole.onDie_stores, ← hw, reply_stores, taken_stores]
      rfl
    · rw [Whole.onDie_mod, ← hw, reply_mod]
      exact taken_mod s r
    · rw [onWhole_dieOf, hq, Whole.onDie_die]
      exact congrArg (· ++ _) hreqs
  · rw [if_neg (by simp [hs])] at hq
    have hd := halt_die w r.die
    refine ⟨_, rfl, ?_, ?_, ?_⟩
    · rw [onWhole_dieOf, hq, show DieState.dev _ = _ from (hd r.die).2 .dev (by decide), if_pos rfl]
      exact halted_dev _
    · rw [onWhole_dieOf, hq, show DieState.chk _ = _ from (hd r.die).2 .chk (by decide), if_pos rfl]
      exact halted_okCmd _
    · have hwire : ((w.halt r.die).die s.whole.relay).wire = (w.die s.whole.relay).wire := by
        refine ((hd s.whole.relay).2 .wire (by decide)).trans ?_
        split
        · exact (halted_only _).2 .wire (by decide)
        · rfl
      rw [State.onWhole_mod, onWhole_dieOf, hq, hwire, answer_congr r ((halt_roleKey w r.die _).trans (congrArg (Store.roleKey · r.role) hstore)), hserved.wire, if_pos rfl]
      exact List.mem_append_right _ (List.mem_singleton_self _)

end

section
variable (x : DieState) (c : Nat) (alone : Bool) (rail : Option Nat)

/-- A die in reset is in BOOT, and what it has sent stays sent. -/
theorem inReset_boot : (x.inReset c alone rail).held.isSome = true ∧ (x.inReset c alone rail).dev = .boot ∧ (x.inReset c alone rail).wire = x.wire := ⟨rfl, rfl, rfl⟩

end

/-- Die `e` in reset by cause `c`, if the reset reaches it. -/
def resetOne (on alone : Bool) (c : Nat) (e : Die) (w : Whole) : Whole := if on then w.onDie e (fun x => x.inReset c alone none) else w

section
variable (on alone : Bool) (c : Nat) (d : Die) (w : Whole)

theorem resetOne_mod : (resetOne on alone c d w).mod = w.mod := by
  unfold resetOne
  split
  · exact Whole.onDie_mod _ _ _
  · rfl

theorem resetOne_die : ∃ m, (resetOne on alone c d w).die d = if on then ((w.die d).sync m).inReset c alone none else w.die d := by
  refine ⟨w.now, ?_⟩
  unfold resetOne
  split
  · exact Whole.onDie_die _ _ _
  · rfl

theorem resetOne_other : (resetOne on alone c d w).die d.other = w.die d.other := by
  unfold resetOne
  split
  · exact Whole.onDie_other _ _ _
  · rfl

end

section
variable (w : Whole) (on : Die → Bool) (c : Nat)

/-- The dies that a reset selects are in reset. -/
def resetBoth : Whole := resetOne (on .b) (!on .a) c .b (resetOne (on .a) (!on .b) c .a w)

theorem resetBoth_mod : (resetBoth w on c).mod = w.mod := by rw [resetBoth, resetOne_mod, resetOne_mod]

theorem resetBoth_die (e : Die) : ∃ alone m, (resetBoth w on c).die e = if on e then ((w.die e).sync m).inReset c alone none else w.die e := by
  cases e with
  | a =>
    obtain ⟨m, hm⟩ := resetOne_die (on .a) (!on .b) c .a w
    exact ⟨_, m, (resetOne_other _ _ _ .b _).trans hm⟩
  | b =>
    obtain ⟨m, hm⟩ := resetOne_die (on .b) (!on .a) c .b (resetOne (on .a) (!on .b) c .a w)
    exact ⟨_, m, by rw [resetBoth, hm, show (resetOne (on .a) (!on .b) c .a w).die .b = w.die .b from resetOne_other _ _ _ .a _]⟩

/-- The shared parts after a reset of both dies. -/
def resetMod (m : ModState) : ModState := { m with field := default, sw := default, grp := default, ink := { m.ink with writer := .a, turn := .a } }

theorem resetDies_eq : w.resetDies (on .a) (on .b) c none = if on .a && on .b then (resetBoth w on c).onMod resetMod else (resetBoth w on c).withdraw := rfl

theorem resetDies_die (e : Die) : ∃ alone m, Talks (if on e then ((w.die e).sync m).inReset c alone none else w.die e) ((w.resetDies (on .a) (on .b) c none).die e) := by
  obtain ⟨alone, m, hd⟩ := resetBoth_die w on c e
  refine ⟨alone, m, ?_⟩
  rw [resetDies_eq, ← hd]
  split
  · rw [Whole.onMod_die]
    exact .refl _
  · exact (WholeTalks.withdraw _).die e

theorem resetDies_mod : (w.resetDies (on .a) (on .b) c none).mod.store = w.mod.store ∧ (w.resetDies (on .a) (on .b) c none).mod.ink.commits = w.mod.ink.commits := by
  rw [resetDies_eq, ← resetBoth_mod w on c]
  split
  · exact ⟨rfl, rfl⟩
  · rw [(WholeTalks.withdraw _).mod]
    exact ⟨rfl, rfl⟩

end

/-- A mask names a die, of a pair by either. -/
def names (mask : Nat) (paired : Bool) (e : Die) : Bool := bit e.num mask || (paired && bit e.other.num mask)

theorem names_iff (mask : Nat) (paired : Bool) (e : Die) : names mask paired e = true ↔ bit e.num mask = true ∨ (paired = true ∧ bit e.other.num mask = true) := by
  simp [names]

/-- The dies of the mask are reset, where it names one. -/
def resetNamed (mask : Nat) (w : Whole) : Whole :=
  if names mask w.paired .a || names mask w.paired .b then w.resetDies (names mask w.paired .a) (names mask w.paired .b) 3 none else w

theorem resetNamed_die (mask : Nat) (w : Whole) (e : Die) :
    ∃ alone m, Talks (if names mask w.paired e then ((w.die e).sync m).inReset 3 alone none else w.die e) ((resetNamed mask w).die e) := by
  by_cases hn : (names mask w.paired .a || names mask w.paired .b) = true
  · rw [resetNamed, if_pos hn]
    exact resetDies_die w (names mask w.paired) 3 e
  · have he : ¬names mask w.paired e = true := fun hc => hn (by cases e <;> simp [hc])
    rw [resetNamed, if_neg hn]
    exact ⟨true, 0, by rw [if_neg he]; exact .refl _⟩

theorem resetNamed_mod (mask : Nat) (w : Whole) : (resetNamed mask w).mod.store = w.mod.store ∧ (resetNamed mask w).mod.ink.commits = w.mod.ink.commits := by
  unfold resetNamed
  split
  · exact resetDies_mod w (names mask w.paired) 3
  · exact ⟨rfl, rfl⟩

theorem resetReq_eq (mask : Nat) (r : Req) (w : Whole) : resetReq mask r w = resetNamed mask ((w.reply r 0 []).commit false) := rfl

section
variable {s : State} {q : List Byte} {r : Req} (h : s.QmpServed q r)
include h

theorem reset_served (hop : r.op = 0x0C) (mask : BitVec 2) : ∃ t, exec (.reset q mask) s = .next t ∧ r.answer t.mod.store 0 [] ∈ (t.dieOf s.whole.relay).wire ∧
    t.mod.ink.commits = s.mod.ink.commits + 1 ∧ ∀ e : Die,
      let named := bit e.num mask.toNat = true ∨ (s.whole.paired = true ∧ bit e.other.num mask.toNat = true)
      (named → (t.dieOf e).held.isSome = true ∧ (t.dieOf e).dev = .boot) ∧ (¬named → (t.dieOf e).dev = (s.dieOf e).dev ∧ (t.dieOf e).held = (s.dieOf e).held) := by
  generalize hw : (takenReq r s.whole).reply r 0 [] = w
  have hserved : Served s r [] [] [r.answer s.mod.store 0 []] w := by rw [← hw, ← taken_store s r]; exact (served_taken s r).reply 0 []
  obtain ⟨hcommit, hcount⟩ := WritesMram.commit w
  generalize hv : w.commit false = v at hcommit hcount
  have hq : qmp 0x0C (resetReq mask.toNat) q s.whole = resetNamed mask.toNat v := by
    rw [qmp_served _ h hop (by decide), resetReq_eq, hw, hv]
  have hmod : w.mod = { s.mod with sw := w.mod.sw } := by
    rw [← hw, reply_mod]
    exact taken_mod s r
  have hpaired : v.paired = s.whole.paired := by
    have hp : ∀ e, (v.die e).paired = (s.dieOf e).paired := fun e =>
      ((hcommit.die e).2 .paired (by decide)).trans ((hserved.only e).2 .paired (by split <;> split <;> decide))
    exact congrArg₂ or (hp .a) (hp .b)
  obtain ⟨hstore, hcommits⟩ := resetNamed_mod mask.toNat v
  have hdie := resetNamed_die mask.toNat v
  rw [hpaired] at hdie
  have hkept : ∀ e, (v.die e).dev = (s.dieOf e).dev ∧ (v.die e).held = (s.dieOf e).held := fun e =>
    ⟨((hcommit.die e).2 .dev (by decide)).trans ((hserved.only e).2 .dev (by split <;> split <;> decide)),
      ((hcommit.die e).2 .held (by decide)).trans ((hserved.only e).2 .held (by split <;> split <;> decide))⟩
  refine ⟨_, rfl, ?_, ?_, fun e => ⟨fun hn => ?_, fun hn => ?_⟩⟩
  · obtain ⟨alone, m, ht⟩ := hdie s.whole.relay
    have hwire : (v.die s.whole.relay).wire = (w.die s.whole.relay).wire := (hcommit.die _).2 .wire (by decide)
    have hprefix : (v.die s.whole.relay).wire <+: ((resetNamed mask.toNat v).die s.whole.relay).wire := by
      refine List.IsPrefix.trans ?_ ht.wire
      split
      · exact List.prefix_rfl
      · exact List.prefix_rfl
    rw [State.onWhole_mod, onWhole_dieOf, hq, hstore, hcommit.store, hmod]
    refine hprefix.mem ?_
    rw [hwire, hserved.wire, if_pos rfl]
    exact List.mem_append_right _ (List.mem_singleton_self _)
  · rw [State.onWhole_mod, hq, hcommits, hcount, hmod]
  · obtain ⟨alone, m, ht⟩ := hdie e
    rw [if_pos ((names_iff _ _ _).2 hn)] at ht
    obtain ⟨hheld, hboot, -⟩ := inReset_boot ((v.die e).sync m) 3 alone none
    rw [onWhole_dieOf, hq]
    exact ⟨(congrArg Option.isSome (ht.only.2 .held (by decide))).trans hheld, (ht.only.2 .dev (by decide)).trans hboot⟩
  · obtain ⟨alone, m, ht⟩ := hdie e
    rw [if_neg (fun hc => hn ((names_iff _ _ _).1 hc))] at ht
    rw [onWhole_dieOf, hq]
    exact ⟨(ht.only.2 .dev (by decide)).trans (hkept e).1, (ht.only.2 .held (by decide)).trans (hkept e).2⟩

end

end Sys2Proof

/-! SUPPORT. What tiles do is the same whatever the numbers of the accepted requests. -/

namespace Sys2Proof
open Machine

/-! ### What tiles do apart from the numbers of requests

The tiles' operations neither read nor write the numbers of the accepted requests, so what they do in a die is the same whatever these are: each operation commutes with `noted`. -/

/-- A choice commutes with a function that both its cases commute with. -/
theorem map_ite {A : Type} (n : A → A) {c : Prop} [Decidable c] {a b a' b' : A} (ha : a = n a') (hb : b = n b') : (if c then a else b) = n (if c then a' else b') := by
  split <;> assumption

/-- A fold commutes with a function that each of its steps commutes with. -/
theorem map_foldl {A B : Type} (n : A → A) (f : A → B → A) (h : ∀ x b, f (n x) b = n (f x b)) (l : List B) (x : A) : l.foldl f (n x) = n (l.foldl f x) := by
  induction l generalizing x with
  | nil => rfl
  | cons b l ih => rw [List.foldl_cons, List.foldl_cons, h, ih]

section
variable (k : Tbl Nat) (x : DieState)

theorem noted_inkQueue (r : InkRec) : (noted k x).inkQueue r = (noted k (x.inkQueue r).1, (x.inkQueue r).2) := by
  unfold DieState.inkQueue
  by_cases hf : x.inkFits r.cls = true
  · rw [if_pos hf]
    exact if_pos hf
  · rw [if_neg hf]
    exact if_neg hf

/-- The record that DROP of INK_STATUS writes. -/
def dropRec (d : DieState) : InkRec := d.inkRec 0 16 (rINK_STATUS % 0x10000 / 4) none (flagPayload 2 (d.rd rINK_STATUS) [])

theorem noted_inkPut (cls unit code : Nat) (fault : Option Nat) (payload : List Byte) : (noted k x).inkPut cls unit code fault payload = noted k (x.inkPut cls unit code fault payload) := by
  unfold DieState.inkPut
  dsimp only
  rw [show (noted k x).inkRec cls unit code fault payload = x.inkRec cls unit code fault payload from rfl, noted_inkQueue]
  generalize x.inkQueue _ = p
  refine map_ite _ rfl (map_ite _ rfl ?_)
  exact congrArg Prod.fst (noted_inkQueue k (p.1.setFlag rINK_STATUS 2 true) (dropRec (p.1.setFlag rINK_STATUS 2 true)))

theorem noted_raiseWith (off b : Nat) (fault : Option Nat) (rec : List Byte) : (noted k x).raiseWith off b fault rec = noted k (x.raiseWith off b fault rec) :=
  map_ite _ rfl (noted_inkPut k (x.setFlag off b true) _ _ _ _ _)

theorem noted_raise (off b : Nat) : (noted k x).raise off b = noted k (x.raise off b) := noted_raiseWith k x off b none []

theorem noted_numFlag (p b st : Nat) : (noted k x).numFlag p b st = noted k (x.numFlag p b st) := by
  unfold DieState.numFlag
  dsimp only
  rw [← noted_raise]
  congr 1
  exact map_ite _ rfl rfl

theorem noted_takeEvent (ev : TarEv) : (noted k x).takeEvent ev = noted k (x.takeEvent ev) := by
  unfold DieState.takeEvent
  split
  · exact noted_numFlag _ _ _ _ _
  · exact noted_raise _ _ _ _

/-- The die without the events of the cycles before `t`. -/
def eventsLeft (t : Nat) (d : DieState) : DieState := { d with tar := { d.tar with events := d.tar.events.filter (fun x => !decide (x.at_ < t)) } }

theorem takeEvents_eq (t : Nat) : x.takeEvents t = (x.tar.events.filter (fun e => decide (e.at_ < t))).foldl DieState.takeEvent (eventsLeft t x) := rfl

theorem noted_takeEvents (t : Nat) : (noted k x).takeEvents t = noted k (x.takeEvents t) := by
  rw [takeEvents_eq, takeEvents_eq]
  exact map_foldl (noted k) DieState.takeEvent (noted_takeEvent k) _ (eventsLeft t x)

theorem noted_resetCtx (c : Nat) : (noted k x).resetCtx c = noted k (x.resetCtx c) := map_ite _ rfl rfl

/-- The registers of the fault that a die holds first (R111). -/
def faultRegs (p code pc : Nat) (d : DieState) : DieState :=
  let d := d.wr rTAR_FAULT (code * 0x1000000 + d.pidOf p * 0x200000 + p)
  (d.wr rTAR_FAULT_PC (pc % 2 ^ 15)).wr64 rTAR_FAULT_STEP_LO d.seq.step

/-- The fault that a die holds first, flagged. -/
def faultNoted (p code pc : Nat) (d : DieState) : DieState :=
  if d.flag rTAR_FAULT 31 then d
  else (faultRegs p code pc d).raiseWith rTAR_FAULT 31 (some (32 + code)) (leBytes 4 ((faultRegs p code pc d).rd rTAR_FAULT) ++ leBytes 4 ((faultRegs p code pc d).rd rTAR_FAULT_PC))

theorem noted_faultNoted (p code pc : Nat) : faultNoted p code pc (noted k x) = noted k (faultNoted p code pc x) :=
  map_ite _ rfl (noted_raiseWith k (faultRegs p code pc x) _ _ _ _)

/-- The record of a fault, as its parts. -/
theorem recordFault_eq (p now code pc : Nat) : x.recordFault p now code pc =
    (faultNoted p code pc (((x.takeEvents now).count rTAR_FAULT_COUNT 1).hist (12 + ((x.takeEvents now).count rTAR_FAULT_COUNT 1).die.num) code)).resetCtx
      ((faultNoted p code pc (((x.takeEvents now).count rTAR_FAULT_COUNT 1).hist (12 + ((x.takeEvents now).count rTAR_FAULT_COUNT 1).die.num) code)).ctxOf p) := rfl

theorem noted_recordFault (p now code pc : Nat) : (noted k x).recordFault p now code pc = noted k (x.recordFault p now code pc) := by
  rw [recordFault_eq, recordFault_eq, noted_takeEvents]
  generalize x.takeEvents now = y
  have hf := noted_faultNoted k ((y.count rTAR_FAULT_COUNT 1).hist (12 + (y.count rTAR_FAULT_COUNT 1).die.num) code) p code pc
  refine (congrArg (fun z : DieState => z.resetCtx (z.ctxOf p)) hf).trans ?_
  exact noted_resetCtx _ _ _

end

/-- A tile's environment in a die whose highest accepted numbers are `k`. -/
def notedEnv (k : Tbl Nat) (e : TEnv) : TEnv := { e with d := noted k e.d }

/-- What an operation answers, in such a die. -/
def notedRes (k : Tbl Nat) {A : Type} (r : Except Nat (TEnv × A)) : Except Nat (TEnv × A) :=
  match r with
  | .ok (e, a) => .ok (notedEnv k e, a)
  | .error f => .error f

/-- The same of an operation that answers no more than its environment. -/
def notedEnd (k : Tbl Nat) (r : Except Nat TEnv) : Except Nat TEnv :=
  match r with
  | .ok e => .ok (notedEnv k e)
  | .error f => .error f

section
variable (k : Tbl Nat) {A B : Type}

theorem notedRes_bind (r : Except Nat (TEnv × A)) (f : TEnv × A → Except Nat (TEnv × B)) (h : ∀ e a, f (notedEnv k e, a) = notedRes k (f (e, a))) :
    (notedRes k r).bind f = notedRes k (r.bind f) := by
  cases r with
  | error => rfl
  | ok p => exact h p.1 p.2

theorem notedRes_bindEnd (r : Except Nat (TEnv × A)) (f : TEnv × A → Except Nat TEnv) (h : ∀ e a, f (notedEnv k e, a) = notedEnd k (f (e, a))) :
    (notedRes k r).bind f = notedEnd k (r.bind f) := by
  cases r with
  | error => rfl
  | ok p => exact h p.1 p.2

theorem notedEnd_bind (r : Except Nat TEnv) (f : TEnv → Except Nat (TEnv × B)) (h : ∀ e, f (notedEnv k e) = notedRes k (f e)) :
    (notedEnd k r).bind f = notedRes k (r.bind f) := by
  cases r with
  | error => rfl
  | ok e => exact h e

end

section
variable (k : Tbl Nat) (e : TEnv)

theorem noted_use (cycle a n : Nat) : (notedEnv k e).use cycle a n = notedEnd k (e.use cycle a n) := by
  unfold TEnv.use
  rw [show (notedEnv k e).t = e.t from rfl]
  cases e.t.useBytes cycle a n <;> rfl

theorem noted_read (c : Access) (cycle a n : Nat) : (notedEnv k e).read c cycle a n = notedRes k (e.read c cycle a n) := by
  unfold TEnv.read
  rw [noted_use]
  refine map_ite _ rfl ?_
  cases e.use cycle a n <;> rfl

theorem noted_put (a : Nat) (bs : List Byte) : (notedEnv k e).put a bs = notedEnv k (e.put a bs) := rfl

theorem noted_signed (c : Access) (cycle a : Nat) (bs : List Byte) : (notedEnv k e).signed c cycle a bs = notedEnv k (e.signed c cycle a bs) := map_ite _ rfl rfl

theorem noted_write (c : Access) (cycle a : Nat) (bs : List Byte) : (notedEnv k e).write c cycle a bs = notedEnd k (e.write c cycle a bs) := by
  unfold TEnv.write
  rw [noted_use]
  refine map_ite _ rfl ?_
  cases e.use cycle a bs.length with
  | error => rfl
  | ok e => exact congrArg Except.ok (noted_signed k (e.put a bs) _ _ _ _)

theorem noted_flags (born : Nat) (fs : List Nat) : (notedEnv k e).flags born fs = notedEnv k (e.flags born fs) := map_foldl (notedEnv k) _ (fun _ _ => rfl) _ _

theorem noted_withT_flags (t : Tile) (born : Nat) (fs : List Nat) : ((notedEnv k e).withT t).flags born fs = notedEnv k ((e.withT t).flags born fs) := noted_flags k (e.withT t) born fs

theorem noted_onRow (born r : Nat) (f : Row → Nat → Acc → Acc × List Nat) : (notedEnv k e).onRow born r f = notedEnv k (e.onRow born r f) :=
  map_ite _ (noted_withT_flags k e _ _ _) rfl

/-- An operand line and its scales (R108, R109). -/
def operandLine (af cycle a : Nat) (c : Wag) (e : TEnv) : Except Nat (TEnv × AOperand) := do
  let (e, bs) ← e.read .genA cycle a 32
  if isMx af then
    let (e, ss) ← e.read .genA cycle (scaleAddr c a 0) (mxPerLine c.fmt)
    .ok (e, ⟨lineElems af bs, ss.map (·.toNat)⟩)
  else .ok (e, ⟨lineElems af bs, []⟩)

theorem noted_operandLine (af cycle a : Nat) (c : Wag) : operandLine af cycle a c (notedEnv k e) = notedRes k (operandLine af cycle a c e) := by
  unfold operandLine
  refine (congrArg (Except.bind · _) (noted_read k e .genA cycle a 32)).trans ?_
  refine notedRes_bind k _ _ fun e bs => map_ite _ ?_ rfl
  exact (congrArg (Except.bind · _) (noted_read k e .genA cycle _ _)).trans (notedRes_bind k _ _ fun _ _ => rfl)

theorem noted_operandA (af cycle : Nat) : (notedEnv k e).operandA af cycle = notedRes k (e.operandA af cycle) := by
  unfold TEnv.operandA
  rw [show (notedEnv k e).t = e.t from rfl]
  cases e.t.genA.next with
  | error => rfl
  | ok g =>
    obtain ⟨g, c, a⟩ := g
    cases a with
    | none => rfl
    | some a => exact noted_operandLine k (e.withT { e.t with genA := g }) af cycle a c

theorem noted_mmaRow (af bf : Nat) (c : AccKind) (clr : Bool) (r born : Nat) : mmaRow af bf c clr r born (notedEnv k e) = notedEnd k (mmaRow af bf c clr r born e) := by
  unfold mmaRow
  refine (congrArg (Except.bind · _) (noted_operandA k e af e.now)).trans ?_
  refine notedRes_bindEnd k _ _ fun e a => map_ite _ rfl ?_
  exact congrArg Except.ok (noted_withT_flags k e _ _ _)

end

/-! ### The tiles' jobs apart from the numbers of requests -/

/-- The generator and address of a row of a WB: shared with the row before, or the next of generator S (R109). -/
def wbAddress (odd : Bool) (shared : Option (Wag × Option Nat)) (e : TEnv) : Except Nat (TEnv × Wag × Option Nat) :=
  match odd, shared with
  | true, some (c, a) => .ok (e, c, a)
  | _, _ => do
    let (g, c, a) ← e.t.genS.next
    .ok (e.withT { e.t with genS := g }, c, a)

section
variable (k : Tbl Nat) (e : TEnv)

theorem noted_wbAddress (odd : Bool) (shared : Option (Wag × Option Nat)) : wbAddress odd shared (notedEnv k e) = notedRes k (wbAddress odd shared e) := by
  unfold wbAddress
  split
  · rfl
  · rw [show (notedEnv k e).t = e.t from rfl]
    cases e.t.genS.next <;> rfl

theorem noted_wbStart (o r i born : Nat) (shared : Option (Wag × Option Nat)) : wbStart o r i born shared (notedEnv k e) = notedRes k (wbStart o r i born shared e) := by
  unfold wbStart
  dsimp only
  rw [show (notedEnv k e).t = e.t from rfl, noted_flags]
  generalize TEnv.flags e born _ = f
  refine (congrArg (Except.bind · _) (noted_wbAddress k f _ shared)).trans ?_
  refine notedRes_bind k _ _ fun f ca => ?_
  obtain ⟨c, a⟩ := ca
  cases a with
  | none => rfl
  | some a =>
    dsimp only
    split
    · rfl
    · refine (congrArg (Except.bind · _) (noted_write k f .genS f.now _ _)).trans ?_
      exact notedEnd_bind k _ _ fun _ => rfl

theorem noted_finish (j : Job) : j.finish (notedEnv k e) = notedEnv k (j.finish e) := by
  unfold Job.finish
  split
  · rfl
  · exact noted_onRow _ _ _ _ _
  · exact noted_onRow _ _ _ _ _
  · rfl
  · split <;> rfl
  · rfl
  · rfl
  · rfl

/-- The next row of a WB begins where the last one is written (R101). -/
def wbBegin (o : Nat) (j : Job) (e : TEnv) : Except Nat (TEnv × Job) :=
  match j.outs with
  | [] => do
    let (e, sh, ls) ← wbStart o j.row j.inst j.born j.shared e
    .ok (e, { j with shared := sh, outs := ls, left := j.left - 1, row := j.row + 1, inst := j.inst + 1 })
  | _ => .ok (e, j)

theorem noted_wbBegin (o : Nat) (j : Job) : wbBegin o j (notedEnv k e) = notedRes k (wbBegin o j e) := by
  unfold wbBegin
  split
  · refine (congrArg (Except.bind · _) (noted_wbStart k e _ _ _ _ _)).trans ?_
    exact notedRes_bind k _ _ fun _ _ => rfl
  · rfl

/-- The die, memory and stores after a fault of a job. -/
def jobUndone (j : Job) (e : TEnv) (d : DieState) : TEnv :=
  { e with
    d := d.mirrorSram e.now j.undo
    mem := memApply e.mem j.undo
    stores := e.stores ++ j.undo }

/-- The rows that a fault of a job leaves. -/
def faultRows (j : Job) (e : TEnv) : Tbl Row := match j.kind with | .mma _ _ _ _ => j.rows0 | _ => e.t.rows

theorem jobFault_eq (j : Job) (code : Nat) : e.jobFault j code =
    jobUndone j (e.withT { e.t with rows := faultRows j e, stat := .stopped }) ((e.d.withdraw e.p j.born).recordFault e.p e.now code j.pc) := rfl

theorem noted_act (j : Job) : j.act (notedEnv k e) = notedRes k (j.act e) := by
  unfold Job.act
  split
  · refine (congrArg (Except.bind · _) (noted_mmaRow k e _ _ _ _ _ _)).trans ?_
    exact notedEnd_bind k _ _ fun _ => rfl
  · refine (congrArg (Except.bind · _) (noted_wbBegin k e _ j)).trans ?_
    refine notedRes_bind k _ _ fun f j => ?_
    dsimp only
    split
    · refine (congrArg (Except.bind · _) (noted_write k f .genS f.now _ _)).trans ?_
      exact notedEnd_bind k _ _ fun _ => rfl
    · rfl
  · split <;> rfl
  · rfl

theorem noted_actNoted (j : Job) : j.actNoted (notedEnv k e) = notedRes k (j.actNoted e) := by
  unfold Job.actNoted
  have h := noted_act k { e with slot := { e.slot with undo := [] } } j
  rw [show { notedEnv k e with slot := { (notedEnv k e).slot with undo := [] } } = notedEnv k { e with slot := { e.slot with undo := [] } } from rfl, h]
  cases j.act { e with slot := { e.slot with undo := [] } } <;> rfl

theorem noted_jobFault (j : Job) (code : Nat) : (notedEnv k e).jobFault j code = notedEnv k (e.jobFault j code) := by
  rw [jobFault_eq, jobFault_eq]
  exact congrArg (jobUndone j (notedEnv k (e.withT { e.t with rows := faultRows j e, stat := .stopped }))) (noted_recordFault k (e.d.withdraw e.p j.born) e.p e.now code j.pc)

theorem noted_stepJob (j : Job) : (notedEnv k e).stepJob j = notedEnv k (e.stepJob j) := by
  unfold TEnv.stepJob
  rw [noted_actNoted]
  refine map_ite _ rfl ?_
  cases j.actNoted e with
  | error f => exact noted_jobFault k e j f
  | ok p => rfl

theorem noted_cycleJobs : (notedEnv k e).cycleJobs = notedEnv k e.cycleJobs := by
  unfold TEnv.cycleJobs
  dsimp only
  rw [show (notedEnv k e).t = e.t from rfl, show (notedEnv k e).now = e.now from rfl, show (notedEnv k e).withT { e.t with jobs := [] } = notedEnv k (e.withT { e.t with jobs := [] }) from rfl,
    map_foldl (notedEnv k) _ (noted_finish k), map_foldl (notedEnv k) _ (noted_stepJob k)]
  rfl

theorem noted_runJobs (n c : Nat) : TEnv.runJobs n c (notedEnv k e) = notedEnv k (TEnv.runJobs n c e) := by
  induction n generalizing c e with
  | zero => rfl
  | succ n ih =>
    unfold TEnv.runJobs
    refine map_ite _ rfl ?_
    rw [← ih, ← noted_cycleJobs]
    rfl

theorem noted_jobsTo (t : Nat) : (notedEnv k e).jobsTo t = notedEnv k (e.jobsTo t) := by
  unfold TEnv.jobsTo
  dsimp only
  rw [show (notedEnv k e).t = e.t from rfl, noted_runJobs]
  rfl

end

/-- A die and its memory with the highest accepted numbers `k`. -/
def notedMem (k : Tbl Nat) (x : DM) : DM := x.onD (noted k)

section
variable (k : Tbl Nat) (x : DM)

theorem noted_tileJobs (t p : Nat) : DM.tileJobs t (notedMem k x) p = notedMem k (DM.tileJobs t x p) := by
  unfold DM.tileJobs
  rw [show (notedMem k x).tenv p t = notedEnv k (x.tenv p t) from rfl, noted_jobsTo]
  rfl

theorem noted_allJobs (t : Nat) : DM.allJobs t (notedMem k x) = notedMem k (DM.allJobs t x) := map_foldl (notedMem k) (DM.tileJobs t) (fun y p => noted_tileJobs k y t p) _ _

/-- What the tiles do up to the present cycle is the same whatever the accepted numbers are. -/
theorem noted_caughtUp : (notedMem k x).caughtUp = notedMem k x.caughtUp := by
  unfold DM.caughtUp
  dsimp only
  rw [show (notedMem k x).d.acyc (notedMem k x).d.seq.cycle = x.d.acyc x.d.seq.cycle from rfl, noted_allJobs]
  generalize DM.allJobs _ x = y
  exact congrArg (fun d : DieState => y.onD (fun _ => d)) (noted_takeEvents k y.d _)

/-- The tiles leave the accepted numbers as they are. -/
theorem caughtUp_qseq : x.caughtUp.d.qll.qseq = x.d.qll.qseq := by
  have h : x.caughtUp = notedMem x.d.qll.qseq x.caughtUp := noted_caughtUp x.d.qll.qseq x
  rw [h]
  rfl

end

end Sys2Proof

/-! SUPPORT. QMP register writes, and the statement on accepted requests. -/

namespace Sys2Proof
open Machine

/-! ### Register writes (R475) -/

/-- What the tiles of die `d` have done up to the present cycle. -/
def caughtMem (w : Whole) (d : Die) : DM := DM.caughtUp ⟨(w.die d).sync w.now, w.mem, []⟩

section
variable (w : Whole) (d : Die)

theorem caught_eq : w.caught d = (w.onDie d (fun _ => (caughtMem w d).d)).store (caughtMem w d).stores := rfl

theorem caught_clock : (w.caught d).now = max w.now (caughtMem w d).d.clk := Whole.onDie_now _ _ _

theorem caught_here : (w.caught d).die d = (caughtMem w d).d := by rw [caught_eq, Whole.store_die, Whole.onDie_die]

theorem entered_now : (w.entered d).now = max w.now (caughtMem w d).d.clk := by
  rw [Whole.entered, Whole.onDie_now, caught_clock]
  exact max_self _

theorem entered_here : (w.entered d).die d = (caughtMem w d).d.sync (w.entered d).now := by
  rw [entered_now, ← caught_clock, ← caught_here]
  exact Whole.onDie_die _ _ _

theorem entered_other : (w.entered d).die d.other = w.die d.other := by
  rw [Whole.entered, Whole.onDie_other, caught_eq, Whole.store_die, Whole.onDie_other]

theorem entered_mod : (w.entered d).mod = w.mod := by
  rw [Whole.entered, Whole.onDie_mod, caught_eq]
  exact Whole.onDie_mod _ _ _

theorem entered_stores : (w.entered d).stores = w.stores ++ (caughtMem w d).stores := by
  rw [Whole.entered, Whole.onDie_stores, caught_eq]
  exact congrArg (· ++ _) (Whole.onDie_stores _ _ _)

end

section
variable (s : State) (r : Req)

/-- The tiles do the same for a request that is taken. -/
theorem caughtMem_taken (d : Die) : ∃ k, caughtMem (takenReq r s.whole) d = notedMem k (caughtMem s.whole d) ∧ ((takenReq r s.whole).die d).qll.qseq = k := by
  obtain ⟨k, hk⟩ := taken_die s r d
  refine ⟨k, ?_, by rw [hk]; rfl⟩
  rw [caughtMem, taken_sync, hk, taken_mem, ← show (s.whole.die d).sync s.whole.now = s.here d by rw [State.whole_die]; rfl]
  exact noted_caughtUp k ⟨(s.whole.die d).sync s.whole.now, s.mem, []⟩

theorem entered_taken_now (d : Die) : ((takenReq r s.whole).entered d).now = (s.whole.entered d).now := by
  obtain ⟨k, hk, -⟩ := caughtMem_taken s r d
  rw [entered_now, entered_now, hk, taken_now]
  rfl

theorem entered_taken_stores (d : Die) : ((takenReq r s.whole).entered d).stores = (s.whole.entered d).stores := by
  obtain ⟨k, hk, -⟩ := caughtMem_taken s r d
  rw [entered_stores, entered_stores, hk, taken_stores]
  rfl

/-- The dies, as an access of the request finds them. -/
theorem entered_taken (d e : Die) : ∃ k, ((takenReq r s.whole).entered d).die e = noted k ((s.whole.entered d).die e) ∧ ((takenReq r s.whole).die e).qll.qseq = k := by
  refine forall_die (P := fun e => ∃ k, ((takenReq r s.whole).entered d).die e = noted k ((s.whole.entered d).die e) ∧ ((takenReq r s.whole).die e).qll.qseq = k) d ?_ ?_ e
  · obtain ⟨k, hk, hq⟩ := caughtMem_taken s r d
    refine ⟨k, ?_, hq⟩
    rw [entered_here, entered_here, entered_taken_now, hk]
    rfl
  · obtain ⟨k, hk⟩ := taken_die s r d.other
    refine ⟨k, ?_, by rw [hk]; rfl⟩
    rw [entered_other, entered_other, hk, State.whole_die]
    rfl

/-- Numbers that a die has already are no change. -/
theorem noted_self {k : Tbl Nat} {x : DieState} (h : x.qll.qseq = k) : noted k x = x := by
  subst h
  rfl

end

theorem leNat_lt (bs : List Byte) : leNat bs < 256 ^ bs.length := by
  induction bs with
  | nil => exact Nat.one_pos
  | cons b bs ih =>
    have hb : b.toNat < 256 := b.isLt
    rw [leNat, List.length_cons, pow_succ]
    omega

/-- A field of 4 bytes is a word. -/
theorem field_lt (r : Req) (i : Nat) : r.field i 4 < 2 ^ 32 := by
  refine (leNat_lt _).trans_le ?_
  have hlen : ((r.data.drop i).take 4).reverse.length ≤ 4 := by
    rw [List.length_reverse]
    exact List.length_take_le _ _
  exact Nat.pow_le_pow_right (by decide) hlen

theorem caught_mod (s : State) (d : Die) : (s.caught d).mod = s.mod := (Led.caught s d).mod.symm.trans (Whole.onDie_mod _ _ _)

/-- The relay die after a command of another part of the module. -/
theorem caught_relay (s : State) (d : Die) : (s.caught d).whole.relay = s.whole.relay := by
  show (s.caught d).mod.sw.relay = s.mod.sw.relay
  rw [caught_mod]

/-- What the tiles do leaves the accepted numbers of each die. -/
theorem entered_qseq (w : Whole) (d e : Die) : ((w.entered d).die e).qll.qseq = (w.die e).qll.qseq := by
  refine forall_die (P := fun e => ((w.entered d).die e).qll.qseq = (w.die e).qll.qseq) d ?_ ?_ e
  · rw [entered_here]
    exact caughtUp_qseq _
  · rw [entered_other]

/-- What an access of a request finds, once it is taken: the state that the tiles have come to. -/
theorem served_entered (s : State) (r : Req) (d : Die) : Served (s.caught d) r [] [] [] ((takenReq r s.whole).entered d) where
  seq := by
    obtain ⟨k, hk, hq⟩ := entered_taken s r d s.whole.relay
    rw [caught_relay, hk]
    exact (congrArg (tget? · r.role) hq).symm.trans (served_taken s r).seq
  sw := by
    rw [entered_mod, caught_mod]
    exact (served_taken s r).sw
  time := by
    rw [entered_taken_now]
    exact (Led.entered s d).time
  wire e := by
    obtain ⟨k, hk, -⟩ := entered_taken s r d e
    have hw : ∀ e, ((s.whole.entered d).die e).wire = ((s.caught d).dieOf e).wire := forall_die d ((Led.entered s d).die.2 .wire (by decide)) ((Led.entered s d).other.2 .wire (by decide))
    rw [hk, ite_self, ite_self, List.append_nil, List.append_nil, ← hw]
    rfl
  only := by
    have hbase : ∀ e, OnlyIn [] ((s.caught d).dieOf e) ((s.whole.entered d).die e) := forall_die d (Led.entered s d).die (Led.entered s d).other
    rw [caught_relay]
    refine forall_die s.whole.relay ?_ ?_
    · obtain ⟨k, hk, -⟩ := entered_taken s r d s.whole.relay
      rw [hk]
      exact ((hbase _).mono (by simp)).trans ((noted_only k _).mono (by simp))
    · obtain ⟨k, hk, hq⟩ := entered_taken s r d s.whole.relay.other
      rw [hk, noted_self]
      · exact (hbase _).mono (by simp)
      · rw [entered_qseq, ← hq, takenReq_other]

section
variable {s : State} {q : List Byte} {r : Req} (h : s.QmpServed q r)
include h

/-- A register write that is not one: no word of a register, or no such address. -/
theorem regWrite_unplaced (hop : r.op = 3) (hb : r.data.length ≠ 8 ∨ ∀ off, place (r.field 0 4) ≠ some (.reg off)) :
    QmpReply s (s.onWhole (qmp 0x03 regWriteReq q)) r [] [] 3 [] := by
  refine answered h hop (by decide) ?_
  unfold regWriteReq
  dsimp only
  split
  next off hp =>
    split at hp
    next hl => exact absurd hp (hb.resolve_left (not_not.2 hl) off)
    next => cases hp
  next => rfl

section
variable {off : Nat} (hop : r.op = 3) (hl : r.data.length = 8) (hp : place (r.field 0 4) = some (.reg off))
include hop hl hp

/-- In RUN and SAFE a register without a W1C field is not written. -/
theorem regWrite_live {c : RegDef} (hlive : (s.dieOf r.die).dev = .run ∨ (s.dieOf r.die).dev = .safe) (hr : regDef? off = some c) (hb : off / 0x10000 ≠ 10)
    (ho : off ∉ [rQLL_USW_REQ, rTAR_FENCE_REQ, rSTM_FENCE_REQ, rSTM_MODE, rCHK_SAFE_REQ, rINK_MSG_GO, rTAR_FAULT, rSYN_ERR, rFWL_VIOL]) (hc : c.w1c = 0) :
    QmpReply s (s.onWhole (qmp 0x03 regWriteReq q)) r [] [] 2 [] := by
  refine answered h hop (by decide) ?_
  obtain ⟨k, hk⟩ := taken_die s r r.die
  have hdev : ((takenReq r s.whole).die r.die).dev = .run ∨ ((takenReq r s.whole).die r.die).dev = .safe := by rw [hk]; exact hlive
  have hnone : ((takenReq r s.whole).die r.die).runWrite off (r.field 4 4) = none := by
    simp only [List.mem_cons, List.not_mem_nil, or_false, not_or] at ho
    obtain ⟨-, h2, h3, h4, h5, -⟩ := ho
    have hs : off ≠ rPOS_SWCAP := by rintro rfl; exact hb rfl
    have hstat : ¬(rPOS_STAT ≤ off ∧ off < rPOS_STAT + 32) := by unfold rPOS_STAT; omega
    simp only [DieState.runWrite, h2, h3, h4, h5, hs, hstat, or_self, if_false, hr, hc, if_true]
  unfold regWriteReq
  dsimp only
  rw [if_pos hl, hp]
  dsimp only
  rw [if_pos hdev, hnone]

/-- Elsewhere a plain register is written as the Quill writes it. -/
theorem regWrite_idle {c : RegDef} (hidle : ¬((s.dieOf r.die).dev = .run ∨ (s.dieOf r.die).dev = .safe)) (hr : regDef? off = some c) (hb : off / 0x10000 ≠ 10) (h4 : off % 4 = 0)
    (ho : off ∉ [rQLL_USW_REQ, rTAR_FENCE_REQ, rSTM_FENCE_REQ, rSTM_MODE, rCHK_SAFE_REQ, rINK_MSG_GO, rTAR_FAULT, rSYN_ERR, rFWL_VIOL])
    (hf : ((s.caught r.die).here r.die).permits (off / 0x10000) (off % 0x10000) r.die.num 0 true = true) :
    let u := s.caught r.die
    let z := u.dieOf r.die
    let v := r.field 4 4
    let t := s.onWhole (qmp 0x03 regWriteReq q)
    QmpReply u t r [.regs] [] 0 [] ∧
      (let rw := if configOnly off && z.dev != .config then 0 else c.rw
       (t.dieOf r.die).rd off = (((z.rd off &&& (0xFFFFFFFF ^^^ rw)) ||| (v &&& rw)) &&& (0xFFFFFFFF ^^^ (v &&& c.w1c))) % 2 ^ 32) ∧
      RegsOnly [off] z (t.dieOf r.die) := by
  intro u z v t
  obtain ⟨k, hk⟩ := taken_die s r r.die
  obtain ⟨k', hk', -⟩ := entered_taken s r r.die r.die
  rw [entered_die] at hk'
  have hdev : ¬(((takenReq r s.whole).die r.die).dev = .run ∨ ((takenReq r s.whole).die r.die).dev = .safe) := by rw [hk]; exact hidle
  have hact : regWriteReq r (takenReq r s.whole) = (((takenReq r s.whole).entered r.die).onDie r.die (fun y => y.plainWrite off v)).reply r 0 [] := by
    have hacc := Whole.access_reg (takenReq r s.whole) r.die (r.field 0 4) true v none hp h4 (by rw [hk']; exact hf)
    rw [if_pos rfl, Whole.regWrite_plain _ _ _ hb ho] at hacc
    unfold regWriteReq
    dsimp only
    rw [if_pos hl, hp]
    dsimp only
    rw [if_neg hdev]
    dsimp only
    rw [hacc]
  have hg := (qmp_served regWriteReq h hop (by decide)).trans hact
  have hserved := (((served_entered s r r.die).act (fun y => OnlyIn.plainWrite y off v) (by decide)
    (fun y => congrArg Qll.qseq ((OnlyIn.plainWrite y off v).2 .qll (by decide))) (by simp)).reply 0 [])
  have hlast : OnlyIn [.wire] ((noted k' (u.here r.die)).sync ((takenReq r s.whole).entered r.die).now |>.plainWrite off v) (t.dieOf r.die) := by
    have ho := reply_only (r := r) (w := ((takenReq r s.whole).entered r.die).onDie r.die (fun y => y.plainWrite off v)) 0 [] r.die
    rw [← hg, Whole.onDie_die, hk'] at ho
    exact ho
  refine ⟨hserved.qmpReply (Led.caught s r.die).pending hg (by rw [reply_mod]) ?_ ?_, ?_, ?_⟩
  · rw [reply_stores, Whole.onDie_stores, entered_taken_stores]
    exact (Led.entered s r.die).stores
  · rw [reply_mod, Whole.onDie_mod, entered_mod, caught_mod]
    exact taken_mod s r
  · rw [rd_of_onlyIn hlast (by decide), DieState.rd_plainWrite _ _ _ c hr]
    rw [Nat.mod_eq_of_lt (field_lt r 4)]
    rfl
  · intro o ho
    rw [rd_of_onlyIn hlast (by decide)]
    exact RegsOnly.plainWrite _ off v o ho

end
end

/-- REG_WRITE by its outcome. -/
theorem regWrite_served {s : State} {q hd sq pl tag : List Byte} {r : Req} (h : s.QmpServed q r) (hop : r.op = 3) (hq : q = hd ++ sq ++ pl ++ tag) :
    let u := s.caught r.die
    let z := u.dieOf r.die
    let a := r.field 0 4
    let v := r.field 4 4
    let live := (s.dieOf r.die).dev = .run ∨ (s.dieOf r.die).dev = .safe
    ((r.data.length ≠ 8 ∨ ∀ off, place a ≠ some (.reg off)) → ∃ t, exec (.regWrite (hd ++ sq) pl tag) s = .next t ∧ QmpReply s t r [] [] 3 []) ∧
      (∀ off k, r.data.length = 8 → place a = some (.reg off) → off % 4 = 0 → regDef? off = some k → off / 0x10000 ≠ 10 →
        off ∉ [rQLL_USW_REQ, rTAR_FENCE_REQ, rSTM_FENCE_REQ, rSTM_MODE, rCHK_SAFE_REQ, rINK_MSG_GO, rTAR_FAULT, rSYN_ERR, rFWL_VIOL] →
        (live → k.w1c = 0 → ∃ t, exec (.regWrite (hd ++ sq) pl tag) s = .next t ∧ QmpReply s t r [] [] 2 []) ∧
        (¬live → (u.here r.die).permits (off / 0x10000) (off % 0x10000) r.die.num 0 true = true → ∃ t, exec (.regWrite (hd ++ sq) pl tag) s = .next t ∧ QmpReply u t r [.regs] [] 0 [] ∧
          (let rw := if configOnly off && z.dev != .config then 0 else k.rw
           (t.dieOf r.die).rd off = (((z.rd off &&& (0xFFFFFFFF ^^^ rw)) ||| (v &&& rw)) &&& (0xFFFFFFFF ^^^ (v &&& k.w1c))) % 2 ^ 32) ∧
          RegsOnly [off] z (t.dieOf r.die))) := by
  intro u z a v live
  subst hq
  refine ⟨fun hb => ⟨_, rfl, regWrite_unplaced h hop hb⟩, fun off k hl hp h4 hr hb ho => ⟨fun hlive hk => ?_, fun hidle hf => ?_⟩⟩
  · exact ⟨_, rfl, regWrite_live h hop hl hp hlive hr hb ho hk⟩
  · exact ⟨_, rfl, regWrite_idle h hop hl hp hidle hr hb h4 ho hf⟩

/-- Settles O60: each accepted request by its operation, then the ends of verification and of the commit. -/
theorem qmpRequestsChangeTheDevice : Obligations.QmpRequestsChangeTheDevice := by
  refine ⟨?_, fun s d rs => stageVerifyDone_cases s d rs, fun s d ok => stageCommitDone_cases s d ok⟩
  intro s q hd sq pl tag r h hq hwf
  exact ⟨fun hop => regWrite_served h hop hq, fun hop => unitState_served h hd sq pl tag hq hop, fun hop => camWrite_served h hop, ack_served h, maintStart_served h, halt_served h,
    fun hop => reset_served h hop, fun hop => stageBegin_served h hop, fun hop => stageChunk_served h hop hwf, stageVerify_served h, stageCommit_served h, stageAbort_served h,
    svnRaise_served h, fun hop => keySet_served h hop⟩

end Sys2Proof

/-! SUPPORT. Freezes of the core domain (R48 to R51): what one changes, the fifth of a step, and the statements on them. -/

namespace Sys2Proof
open Machine

section
variable (x : DieState)

theorem OnlyIn.mem (m : Mem) : OnlyIn [.mem] x { x with mem := m } := OnlyIn.onMem x fun _ => m

theorem OnlyIn.freezeRefresh : OnlyIn [.mem, .wire] x x.freezeRefresh := by
  refine .foldl (us := [.mem, .wire]) _ (fun y r => .ite _ (.refl _ _) ?_) _ _
  exact ((OnlyIn.mem y _).mono (by decide)).trans ((OnlyIn.send _ _ _ _).mono (by decide))

/-- The step has its fifth event, and FREEZE_EXCESS has not been noted in it (R49). -/
def fifthFreeze : DieState :=
  (({ x with seq := { x.seq with excess := true } } : DieState).count rSYS_FREEZE_EXCESS 1).raise rSYS_DET_STATUS 0

theorem freezeExcess_eq : x.freezeExcess = if 4 < x.seq.events ∧ !x.seq.excess then fifthFreeze x else x := rfl

theorem OnlyIn.fifthFreeze : OnlyIn [.seq, .regs, .ink] x (fifthFreeze x) :=
  (((OnlyIn.seq x _).mono (by decide)).trans ((OnlyIn.count _ _ _).mono (by decide))).trans ((OnlyIn.raise _ _ _).mono (by decide))

theorem OnlyIn.freezeExcess : OnlyIn [.seq, .regs, .ink] x x.freezeExcess := .ite _ (.fifthFreeze x) (.refl _ _)

theorem fifthFreeze_seq : (fifthFreeze x).seq = { x.seq with excess := true } :=
  (OnlyIn.raise _ rSYS_DET_STATUS 0).2 .seq (by decide)

theorem fifthFreeze_flag : (fifthFreeze x).flag rSYS_DET_STATUS 0 = true := DieState.flag_raise _ _ _ (by decide) (by decide)

theorem fifthFreeze_count : (fifthFreeze x).rd rSYS_FREEZE_EXCESS = min 0xFFFFFFFF (x.rd rSYS_FREEZE_EXCESS + 1) :=
  (RegsOnly.raise _ _ _ _ (by decide)).trans (DieState.rd_count_same _ _ _)

theorem fifthFreeze_regs : RegsOnly ([rSYS_FREEZE_EXCESS, rSYS_DET_STATUS] ++ inkRegs) x (fifthFreeze x) := by
  have hc : RegsOnly [rSYS_FREEZE_EXCESS] x (({ x with seq := { x.seq with excess := true } } : DieState).count rSYS_FREEZE_EXCESS 1) := RegsOnly.count _ _ _
  exact (hc.mono (by decide)).trans ((RegsOnly.raise _ _ _).mono (by decide))

/-! ### One freeze -/

variable (c n : Nat)

/-- A freeze of `n` cycles after active cycle `c` as far as the sequencer, the clock and the lifetime tally show it. -/
def freezeTimed : DieState :=
  let d := x.toCycle c
  (({ d with seq := { d.seq with freeze := d.seq.freeze + n, frzStep := d.seq.frzStep + n, events := d.seq.events + 1 } } : DieState).at (d.clk + n)).life (10 + d.die.num) n

theorem freezeTimed_only : OnlyIn [.seq, .ink] x (freezeTimed x c n) := by
  unfold freezeTimed
  refine .trans ?_ ((OnlyIn.life _ _ _).mono (by decide))
  refine .trans ?_ (.at _ _ _)
  exact ((OnlyIn.toCycle x c).mono (by decide)).trans ((OnlyIn.seq _ _).mono (by decide))

theorem freezeTimed_events : (freezeTimed x c n).seq.events = x.seq.events + 1 := rfl
theorem freezeTimed_excess : (freezeTimed x c n).seq.excess = x.seq.excess := rfl

/-- The die in a freeze, before the count of the step's events is looked at. -/
def freezeHeld : DieState := (freezeTimed x c n).freezeRefresh

theorem freezeHeld_only : OnlyIn [.seq, .ink, .mem, .wire] x (freezeHeld x c n) :=
  ((freezeTimed_only x c n).mono (by decide)).trans ((OnlyIn.freezeRefresh _).mono (by decide))

theorem freezeHeld_seq : (freezeHeld x c n).seq = (freezeTimed x c n).seq := (OnlyIn.freezeRefresh _).2 .seq (by decide)

theorem freezeHeld_regs : (freezeHeld x c n).regs = x.regs := (freezeHeld_only x c n).2 .regs (by decide)

variable {x c}

theorem freeze_now (hs : x.stepping = true) (hc : c < 20000) : x.freeze c n = (freezeHeld x c n).freezeExcess := by
  simp only [DieState.freeze, hs, Nat.not_le.2 hc, if_false, Bool.not_true, Bool.false_eq_true]
  rfl

theorem freeze_later (hs : x.stepping = true) (hc : 20000 ≤ c) :
    x.freeze c n = ({ x with seq := { x.seq with owed := x.seq.owed ++ [(c, n)] } } : DieState).life (10 + x.die.num) n := by
  simp only [DieState.freeze, hs, hc, if_true, if_false, Bool.not_true, Bool.false_eq_true]

theorem freeze_still (hs : x.stepping = false) : x.freeze c n = x := by simp [DieState.freeze, hs]

variable (x c)

theorem OnlyIn.freeze : OnlyIn [.seq, .regs, .ink, .mem, .wire] x (x.freeze c n) := by
  by_cases hs : x.stepping = true
  · by_cases hc : 20000 ≤ c
    · rw [freeze_later n hs hc]
      exact ((OnlyIn.seq x _).mono (by decide)).trans ((OnlyIn.life _ _ _).mono (by decide))
    · rw [freeze_now n hs (Nat.lt_of_not_le hc)]
      exact ((freezeHeld_only x c n).mono (by decide)).trans ((OnlyIn.freezeExcess _).mono (by decide))
  · rw [freeze_still n (Bool.eq_false_iff.2 hs)]
    exact .refl _ _

/-- A freeze of this step in the step sequencer: its cycles and the event are counted, and the rest is as at its cycle. -/
theorem freeze_counts (hs : x.stepping = true) (hc : c < 20000) :
    (x.freeze c n).seq.frzStep = (x.seq.owe c).frzStep + n ∧ (x.freeze c n).seq.events = x.seq.events + 1 ∧ (x.freeze c n).seq.step = x.seq.step ∧
      (x.freeze c n).seq.stepAt = x.seq.stepAt := by
  have hx : ∃ b, (x.freeze c n).seq = { (freezeTimed x c n).seq with excess := b } := by
    rw [freeze_now n hs hc, freezeExcess_eq, ← freezeHeld_seq]
    split
    · exact ⟨true, fifthFreeze_seq _⟩
    · exact ⟨_, rfl⟩
  obtain ⟨b, hb⟩ := hx
  rw [hb]
  exact ⟨rfl, rfl, rfl, rfl⟩

theorem freeze_fifth (hs : x.stepping = true) (hc : c < 20000) (he : x.seq.events = 4) (hx : x.seq.excess = false) :
    x.freeze c n = fifthFreeze (freezeHeld x c n) := by
  rw [freeze_now n hs hc, freezeExcess_eq, if_pos]
  rw [freezeHeld_seq, freezeTimed_events, freezeTimed_excess, he, hx]
  decide

theorem freeze_early (hs : x.stepping = true) (hc : c < 20000) (he : x.seq.events < 4) : x.freeze c n = freezeHeld x c n := by
  rw [freeze_now n hs hc, freezeExcess_eq, if_neg]
  rw [freezeHeld_seq, freezeTimed_events]
  omega

end

/-! ### The peer's events (R51) -/

section
variable (s : State) (d : Die) (cyc : Fin 20000) (dram : Bool)

theorem freezeRequest_split {x : DieState} (c : Nat) (own : Option Bool) (h : x.paired = false) : freezeRequest c dram own x = x := by simp [freezeRequest, h]

theorem freezeRequest_paired {x : DieState} (c : Nat) (h : x.paired = true) : freezeRequest c dram none x = x.freeze (c + 32) (freezeLen dram) := by
  simp [freezeRequest, DieState.freezeAfter, h]

theorem OnlyIn.freezeRequest (x : DieState) (c : Nat) (own : Option Bool) : OnlyIn [.seq, .regs, .ink, .mem, .wire] x (freezeRequest c dram own x) :=
  .ite _ (.refl _ _) (.freeze _ _ _)

/-- The die after the peer's event. -/
theorem freezeRequest_die (hp : (s.dieOf d).paired = true) :
    (s.onDie d (freezeRequest cyc.val dram none)).dieOf d = (s.here d).freeze (cyc.val + 32) (freezeLen dram) := by
  rw [State.onDie_dieOf]
  exact freezeRequest_paired dram cyc.val hp

end

/-! ### The die's own events (R48, R49) -/

theorem OnlyIn.ownEvent (x : DieState) (dram : Bool) (bins : List Nat) : OnlyIn [.regs, .ink] x (x.ownEvent dram bins) := by
  refine (OnlyIn.ite _ ((OnlyIn.count _ _ _).mono (by decide)) (.refl _ _)).trans (.foldl _ (fun y b => ?_) _ _)
  exact ((OnlyIn.hist y _ _).mono (by decide)).trans (.ite _ ((OnlyIn.count _ _ _).mono (by decide)) (.refl _ _))

theorem failedWords_passed (ws : List (Fin 54 × Fate)) (h : ∀ z ∈ ws, z.2 = .passed) (x : DieState) : ws.foldl DieState.failedWord x = x := by
  induction ws generalizing x with
  | nil => rfl
  | cons z r ih =>
    rw [List.foldl_cons, DieState.failedWord, if_pos (h z List.mem_cons_self)]
    exact ih (fun y hy => h y (List.mem_cons_of_mem _ hy)) x

/-- Every re-read passes: the die freezes for the event, and counts it. -/
theorem replayEvent_passed {w : Whole} {d : Die} (c : Nat) {ws : List (Fin 54 × Fate)} (hne : ws ≠ []) (hp : ∀ z ∈ ws, z.2 = .passed) (hs : (w.die d).paired = false) :
    replayEvent d c ws w = w.onDie d (fun y => (y.freeze c (freezeLen ((ws.map (·.1.val)).any isDramBin))).ownEvent ((ws.map (·.1.val)).any isDramBin) (ws.map (·.1.val))) := by
  have hmore : ws.any (fun z => furtherRead z.2) = false := List.any_eq_false.2 fun z hz => by simp [hp z hz, furtherRead]
  have hstem : ws.any (fun z => decide (17 ≤ z.1.val ∧ z.1.val < 34) && z.2 != .passed) = false := List.any_eq_false.2 fun z hz => by simp [hp z hz]
  simp only [replayEvent, List.isEmpty_iff, hne, hmore, hstem, if_false, Bool.false_and, Bool.false_eq_true]
  refine onDie_congr ?_
  have hpair : ((w.die d).sync w.now).paired = false := hs
  simp only [failedWords_passed ws hp, DieState.askFreeze, DieState.freezeAfter, hpair, Bool.false_and, Bool.false_eq_true, if_false]

theorem freezeLen_any (ws : List (Fin 54 × Fate)) :
    freezeLen ((ws.map (·.1.val)).any isDramBin) = if ws.any (fun z => decide (34 ≤ z.1.val ∧ z.1.val < 50)) then 400 else 64 := by
  rw [List.any_map]
  rfl

/-- A command of the module that finds nothing to do. -/
theorem onWhole_unmoved {s : State} {g : Whole → Whole} (hg : g s.whole = s.whole) : FrameBoth [] [] s (s.onWhole g) ∧ (s.onWhole g).mod = s.mod := by
  refine ⟨⟨?_, rfl, Nat.le_max_left _ _, ?_, ?_⟩, ?_⟩
  · rw [State.onWhole_mem, hg]; rfl
  · rw [State.onWhole_a, hg]; exact .sync _ _ _
  · rw [State.onWhole_b, hg]; exact .sync _ _ _
  · rw [State.onWhole_mod, hg]; rfl

/-- Settles O8: a freeze of this step in the sequencer, for an event of the die's own and for one of its peer. -/
theorem replayFreezesTheCoreDomain : Obligations.ReplayFreezesTheCoreDomain := by
  refine ⟨fun s d cyc ws hs hp hne hpass => ?_, fun s d cyc dram hs hp => ?_, fun s d cyc dram own hp => ?_, fun s d cyc => ?_⟩
  · let len := freezeLen ((ws.map (·.1.val)).any isDramBin)
    have hd : (s.onWhole (replayEvent d cyc.val ws)).dieOf d = ((s.here d).freeze cyc.val len).ownEvent ((ws.map (·.1.val)).any isDramBin) (ws.map (·.1.val)) :=
      onWhole_onDie_die s d (replayEvent_passed cyc.val hne hpass (by rw [State.whole_die]; exact hp))
    have hseq := (OnlyIn.ownEvent ((s.here d).freeze cyc.val len) ((ws.map (·.1.val)).any isDramBin) (ws.map (·.1.val))).2 .seq (by decide)
    obtain ⟨hfrz, hev, hstep, hat⟩ := freeze_counts (s.here d) cyc.val len hs cyc.isLt
    refine ⟨_, rfl, ?_, ?_, ?_, ?_, ?_⟩
    · rw [hd, hseq, hfrz, ← freezeLen_any]; rfl
    · rw [hd, hseq, hev]; rfl
    · rw [hd, hseq, hstep]; rfl
    · rw [hd, hseq, hat]; rfl
    · rw [hd]
      exact ((OnlyIn.sync _ _ _).trans (.freeze _ _ _)).trans ((OnlyIn.ownEvent _ _ _).mono (by decide))
  · refine ⟨_, rfl, fun hc => ?_, fun hc => ?_, .onDie _ _ _ _ fun x => .freezeRequest dram x _ _⟩
    · rw [freezeRequest_die s d cyc dram hp]
      obtain ⟨hfrz, hev, -, -⟩ := freeze_counts (s.here d) (cyc.val + 32) (freezeLen dram) hs (by omega)
      exact ⟨hfrz, hev⟩
    · rw [freezeRequest_die s d cyc dram hp, freeze_later (x := s.here d) _ hs (by omega)]
      rfl
  · refine ⟨_, rfl, frame_of_here ?_⟩
    rw [freezeRequest_split (x := s.here d) dram _ _ hp]
    exact .refl _ _
  · exact ⟨_, rfl, onWhole_unmoved rfl⟩

/-- Settles O9: the fifth event of a step in the registers, and the ones before it. -/
theorem fifthFreezeIsExcess : Obligations.FifthFreezeIsExcess := by
  refine ⟨fun s d cyc dram hc hs hp he hx => ?_, fun s d cyc dram hc hs hp he => ?_⟩
  · have hr := freezeHeld_regs (s.here d) (cyc.val + 32) (freezeLen dram)
    refine ⟨_, rfl, ?_⟩
    rw [freezeRequest_die s d cyc dram hp, freeze_fifth (s.here d) _ _ hs (by omega) he hx]
    refine ⟨fifthFreeze_flag _, ?_, ?_, ?_⟩
    · rw [fifthFreeze_seq]
    · rw [fifthFreeze_count, DieState.rd, hr]
      rfl
    · exact (RegsOnly.of_regs _ hr).trans (fifthFreeze_regs _)
  · refine ⟨_, rfl, ?_⟩
    rw [freezeRequest_die s d cyc dram hp, freeze_early (s.here d) _ _ hs (by omega) he, freezeHeld_regs]
    rfl

end Sys2Proof

/-! SUPPORT. External data (R42 to R47): the item that arrives, and the statement on its arrival. -/

namespace Sys2Proof
open Machine

/-! ### The item that arrives -/

section
variable {now : Nat} {st : Bool} {c : Item → Bool} {pre post : List Item} {x : Item}

/-- The items before the first one that is selected stay as they are. -/
theorem arriveFirst_append (hpre : ∀ y ∈ pre, (y.arrival.isNone && c y) = false) (l : List Item) :
    arriveFirst now st c (pre ++ l) = (pre ++ (arriveFirst now st c l).1, (arriveFirst now st c l).2) := by
  induction pre with
  | nil => rfl
  | cons y r ih =>
    have hy := hpre y List.mem_cons_self
    rw [List.cons_append, arriveFirst, hy, ih fun z hz => hpre z (List.mem_cons_of_mem _ hz)]
    rfl

variable (hx : (x.arrival.isNone && c x) = true)
include hx

/-- External data that arrives before step 0 is discarded (R45). -/
theorem arriveFirst_early (hst : st = false) (hb : x.body.lineState = false) : arriveFirst now st c (x :: post) = (post, false) := by
  simp only [arriveFirst, hx, hst, hb, Bool.not_false, Bool.and_self, if_true]

theorem arriveFirst_late {g : Nat} (hst : st = true) (ht : x.tag = some g) (hl : g + 1 < now) : arriveFirst now st c (x :: post) = (post, true) := by
  simp only [arriveFirst, hx, hst, ht, hl, Bool.not_true, Bool.false_and, Bool.false_eq_true, if_true, if_false]

theorem arriveFirst_now (hst : st = true) (ht : ∀ g, x.tag = some g → now ≤ g + 1) :
    arriveFirst now st c (x :: post) = ({ x with arrival := some now } :: post, false) := by
  simp only [arriveFirst, hx, hst, Bool.not_true, Bool.false_and, Bool.false_eq_true, if_true, if_false]
  cases hg : x.tag with
  | none => rfl
  | some g => exact if_neg (Nat.not_lt.2 (ht g hg))

end

/-! ### Arrival on a die -/

theorem OnlyIn.admitMiss (x : DieState) : OnlyIn [.seq, .regs, .ink] x x.admitMiss :=
  ((OnlyIn.raise x _ _).mono (by decide)).trans ((OnlyIn.seq _ _).mono (by decide))

theorem admitMiss_seq (x : DieState) : x.admitMiss.seq = { x.seq with misses := x.seq.misses + 1 } := by
  have h : (x.raise rSYS_DET_STATUS 4).seq = x.seq := (OnlyIn.raise x rSYS_DET_STATUS 4).2 .seq (by decide)
  simp only [DieState.admitMiss, h]

theorem admitMiss_flag (x : DieState) : x.admitMiss.flag rSYS_DET_STATUS 4 = true := DieState.flag_raise x rSYS_DET_STATUS 4 (by decide) (by decide)

theorem admitMiss_regs (x : DieState) : RegsOnly (rSYS_DET_STATUS :: inkRegs) x x.admitMiss := RegsOnly.raise x rSYS_DET_STATUS 4

theorem arrive_eq (x : DieState) (c : Item → Bool) :
    x.arrive c = if (arriveFirst x.seq.step x.stepping c x.items).2 then ({ x with items := (arriveFirst x.seq.step x.stepping c x.items).1 } : DieState).admitMiss
      else { x with items := (arriveFirst x.seq.step x.stepping c x.items).1 } := rfl

/-- What an arrival changes, whether or not the item misses its admission. -/
theorem OnlyIn.arrive (x : DieState) (c : Item → Bool) : OnlyIn [.items, .seq, .regs, .ink] x (x.arrive c) :=
  ((OnlyIn.items x _).mono (by decide)).trans (.ite _ ((OnlyIn.admitMiss _).mono (by decide)) (.refl _ _))

theorem OnlyIn.missItem (x : DieState) (c : Item → Bool) : OnlyIn [.items, .seq, .regs, .ink] x (x.missItem c) := by
  unfold DieState.missItem
  split
  · exact ((OnlyIn.items x _).mono (by decide)).trans ((OnlyIn.admitMiss _).mono (by decide))
  · exact .refl _ _

theorem arrive_kept {x : DieState} {c : Item → Bool} {l : List Item} (h : arriveFirst x.seq.step x.stepping c x.items = (l, false)) :
    x.arrive c = { x with items := l } := by rw [arrive_eq, h]; rfl

theorem arrive_missed {x : DieState} {c : Item → Bool} {l : List Item} (h : arriveFirst x.seq.step x.stepping c x.items = (l, true)) :
    x.arrive c = ({ x with items := l } : DieState).admitMiss := by rw [arrive_eq, h]; rfl

/-! ### The command -/

/-- The `i`-th item that has not arrived stands behind `i` such items. -/
theorem waiting_at {pre post : List Item} {x : Item} {i : Nat} (hx : x.arrival = none) (hi : (pre.filter (fun y => y.arrival.isNone)).length = i) :
    ((pre ++ x :: post).filter (fun y => y.arrival.isNone))[i]? = some x := by
  rw [List.filter_append, List.filter_cons, if_pos (by simp [hx]), List.getElem?_append_right hi.le, hi, Nat.sub_self]
  rfl

/-- `x` is the item of die `d` that ITEM_ARRIVAL with index `i` names: it stands between `pre` and `post`, and nowhere before. -/
structure Named (s : State) (d : Die) (i : Nat) (x : Item) (pre post : List Item) : Prop where
  items : (s.dieOf d).items = pre ++ x :: post
  waits : x.arrival = none
  first : x ∉ pre
  place : (pre.filter (fun y => y.arrival.isNone)).length = i

section
variable {s : State} {d : Die} {i : Nat} {x : Item} {pre post : List Item} (h : Named s d i x pre post) (miss : Bool)
include h

theorem Named.getElem? : ((s.whole.die d).items.filter (fun y => y.arrival.isNone))[i]? = some x := by
  rw [State.whole_die]
  exact (congrArg (fun l => (l.filter (fun y : Item => y.arrival.isNone))[i]?) h.items).trans (waiting_at h.waits h.place)

theorem Named.selected : (x.arrival.isNone && x == x) = true := by simp [h.waits]

/-- The selection of the item passes over those before it. -/
theorem Named.arriveFirst (now : Nat) (st : Bool) : arriveFirst now st (· == x) (s.here d).items =
    (pre ++ (arriveFirst now st (· == x) (x :: post)).1, (arriveFirst now st (· == x) (x :: post)).2) := by
  have hi : (s.here d).items = pre ++ x :: post := h.items
  rw [hi]
  refine arriveFirst_append (fun y hy => ?_) _
  have hne : y ≠ x := fun e => h.first (e ▸ hy)
  simp [hne]

theorem Named.arrive_now (hs : (s.here d).stepping = true) (ht : ∀ g, x.tag = some g → (s.here d).seq.step ≤ g + 1) :
    (s.here d).arrive (· == x) = { s.here d with items := pre ++ { x with arrival := some (s.dieOf d).seq.step } :: post } := by
  refine arrive_kept ((h.arriveFirst _ _).trans ?_)
  rw [arriveFirst_now (c := (· == x)) h.selected hs ht]
  rfl

theorem Named.arrive_late {g : Nat} (hs : (s.here d).stepping = true) (ht : x.tag = some g) (hl : g + 1 < (s.here d).seq.step) :
    (s.here d).arrive (· == x) = ({ s.here d with items := pre ++ post } : DieState).admitMiss := by
  refine arrive_missed ((h.arriveFirst _ _).trans ?_)
  rw [arriveFirst_late (c := (· == x)) h.selected hs ht hl]

theorem Named.arrive_early (hs : (s.here d).stepping = false) (hb : x.body.lineState = false) :
    (s.here d).arrive (· == x) = { s.here d with items := pre ++ post } := by
  refine arrive_kept ((h.arriveFirst _ _).trans ?_)
  rw [arriveFirst_early (c := (· == x)) h.selected hs hb]

/-- An item arrives on its own die alone, unless it is a line-state frame of a pair. -/
theorem Named.itemArrival_one (hb : (s.a.paired || s.b.paired) = false ∨ x.body.lineState = false) :
    itemArrival d i miss s.whole = s.whole.onDie d (fun y => y.arrive (· == x)) := by
  have hc : (s.whole.paired && x.body.lineState) = false := by
    rcases hb with hb | hb
    · exact Bool.and_eq_false_iff.2 (.inl hb)
    · exact Bool.and_eq_false_iff.2 (.inr hb)
  simp only [itemArrival, h.getElem?, hc, Bool.false_eq_true, if_false]

theorem Named.itemArrival_b (hp : (s.a.paired || s.b.paired) = true) (hb : x.body.lineState = true) (hd : d = .b) : itemArrival d i miss s.whole = s.whole := by
  have hc : (s.whole.paired && x.body.lineState) = true := by rw [hb, Bool.and_true]; exact hp
  subst hd
  simp only [itemArrival, h.getElem?, hc, if_true]

/-- What die B of a pair does when die A has decided the arrival of a line-state frame. -/
def followArrival (miss : Bool) (x : Item) (y : DieState) : DieState :=
  if miss && y.stepping then y.missItem (fun z => z.body == x.body) else y.arrive (fun z => z.body == x.body)

omit h in
theorem followArrival_only (y : DieState) : OnlyIn [.items, .seq, .regs, .ink] y (followArrival miss x y) := .ite _ (.missItem _ _) (.arrive _ _)

theorem Named.itemArrival_pair (hp : (s.a.paired || s.b.paired) = true) (hb : x.body.lineState = true) (hd : d = .a) :
    itemArrival d i miss s.whole = (s.whole.onDie .a (fun y => y.arrive (· == x))).onDie .b (followArrival miss x) := by
  have hc : (s.whole.paired && x.body.lineState) = true := by rw [hb, Bool.and_true]; exact hp
  subst hd
  simp only [itemArrival, h.getElem?, hc, if_true, reduceCtorEq, if_false]
  rfl

end

/-- Settles O11: the item that is named, by where it stands and whether its die's sequencer runs. -/
theorem externalDataArrives : Obligations.ExternalDataArrives := by
  intro s d i x pre post miss hitems hwaits hfirst hplace
  have h : Named s d i.val x pre post := ⟨hitems, hwaits, hfirst, hplace⟩
  refine ⟨fun hp hb => ⟨fun hd => ⟨_, rfl, onWhole_unmoved (h.itemArrival_b miss hp hb hd)⟩, fun hd hs ht => ?_⟩, fun hb => ?_⟩
  · subst hd
    have hg := h.itemArrival_pair miss hp hb rfl
    have ha : (s.onWhole (itemArrival .a i.val miss)).a = { s.here .a with items := pre ++ { x with arrival := some s.a.seq.step } :: post } := by
      rw [State.onWhole_a, hg]
      exact h.arrive_now hs (by simp [ht])
    refine ⟨_, rfl, ?_, ?_, ?_, ?_, ?_⟩
    · rw [ha]
    · rw [ha]
      exact (OnlyIn.sync _ _ _).trans (.items _ _)
    · rw [State.onWhole_b, hg]
      exact (OnlyIn.sync _ _ _).trans (followArrival_only _ _)
    · rw [State.onWhole_mod, hg]; rfl
    · rw [State.onWhole_mem, hg]; rfl
  · have hg := h.itemArrival_one miss hb
    have hd : (s.onWhole (itemArrival d i.val miss)).dieOf d = (s.here d).arrive (· == x) := onWhole_onDie_die s d hg
    have hf := ((Led.start s d).onDie fun y => OnlyIn.arrive y (· == x)).frameOf hg
    refine ⟨fun hs ht => ⟨_, rfl, ?_, ?_, hf.mod, hf.mem, hf.other.2 .items (by decide)⟩, fun hs ⟨g, ht, hl⟩ => ⟨_, rfl, ?_, ?_, ?_, hf.die⟩, fun hs hl => ⟨_, rfl, ?_, ?_⟩⟩
    · rw [hd, h.arrive_now hs ht]
    · rw [hd, h.arrive_now hs ht]
      exact (OnlyIn.sync _ _ _).trans (.items _ _)
    · rw [hd, h.arrive_late hs ht hl]
      exact (OnlyIn.admitMiss _).2 .items (by decide)
    · rw [hd, h.arrive_late hs ht hl]
      exact admitMiss_flag _
    · rw [hd, h.arrive_late hs ht hl, admitMiss_seq]
      rfl
    · rw [hd, h.arrive_early hs hl]
    · rw [hd, h.arrive_early hs hl]
      exact (OnlyIn.sync _ _ _).trans (.items _ _)

end Sys2Proof

/-! SUPPORT. Admissions of step tags, latch pairs and input frames (R43, R304, R307, R308, R331), and the statements on them. -/

namespace Sys2Proof
open Machine

/-! ### Step tags -/

theorem OnlyIn.pos (x : DieState) (p : Pos) : OnlyIn [.pos] x { x with pos := p } := ⟨rfl, fun q hq => by cases q <;> simp_all [DiePart.Same]⟩
theorem OnlyIn.ptk (x : DieState) (k : Ptk) : OnlyIn [.ptk] x { x with ptk := k } := ⟨rfl, fun q hq => by cases q <;> simp_all [DiePart.Same]⟩

/-- What holds of every entry of a table under a key, and of the default, holds of what is read there. -/
theorem tget_property {V : Type} (P : V → Prop) (t : Tbl V) (k : Nat) (d : V) (ht : ∀ e ∈ t, e.1 = k → P e.2) (hd : P d) : P (tget t k d) := by
  induction t with
  | nil => exact hd
  | cons e r ih =>
    obtain ⟨k', v⟩ := e
    rw [tget]
    split
    · exact ht (k', v) List.mem_cons_self (by assumption)
    · exact ih fun e he => ht e (List.mem_cons_of_mem _ he)

/-- The entries of the other die's channels in the tag of step `n`, as die `x` admits them. -/
def peerEnts (x other : DieState) (miss : Bool) (n : Nat) : Tbl TagEnt :=
  let copy := if miss || x.fld rTWL_PEER 1 0 == 2 then none else other.pos.tags.find? (fun y => y.step == n)
  other.ownChans.map (fun c =>
    (c, match copy with | some y => { tget y.ents c { (default : TagEnt) with remote := true } with remote := true } | none => { (default : TagEnt) with remote := true }))

/-- The tag with the entries of both dies, die A's first. -/
def fullTag (x other : DieState) (miss : Bool) (g : StepTag) : StepTag :=
  { g with ents := if x.die == .a then g.ents ++ peerEnts x other miss g.step else peerEnts x other miss g.step ++ g.ents }

/-- The die after an admission that the other die's copy missed, or did not. -/
def admitted (miss : Bool) (x : DieState) : DieState := if miss then x.admitMiss else x

theorem OnlyIn.admitted (miss : Bool) (x : DieState) : OnlyIn [.seq, .regs, .ink] x (admitted miss x) := .ite _ (.admitMiss x) (.refl _ _)

theorem admitted_regs (miss : Bool) (x : DieState) : RegsOnly (rSYS_DET_STATUS :: inkRegs) x (admitted miss x) := .ite _ (admitMiss_regs x) (.refl _ _)

/-- The tag `t` as the last one. -/
def lastTag (t : StepTag) (x : DieState) : DieState := { x with pos := { x.pos with last := some t } }

/-- A tag is admitted. -/
def admitTag (miss : Bool) (t : StepTag) (x : DieState) : DieState := (lastTag t (admitted miss x)).reverseCancel t

theorem stepTagAdmission_eq {w : Whole} {d : Die} (miss : Bool) {g : StepTag} (hs : (w.die d).stepping = true)
    (hg : (w.die d).pos.tags.find? (fun y => y.step + 2 == (w.die d).seq.step) = some g) :
    stepTagAdmission d miss w = w.onDie d (fun x => admitTag miss (fullTag x (w.die d.other) miss g) x) := by
  unfold stepTagAdmission
  refine onDie_congr ?_
  have hs' : ((w.die d).sync w.now).stepping = true := hs
  have hg' : ((w.die d).sync w.now).pos.tags.find? (fun y => y.step + 2 == ((w.die d).sync w.now).seq.step) = some g := hg
  simp only [hg', hs', Bool.not_true, Bool.false_eq_true, if_false]
  rfl

theorem OnlyIn.reverseCancel (x : DieState) (t : StepTag) : OnlyIn [.regs, .nib] x (x.reverseCancel t) := .cancelEvents x _

theorem reverseCancel_regs (x : DieState) (t : StepTag) : RegsOnly [rNIB_CNT + 20] x (x.reverseCancel t) := RegsOnly.count x _ _

theorem OnlyIn.admitTag (miss : Bool) (t : StepTag) (x : DieState) : OnlyIn [.pos, .seq, .regs, .ink, .nib] x (admitTag miss t x) :=
  (((OnlyIn.admitted miss x).mono (by decide)).trans ((OnlyIn.pos _ _).mono (by decide))).trans ((OnlyIn.reverseCancel _ t).mono (us := [.regs, .nib]) (by decide))

theorem admitTag_last (miss : Bool) (t : StepTag) (x : DieState) : (admitTag miss t x).pos.last = some t := rfl

theorem admitTag_missed (t : StepTag) (x : DieState) : (admitTag true t x).flag rSYS_DET_STATUS 4 = true ∧ (admitTag true t x).seq.misses = x.seq.misses + 1 := by
  constructor
  · have hr := reverseCancel_regs (lastTag t x.admitMiss) t rSYS_DET_STATUS (by decide)
    exact (congrArg (bit 4) hr).trans (admitMiss_flag x)
  · exact congrArg Seq.misses (admitMiss_seq x)

/-- Where the other die's copy missed admission, only the die's own entries can be valid. -/
theorem fullTag_missed (x other : DieState) (g : StepTag) (c : Nat) (hc : ∀ e ∈ g.ents, e.1 ≠ c) : (tget (fullTag x other true g).ents c default).valid = false := by
  refine tget_property (fun v : TagEnt => v.valid = false) _ _ _ (fun e he hk => ?_) rfl
  have hp : e ∈ g.ents ∨ e ∈ peerEnts x other true g.step := by
    unfold fullTag at he
    split at he
    · exact List.mem_append.1 he
    · exact (List.mem_append.1 he).symm
  rcases hp with hp | hp
  · exact absurd hk (hc e hp)
  · obtain ⟨_, _, rfl⟩ := List.mem_map.1 hp
    rfl

/-- Settles O12: the tag of two steps before, with the entries of the other die. -/
theorem stepTagAdmittedTwoStepsLater : Obligations.StepTagAdmittedTwoStepsLater := by
  intro s d miss g hs hg
  have hw : s.whole.die d = s.here d := State.whole_die s d
  have he := stepTagAdmission_eq (w := s.whole) (d := d) miss (g := g) (by rw [hw]; exact hs) (by rw [hw]; exact hg)
  let t := fullTag (s.here d) (s.whole.die d.other) miss g
  have hd : (s.onWhole (stepTagAdmission d miss)).dieOf d = admitTag miss t (s.here d) := by
    rw [onWhole_onDie_die s d he]
  have hf := ((Led.start s d).onDie fun x => OnlyIn.admitTag miss (fullTag x (s.whole.die d.other) miss g) x).frameOf he
  refine ⟨_, t, rfl, ?_, rfl, rfl, rfl, rfl, fun hm => ?_, fun hm => ?_, hf.other, hf.mod, hf.mem⟩
  · rw [hd, admitTag_last]
  · subst hm
    rw [hd]
    exact admitTag_missed t (s.here d)
  · subst hm
    exact fun c hc => fullTag_missed _ _ g c hc

/-! ### Latch pairs -/

/-- A latch pair is admitted; the last 32 are kept. -/
def admitLatch (l : Latch) (x : DieState) : DieState :=
  { x with pos := { x.pos with latches := x.pos.latches.erase l, admitted := (x.pos.admitted ++ [l]).drop (x.pos.admitted.length - 31) } }

theorem latchAdmission_eq {x : DieState} {k : Nat} {l : Latch} (hs : x.stepping = true)
    (hl : x.pos.latches.find? (fun y => y.unit == k && decide (y.step + 2 ≤ x.seq.step)) = some l) : latchAdmission k x = admitLatch l x := by
  simp only [latchAdmission, hl, hs, Bool.not_true, Bool.false_eq_true, if_false]
  rfl

theorem admitLatch_last (l : Latch) (x : DieState) : (admitLatch l x).pos.admitted.getLast? = some l := by
  have hd : x.pos.admitted.length - 31 ≤ x.pos.admitted.length := Nat.sub_le _ _
  show ((x.pos.admitted ++ [l]).drop (x.pos.admitted.length - 31)).getLast? = some l
  rw [List.drop_append_of_le_length hd, List.getLast?_append]
  rfl

/-! ### Input frames -/

section
variable (other : DieState) (miss : Bool) (f : Nat × Nat × Nat)

/-- The other die's input frame of the boundary of frame `f`, if die `d` admits it. -/
def peerFrame (d : DieState) : Option (Nat × Nat × Nat) := if miss || d.fld rTWL_PEER 1 0 == 2 then none else other.nib.frames.find? (fun y => y.1 == f.1)

/-- FIO_IN_STAT and FIO_IN_WB as die A shows both frames; without the other die's its inputs read as off and wire break (R331). -/
def inputWords (d : DieState) : Nat × Nat :=
  (f.2.1 + 65536 * (match peerFrame other miss f d with | some y => y.2.1 | none => 0), f.2.2 + 65536 * (match peerFrame other miss f d with | some y => y.2.2 | none => 0xFFFF))

/-- Die A with both registers. -/
def showInputs (d : DieState) : DieState := (d.wr rFIO_IN_STAT (inputWords other miss f d).1).wr rFIO_IN_WB (inputWords other miss f d).2

/-- The transfers of the input words of frame `n` from endpoint NIB to the tiles that die `d`'s active recipe names. -/
def inputXfers (ws : Nat × Nat) (n : Nat) (d : DieState) : List Xfer :=
  (d.nib.inTiles.filter (fun t => t.1 == d.fld rCTX_CHG 3 0)).map (fun t =>
    (⟨259, t.2, d.seq.step * 20000 + 48, leBytes 4 ws.1 ++ leBytes 4 ws.2 ++ leBytes 8 n ++ List.replicate 48 (0 : Byte), false⟩ : Xfer))

/-- What admitting the frames brings about besides (R331): the transfers `xs` to the tiles, the miss, and the marks of parts of lanes that use inputs. -/
def spreadInputs (lost : Bool) (xs : List Xfer) (d : DieState) : DieState :=
  let y := admitted miss { d with tar := { d.tar with net := d.tar.net ++ xs } }
  if lost then y.modParts (fun p => p.held && p.kind != .tail && (y.lane p.lane).usesInputs) (fun p => p.mark 7) else y

theorem OnlyIn.spreadInputs (lost : Bool) (xs : List Xfer) (d : DieState) : OnlyIn [.tar, .seq, .regs, .ink, .ptk] d (spreadInputs miss lost xs d) :=
  (((OnlyIn.tar d _).mono (by decide)).trans ((OnlyIn.admitted miss _).mono (by decide))).trans (.ite _ ((OnlyIn.ptk _ _).mono (by decide)) (.refl _ _))

theorem spreadInputs_regs_eq (lost : Bool) (xs : List Xfer) (d : DieState) :
    (spreadInputs miss lost xs d).regs = (admitted miss { d with tar := { d.tar with net := d.tar.net ++ xs } }).regs := by
  unfold spreadInputs
  split <;> rfl

theorem spreadInputs_regs (lost : Bool) (xs : List Xfer) (d : DieState) : RegsOnly (rSYS_DET_STATUS :: inkRegs) d (spreadInputs miss lost xs d) :=
  (admitted_regs miss { d with tar := { d.tar with net := d.tar.net ++ xs } }).trans (.of_regs _ (spreadInputs_regs_eq miss lost xs d))

theorem spreadInputs_flag (lost : Bool) (xs : List Xfer) (d : DieState) : (spreadInputs true lost xs d).flag rSYS_DET_STATUS 4 = true := by
  rw [DieState.flag, DieState.rd, spreadInputs_regs_eq]
  exact admitMiss_flag _

/-- The low half of a register is the die's own word, the high half the other's. -/
theorem halves {a b : Nat} (ha : a < 65536) : bits 15 0 ((a + 65536 * b) % 2 ^ 32) = a ∧ bits 31 16 ((a + 65536 * b) % 2 ^ 32) = b % 65536 := by
  unfold bits
  constructor <;> norm_num <;> omega

variable {f}

theorem showInputs_fld (d : DieState) (h1 : f.2.1 < 65536) (h2 : f.2.2 < 65536) :
    (showInputs other miss f d).fld rFIO_IN_STAT 15 0 = f.2.1 ∧ (showInputs other miss f d).fld rFIO_IN_WB 15 0 = f.2.2 := by
  constructor
  · rw [DieState.fld, showInputs, DieState.rd_wr_ne _ _ _ _ (by decide), DieState.rd_wr_same]
    exact (halves h1).1
  · rw [DieState.fld, showInputs, DieState.rd_wr_same]
    exact (halves h2).1

theorem showInputs_missed (d : DieState) (h1 : f.2.1 < 65536) (h2 : f.2.2 < 65536) :
    (showInputs other true f d).fld rFIO_IN_STAT 31 16 = 0 ∧ (showInputs other true f d).fld rFIO_IN_WB 31 16 = 0xFFFF := by
  constructor
  · rw [DieState.fld, showInputs, DieState.rd_wr_ne _ _ _ _ (by decide), DieState.rd_wr_same]
    exact (halves h1).2
  · rw [DieState.fld, showInputs, DieState.rd_wr_same]
    exact (halves h2).2

variable (f)

/-- Die A admits its input frame. -/
def admitInputs (d : DieState) : DieState :=
  spreadInputs miss (peerFrame other miss f d).isNone (inputXfers (inputWords other miss f d) f.1 (showInputs other miss f d)) (showInputs other miss f d)

theorem OnlyIn.admitInputs (d : DieState) : OnlyIn [.tar, .seq, .regs, .ink, .ptk] d (admitInputs other miss f d) :=
  (((OnlyIn.wr _ _ _).trans (.wr _ _ _)).mono (by decide)).trans (.spreadInputs miss _ _ _)

variable {f} in
theorem inputFrameAdmission_eq {w : Whole} (hs : w.a.stepping = true) (hd : w.a.die = .a) (hf : w.a.nib.frames.find? (fun y => y.1 + 2 == w.a.seq.step) = some f) :
    inputFrameAdmission .a miss w = w.onDie .a (admitInputs w.b miss f) := by
  have hs' : ((w.die .a).sync w.now).stepping = true := hs
  have hd' : ((w.die .a).sync w.now).die = .a := hd
  have hf' : ((w.die .a).sync w.now).nib.frames.find? (fun y => y.1 + 2 == ((w.die .a).sync w.now).seq.step) = some f := hf
  unfold inputFrameAdmission
  refine onDie_congr ?_
  simp only [hf', hs', hd', Bool.not_true, Bool.false_eq_true, if_false, beq_self_eq_true, if_true]
  rfl

/-- The input registers after an admission are as the frames show them. -/
theorem admitInputs_fld (d : DieState) (hi lo : Nat) :
    (admitInputs other miss f d).fld rFIO_IN_STAT hi lo = (showInputs other miss f d).fld rFIO_IN_STAT hi lo ∧
      (admitInputs other miss f d).fld rFIO_IN_WB hi lo = (showInputs other miss f d).fld rFIO_IN_WB hi lo := by
  have h := spreadInputs_regs miss (peerFrame other miss f d).isNone (inputXfers (inputWords other miss f d) f.1 (showInputs other miss f d)) (showInputs other miss f d)
  exact ⟨congrArg (bits hi lo) (h _ (by decide)), congrArg (bits hi lo) (h _ (by decide))⟩

end

/-- Settles O13: the latch pair that is named, and die A's input frames. -/
theorem latchPairsAndInputFramesAdmitted : Obligations.LatchPairsAndInputFramesAdmitted := by
  refine ⟨fun s d k l hs hl => ?_, fun s miss st wb hs hd hst hwb hf h2 => ?_⟩
  · have he : latchAdmission k.val (s.here d) = admitLatch l (s.here d) := latchAdmission_eq hs hl
    have hx : (s.onDie d (latchAdmission k.val)).dieOf d = admitLatch l (s.here d) := by rw [State.onDie_dieOf]; exact he
    refine ⟨_, rfl, ?_, ?_, frame_of_here ?_⟩
    · rw [hx]; rfl
    · rw [hx, admitLatch_last]
    · rw [he]; exact .pos _ _
  · have he := inputFrameAdmission_eq (w := s.whole) miss hs hd hf
    have hx : (s.onWhole (inputFrameAdmission .a miss)).a = admitInputs s.whole.b miss (s.a.seq.step - 2, st, wb) (s.here .a) := onWhole_onDie_die s .a he
    have hframe := ((Led.start s .a).onDie (OnlyIn.admitInputs s.whole.b miss _)).frameOf he
    obtain ⟨hstat, hwire⟩ := showInputs_fld (f := (s.a.seq.step - 2, st, wb)) s.whole.b miss (s.here .a) hst hwb
    refine ⟨_, rfl, ?_, ?_, fun hm => ?_, hframe.other, hframe.mod, hframe.mem⟩
    · rw [hx, (admitInputs_fld _ _ _ _ _ _).1]
      exact hstat
    · rw [hx, (admitInputs_fld _ _ _ _ _ _).2]
      exact hwire
    · subst hm
      obtain ⟨hstat', hwire'⟩ := showInputs_missed (f := (s.a.seq.step - 2, st, wb)) s.whole.b (s.here .a) hst hwb
      rw [hx, (admitInputs_fld _ _ _ _ _ _).1, (admitInputs_fld _ _ _ _ _ _).2]
      exact ⟨hstat', hwire', spreadInputs_flag _ _ _⟩

end Sys2Proof

/-! SUPPORT. An event of the Nib on its way to its output (R62, R315 to R320): committed, armed, executed; and the statement on it. -/

namespace Sys2Proof
open Machine

/-! ### Events -/

section
variable (x : DieState) (e : NibEvent)

theorem OnlyIn.endEvent : OnlyIn [.nib] x (x.endEvent e) := .nib x _
theorem OnlyIn.modEvent (f : NibEvent → NibEvent) : OnlyIn [.nib] x (x.modEvent e f) := .nib x _
theorem OnlyIn.nibCount (i k : Nat) : OnlyIn [.regs] x (x.nibCount i k) := .count x _ _

theorem same_self : e.same e = true := by simp [NibEvent.same]

/-- The only event, changed. -/
theorem modEvent_one (f : NibEvent → NibEvent) (h : x.nib.events = [e]) : (x.modEvent e f).nib.events = [f e] := by
  simp [DieState.modEvent, h, same_self]

/-- The only event ends. -/
theorem endEvent_one (h : x.nib.events = [e]) : (x.endEvent e).nib.events = [] := by
  simp [DieState.endEvent, h, same_self]

theorem endEvent_gone : ∀ y ∈ (x.endEvent e).nib.events, ¬(y.pseq = e.pseq ∧ y.rule = e.rule) := by
  rintro y hy ⟨hp, hr⟩
  have hn := (List.mem_filter.1 hy).2
  simp [NibEvent.same, hp, hr] at hn

theorem modEvent_state (f : NibEvent → NibEvent) (P : EvState → Prop) (hf : ∀ y, P (f y).state) :
    ∀ y ∈ (x.modEvent e f).nib.events, y.pseq = e.pseq → y.rule = e.rule → P y.state := by
  intro y hy hp hr
  obtain ⟨z, -, rfl⟩ := List.mem_map.1 hy
  by_cases hz : e.same z = true
  · rw [if_pos hz]
    exact hf z
  · rw [if_neg hz] at hp hr
    exact absurd (by simp [NibEvent.same, hp, hr]) hz

end

/-! ### Commit and evaluation (R62, R315, R317) -/

section
variable {x : DieState} {e : NibEvent} {g : StepTag} {v cls : Nat}

theorem verdictFor_final (hev : x.nib.events = [e]) (hf : e.final = some (v, cls)) : x.verdictFor e = (x, v, cls) := by
  simp [DieState.verdictFor, hev, same_self, hf]

/-- What the only event of a direct rule leads to once its position has reached it less lead and margin. -/
def decided (x : DieState) (e : NibEvent) (v cls : Nat) (lead : Int) : DieState :=
  if x.fires (x.rule e.rule) e.lane v cls then x.modEvent e (fun y => { y with state := .fire, f256 := e.t256 - lead }) else (x.nibCount 2 1).endEvent e

theorem OnlyIn.decided (x : DieState) (e : NibEvent) (v cls : Nat) (lead : Int) : OnlyIn [.nib, .regs] x (decided x e v cls lead) :=
  .ite _ ((OnlyIn.modEvent _ _ _).mono (by decide)) (((OnlyIn.nibCount _ _ _).mono (by decide)).trans ((OnlyIn.endEvent _ _).mono (by decide)))

theorem evaluate_decided (hev : x.nib.events = [e]) (hst : e.state = .pending) (hf : e.final = some (v, cls)) (hv : v ≠ 3) (hr : (x.rule e.rule).remote = false) :
    let y : TagEnt := tget g.ents (x.laneChan e.lane) default
    let lead : Int := ((x.rule e.rule).lead * max y.v 0).fdiv 5120
    let margin : Int := ((x.rule e.rule).margin * max y.v 0).fdiv 5120
    y.valid = true → e.t256 - lead - margin ≤ 256 * y.count + y.sub → DieState.evaluate g (x, []) e = (decided x e v cls lead, []) := by
  intro y lead margin hy hp
  have hnot : ¬(e.state ≠ .pending ∨ !y.valid ∨ ((x.rule e.rule).remote ∧ max y.v 0 = 0) ∨ 256 * y.count + y.sub < e.t256 - lead - margin) := by
    simp [hst, hy, hr, hp]
  unfold DieState.evaluate
  rw [if_neg hnot]
  simp only [verdictFor_final hev hf, hv, hr, if_false, decided]
  by_cases hfire : x.fires (x.rule e.rule) e.lane v cls = true
  · simp only [hfire, Bool.not_true, Bool.false_eq_true, if_false, if_true]
    rfl
  · simp only [hfire, Bool.not_false, if_true, Bool.false_eq_true, if_false]

theorem queueValvesBy_nil (k n : Nat) (x : DieState) : queueValvesBy k n [] x = x := by cases n <;> rfl

/-- The evaluation of the only event, where it leads to no remote valve frame. -/
theorem nibEvaluate_one {y : DieState} (hd : x.dev = .run) (hl : x.pos.last = some g) (hg : g.step + 2 = x.seq.step) (hev : x.nib.events = [e])
    (h : DieState.evaluate g (x, []) e = (y, [])) : nibEvaluate x = y := by
  have hs : sortBy evLt [e] = [e] := rfl
  simp only [nibEvaluate, hl, hd, hg, hev, hs, List.foldl_cons, List.foldl_nil, h, ne_eq, not_true_eq_false, or_self, if_false]
  exact List.foldl_fixed' (fun k => queueValvesBy_nil _ _ _) _

end

/-! ### Execution (R319, R320) -/

/-- An action on an output that is off, holds no edge and has had none. -/
theorem act_first (t : Nat) (a : OutAct) :
    ((default : OutSt).act t a).1.level = decide (a.1 ≠ 1) ∧ (a.1 = 2 → ((default : OutSt).act t a).1.pend = some (t + 1000 * a.2)) := by
  obtain ⟨k, w⟩ := a
  rcases k with _ | _ | k
  · exact ⟨rfl, fun h => absurd h (by simp)⟩
  · exact ⟨rfl, fun h => absurd h (by simp)⟩
  · exact ⟨rfl, fun _ => rfl⟩

section
variable (x : DieState) (m r : Int)

theorem OnlyIn.outCounts : OnlyIn [.regs, .ink] x (x.outCounts m r) :=
  (((OnlyIn.wr _ _ _).trans (.wr _ _ _)).mono (by decide)).trans (.ite _ ((OnlyIn.raise _ _ _).mono (by decide)) (.refl _ _))

theorem outCounts_regs : RegsOnly ([rNIB_CNT + 28, rNIB_CNT + 32, rNIB_STATUS] ++ inkRegs) x (x.outCounts m r) :=
  (((RegsOnly.wr _ _ _).mono (by decide)).trans ((RegsOnly.wr _ _ _).mono (by decide))).trans (.ite _ ((RegsOnly.raise _ _ _).mono (by decide)) (.refl _ _))

/-- The event `e` has executed in sample `n`. -/
def executed (e : NibEvent) (n : Nat) (x : DieState) : DieState := (((x.at (x.sampleAt n)).endEvent e).nibCount 1 1).life (20 + x.die.num) 1

theorem OnlyIn.executed (e : NibEvent) (n : Nat) : OnlyIn [.nib, .regs, .ink] x (executed e n x) :=
  (((OnlyIn.at [.nib, .regs, .ink] x _).trans ((OnlyIn.endEvent _ e).mono (by decide))).trans ((OnlyIn.nibCount _ _ _).mono (by decide))).trans ((OnlyIn.life _ _ _).mono (by decide))

theorem executed_regs (e : NibEvent) (n : Nat) : RegsOnly [rNIB_CNT + 4] x (executed e n x) := RegsOnly.count (x.endEvent e) _ _

theorem executed_count (e : NibEvent) (n : Nat) : (executed e n x).rd (rNIB_CNT + 4) = min 0xFFFFFFFF (x.rd (rNIB_CNT + 4) + 1) :=
  DieState.rd_count_same (x.endEvent e) _ _

end

/-- An armed event that is ripe executes. -/
theorem actionExecute_ripe {w : Whole} {d : Die} {lane part rule n : Nat} {e : NibEvent} (he : (w.die d).event? lane part rule = some e)
    (hr : (w.die d).ripe e n = true) : actionExecute d lane part rule n w =
      (w.onDie d (executed e n)).command d ((w.die d).rule rule).target ((w.die d).sampleAt n) (((w.die d).rule rule).action, ((w.die d).rule rule).width) := by
  simp only [actionExecute, he, hr, Bool.not_true, Bool.false_eq_true, if_false]
  rfl

/-- The execution leaves the output's owner. -/
theorem executed_owner {w : Whole} {d : Die} (e : NibEvent) (n k : Nat) : (w.onDie d (executed e n)).owner k = w.owner k := by
  refine (owner_congr (w := w) (v := w.onDie d (executed e n)) (fun c => ?_) (congrArg (fun m : ModState => m.field.taken) (Whole.onDie_mod w d _)) fun c => ?_).1
  · rw [onDie_cases]
    split
    · exact (OnlyIn.executed _ e n).2 .paired (by decide)
    · rfl
  · rw [onDie_cases]
    split
    · exact executed_regs _ e n _ (by simp only [List.mem_singleton, rNIB_OUT_CFG, rNIB_CNT]; omega)
    · rfl

/-- Output `k` takes the state `r.1`, and its owner `d` counts `r.2` for it. -/
def driven (w : Whole) (d : Die) (k : Nat) (r : OutSt × Int × Int) : Whole :=
  (w.onField (fun f => { f with outs := tset f.outs k r.1 })).onDie d (fun x => x.outCounts r.2.1 r.2.2)

section
variable (w : Whole) (d : Die) (k : Nat) (r : OutSt × Int × Int)

theorem driven_die : (driven w d k r).die d = ((w.die d).sync w.now).outCounts r.2.1 r.2.2 := by
  rw [driven, Whole.onDie_die, Whole.onField_die]
  rfl

theorem driven_mod : (driven w d k r).mod = { w.mod with field := { w.mod.field with outs := tset w.mod.field.outs k r.1 } } := Whole.onDie_mod _ _ _

theorem driven_out : (driven w d k r).mod.field.out k = r.1 := by
  rw [driven_mod]
  exact tget_tset_same _ _ _ _

theorem driven_stores : (driven w d k r).stores = w.stores := Whole.onDie_stores _ _ _

/-- The owner's command acts on the output. -/
theorem command_owned {w : Whole} {d : Die} {k t : Nat} {a : OutAct} (ho : w.owner k = d) : w.command d k t a = driven w d k ((w.mod.field.out k).act t a) := if_pos ho

end

/-- What the execution of event `e` on output `k`, which die `d` owns and which is off with no edge held or had, leads to. -/
structure Fired (w v : Whole) (d : Die) (e : NibEvent) (n k t : Nat) (a : OutAct) : Prop where
  die : ∃ u m r, v.die d = ((executed e n ((w.die d).sync w.now)).sync u).outCounts m r
  level : (v.mod.field.out k).level = decide (a.1 ≠ 1)
  pend : a.1 = 2 → (v.mod.field.out k).pend = some (t + 1000 * a.2)
  mod : { v.mod with field := w.mod.field } = w.mod
  stores : v.stores = w.stores

theorem command_fired {w : Whole} {d : Die} (e : NibEvent) (n : Nat) {k t : Nat} {a : OutAct} (ho : w.owner k = d) (hout : w.mod.field.out k = default) :
    Fired w ((w.onDie d (executed e n)).command d k t a) d e n k t a := by
  obtain ⟨hlevel, hpend⟩ := act_first t a
  rw [command_owned ((executed_owner e n k).trans ho), Whole.onDie_mod, hout]
  refine ⟨⟨_, _, _, (driven_die _ d k _).trans (by rw [Whole.onDie_die])⟩, ?_, ?_, ?_, ?_⟩
  · rw [driven_out]; exact hlevel
  · rw [driven_out]; exact hpend
  · rw [driven_mod, Whole.onDie_mod]
  · rw [driven_stores, Whole.onDie_stores]

/-! ### A command of one die that stores nothing -/

theorem onDM_die {s : State} {d : Die} (f : Nat → DM → DM) : (s.onDM d f).dieOf d = (f s.free ⟨s.here d, s.mem, []⟩).d := State.onDieMem_dieOf _ _ _

theorem frame_of_onDM {s : State} {d : Die} {us : List DiePart} {f : Nat → DM → DM} (h : OnlyIn us (s.here d) (f s.free ⟨s.here d, s.mem, []⟩).d)
    (hst : (f s.free ⟨s.here d, s.mem, []⟩).stores = []) : Frame d us s (s.onDM d f) where
  other := State.onDieMem_other _ _ _
  mod := State.onDieMem_mod _ _ _
  mem := (State.onDieMem_mem _ _ _).trans (congrArg (memApply s.mem) hst)
  pending := State.onDieMem_pending _ _ _
  time := by rw [State.onDM, State.onDieMem_now]; exact Nat.le_max_left _ _
  die := by rw [onDM_die]; exact (OnlyIn.sync _ _ _).trans h

/-- Decisions that leave the Comparator's record give no feature vector. -/
theorem deciding_none {full : Bool} {f : DieState → DieState} {x : DM} (h : (f x.d).chk = x.d.chk) : DM.deciding full f x = x.onD f := by
  have hn : (x.onD f).d.chk.decs.drop x.d.chk.decs.length = [] := by
    show (f x.d).chk.decs.drop x.d.chk.decs.length = []
    rw [h, List.drop_length]
  rw [DM.deciding, hn]
  rfl

/-- NIB_COMMIT_EVALUATE, where it leads the die to `y` and leaves the Comparator. -/
theorem commit_frame {s : State} {d : Die} {full : Bool} {y : DieState} (hx : nibEvaluate (s.here d) = y) (h : OnlyIn [.nib, .regs] (s.here d) y) :
    (s.onDM d fun _ => DM.deciding full nibEvaluate).dieOf d = y ∧ Frame d [.nib, .regs] s (s.onDM d fun _ => DM.deciding full nibEvaluate) := by
  have hdm : DM.deciding full nibEvaluate ⟨s.here d, s.mem, []⟩ = ⟨y, s.mem, []⟩ := by
    rw [deciding_none (by rw [hx]; exact h.2 .chk (by decide)), DM.onD, hx]
  exact ⟨by rw [onDM_die, hdm], frame_of_onDM (by rw [hdm]; exact h) (by rw [hdm])⟩

/-- An event in FIRE is armed in a sample in which its fire position is not yet reached. -/
theorem actionArm_early {x : DieState} {lane part rule n : Nat} {e : NibEvent} (he : x.event? lane part rule = some e) (hst : e.state = .fire)
    (hp : x.p256 (x.laneChan lane) n < e.f256) : actionArm lane part rule n x = (x.at (x.sampleAt n)).modEvent e (fun y => { y with state := .armed }) := by
  have hn : ¬e.f256 ≤ ((x.at (x.sampleAt n)).modEvent e (fun y => { y with state := .armed })).p256 (x.laneChan lane) n := Int.not_le.2 hp
  simp only [actionArm, he, hst, ne_eq, not_true_eq_false, if_false]
  exact if_neg hn

/-- ACTION_EXECUTE of a ripe event on an output that its die owns and that is off with no edge held or had. -/
theorem actionExecute_fired {s : State} {d : Die} {lane part rule n : Nat} {e : NibEvent} (he : (s.dieOf d).event? lane part rule = some e) (hr : (s.here d).ripe e n = true)
    (ho : s.whole.owner ((s.dieOf d).rule rule).target = d) (hout : s.mod.field.out ((s.dieOf d).rule rule).target = default) :
    Fired s.whole (actionExecute d lane part rule n s.whole) d e n ((s.dieOf d).rule rule).target ((s.here d).sampleAt n)
      (((s.dieOf d).rule rule).action, ((s.dieOf d).rule rule).width) := by
  have hw : s.whole.die d = s.here d := State.whole_die s d
  rw [actionExecute_ripe (by rw [hw]; exact he) (by rw [hw]; exact hr), hw]
  exact command_fired (w := s.whole) e n ho hout

/-- Settles O21: the only event evaluated on its final verdict, one that is armed, and one that executes. -/
theorem nibCommitsArmsAndExecutes : Obligations.NibCommitsArmsAndExecutes := by
  refine ⟨fun s d full e g v cls hd hl hg hev hst hf hv hr => ?_, fun s d lane part rule n e he hst hp => ?_, fun s d lane part rule n e he hr ho hout => ?_⟩
  · intro y lead margin hy hp
    have hx : nibEvaluate (s.here d) = decided (s.here d) e v cls lead :=
      nibEvaluate_one hd hl hg hev (evaluate_decided hev hst hf hv hr hy hp)
    obtain ⟨hdie, hframe⟩ := commit_frame (full := full) hx (.decided _ _ _ _ _)
    refine ⟨_, rfl, hframe, fun hfire => ?_, fun hfire => ?_⟩
    · have hyes : decided (s.here d) e v cls lead = (s.here d).modEvent e (fun y => { y with state := .fire, f256 := e.t256 - lead }) := if_pos hfire
      rw [hdie, hyes, modEvent_one (s.here d) _ _ hev]
    · have hno : decided (s.here d) e v cls lead = ((s.here d).nibCount 2 1).endEvent e := if_neg (by rw [Bool.not_eq_true]; exact hfire)
      rw [hdie, hno]
      exact ⟨endEvent_one _ _ hev, DieState.rd_count_same _ _ _⟩
  · have ha := actionArm_early (x := s.here d) he hst hp
    refine ⟨_, rfl, frame_of_here ?_, ?_⟩
    · rw [ha]
      exact (OnlyIn.at _ _ _).trans (.modEvent _ _ _)
    · rw [State.onDie_dieOf]
      show ∀ y ∈ (actionArm lane.val part.toNat rule.val n.toNat (s.here d)).nib.events, _
      rw [ha]
      exact modEvent_state _ e _ (· = .armed) fun _ => rfl
  · obtain ⟨⟨u, m, r, hdie⟩, hlevel, hpend, hmod, hstores⟩ := actionExecute_fired he hr ho hout
    have hd : (s.onWhole (actionExecute d lane.val part.toNat rule.val n.toNat)).dieOf d = ((executed e n.toNat (s.here d)).sync u).outCounts m r := by
      rw [onWhole_dieOf, hdie, State.whole_die]
      rfl
    refine ⟨_, rfl, ?_, ?_, hlevel, hpend, ?_, hmod⟩
    · rw [hd, (OnlyIn.outCounts _ m r).2 .nib (by decide)]
      exact endEvent_gone _ e
    · rw [hd, outCounts_regs _ m r _ (by decide)]
      exact executed_count (s.here d) e n.toNat
    · rw [State.onWhole_mem, hstores]
      rfl

end Sys2Proof

/-! SUPPORT. The Comparator's pass over a memory that lists an address twice: the counterexample to O19. -/

namespace Sys2Proof
open Machine

/-- A part that the primary path passes and on which the Checker agrees. -/
def passedPart : Part := { (default : Part) with retired := some 0, checker := some 0 }

/-- Die A in RUN with that part; the Drift Adapter's ring is the one byte at DRAM address 0, which holds 1. The memory lists a byte 7 for that
address behind the first entry, where no read finds it. -/
def passIntoRing : State :=
  { State.reset with
    a := { DieState.reset .a with
      held := none, dev := .run
      ptk := { (DieState.reset .a).ptk with parts := [passedPart], ring := some (0, 1, 1) } }
    mem := [((Space.dram .a).base, 1), (0, 7)] }

/-- The vector's byte 0 takes the first entry away, and the one behind it shows. -/
theorem byteZero_after_pass (t : State) (h : exec (.comparatorDecide .a false []) passIntoRing = .next t) : memGet t.mem 0 = 7 := by
  obtain rfl := Host.Outcome.next.inj h
  rfl

/-- Refutes O19: no hypothesis keeps the memory from listing an address twice, and with such a memory the store of the feature vector's byte 0 (a
store of 0 removes an entry) uncovers an older byte at an address outside the ring's place. -/
theorem not_comparatorDecidesParts : ¬ Obligations.ComparatorDecidesParts := by
  unfold Obligations.ComparatorDecidesParts
  intro h
  obtain ⟨t, ht, hframe, -⟩ := h passIntoRing .a false passedPart rfl rfl rfl
  have hkept : memGet t.mem 0 = 0 := by
    refine hframe.mem 0 fun _ _ r hr c hc => ?_
    obtain rfl := Option.some.inj hr
    revert c
    decide
  rw [byteZero_after_pass t ht] at hkept
  exact absurd hkept (by decide)

end Sys2Proof

/-! SUPPORT. A line of a port beyond the ports, whose LINE register is a context change's: the counterexample to O15. -/

namespace Sys2Proof
open Machine

/-- A port number whose LINE register is CTX_CHG. -/
def beyondPorts : Nat := (rCTX_CHG - rCXP_LINE) / 4

/-- A line of that port alone. -/
def farLine : FLine := { (default : FLine) with ports := [{ (default : PortLine) with port := beyondPorts }] }

/-- Die A steps in RUN and has that line; a striped lane reads its group, and CTX_CHG reads as a LINE register that asks for 256 samples. The
line's arrival begins the drain of the context change, which CTX_CHG then shows. -/
def changeAtLine : State :=
  { State.reset with
    a := { DieState.reset .a with
      held := none, dev := .run, seq := { (DieState.reset .a).seq with on := true, step := 2 }
      regs := [(rRGN_GRP, 0x80010000), (rCTX_CHG, 0x100)]
      ptk := { (DieState.reset .a).ptk with cfg := [(0, { (default : LaneCfg) with ports := 1, striped := true })] }
      cxp := { (DieState.reset .a).cxp with arrived := [farLine] }
      ipp := { (DieState.reset .a).ipp with imgs := [(beyondPorts, { (default : PortImg) with sens := 1 })] } } }

/-- Of each port of a line, whether it has no sample beyond the first 256. -/
def fits256 (l : FLine) : List Bool := l.ports.map (fun q => (q.line.px.drop 256).isEmpty)

/-- The line that waits for its entry is wider than 256 samples. -/
theorem lineServed_after_change (t : State) (h : exec (.lineAdmission .a 0 0) changeAtLine = .next t) :
    (t.dieOf .a).ipp.toServe.map (fun x => fits256 x.1) = [[false]] := by
  obtain rfl := Host.Outcome.next.inj h
  rfl

/-- Widened as the die stood before the command, it is not. -/
theorem fits256_widen : fits256 ((changeAtLine.dieOf .a).widen 0 farLine) = [true] := rfl

/-- Refutes O15: the port numbers of a line are not bounded, so the register from which a line is widened can be CTX_CHG, and the command changes
that one before it widens the line. -/
theorem not_lineAdmission : ¬ Obligations.LineAdmission := by
  unfold Obligations.LineAdmission
  rintro ⟨h, -⟩
  obtain ⟨t, sers, ht, -, hserve, -⟩ := h changeAtLine .a 0 farLine rfl rfl (by decide)
  have hl : [[false]] = [fits256 ((changeAtLine.dieOf .a).widen 0 farLine)] := by
    rw [← lineServed_after_change t ht, hserve]
    rfl
  rw [fits256_widen] at hl
  exact absurd hl (by decide)

end Sys2Proof

/-! SUPPORT. What the operations of a step boundary and of the release of step 0 change on a die, one lemma per operation. -/

namespace Sys2Proof
open Machine

section
variable (x : DieState)

theorem OnlyIn.stm (k : Stm) : OnlyIn [.stm] x { x with stm := k } := ⟨rfl, fun q hq => by cases q <;> simp_all [DiePart.Same]⟩
theorem OnlyIn.ipp (k : Ipp) : OnlyIn [.ipp] x { x with ipp := k } := ⟨rfl, fun q hq => by cases q <;> simp_all [DiePart.Same]⟩

/-! ### Registers -/

theorem OnlyIn.zeroRegs (off n : Nat) : OnlyIn [.regs] x (x.zeroRegs off n) := .foldl _ (fun y _ => .wr y _ _) _ _

theorem OnlyIn.wrS64 (off : Nat) (v : Int) : OnlyIn [.regs] x (x.wrS64 off v) := .wr64 x _ _

theorem OnlyIn.zeroCounts : OnlyIn [.regs] x x.zeroCounts := by
  unfold DieState.zeroCounts
  dsimp only
  refine .trans ?_ (.foldl _ (fun y n => .setFld y _ _ _ _) _ _)
  refine .trans (.trans ?_ (.zeroRegs _ _ _)) (.setFld _ _ _ _ _)
  iterate 3 refine .trans ?_ (.wr _ _ _)
  refine .trans (.trans ?_ (.wr _ _ _)) (.zeroRegs _ _ _)
  iterate 2 refine .trans ?_ (.foldl _ (fun y n => .setFld y _ _ _ _) _ _)
  iterate 2 refine .trans ?_ (.zeroRegs _ _ _)
  refine .trans (.trans ?_ (.wr _ _ _)) (.zeroRegs _ _ _)
  refine .trans (.trans ?_ (.zeroRegs _ _ _)) (.setFld _ _ _ _ _)
  iterate 4 refine .trans ?_ (.wr _ _ _)
  iterate 4 refine .trans ?_ (.zeroRegs _ _ _)
  refine .trans ?_ (.foldl _ (fun y p => (OnlyIn.setFld y _ _ _ _).trans (.setFld _ _ _ _ _)) _ _)
  exact ((OnlyIn.zeroRegs _ _ _).trans (.zeroRegs _ _ _)).trans (.zeroRegs _ _ _)

theorem OnlyIn.modeStart : OnlyIn [.stm, .regs] x x.modeStart := by
  unfold DieState.modeStart
  dsimp only
  refine .trans ?_ (.ite _ ?_ (.refl _ _))
  · exact ((OnlyIn.stm x _).mono (by decide)).trans ((OnlyIn.setFlag _ _ _ _).mono (by decide))
  · exact ((OnlyIn.setFld _ _ _ _ _).trans (.setFld _ _ _ _ _)).mono (by decide)

theorem OnlyIn.poolStart : OnlyIn [.regs] x x.poolStart :=
  (OnlyIn.setFld x _ _ _ _).trans (.foldl _ (fun y _ => (OnlyIn.setFld y _ _ _ _).trans (.setFld _ _ _ _ _)) _ _)

/-! ### Contexts (R229, R235) -/

theorem OnlyIn.useLst (k : Nat) : OnlyIn [.ipp, .regs] x (x.useLst k) :=
  ((OnlyIn.ipp x _).mono (by decide)).trans ((OnlyIn.wr _ _ _).mono (by decide))

theorem OnlyIn.setAx (n st : Nat) : OnlyIn [.regs] x (x.setAx n st) := .setFld x _ _ _ _

theorem OnlyIn.enqueue (n : Nat) : OnlyIn [.regs, .ink, .ctx] x (x.enqueue n) :=
  .ite _ (((OnlyIn.setAx x _ _).mono (by decide)).trans ((OnlyIn.raise _ _ _).mono (by decide)))
    (((OnlyIn.setAx x _ _).mono (by decide)).trans ((OnlyIn.ctx _ _).mono (by decide)))

theorem OnlyIn.auxStart : OnlyIn [.regs, .ink, .ctx] x x.auxStart :=
  .foldl _ (fun y n => .ite _ (((OnlyIn.setAx y n axOff).mono (by decide)).trans (.enqueue _ _)) ((OnlyIn.setAx y _ _).mono (by decide))) _ _

theorem OnlyIn.switchBytes (b : Nat) : OnlyIn [.ctx] x (x.switchBytes b) := .ctx x _

theorem OnlyIn.placeWalk (fuel : Nat) : OnlyIn [.regs, .ctx] x (placeWalk fuel x) := by
  induction fuel generalizing x with
  | zero => exact .refl _ _
  | succ k ih =>
    unfold Machine.placeWalk
    split
    · exact .refl _ _
    · split
      · exact .refl _ _
      · refine .trans ?_ (ih _)
        refine .trans (.trans ?_ ((OnlyIn.ctx _ _).mono (by decide))) ((OnlyIn.switchBytes _ _).mono (by decide))
        refine .trans (.trans ?_ ((OnlyIn.setAx _ _ _).mono (by decide))) ((OnlyIn.setFld _ _ _ _ _).mono (by decide))
        exact (OnlyIn.ctx x _).mono (by decide)

theorem OnlyIn.contextPlace : OnlyIn [.regs, .ctx] x (contextPlace x) := .ite _ (.placeWalk x _) (.refl _ _)

/-! ### The Position Timebase (R295, R297, R302, R307) -/

theorem OnlyIn.setChan (c : Nat) (h : Chan) : OnlyIn [.pos] x (x.setChan c h) := .pos x _

theorem OnlyIn.preset (c : Nat) : OnlyIn [.pos] x (x.preset c) := .ite _ (.refl _ _) (.setChan x _ _)

theorem OnlyIn.capture (k n step cycle : Nat) : OnlyIn [.pos, .regs, .ink] x (x.capture k n step cycle) := by
  unfold DieState.capture
  refine .ite _ ((OnlyIn.raise _ _ _).mono (by decide)) ?_
  dsimp only
  refine .trans ?_ ((OnlyIn.raise _ _ _).mono (by decide))
  iterate 2 refine .trans ?_ ((OnlyIn.setFld _ _ _ _ _).mono (by decide))
  iterate 2 refine .trans ?_ ((OnlyIn.wr64 _ _ _).mono (by decide))
  refine .trans ?_ ((OnlyIn.wrS64 _ _ _).mono (by decide))
  exact (OnlyIn.pos x _).mono (by decide)

theorem OnlyIn.posBoundary (n : Nat) : OnlyIn [.pos, .regs, .ink] x (posBoundary n x) := by
  unfold Machine.posBoundary
  refine .trans (.trans (.foldl (us := [.pos, .regs, .ink]) _ (fun y c => ?_) _ _) (.foldl (us := [.pos, .regs, .ink]) _ (fun y k => .capture y k n _ 0) _ _))
    ((OnlyIn.pos _ _).mono (by decide))
  exact ((OnlyIn.setChan y _ _).mono (by decide)).trans ((OnlyIn.wr _ _ _).mono (by decide))

/-! ### Camera lines -/

theorem OnlyIn.setPort (p : Nat) (y : Port) : OnlyIn [.cxp] x (x.setPort p y) := .cxp x _

theorem OnlyIn.portStart (p : Nat) : OnlyIn [.cxp, .regs, .ink, .qll] x (x.portStart p) := by
  unfold DieState.portStart
  refine .trans (.ite _ ?_ (.refl _ _)) ((OnlyIn.setPort _ _ _).mono (by decide))
  exact ((OnlyIn.setFld _ _ _ _ _).mono (by decide)).trans ((OnlyIn.uswEvent _ _ _ _).mono (by decide))

theorem OnlyIn.setGroup (g : Nat) (y : Group) : OnlyIn [.cxp] x (x.setGroup g y) := .cxp x _

theorem OnlyIn.linesStart : OnlyIn [.pos, .cxp, .regs, .ink, .qll] x x.linesStart := by
  unfold DieState.linesStart
  dsimp only
  refine .trans ?_ (.foldl _ (fun y p => (OnlyIn.portStart y p).mono (by decide)) _ _)
  refine .trans ?_ (.foldl _ (fun y g => (OnlyIn.setGroup y g _).mono (by decide)) _ _)
  exact .foldl _ (fun y c => (OnlyIn.preset y c).mono (by decide)) _ _

/-! ### The seal (R64, R375) -/

theorem OnlyIn.netChk (n : Net) (c : Chk) : OnlyIn [.net, .chk] x { x with net := n, chk := c } := ⟨rfl, fun q hq => by cases q <;> simp_all [DiePart.Same]⟩

theorem OnlyIn.lateSamples (l : List SampleIn) : OnlyIn [.net, .chk] x (x.lateSamples l) := .foldl _ (fun y _ => .ite _ (.refl _ _) (.netChk y _ _)) _ _

theorem OnlyIn.packFrames (fuel frag : Nat) (h : SetHead) (ss : List SRec) (vs : List VRec) (l : Nat → Nat) (acc : List Packed) :
    OnlyIn [.net] x (packFrames fuel frag h ss vs l x acc).1 := by
  obtain ⟨m, hm⟩ := packFrames_net x fuel frag h ss vs l acc
  rw [hm]
  exact .net x m

theorem OnlyIn.queueSet (kind base gap : Nat) (now : Bool) (ps : List Packed) : OnlyIn [.net] x (x.queueSet kind base gap now ps) := .net x _

theorem OnlyIn.sealFrame (pub : Bool) (late : List SampleIn) : OnlyIn [.net, .chk, .regs] x (x.sealFrame pub late) := by
  unfold DieState.sealFrame
  dsimp only
  refine .trans ?_ (.ite _ ((OnlyIn.queueSet _ _ _ _ _ _).mono (by decide)) (.refl _ _))
  refine .trans ?_ ((OnlyIn.count _ _ _).mono (by decide))
  refine .trans ?_ ((OnlyIn.net _ _).mono (by decide))
  refine .trans ?_ ((OnlyIn.packFrames _ _ _ _ _ _ _ _).mono (by decide))
  exact ((OnlyIn.lateSamples x late).mono (by decide)).trans ((OnlyIn.net _ _).mono (by decide))

theorem OnlyIn.sealHere (pub : Bool) (late : List SampleIn) : OnlyIn [.net, .chk, .regs] x (x.sealHere pub late) := .ite _ (.sealFrame x _ _) (.refl _ _)

end

/-! ### The start of the inspection programs (R166, R216) -/

/-- From `x` to `y` a die starts programs: tiles, words, barriers, registers and the Stem's content change, no sync operation does. -/
structure Starts (x y : DieState) : Prop where
  only : OnlyIn [.regs, .syn, .tar, .stm] x y
  ops : y.syn.ops = x.syn.ops

theorem Starts.refl (x : DieState) : Starts x x := ⟨.refl _ _, rfl⟩

theorem Starts.trans {x y z : DieState} (h : Starts x y) (k : Starts y z) : Starts x z := ⟨h.only.trans k.only, k.ops.trans h.ops⟩

theorem Starts.of_only {x y : DieState} (h : OnlyIn [.regs, .tar, .stm] x y) : Starts x y := ⟨h.mono (by decide), congrArg Syn.ops (h.2 .syn (by decide))⟩

theorem Starts.foldl {A : Type} (f : DieState → A → DieState) (h : ∀ x a, Starts x (f x a)) (l : List A) (x : DieState) : Starts x (l.foldl f x) := by
  induction l generalizing x with
  | nil => exact .refl _
  | cons a l ih => exact (h x a).trans (ih _)

theorem Starts.foldlDM {A : Type} (f : DM → A → DM) (h : ∀ x a, Starts x.d (f x a).d) (l : List A) (x : DM) : Starts x.d (l.foldl f x).d := by
  induction l generalizing x with
  | nil => exact .refl _
  | cons a l ih => exact (h x a).trans (ih _)

section
variable (x : DieState) (y : DM)

theorem Starts.setBar (n : Nat) (b : Bar) : Starts x (x.setBar n b) := ⟨(setBar_only x n b).mono (by decide), rfl⟩

theorem Starts.setSlot (p : Nat) (t : TileSlot) : Starts x (x.setSlot p t) := .of_only ((setSlot_only x p t).mono (by decide))

theorem Starts.wr (off v : Nat) : Starts x (x.wr off v) := .of_only ((OnlyIn.wr x off v).mono (by decide))

theorem Starts.setWord (p i st : Nat) : Starts x (x.setWord p i st) :=
  (Starts.mk (y := { x with syn := { x.syn with words := wordsSet x.syn.words (256 * p + i) st } }) ((OnlyIn.syn x _).mono (by decide)) rfl).trans
    (.of_only ((mirrorWord_only _ _ _ _ _).mono (by decide)))

theorem Starts.storeSram (ws : List Host.Cell) : Starts y.d (y.storeSram ws).d := .of_only ((mirrorSram_only y.d _ ws).mono (by decide))

theorem Starts.setWordData (p i st v : Nat) : Starts y.d (y.setWordData p i st v).d :=
  (Starts.setWord y.d p i st).trans (.of_only ((mirrorSram_only _ _ _).mono (by decide)))

theorem Starts.initObjects (c : Nat) : Starts y.d (initObjects c y).d := by
  unfold Machine.initObjects
  refine .trans (.trans (Starts.foldlDM _ (fun z w => ?_) _ _) (Starts.foldlDM _ (fun z r => ?_) _ _)) (Starts.foldl _ (fun z n => ?_) _ _)
  · exact (Starts.setWord z.d _ w.2 0).trans (Starts.storeSram (z.onD fun d => d.setWord _ w.2 0) _)
  · dsimp only
    split
    · exact (Starts.setWordData _ _ _ _ _).trans (.setWordData _ _ _ _ _)
    · split
      · exact .setWordData _ _ _ _ _
      · exact .refl _
  · exact (Starts.of_only (((OnlyIn.setFld z _ _ _ _).trans (.setFlag _ _ _ _)).mono (by decide))).trans (.setBar _ _ _)

theorem Starts.loadProgram (g : Prog) (p : Nat) : Starts y.d (loadProgram g p y).d := (Starts.storeSram y _).trans (.storeSram _ _)

theorem mirrorStem_only (now : Nat) (ws : List Host.Cell) : OnlyIn [.stm] x (x.mirrorStem now ws) := .stm x _

theorem Starts.loadStem (k : Nat) : Starts y.d (loadStem k y).d := by
  unfold Machine.loadStem
  split
  · exact .refl _
  · split
    · exact .refl _
    · refine Starts.foldlDM _ (fun z vl => ?_) _ _
      exact .of_only ((mirrorStem_only z.d _ _).mono (by decide))

theorem Starts.startInspection (k : Nat) : Starts y.d (startInspection k y).d :=
  (Starts.loadStem y k).trans (Starts.foldlDM _ (fun z g => (Starts.loadProgram z g _).trans (.setSlot _ _ _)) _ _)

theorem Starts.installSet (k : Nat) : Starts x (x.installSet k) := by
  have htable (z : DieState) (f : Nat → Nat) (g : Nat → Nat) (l : List Nat) : Starts z (l.foldl (fun d s => d.wr (f s) (g s)) z) := .foldl _ (fun d s => .wr d _ _) _ _
  unfold DieState.installSet
  extract_lets y
  have hy : Starts x y := by
    unfold y
    split
    · exact .refl _
    · exact htable _ _ _ _
  split
  · exact hy
  · refine hy.trans (.trans (Starts.foldl _ (fun d n => (Starts.wr d _ _).trans (.setBar _ _ _)) _ _) (Starts.foldl _ (fun d b => ?_) _ _))
    exact (Starts.wr d _ _).trans (htable _ _ _ _)

theorem Starts.startSet : Starts y.d (startSet y).d :=
  ((Starts.installSet y.d _).trans (.initObjects (y.onD fun d => d.installSet _) _)).trans (.startInspection _ _)

end

end Sys2Proof

/-! SUPPORT. The release of step 0 (R40, R58, R396), and the statement on it. -/

namespace Sys2Proof
open Machine

/-! ### Step 0 on a die -/

/-- What the beginning of step 0 changes on a die besides what `newRun` clears. -/
def releaseParts : List DiePart := [.dev, .rejoin, .regs, .ink, .stm, .ipp, .ctx, .syn, .tar, .pos, .cxp, .qll, .twl, .net, .chk]

theorem newRun_seq (x : DieState) : x.newRun.seq = { (default : Seq) with on := true, stepAt := x.clk } := rfl
theorem newRun_parts (x : DieState) : x.newRun.ptk.parts = [] := rfl
theorem newRun_events (x : DieState) : x.newRun.nib.events = [] := rfl
theorem newRun_ops (x : DieState) : x.newRun.syn.ops = [] := rfl

/-- The first part of step 0, up to the auxiliary contexts. -/
def toRun (x : DieState) : DieState :=
  let d := x.newRun.zeroCounts.modeStart.poolStart
  let d := { d.setDev .run with rejoin := false }
  let d := d.useLst (d.setOf 0)
  (d.life (4 + d.die.num) 1).auxStart

theorem OnlyIn.rejoin (x : DieState) (v : Bool) : OnlyIn [.rejoin] x { x with rejoin := v } := ⟨rfl, fun q hq => by cases q <;> simp_all [DiePart.Same]⟩

theorem toRun_only (x : DieState) : OnlyIn [.dev, .rejoin, .regs, .ink, .stm, .ipp, .ctx] x.newRun (toRun x) := by
  unfold toRun
  dsimp only
  refine .trans (.trans (.trans ?_ ((OnlyIn.useLst _ _).mono (by decide))) ((OnlyIn.life _ _ _).mono (by decide))) ((OnlyIn.auxStart _).mono (by decide))
  refine .trans (.trans ?_ ((OnlyIn.setDev _ _).mono (by decide))) ((OnlyIn.rejoin _ _).mono (by decide))
  exact (((OnlyIn.zeroCounts _).mono (by decide)).trans ((OnlyIn.modeStart _).mono (by decide))).trans ((OnlyIn.poolStart _).mono (by decide))

theorem toRun_dev (x : DieState) : (toRun x).dev = .run := by
  let y : DieState := { x.newRun.zeroCounts.modeStart.poolStart.setDev .run with rejoin := false }
  have hy : y.dev = .run := setDev_dev x.newRun.zeroCounts.modeStart.poolStart .run
  have h : OnlyIn [.ipp, .regs, .ink, .ctx] y (toRun x) :=
    (((OnlyIn.useLst y _).mono (by decide)).trans ((OnlyIn.life _ _ _).mono (by decide))).trans ((OnlyIn.auxStart _).mono (by decide))
  exact (h.2 .dev (by decide)).trans hy

theorem snapped_only (x : DieState) (q : Qll) (t : Twl) : OnlyIn [.qll, .twl] x { x with qll := q, twl := t } := ⟨rfl, fun q hq => by cases q <;> simp_all [DiePart.Same]⟩

/-- From the start of the inspection programs on. -/
theorem startDie_after (pub : Bool) (x : DM) : OnlyIn [.pos, .cxp, .regs, .ink, .qll, .twl, .ctx, .net, .chk] (startSet (x.onD toRun)).d (startDie pub x).d := by
  unfold startDie
  refine .trans (.trans ?_ ((OnlyIn.contextPlace _).mono (by decide))) ((OnlyIn.sealHere _ _ _).mono (by decide))
  refine .trans ?_ ((snapped_only _ _ _).mono (by decide))
  exact ((OnlyIn.linesStart _).mono (by decide)).trans ((OnlyIn.posBoundary _ _).mono (by decide))

/-- A die begins step 0. -/
structure BeginsRun (x y : DieState) : Prop where
  only : OnlyIn releaseParts x.newRun y
  dev : y.dev = .run
  ops : y.syn.ops = []

theorem startDie_begins (pub : Bool) (x : DM) : BeginsRun x.d (startDie pub x).d := by
  have hset := Starts.startSet (x.onD toRun)
  have hlast := startDie_after pub x
  rw [DM.onD_d] at hset
  have hrun : OnlyIn releaseParts x.d.newRun (toRun x.d) := (toRun_only x.d).mono (by decide)
  have hset' : OnlyIn releaseParts (toRun x.d) (startSet (x.onD toRun)).d := hset.only.mono (by decide)
  refine ⟨(hrun.trans hset').trans (hlast.mono (by decide)), ?_, ?_⟩
  · rw [show DieState.dev _ = _ from hlast.2 .dev (by decide), show DieState.dev _ = _ from hset.only.2 .dev (by decide)]
    exact toRun_dev x.d
  · rw [show DieState.syn _ = _ from hlast.2 .syn (by decide), hset.ops]
    exact (congrArg Syn.ops ((toRun_only x.d).2 .syn (by decide))).trans (newRun_ops x.d)

/-! ### Requests -/

/-- No request waits: none acts. -/
theorem runReqs_none {w : Whole} {d : Die} (h : (w.die d).reqs = []) : w.runReqs d = w.onDie d id := by
  have he : w.onDie d (fun x => { x with reqs := x.reqs.filter (fun r => !decide (r.2.2 ≤ x.seq.step)) }) = w.onDie d id := by
    refine onDie_congr ?_
    have hr : ((w.die d).sync w.now).reqs = [] := h
    show ({ (w.die d).sync w.now with reqs := _ } : DieState) = (w.die d).sync w.now
    rw [hr]
    show ({ (w.die d).sync w.now with reqs := [] } : DieState) = (w.die d).sync w.now
    rw [← hr]
  rw [Whole.runReqs, he, h]
  rfl

/-! ### The module -/

/-- Die A alone is released at instant `t`. -/
def releaseA (t : Nat) (w : Whole) : Whole :=
  let w := w.at t
  let w := ((w.onDM .a (startDie (w.publishes .a))).latchInputs .a).reached .a
  w.onGrp (fun g => { g with arrived := false, addrs := [], release := none })

theorem startRelease_a {w : Whole} {t : Nat} (hr : w.mod.grp.release = some t) (ha : w.released .a = true) (hb : w.released .b = false) :
    startRelease w = (releaseA t w).runReqs .a := by
  have hf : ([Die.a, Die.b]).filter w.released = [.a] := by simp [ha, hb]
  simp only [startRelease, hr, hf]
  rfl

theorem startRelease_none {w : Whole} (hr : w.mod.grp.release = none) : startRelease w = w := by simp only [startRelease, hr]

theorem onDM_a (w : Whole) (f : DM → DM) : (w.onDM .a f).die .a = (f ⟨w.a.sync w.now, w.mem, []⟩).d := rfl

/-- The input frame of a boundary on its die. -/
theorem latchInputs_die (w : Whole) (d : Die) : ∃ f : List (Nat × Nat × Nat), (w.latchInputs d).die d = { (w.die d).sync w.now with nib := { (w.die d).nib with frames := f } } :=
  ⟨_, Whole.onDie_die _ _ _⟩

theorem releaseA_a (t : Nat) (w : Whole) : ∃ (x : DM) (pub : Bool) (f : List (Nat × Nat × Nat)) (u : Nat), x.d.reqs = w.a.reqs ∧
    (releaseA t w).a = { (startDie pub x).d.sync u with nib := { (startDie pub x).d.nib with frames := f } } := by
  let v := (w.at t).onDM .a (startDie ((w.at t).publishes .a))
  obtain ⟨f, hf⟩ := latchInputs_die v .a
  refine ⟨⟨w.a.sync (w.at t).now, w.mem, []⟩, (w.at t).publishes .a, f, v.now, rfl, ?_⟩
  show ((v.latchInputs .a).reached .a).die .a = _
  rw [reached_die, hf, onDM_a]
  rfl

theorem releaseA_grp (t : Nat) (w : Whole) : (releaseA t w).mod.grp.release = none ∧ (releaseA t w).mod.grp.arrived = false := ⟨rfl, rfl⟩

/-- Settles O10: die A alone is released, or the module has no release instant. -/
theorem stepZeroReleased : Obligations.StepZeroReleased := by
  refine ⟨fun s t hr ha hj hq hb => ?_, fun s hr => ⟨_, rfl, onWhole_unmoved (startRelease_none hr)⟩⟩
  have hra : s.whole.released .a = true := by
    show (s.a.atBarrier && (!s.a.rejoin || _)) = true
    rw [ha, hj]
    rfl
  have hrb : s.whole.released .b = false := by
    show (s.b.atBarrier && _) = false
    rw [hb]
    rfl
  obtain ⟨x, pub, f, u, hreqs, hx⟩ := releaseA_a t s.whole
  have h := startDie_begins pub x
  have hnone : ((releaseA t s.whole).die .a).reqs = [] := by
    show (releaseA t s.whole).a.reqs = []
    rw [hx]
    exact (h.only.2 .reqs (by decide)).trans (hreqs.trans hq)
  have hg : startRelease s.whole = (releaseA t s.whole).onDie .a id := by rw [startRelease_a hr hra hrb, runReqs_none hnone]
  have hta : (s.onWhole startRelease).a = (releaseA t s.whole).a.sync (releaseA t s.whole).now := by
    rw [State.onWhole_a, hg]
    rfl
  have hseq := (h.only.2 .seq (by decide)).trans (newRun_seq x.d)
  obtain ⟨hrelease, harrived⟩ := releaseA_grp t s.whole
  refine ⟨_, rfl, ?_⟩
  rw [hta, State.onWhole_mod, State.onWhole_b, hg, hx]
  refine ⟨h.dev, ?_, ?_, ?_, ?_, ?_, h.ops, hrelease, harrived, rfl, rfl⟩
  · show ((startDie pub x).d.dev == .run || _) = true
    rw [h.dev]
    rfl
  · exact congrArg Seq.step hseq
  · exact congrArg Seq.cycle hseq
  · exact (congrArg Ptk.parts (h.only.2 .ptk (by decide))).trans (newRun_parts x.d)
  · exact (congrArg Nib.events (h.only.2 .nib (by decide))).trans (newRun_events x.d)

end Sys2Proof

/-! SUPPORT. What leaves the step sequencer and the waiting requests of a die as they are: the relation, and what tiles do in cycles after their bundles issued (R97, R101 to R103, R111). -/

namespace Sys2Proof
open Machine

/-- From `x` to `y` the step sequencer and the waiting requests of a die stay. -/
structure Still (x y : DieState) : Prop where
  seq : y.seq = x.seq
  reqs : y.reqs = x.reqs

theorem Still.refl (x : DieState) : Still x x := ⟨rfl, rfl⟩

theorem Still.trans {x y z : DieState} (h : Still x y) (k : Still y z) : Still x z := ⟨k.seq.trans h.seq, k.reqs.trans h.reqs⟩

/-- A change of other parts leaves both. -/
theorem Still.of_only {us : List DiePart} {x y : DieState} (h : OnlyIn us x y) (hs : DiePart.seq ∉ us := by decide) (hr : DiePart.reqs ∉ us := by decide) : Still x y :=
  ⟨h.2 .seq hs, h.2 .reqs hr⟩

theorem Still.ite {x y z : DieState} (c : Prop) [Decidable c] (h : Still x y) (k : Still x z) : Still x (if c then y else z) := by split <;> assumption

theorem Still.when {x : DieState} (c : Bool) {f : DieState → DieState} (h : Still x (f x)) : Still x (x.when c f) := .ite _ h (.refl x)

theorem Still.foldl {A : Type} (f : DieState → A → DieState) (h : ∀ x a, Still x (f x a)) (l : List A) (x : DieState) : Still x (l.foldl f x) := by
  induction l generalizing x with
  | nil => exact .refl _
  | cons a l ih => exact (h x a).trans (ih _)

theorem Still.foldlDM {A : Type} (f : DM → A → DM) (h : ∀ x a, Still x.d (f x a).d) (l : List A) (x : DM) : Still x.d (l.foldl f x).d := by
  induction l generalizing x with
  | nil => exact .refl _
  | cons a l ih => exact (h x a).trans (ih _)

/-! ### Events and faults of tiles (R83, R111) -/

section
variable (x : DieState)

theorem Still.wr (off v : Nat) : Still x (x.wr off v) := ⟨rfl, rfl⟩
theorem Still.raise (off b : Nat) : Still x (x.raise off b) := .of_only (OnlyIn.raise x off b)
theorem Still.detect (k : Nat) : Still x (x.detect k) := .of_only (OnlyIn.detect x k)
theorem Still.setSlot (p : Nat) (s : TileSlot) : Still x (x.setSlot p s) := ⟨rfl, rfl⟩
theorem Still.mirrorSram (now : Nat) (ws : List Host.Cell) : Still x (x.mirrorSram now ws) := ⟨rfl, rfl⟩

theorem Still.numFlag (p b st : Nat) : Still x (x.numFlag p b st) := by
  unfold DieState.numFlag
  refine .trans ?_ (.raise _ _ _)
  split
  · exact ⟨rfl, rfl⟩
  · exact .refl x

theorem Still.takeEvent (e : TarEv) : Still x (x.takeEvent e) := by
  unfold DieState.takeEvent
  split
  · exact .numFlag _ _ _ _
  · exact .raise _ _ _

theorem Still.takeEvents (t : Nat) : Still x (x.takeEvents t) :=
  .trans (y := eventsLeft t x) ⟨rfl, rfl⟩ (.foldl _ .takeEvent _ _)

theorem Still.resetCtx (c : Nat) : Still x (x.resetCtx c) := .ite _ (.refl x) ⟨rfl, rfl⟩

theorem Still.faultNoted (p code pc : Nat) : Still x (faultNoted p code pc x) :=
  .ite _ (.refl x) (.trans (y := faultRegs p code pc x) ⟨rfl, rfl⟩ (.of_only (OnlyIn.raiseWith _ _ _ _ _)))

theorem Still.recordFault (p now code pc : Nat) : Still x (x.recordFault p now code pc) := by
  rw [recordFault_eq]
  refine .trans (.trans (Still.takeEvents x now) ?_) (.resetCtx _ _)
  exact .trans (y := ((x.takeEvents now).count rTAR_FAULT_COUNT 1).hist _ code) ⟨rfl, rfl⟩ (.faultNoted _ _ _ _)

theorem Still.withdraw (p born : Nat) : Still x (x.withdraw p born) := ⟨rfl, rfl⟩

theorem Still.faultTile (p now code : Nat) (s : TileSlot) : Still x (faultTile x p now code s).1 := by
  unfold Machine.faultTile
  refine .trans (.trans ?_ (.recordFault _ _ _ _ _)) (.mirrorSram _ _ _)
  exact ⟨rfl, rfl⟩

end

/-! ### Operations that may fault -/

/-- What an operation answers, if it does not fault, has the property `P`. -/
def Answers {A : Type} (P : A → Prop) (r : Except Nat A) : Prop := ∀ a, r = .ok a → P a

section
variable {A B : Type} {P : A → Prop} {Q : B → Prop}

theorem Answers.ok {a : A} (h : P a) : Answers P (.ok a : Except Nat A) := fun _ hb => Except.ok.inj hb ▸ h

theorem Answers.error (f : Nat) : Answers P (.error f : Except Nat A) := fun _ hb => nomatch hb

theorem Answers.bind {r : Except Nat A} {f : A → Except Nat B} (h : Answers P r) (k : ∀ a, P a → Answers Q (f a)) : Answers Q (r.bind f) := by
  cases r with
  | error => exact .error _
  | ok a => exact k a (h a rfl)

theorem Answers.ite {r t : Except Nat A} (c : Prop) [Decidable c] (h : Answers P r) (k : Answers P t) : Answers P (if c then r else t) := by split <;> assumption

end

/-! ### Tiles (R92 to R103) -/

/-- An environment on the die `x`, as far as its sequencer and requests go. -/
def TileStill (x : DieState) (e : TEnv) : Prop := Still x e.d

/-- The same of an answer that begins with an environment. -/
def TileStill₁ {A : Type} (x : DieState) (r : TEnv × A) : Prop := Still x r.1.d

section
variable {x : DieState} {e : TEnv} (h : Still x e.d)
include h

theorem Still.use (cycle a n : Nat) : Answers (TileStill x) (e.use cycle a n) := by
  unfold TEnv.use
  split
  · exact .ok h
  · exact .error _

theorem Still.read (k : Access) (cycle a n : Nat) : Answers (TileStill₁ x) (e.read k cycle a n) := by
  unfold TEnv.read
  refine .ite _ (.error _) ?_
  have hu := h.use cycle a n
  cases hr : e.use cycle a n with
  | error => exact .error _
  | ok f => exact .ok (hu f hr)

theorem Still.put (a : Nat) (bs : List Byte) : Still x (e.put a bs).d := h.trans ⟨rfl, rfl⟩

theorem Still.signed (k : Access) (cycle a : Nat) (bs : List Byte) : Still x (e.signed k cycle a bs).d := by
  unfold TEnv.signed
  split <;> exact h

theorem Still.write (k : Access) (cycle a : Nat) (bs : List Byte) : Answers (TileStill x) (e.write k cycle a bs) := by
  unfold TEnv.write
  refine .ite _ (.error _) ?_
  have hu := h.use cycle a bs.length
  cases hr : e.use cycle a bs.length with
  | error => exact .error _
  | ok f => exact .ok (((hu f hr).put a bs).signed k cycle a bs)

theorem Still.flags (born : Nat) (fs : List Nat) : Still x (e.flags born fs).d := by
  induction fs generalizing e with
  | nil => exact h
  | cons b fs ih => exact ih (e := e.event born (some b)) (h.trans ⟨rfl, rfl⟩)

theorem Still.withT_flags (t : Tile) (born : Nat) (fs : List Nat) : Still x ((e.withT t).flags born fs).d := Still.flags (e := e.withT t) h born fs

theorem Still.onRow (born r : Nat) (f : Row → Nat → Acc → Acc × List Nat) : Still x (e.onRow born r f).d := by
  unfold TEnv.onRow
  dsimp only
  split
  · exact h.withT_flags _ _ _
  · exact h

theorem Still.operandLine (af cycle a : Nat) (c : Wag) : Answers (TileStill₁ x) (operandLine af cycle a c e) := by
  refine (h.read .genA cycle a 32).bind fun r hr => .ite _ ?_ (.ok hr)
  exact (Still.read hr .genA cycle _ _).bind fun r hr => .ok hr

theorem Still.operandA (af cycle : Nat) : Answers (TileStill₁ x) (e.operandA af cycle) := by
  unfold TEnv.operandA
  cases e.t.genA.next with
  | error => exact .error _
  | ok g =>
    obtain ⟨g, c, a⟩ := g
    cases a with
    | none => exact .ok h
    | some a => exact Still.operandLine (e := e.withT { e.t with genA := g }) h af cycle a c

theorem Still.mmaRow (af bf : Nat) (k : AccKind) (clr : Bool) (r born : Nat) : Answers (TileStill x) (mmaRow af bf k clr r born e) :=
  (h.operandA af e.now).bind fun _ ha => .ite _ (.ok ha) (.ok (Still.withT_flags ha _ _ _))

theorem Still.wbAddress (odd : Bool) (shared : Option (Wag × Option Nat)) : Answers (TileStill₁ x) (wbAddress odd shared e) := by
  unfold Sys2Proof.wbAddress
  split
  · exact .ok h
  · cases e.t.genS.next with
    | error => exact .error _
    | ok g => exact .ok h

theorem Still.wbStart (o r i born : Nat) (shared : Option (Wag × Option Nat)) : Answers (TileStill₁ x) (wbStart o r i born shared e) := by
  unfold Machine.wbStart
  refine (Still.wbAddress (h.flags born _) _ shared).bind fun a ha => ?_
  obtain ⟨f, c, a⟩ := a
  cases a with
  | none => exact .ok ha
  | some a =>
    dsimp only
    split
    · exact .ok ha
    · exact (Still.write ha .genS _ _ _).bind fun _ hf => .ok hf

theorem Still.wbBegin (o : Nat) (j : Job) : Answers (TileStill₁ x) (wbBegin o j e) := by
  unfold Sys2Proof.wbBegin
  split
  · exact (h.wbStart _ _ _ _ _).bind fun _ ha => .ok ha
  · exact .ok h

theorem Still.finish (j : Job) : Still x (j.finish e).d := by
  unfold Job.finish
  split
  · exact h
  · exact h.onRow _ _ _
  · exact h.onRow _ _ _
  · exact h
  · split <;> exact h
  · exact h
  · exact h
  · exact h

theorem Still.act (j : Job) : Answers (TileStill₁ x) (j.act e) := by
  unfold Job.act
  split
  · exact (h.mmaRow _ _ _ _ _ _).bind fun _ ha => .ok ha
  · refine (h.wbBegin _ j).bind fun a ha => ?_
    obtain ⟨f, j⟩ := a
    dsimp only
    split
    · exact (Still.write ha .genS _ _ _).bind fun _ hf => .ok hf
    · exact .ok ha
  · split
    · exact .ok (h.put _ _)
    · exact .ok h
  · exact .ok h

theorem Still.actNoted (j : Job) : Answers (TileStill₁ x) (j.actNoted e) := by
  unfold Job.actNoted
  have ha := Still.act (e := { e with slot := { e.slot with undo := [] } }) h j
  cases hr : j.act { e with slot := { e.slot with undo := [] } } with
  | error => exact .error _
  | ok r => exact .ok (ha r hr)

theorem Still.jobFault (j : Job) (code : Nat) : Still x (e.jobFault j code).d := by
  rw [jobFault_eq]
  have hw : Still x (e.d.withdraw e.p j.born) := h.trans (.withdraw _ _ _)
  exact (hw.trans (.recordFault _ e.p e.now code j.pc)).trans ⟨rfl, rfl⟩

theorem Still.stepJob (j : Job) : Still x (e.stepJob j).d := by
  unfold TEnv.stepJob
  split
  · exact h
  · have ha := h.actNoted j
    cases hr : j.actNoted e with
    | error f => exact h.jobFault j f
    | ok r => exact ha r hr

theorem Still.foldlEnv {A : Type} (f : TEnv → A → TEnv) (hf : ∀ e a, Still x e.d → Still x (f e a).d) (l : List A) : Still x (l.foldl f e).d := by
  induction l generalizing e with
  | nil => exact h
  | cons a l ih => exact ih (hf e a h)

theorem Still.cycleJobs : Still x e.cycleJobs.d := by
  unfold TEnv.cycleJobs
  refine Still.foldlEnv ?_ _ (fun _ j he => he.stepJob j) _
  exact Still.foldlEnv (e := e.withT { e.t with jobs := [] }) h _ (fun _ j he => he.finish j) _

theorem Still.runJobs (n c : Nat) : Still x (TEnv.runJobs n c e).d := by
  induction n generalizing c e with
  | zero => exact h
  | succ n ih =>
    unfold TEnv.runJobs
    split
    · exact h
    · exact ih (Still.cycleJobs (e := { e with now := c }) h) _

theorem Still.jobsTo (t : Nat) : Still x (e.jobsTo t).d := h.runJobs _ _

end

theorem Still.tileJobs (t : Nat) (x : DM) (p : Nat) : Still x.d (DM.tileJobs t x p).d :=
  (Still.jobsTo (e := x.tenv p t) (.refl x.d) t).trans ⟨rfl, rfl⟩

theorem Still.allJobs (t : Nat) (x : DM) : Still x.d (x.allJobs t).d := .foldlDM _ (.tileJobs t) _ _

end Sys2Proof

/-! SUPPORT. The synchronisation of a die and its tiles at a boundary (R98, R203 to R223) leave its step sequencer and requests as they are. -/

namespace Sys2Proof
open Machine

section
variable (x : DieState)

/-! ### Words -/

theorem Still.mirrorWord (p i st now : Nat) : Still x (x.mirrorWord p i st now) := .of_only (mirrorWord_only x p i st now)

theorem Still.setWord (p i st : Nat) : Still x (x.setWord p i st) := by
  unfold DieState.setWord
  exact .trans (y := { x with syn := { x.syn with words := wordsSet x.syn.words (256 * p + i) st } }) ⟨rfl, rfl⟩ (.mirrorWord _ _ _ _ _)

theorem Still.queueResp (r : SyncResp) : Still x (x.queueResp r) := ⟨rfl, rfl⟩

section
variable (y : DM)

theorem Still.putWord (p i v : Nat) : Still y.d (y.putWord p i v).d := ⟨rfl, rfl⟩

theorem Still.setWordData (p i st v : Nat) : Still y.d (y.setWordData p i st v).d := (Still.setWord y.d p i st).trans ⟨rfl, rfl⟩

theorem Still.fixReserved (p i : Nat) : Still y.d (y.fixReserved p i).d := by
  unfold DM.fixReserved
  split
  · exact (Still.setWord y.d p i 2).trans (.raise _ _ _)
  · exact .refl _

theorem Still.pairOp (p i n op : Nat) : Still y.d (pairOp y p i n op).1.d := by
  unfold Machine.pairOp
  extract_lets k pv cv diff
  split
  · split
    · exact .putWord _ _ _ _
    · exact .refl _
  · split
    · split
      · exact .putWord _ _ _ _
      · exact .refl _
    · split
      · exact .refl _
      · split
        · exact .trans (.putWord y _ _ _) (.putWord _ _ _ _)
        · exact .refl _

theorem Still.plainOp (p i op sd : Nat) : Still y.d (plainOp y p i op sd).1.d := by
  unfold Machine.plainOp
  extract_lets full
  split
  · split
    · exact .refl _
    · exact .setWordData _ _ _ _ _
  · split
    · exact .setWord _ _ _ _
    · exact .refl _
  · exact .setWordData _ _ _ _ _
  · exact .setWord _ _ _ _

theorem Still.wordOp (v p i op sd : Nat) : Still y.d (wordOp y v p i op sd).1.d := by
  unfold Machine.wordOp
  extract_lets z
  have hz : Still y.d z.d := .fixReserved y p i
  split
  · split <;> exact hz
  · split
    · exact hz.trans (.pairOp _ _ _ _ _)
    · split
      · exact hz
      · exact hz.trans (.plainOp _ _ _ _ _)

end

/-! ### Outcomes and responses (R208, R210) -/

theorem Still.recordOutcome (issuer c target o : Nat) : Still x (x.recordOutcome issuer c target o) := by
  unfold DieState.recordOutcome
  extract_lets y first src z u v
  have hy : Still x y := ⟨rfl, rfl⟩
  have hz : Still y z := by
    unfold z
    exact .ite _ (.refl y) (.trans (y := src) ⟨rfl, rfl⟩ (.of_only (OnlyIn.raiseWith _ _ _ _ _)))
  have hu : Still z u := by
    unfold u
    exact .trans (y := z.count (rSYN_CNT + 4 * (outcomeFlag o).2) 1) ⟨rfl, rfl⟩ (.raise _ _ _)
  have hv : Still u v := .resetCtx u c
  exact ((hy.trans hz).trans (hu.trans hv)).trans (.ite _ (.detect v 2) (.refl v))

theorem Still.modIssuer (issuer c : Nat) (f : Tile → Tile) : Still x (x.modIssuer issuer c f) := .ite _ ⟨rfl, rfl⟩ ⟨rfl, rfl⟩

theorem Still.respond (r : SyncResp) : Still x (x.respond r) := by
  unfold DieState.respond
  exact .ite _ (.modIssuer _ _ _ _) ((Still.modIssuer x _ _ _).trans (.recordOutcome _ _ _ _ _))

theorem Still.deliver (t : Nat) : Still x (x.deliver t) := by
  unfold DieState.deliver
  exact .trans (y := { x with syn := { x.syn with resps := x.syn.resps.filter (fun r => !decide (r.due ≤ t)) } }) ⟨rfl, rfl⟩ (.foldl _ .respond _ _)

/-! ### Operations in flight (R207 to R209, R220) -/

theorem Still.bwaitReach (o : SyncOp) : Still x (x.bwaitReach o) := by
  unfold DieState.bwaitReach
  exact .ite _ (.queueResp _ _) (.ite _ (.queueResp _ _) (.modIssuer _ _ _ _))

theorem Still.applyOp (y : DM) (o : SyncOp) : Still y.d (y.applyOp o).d := by
  unfold DM.applyOp
  split
  · exact .bwaitReach _ _
  · extract_lets c resp
    have hresp (z : DM) (oc : Nat) (sd : Option Nat) : Still z.d (resp z oc sd).d := ⟨rfl, rfl⟩
    split
    · exact hresp _ _ _
    · exact (Still.wordOp y _ _ _ _ _).trans (hresp _ _ _)

theorem Still.syncTo (t : Nat) (y : DM) : Still y.d (y.syncTo t).d := by
  unfold DM.syncTo DM.syncBefore
  extract_lets due z
  exact .trans (y := z.d) ⟨rfl, rfl⟩ (.foldlDM _ .applyOp due z)

/-! ### Barriers (R220 to R222) -/

theorem Still.poisonBar (n now : Nat) : Still x (x.poisonBar n now) := by
  unfold DieState.poisonBar
  refine .trans (y := x.setFlag (rSYN_BAR + 4 * n) 15 true) ⟨rfl, rfl⟩ (.foldl _ (fun y t => ?_) _ _)
  split
  · exact .ite _ (.queueResp _ _) (.refl _)
  · exact .refl _

theorem Still.boundaryUnits : Still x x.boundaryUnits := by
  unfold DieState.boundaryUnits
  extract_lets down es y
  exact .trans (y := y) (.foldl _ (fun z n => .ite _ (.poisonBar _ _ _) (.refl _)) _ _) ⟨rfl, rfl⟩

theorem Still.stepClear : Still x x.stepClear := by
  refine .foldl _ (fun y r => ?_) _ _
  dsimp only
  refine .ite _ (.refl _) ?_
  have hw := Still.setWord y (y.ptileOf r.vtile) r.word 0
  refine .ite _ (hw.trans (.trans (y := (y.setWord (y.ptileOf r.vtile) r.word 0).count (rSYN_CNT + 24) 1) ⟨rfl, rfl⟩ (.raise _ _ _))) hw

theorem Still.stepBars : Still x x.stepBars :=
  .foldl _ (fun y n => .ite _ ((Still.poisonBar y n _).trans (.raise _ _ _)) (.refl _)) _ _

end

/-! ### Tiles at a boundary (R98) -/

theorem Still.stepTile (y : DM) (p : Nat) : Still y.d (y.stepTile p).d := by
  unfold DM.stepTile
  extract_lets s t0 base g t fault set
  have hfault (at_ code : Nat) : Still y.d (fault at_ code).d := .faultTile y.d p at_ code _
  have hset (t : Tile) : Still y.d (set t).d := .setSlot _ _ _
  split
  · exact .refl _
  · split
    · exact hfault _ _
    · split
      · exact hset _
      · split
        · exact hset _
        · split
          · exact hfault _ _
          · exact hset _

end Sys2Proof

/-! SUPPORT. The end of a step on a die (R130 to R156, R184, R340, R342) and its boundary's other work leave its step sequencer and requests as they are. -/

namespace Sys2Proof
open Machine

section
variable (x : DieState)

theorem Still.count (off k : Nat) : Still x (x.count off k) := ⟨rfl, rfl⟩
theorem Still.setFld (off hi lo v : Nat) : Still x (x.setFld off hi lo v) := ⟨rfl, rfl⟩
theorem Still.life (i k : Nat) : Still x (x.life i k) := ⟨rfl, rfl⟩
theorem Still.modParts (c : Part → Bool) (f : Part → Part) : Still x (x.modParts c f) := ⟨rfl, rfl⟩
theorem Still.modPart (q : Nat) (f : Part → Part) : Still x (x.modPart q f) := ⟨rfl, rfl⟩

/-! ### The Part Tracker (R145 to R153) -/

theorem Still.addRecord (r : VRec) : Still x (x.addRecord r) := by
  unfold DieState.addRecord
  split
  · exact ⟨rfl, rfl⟩
  · refine .trans ?_ (.raise _ _ _)
    exact ⟨rfl, rfl⟩

theorem Still.finalize (p : Part) (v agree cls : Nat) : Still x (x.finalize p v agree cls) := by
  unfold DieState.finalize
  extract_lets span r y k z
  have hz : Still x z := ⟨rfl, rfl⟩
  exact (hz.trans (.addRecord z r)).trans (.life _ _ _)

theorem Still.decideOuts (p : Part) : Still x (x.decideOuts p) := .finalize _ _ _ _ _

theorem Still.ghosts : Still x x.ghosts := by
  refine .foldl _ (fun y p => ?_) _ _
  exact (Still.modPart y p.seq _).trans (.ite _ (.decideOuts _ _) (.refl _))

theorem Still.ptkLeave : Still x x.ptkLeave := by
  unfold DieState.ptkLeave
  extract_lets y step k z u v n
  have hu : Still x u := ⟨rfl, rfl⟩
  have hv : Still u v := .foldl _ (fun d k => (Still.setFld d _ _ _ _).trans (.setFld _ _ _ _ _)) _ _
  exact (hu.trans hv).trans ⟨rfl, rfl⟩

/-- A fold that carries a number along with the die. -/
theorem Still.foldlFst {A B : Type} (f : DieState × B → A → DieState × B) (h : ∀ y a, Still y.1 (f y a).1) (l : List A) (y : DieState × B) : Still y.1 (l.foldl f y).1 := by
  induction l generalizing y with
  | nil => exact .refl _
  | cons a l ih => exact (h y a).trans (ih _)

theorem Still.headBatch : Still x x.headBatch := by
  unfold DieState.headBatch
  extract_lets k y work r
  refine .trans (y := y) ⟨rfl, rfl⟩ (Still.foldlFst _ (fun z p => ?_) work (y, 512))
  extract_lets d need g s k d1 d2
  refine .trans (y := d2) ⟨rfl, rfl⟩ (.ite _ ?_ (.refl _))
  exact (Still.count d2 _ _).trans (.raise _ _ _)

/-- As `foldlFst`, over a die and its memory. -/
theorem Still.foldlFstDM {A B : Type} (f : DM × B → A → DM × B) (h : ∀ y a, Still y.1.d (f y a).1.d) (l : List A) (y : DM × B) : Still y.1.d (l.foldl f y).1.d := by
  induction l generalizing y with
  | nil => exact .refl _
  | cons a l ih => exact (h y a).trans (ih _)

theorem Still.sendViews (y : DM) (p : Part) (n : Nat) : Still y.d (y.sendViews p n).d := by
  refine .foldl _ (fun z i => ?_) _ y.d
  exact ⟨rfl, rfl⟩

theorem Still.asmBatch (y : DM) : Still y.d y.asmBatch.d := by
  refine Still.foldlFstDM _ (fun z p => ?_) _ (y, 64)
  extract_lets u v
  split
  · exact (Still.modPart u.d p.seq _).trans (.sendViews (u.onD fun d => d.modPart p.seq _) _ _)
  · exact (Still.count u.d _ _).trans (.raise _ _ _)

theorem Still.imageStore (y : DM) : Still y.d y.imageStore.d := by
  refine .foldlDM _ (fun z p => ?_) _ _
  extract_lets k mask u
  refine .trans (y := u.d) ?_ (.modPart _ _ _)
  unfold u
  split
  · exact .refl _
  · refine .trans (Still.foldlDM _ (fun _ _ => ?_) _ z) (.foldlDM _ (fun _ _ => ?_) _ _)
    · exact ⟨rfl, rfl⟩
    · exact ⟨rfl, rfl⟩

theorem Still.ptkEnd (y : DM) : Still y.d (ptkEnd y).d :=
  (((Still.imageStore y).trans (.headBatch _)).trans (.asmBatch (y.imageStore.onD DieState.headBatch))).trans ((Still.ghosts _).trans (.ptkLeave _))

theorem Still.join : Still x x.join := by
  refine .foldl _ (fun y q => ?_) _ _
  dsimp only
  split
  · exact .refl _
  · refine .ite _ (.refl _) ?_
    split
    · exact .refl _
    · exact ⟨rfl, rfl⟩

/-! ### Comparisons (R156, R340, R342) -/

theorem Still.dupMismatch : Still x x.dupMismatch := by
  unfold DieState.dupMismatch
  refine .trans (.trans ?_ (.raise _ _ _)) (.detect _ _)
  exact .ite _ (.refl x) ⟨rfl, rfl⟩

theorem Still.cmpDup : Still x x.cmpDup := (Still.raise x _ _).trans (.detect _ _)

theorem Still.windowEntry (bad : Bool) : Still x (x.windowEntry bad) := by
  unfold DieState.windowEntry
  extract_lets w l m n k y
  exact .trans (y := y) ⟨rfl, rfl⟩ (.ite _ (.detect _ _) (.refl _))

theorem Still.windowStep : Still x x.windowStep := by
  unfold DieState.windowStep
  extract_lets lt es k y
  refine .trans (y := y) ?_ (.setFld _ _ _ _ _)
  exact .trans (y := { x with chk := { x.chk with stepDec := [] } }) ⟨rfl, rfl⟩ (.foldl _ (fun z e => .windowEntry z _) _ _)

/-! ### Refresh and test ages (R122, R189) -/

theorem Still.noteAges : Still x x.noteAges := ⟨rfl, rfl⟩
theorem Still.nextRates : Still x x.nextRates := ⟨rfl, rfl⟩
theorem Still.sectFrames : Still x x.sectFrames := ⟨rfl, rfl⟩

end

/-! ### The end of a step -/

theorem Still.syncEnd (y : DM) : Still y.d y.syncEnd.d :=
  ((Still.allJobs _ y).trans (.syncTo _ _)).trans ((Still.deliver _ _).trans (.takeEvents _ _))

/-- The sequencer and the requests after `stepEnd`. -/
theorem stepEnd_still (x : DieState) (dupP dupC : Bool) : ∃ m n, Still { x with seq := { x.seq.owe 20000 with maxEv := m, maxCyc := n } } (x.stepEnd dupP dupC) := by
  unfold DieState.stepEnd
  extract_lets q y z u v n a k b r c
  have hy : y.seq = x.seq.owe 20000 ∧ y.reqs = x.reqs := ⟨rfl, rfl⟩
  have hv : Still y v := ((Still.when dupP (.dupMismatch y)).trans (.windowStep z)).trans (.when dupC (.cmpDup u))
  have hb : Still v b := ⟨rfl, rfl⟩
  have hall := hv.trans hb
  refine ⟨max b.seq.maxEv b.seq.events, max b.seq.maxCyc b.seq.frzStep, ?_, ?_⟩
  · show ({ b.seq with maxEv := _, maxCyc := _ } : Seq) = _
    rw [hall.seq, hy.1]
  · exact hall.reqs.trans hy.2

theorem stepEnd_seq (x : DieState) (dupP dupC : Bool) :
    ∃ m n, (x.stepEnd dupP dupC).seq = { x.seq.owe 20000 with maxEv := m, maxCyc := n } ∧ (x.stepEnd dupP dupC).reqs = x.reqs := by
  obtain ⟨m, n, h⟩ := stepEnd_still x dupP dupC
  exact ⟨m, n, h.seq, h.reqs⟩

/-! ### The boundary's own actions -/

theorem Still.boundaryActs (y : DM) : Still y.d (boundaryActs y).d := by
  unfold Machine.boundaryActs
  extract_lets u v
  have hu : Still y.d u.d := (Still.stepClear y.d).trans (.stepBars _)
  have hv : Still u.d v.d := .foldlDM _ .stepTile _ _
  refine (hu.trans hv).trans ?_
  have hp : Still v.d (posBoundary v.d.sampleNow v.d) := .of_only (OnlyIn.posBoundary _ _)
  refine .trans ?_ (.of_only (OnlyIn.contextPlace _))
  refine .trans ?_ (.boundaryUnits _)
  refine .trans (.trans hp (((Still.noteAges _).trans (.nextRates _)).trans (.join _))) (.ite _ ?_ (.refl _))
  exact ⟨rfl, rfl⟩

end Sys2Proof

/-! SUPPORT. The module at a step boundary (R25, R331, R341, R397 to R405) and the statement on step boundaries (R39 to R41). -/

namespace Sys2Proof
open Machine

/-- From `w` to `v` the step sequencers and the waiting requests of both dies stay. -/
def StillBoth (w v : Whole) : Prop := ∀ e, Still (w.die e) (v.die e)

theorem StillBoth.refl (w : Whole) : StillBoth w w := fun _ => .refl _

theorem StillBoth.trans {w v u : Whole} (h : StillBoth w v) (k : StillBoth v u) : StillBoth w u := fun e => (h e).trans (k e)

theorem StillBoth.ite {w v u : Whole} (c : Prop) [Decidable c] (h : StillBoth w v) (k : StillBoth w u) : StillBoth w (if c then v else u) := by split <;> assumption

theorem StillBoth.foldl {A : Type} (f : Whole → A → Whole) (h : ∀ w a, StillBoth w (f w a)) (l : List A) (w : Whole) : StillBoth w (l.foldl f w) := by
  induction l generalizing w with
  | nil => exact .refl _
  | cons a l ih => exact (h w a).trans (ih _)

section
variable (w : Whole)

theorem StillBoth.onDie (d : Die) {f : DieState → DieState} (hf : ∀ x, Still x (f x)) : StillBoth w (w.onDie d f) := by
  intro e
  rw [onDie_cases]
  split
  · exact .trans (y := (w.die e).sync w.now) ⟨rfl, rfl⟩ (hf _)
  · exact .refl _

theorem StillBoth.onMod (f : ModState → ModState) : StillBoth w (w.onMod f) := fun e => by rw [Whole.onMod_die]; exact .refl _

/-- A command over a die and its memory. -/
theorem StillBoth.onDM (d : Die) {f : DM → DM} (hf : ∀ x, Still x.d (f x).d) : StillBoth w (w.onDM d f) := by
  intro e
  unfold Whole.onDM
  rw [Whole.store_die, onDie_cases]
  split
  next h =>
    subst h
    exact .trans (y := (w.die e).sync w.now) ⟨rfl, rfl⟩ (hf ⟨(w.die e).sync w.now, w.mem, []⟩)
  next => exact .refl _

end

/-! ### Messages (R398, R399, R403) -/

section
variable (x : DieState)

theorem Still.message (m : TMsg) : Still x (x.message m) := by
  unfold DieState.message
  split
  · exact ⟨rfl, rfl⟩
  · exact ⟨rfl, rfl⟩
  · split
    · exact ⟨rfl, rfl⟩
    · exact .refl _
  · split
    · exact ⟨rfl, rfl⟩
    · exact .refl _

theorem Still.deliverFrame (p : Option Nat) (f : TFrame) : Still x (x.deliverFrame p f) := by
  unfold DieState.deliverFrame
  extract_lets same r m rest
  split
  · exact .trans (y := { x with twl := { x.twl with rx := rest } }) ⟨rfl, rfl⟩ (.message _ _)
  · exact ⟨rfl, rfl⟩

theorem Still.discardFrame (p : Nat) : Still x (x.discardFrame p) := .trans (y := x.twlCount p 5 1) ⟨rfl, rfl⟩ (.raise _ _ _)

theorem Still.toPort (p : Nat) (f : TFrame) : Still x (x.toPort p f) := by
  unfold DieState.toPort
  extract_lets g
  refine .ite _ ⟨rfl, rfl⟩ (.ite _ ?_ (.ite _ (.discardFrame _ _) ⟨rfl, rfl⟩))
  exact .trans (y := x.modTport p (fun y => { y with queue := y.queue ++ [g] })) ⟨rfl, rfl⟩ (.of_only (Talks.pumpPort _ _ _).only)

end

theorem StillBoth.forward (fuel : Nat) (d : Die) (p : Option Nat) (f : TFrame) (w : Whole) : StillBoth w (w.forward fuel d p f) := by
  induction fuel generalizing d f w with
  | zero => exact .onDie w d fun x => .discardFrame x _
  | succ k ih =>
    unfold Whole.forward
    extract_lets cross
    split
    · exact ih _ _ _
    · exact .ite _ (.onDie w _ fun x => .deliverFrame x p f) (.onDie w _ fun x => .deliverFrame x p f)
    · refine .ite _ (.onDie w _ fun x => .toPort x _ f) (.onDie w _ fun x => .ite _ (.discardFrame x _) ?_)
      exact ⟨rfl, rfl⟩

theorem StillBoth.twlSend (w : Whole) (d : Die) (dest dstDie cls : Nat) (data : List Byte) (ref : Option (Int × Nat × Nat)) :
    StillBoth w (w.twlSend d dest dstDie cls data ref) := by
  unfold Whole.twlSend
  refine .trans (StillBoth.onDie w d fun x => ?_) (.foldl _ (fun v a => .forward _ _ _ _ v) _ _)
  exact ⟨rfl, rfl⟩

/-! ### The pair and the silicon (R325, R341, R404, R406) -/

section
variable (w : Whole) (d : Die)

theorem StillBoth.signForm : StillBoth w (w.signForm d) := by
  unfold Whole.signForm
  extract_lets x s v
  refine .ite _ (.refl _) ?_
  have hv : StillBoth w v := .onDie w d fun x => ⟨rfl, rfl⟩
  split
  · exact hv.trans (.twlSend _ _ _ _ _ _ _)
  · exact hv

theorem StillBoth.both {f : DieState → DieState} (hf : ∀ x, Still x (f x)) : StillBoth w (w.both f) := (StillBoth.onDie w .a hf).trans (.onDie _ .b hf)

theorem StillBoth.pairDigest : StillBoth w (w.pairDigest d) :=
  .ite _ (.both w fun x => (Still.raise x _ _).trans (.count _ _ _)) (.refl w)

theorem Still.outCounts (x : DieState) (m r : Int) : Still x (x.outCounts m r) := .of_only (OnlyIn.outCounts x m r)

theorem Still.cxp (x : DieState) (c : Cxp) : Still x { x with cxp := c } := ⟨rfl, rfl⟩

theorem StillBoth.takeLevels : StillBoth w w.takeLevels := by
  unfold Whole.takeLevels
  extract_lets f xs outs sum
  exact (StillBoth.onMod w _).trans (.onDie _ .b fun x => .outCounts x _ _)

theorem StillBoth.takeoverCommand : StillBoth w (takeoverCommand w) := by
  unfold Machine.takeoverCommand
  extract_lets f v u z
  have ha (x : DieState) : Still x { x.raise rNIB_STATUS 7 with cxp := { x.cxp with driving := false } } := (Still.raise x rNIB_STATUS 7).trans (.cxp _ _)
  have hu : StillBoth v u := by
    unfold u
    split
    · exact .onMod v _
    · exact .refl v
  have hz : StillBoth u z := .onDie u .a ha
  refine .ite _ (.refl w) (.ite _ ((((StillBoth.takeLevels w).trans hu).trans hz).trans (.onDie z .b fun x => ?_)) (.refl w))
  exact ((Still.raise x rNIB_STATUS 7).trans (.raise _ _ _)).trans (.cxp _ _)

theorem StillBoth.takeoverRepeat : StillBoth w (w.takeoverRepeat d) := by
  unfold Whole.takeoverRepeat
  split
  · exact .takeoverCommand w
  · exact .refl w

theorem StillBoth.alignSend : StillBoth w (w.alignSend d) := by
  unfold Whole.alignSend
  extract_lets s
  exact .ite _ (.foldl _ (fun v _ => .twlSend v _ _ _ _ _ _) _ w) (.refl w)

theorem StillBoth.latchInputs : StillBoth w (w.latchInputs d) := by
  refine .onDie w d fun x => ?_
  exact ⟨rfl, rfl⟩

/-- What follows the beginning of the next step. -/
theorem StillBoth.boundaryRest (pub : Bool) (late : List SampleIn) :
    StillBoth w (((((w.onDM d boundaryActs).latchInputs d).onDie d (fun x => x.sealHere pub late)).alignSend d).takeoverRepeat d) :=
  ((((StillBoth.onDM w d .boundaryActs).trans (.latchInputs _ d)).trans (.onDie _ d fun x => .of_only (OnlyIn.sealHere x pub late))).trans (.alignSend _ d)).trans (.takeoverRepeat _ d)

end

/-! ### The step sequencer -/

/-- The cycles of the freezes in a list. -/
def frozen (l : List (Nat × Nat)) : Nat := (l.map (·.2)).foldl (· + ·) 0

theorem frozen_cons (o : Nat × Nat) (l : List (Nat × Nat)) : frozen (o :: l) = o.2 + frozen l := by
  simp only [frozen, ← List.sum_eq_foldl, List.map_cons, List.sum_cons]

/-- The freezes due before `n` are those due before `m`, and those of the rest. -/
theorem frozen_split {m n : Nat} (hmn : m ≤ n) (l : List (Nat × Nat)) : frozen (l.filter (fun o => decide (o.1 < m))) +
    frozen ((l.filter (fun o => decide (m ≤ o.1))).filter (fun o => decide (o.1 < n))) = frozen (l.filter (fun o => decide (o.1 < n))) := by
  induction l with
  | nil => rfl
  | cons o l ih =>
    by_cases hm : o.1 < m
    · have hn : o.1 < n := hm.trans_le hmn
      simp only [List.filter_cons, hm, hn, Nat.not_le.2 hm, decide_true, decide_false, if_true, Bool.false_eq_true, if_false, frozen_cons]
      omega
    · by_cases hn : o.1 < n
      · simp only [List.filter_cons, hm, hn, Nat.not_lt.1 hm, decide_true, decide_false, if_true, Bool.false_eq_true, if_false, frozen_cons]
        omega
      · simp only [List.filter_cons, hm, hn, Nat.not_lt.1 hm, decide_true, decide_false, if_true, Bool.false_eq_true, if_false]
        exact ih

theorem owe_eq (q : Seq) (c : Nat) : q.owe c = { q with
    freeze := q.freeze + frozen (q.owed.filter (fun o => decide (o.1 < c))), frzStep := q.frzStep + frozen (q.owed.filter (fun o => decide (o.1 < c))),
    owed := q.owed.filter (fun o => decide (c ≤ o.1)) } := rfl

/-- What falls due before a cycle also falls due before each later one. -/
theorem owe_owe (q : Seq) {m n : Nat} (hmn : m ≤ n) : (q.owe m).owe n = q.owe n := by
  have howed : (q.owed.filter (fun o => decide (m ≤ o.1))).filter (fun o => decide (n ≤ o.1)) = q.owed.filter (fun o => decide (n ≤ o.1)) := by
    rw [List.filter_filter]
    refine List.filter_congr fun o _ => ?_
    by_cases ho : n ≤ o.1
    · simp [ho, hmn.trans ho]
    · simp [ho]
  have hsum := frozen_split hmn q.owed
  simp only [owe_eq, howed, Nat.add_assoc, hsum]

/-- The sequencer of a die at the end of its step. -/
def endSeq (q : Seq) (m n : Nat) : Seq := { q.owe 20000 with cycle := max q.cycle 19999, maxEv := m, maxCyc := n }

theorem owe_toCycle (x : DieState) : (x.toCycle 19999).seq.owe 20000 = { x.seq.owe 20000 with cycle := max x.seq.cycle 19999 } := by
  have h := owe_owe x.seq (m := 19999) (n := 20000) (by omega)
  exact congrArg (fun q : Seq => { q with cycle := max x.seq.cycle 19999 }) h

/-- The end of a step on a die and its memory. -/
def endStep (dupP dupC : Bool) (x : DM) : DM := (ptkEnd (x.syncEnd.onD (·.toCycle 19999))).onD (fun d => d.stepEnd dupP dupC)

/-- The end of a step advances the sequencer to it and leaves the requests. -/
theorem endStep_seq (dupP dupC : Bool) (x : DM) : ∃ m n, (endStep dupP dupC x).d.seq = endSeq x.d.seq m n ∧ (endStep dupP dupC x).d.reqs = x.d.reqs := by
  let y := x.syncEnd.onD (·.toCycle 19999)
  have hx := Still.syncEnd x
  have hy := Still.ptkEnd y
  have hyx : y.d.reqs = x.syncEnd.d.reqs := (OnlyIn.toCycle x.syncEnd.d 19999).2 .reqs (by decide)
  obtain ⟨m, n, hseq, hreqs⟩ := stepEnd_seq (ptkEnd y).d dupP dupC
  have he : (endStep dupP dupC x).d = (ptkEnd y).d.stepEnd dupP dupC := DM.onD_d (ptkEnd y) _
  rw [he]
  refine ⟨m, n, ?_, ?_⟩
  · rw [hseq, hy.seq, show y.d.seq.owe 20000 = _ from owe_toCycle x.syncEnd.d, hx.seq]
    rfl
  · rw [hreqs, hy.reqs, hyx, hx.reqs]

/-- The sequencer at the first cycle of the step after `q`. -/
structure NextOf (q r : Seq) : Prop where
  step : r.step = q.step + 1
  cycle : r.cycle = 0
  frzStep : r.frzStep = 0
  events : r.events = q.owed.length
  stepAt : r.stepAt = q.stepAt + 20000 + q.frzStep

theorem nextStep_seq (x : DieState) : NextOf x.seq x.nextStep.seq ∧ x.nextStep.reqs = x.reqs := by
  unfold DieState.nextStep
  extract_lets t owed q y
  have hy : NextOf x.seq y.seq := ⟨rfl, rfl, rfl, List.length_map _, rfl⟩
  rw [freezeExcess_eq]
  split
  · rw [fifthFreeze_seq]
    exact ⟨⟨hy.step, hy.cycle, hy.frzStep, hy.events, hy.stepAt⟩, (OnlyIn.fifthFreeze _).2 .reqs (by decide)⟩
  · exact ⟨hy, rfl⟩

/-! ### The boundary -/

/-- The module when the next step has begun on die `d`. -/
def nextBegun (d : Die) (dupP dupC : Bool) (w : Whole) : Whole := (((w.onDM d (endStep dupP dupC)).signForm d).onDie d (·.nextStep)).pairDigest d

/-- The rest of the boundary, if the sequencer still runs. -/
def boundaryRest (d : Die) (pub : Bool) (late : List SampleIn) (w : Whole) : Whole :=
  if !(w.die d).stepping then w else ((((w.onDM d boundaryActs).latchInputs d).onDie d (fun x => x.sealHere pub late)).alignSend d).takeoverRepeat d

theorem stepBoundary_eq {d : Die} (dupP dupC : Bool) (late : List SampleIn) {w : Whole} (h : (w.die d).stepping = true) :
    stepBoundary d dupP dupC late w = boundaryRest d (w.publishes d) late ((nextBegun d dupP dupC w).runReqs d) := by
  simp only [stepBoundary, h, Bool.not_true, Bool.false_eq_true, if_false]
  rfl

theorem stepBoundary_still {d : Die} (dupP dupC : Bool) (late : List SampleIn) {w : Whole} (h : (w.die d).stepping = false) : stepBoundary d dupP dupC late w = w := by
  simp only [stepBoundary, h, Bool.not_false, if_true]

theorem boundaryRest_still (d : Die) (pub : Bool) (late : List SampleIn) (w : Whole) : StillBoth w (boundaryRest d pub late w) := .ite _ (.refl w) (.boundaryRest w d pub late)

/-- The sequencer and the requests of die `d` when its next step has begun. -/
theorem nextBegun_seq (d : Die) (dupP dupC : Bool) (w : Whole) : NextOf ((w.die d).seq.owe 20000) ((nextBegun d dupP dupC w).die d).seq ∧
    ((nextBegun d dupP dupC w).die d).reqs = (w.die d).reqs := by
  let x : DM := ⟨(w.die d).sync w.now, w.mem, []⟩
  obtain ⟨m, n, hseq, hreqs⟩ := endStep_seq dupP dupC x
  have hd : ((w.onDM d (endStep dupP dupC)).die d) = (endStep dupP dupC x).d := by
    rw [Whole.onDM, Whole.store_die, Whole.onDie_die]
  have hsign := StillBoth.signForm (w.onDM d (endStep dupP dupC)) d d
  rw [hd] at hsign
  let v := (w.onDM d (endStep dupP dupC)).signForm d
  obtain ⟨hnext, hkeep⟩ := nextStep_seq ((v.die d).sync v.now)
  have hpair := StillBoth.pairDigest (v.onDie d (·.nextStep)) d d
  rw [Whole.onDie_die] at hpair
  have hend : ((v.die d).sync v.now).seq = endSeq (w.die d).seq m n := hsign.seq.trans hseq
  rw [hend] at hnext
  refine ⟨?_, ?_⟩
  · rw [show ((nextBegun d dupP dupC w).die d).seq = _ from hpair.seq]
    exact ⟨hnext.step, hnext.cycle, hnext.frzStep, hnext.events, hnext.stepAt⟩
  · exact hpair.reqs.trans (hkeep.trans (hsign.reqs.trans hreqs))

/-- Settles O7: the sequencer through the end of the step, the beginning of the next and the rest of the boundary. -/
theorem stepBoundaryAdvancesTheStep : Obligations.StepBoundaryAdvancesTheStep := by
  refine ⟨fun s d dupP dupC late hs hq => ?_, fun s d dupP dupC late hs => ⟨_, rfl, onWhole_unmoved (stepBoundary_still dupP dupC late ?_)⟩⟩
  · have hw : s.whole.die d = s.here d := State.whole_die s d
    have hb := stepBoundary_eq dupP dupC late (w := s.whole) (d := d) (by rw [hw]; exact hs)
    obtain ⟨hnext, hreqs⟩ := nextBegun_seq d dupP dupC s.whole
    rw [hw] at hnext hreqs
    rw [runReqs_none (hreqs.trans hq)] at hb
    have hrest := ((StillBoth.onDie (nextBegun d dupP dupC s.whole) d (f := id) .refl).trans (boundaryRest_still d (s.whole.publishes d) late _)) d
    rw [← hb] at hrest
    refine ⟨_, rfl, rfl, ?_⟩
    rw [onWhole_dieOf, hrest.seq]
    exact ⟨hnext.step, hnext.cycle, hnext.frzStep, hnext.events, hnext.stepAt⟩
  · rw [State.whole_die]
    exact hs

end Sys2Proof

/-! SUPPORT. How a slot operation ends (R83, R97, R111): what the bundle that acts, or faults, changes of its die, of the tiles and of memory. -/

namespace Sys2Proof

open Machine

/-! ### Events and faults of tiles (R83, R111) -/

/-- The registers that an event of an operation may change (R83, R187). -/
def eventRegs : List Nat := [rTAR_NUM_STATUS, rTAR_NUM_FIRST, rTAR_NUM_FIRST_STEP_LO, rTAR_NUM_FIRST_STEP_LO + 4, rMEM_STATUS] ++ inkRegs

/-- The registers that the record of a first fault may change (R111). -/
def firstFaultRegs : List Nat := [rTAR_FAULT, rTAR_FAULT_PC, rTAR_FAULT_STEP_LO, rTAR_FAULT_STEP_LO + 4] ++ inkRegs

section
variable (x : DieState)

theorem OnlyIn.numFlag (p b st : Nat) : OnlyIn [.regs, .ink] x (x.numFlag p b st) := by
  unfold DieState.numFlag
  refine .trans (.ite _ ?_ (.refl _ _)) (.raise _ _ _)
  exact ((OnlyIn.wr _ _ _).trans (OnlyIn.wr64 _ _ _)).mono (by decide)

theorem OnlyIn.takeEvent (ev : TarEv) : OnlyIn [.regs, .ink] x (x.takeEvent ev) := by
  unfold DieState.takeEvent
  split
  · exact .numFlag _ _ _ _
  · exact .raise _ _ _

theorem OnlyIn.takenEvents (t : Nat) : OnlyIn [.regs, .ink] (eventsLeft t x) (x.takeEvents t) := .foldl _ .takeEvent _ _

theorem OnlyIn.takeEvents (t : Nat) : OnlyIn [.tar, .regs, .ink] x (x.takeEvents t) :=
  ((OnlyIn.tar x _).mono (by decide)).trans ((OnlyIn.takenEvents x t).mono (by decide))

theorem takeEvents_tiles (t : Nat) : (x.takeEvents t).tar.tiles = x.tar.tiles := by
  have ht : (x.takeEvents t).tar = (eventsLeft t x).tar := (OnlyIn.takenEvents x t).2 .tar (by decide)
  rw [ht]
  rfl

theorem RegsOnly.numFlag (p b st : Nat) : RegsOnly eventRegs x (x.numFlag p b st) := by
  unfold DieState.numFlag
  refine .trans (.ite _ ?_ (.refl _ _)) ((RegsOnly.raise _ _ _).mono (by decide))
  exact ((RegsOnly.wr _ _ _).mono (by decide)).trans ((RegsOnly.wr64 _ _ _).mono (by decide))

theorem RegsOnly.takeEvent (ev : TarEv) : RegsOnly eventRegs x (x.takeEvent ev) := by
  unfold DieState.takeEvent
  split
  · exact .numFlag _ _ _ _
  · exact (RegsOnly.raise _ _ _).mono (by decide)

theorem RegsOnly.takeEvents (t : Nat) : RegsOnly eventRegs x (x.takeEvents t) :=
  .trans (y := eventsLeft t x) (.of_regs _ rfl) (.foldl _ .takeEvent _ _)

theorem OnlyIn.resetCtx (c : Nat) : OnlyIn [.ctx] x (x.resetCtx c) := .ite _ (.refl _ _) (.ctx _ _)

theorem mem_resetCtx (c : Nat) : c ∈ (x.resetCtx c).ctx.resets := by
  unfold DieState.resetCtx
  split
  · exact List.contains_iff_mem.1 ‹_›
  · exact List.mem_append_right _ List.mem_cons_self

theorem OnlyIn.faultNoted (p code pc : Nat) : OnlyIn [.regs, .ink] x (faultNoted p code pc x) := by
  refine .ite _ (.refl _ _) (.trans (y := faultRegs p code pc x) ?_ (.raiseWith _ _ _ _ _))
  exact (((OnlyIn.wr x _ _).trans (.wr _ _ _)).trans (.wr64 _ _ _)).mono (by decide)

theorem RegsOnly.faultNoted (p code pc : Nat) : RegsOnly firstFaultRegs x (faultNoted p code pc x) := by
  refine .ite _ (.refl _ _) (.trans (y := faultRegs p code pc x) ?_ ((RegsOnly.raiseWith _ _ _ _ _).mono (by decide)))
  exact (((RegsOnly.wr x _ _).mono (by decide)).trans ((RegsOnly.wr _ _ _).mono (by decide))).trans ((RegsOnly.wr64 _ _ _).mono (by decide))

theorem flag_faultNoted (p code pc : Nat) : (faultNoted p code pc x).flag rTAR_FAULT 31 = true := by
  unfold Sys2Proof.faultNoted
  split
  · assumption
  · exact flag_raiseWith_same _ _ _ _ _ (by decide) (by decide)

/-- A fault that is counted, its context not yet to be reset. -/
def faultCounted (p now code pc : Nat) (x : DieState) : DieState :=
  faultNoted p code pc (((x.takeEvents now).count rTAR_FAULT_COUNT 1).hist (12 + (x.takeEvents now).die.num) code)

theorem recordFault_counted (p now code pc : Nat) : x.recordFault p now code pc = (faultCounted p now code pc x).resetCtx ((faultCounted p now code pc x).ctxOf p) := rfl

variable (p now code pc : Nat)

theorem OnlyIn.faultCounted : OnlyIn [.regs, .ink] (x.takeEvents now) (faultCounted p now code pc x) :=
  (((OnlyIn.count _ _ _).mono (by decide)).trans ((OnlyIn.hist _ _ _).mono (by decide))).trans (.faultNoted _ _ _ _)

theorem RegsOnly.faultCounted : RegsOnly (rTAR_FAULT_COUNT :: (eventRegs ++ firstFaultRegs)) x (faultCounted p now code pc x) := by
  refine ((RegsOnly.takeEvents x now).mono (by decide)).trans ?_
  exact (((RegsOnly.count _ _ _).mono (by decide)).trans (.hist _ _ _ _)).trans ((RegsOnly.faultNoted _ _ _ _).mono (by decide))

theorem rd_faultCounted : (faultCounted p now code pc x).rd rTAR_FAULT_COUNT = min 0xFFFFFFFF (x.rd rTAR_FAULT_COUNT + 1) := by
  have hn := RegsOnly.faultNoted (((x.takeEvents now).count rTAR_FAULT_COUNT 1).hist (12 + (x.takeEvents now).die.num) code) p code pc rTAR_FAULT_COUNT (by decide)
  refine hn.trans ((DieState.rd_count_same (x.takeEvents now) rTAR_FAULT_COUNT 1).trans ?_)
  rw [RegsOnly.takeEvents x now rTAR_FAULT_COUNT (by decide)]
  rfl

/-- The context of a tile depends on the maps and partition registers alone. -/
theorem ctxOf_congr {os : List Nat} {x y : DieState} (h : RegsOnly os x y) (hm : ∀ vg < 16, rTAR_MAP + 4 * vg ∉ os) (ha : ∀ n < 16, rCTX_AUX + 4 * n ∉ os)
    (hp : rCTX_PART ∉ os) (hc : rCTX_CHG ∉ os) (p : Nat) : y.ctxOf p = x.ctxOf p := by
  have hv : y.virtGroup (p / 16) = x.virtGroup (p / 16) := by
    refine List.find?_congr fun vg hvg => ?_
    simp only [DieState.physGroup, DieState.fld, h _ (hm vg (List.mem_range.1 hvg))]
  have hx (vg : Nat) : y.auxOf vg = x.auxOf vg := by
    refine List.find?_congr fun n hn => ?_
    simp only [h _ (ha n (List.mem_range.1 hn))]
  have hg : y.inspGroups = x.inspGroups := by simp only [DieState.inspGroups, DieState.fld, h _ hp]
  have hf : y.fld rCTX_CHG 10 8 = x.fld rCTX_CHG 10 8 := by simp only [DieState.fld, h _ hc]
  have hi : y.inspCtx = x.inspCtx := by rw [DieState.inspCtx, hf, DieState.inspCtx]
  unfold DieState.ctxOf
  rw [hv]
  cases x.virtGroup (p / 16) with
  | none => rfl
  | some vg => simp only [hx, hg, hi]

theorem ctxOf_faultCounted (q : Nat) : (faultCounted p now code pc x).ctxOf q = x.ctxOf q :=
  ctxOf_congr (.faultCounted x p now code pc) (by decide) (by decide) (by decide) (by decide) q

theorem OnlyIn.recordFault : OnlyIn [.tar, .ctx, .regs, .ink] x (x.recordFault p now code pc) :=
  (((OnlyIn.takeEvents x now).mono (by decide)).trans ((OnlyIn.faultCounted x p now code pc).mono (by decide))).trans ((OnlyIn.resetCtx _ _).mono (by decide))

theorem recordFault_tiles : (x.recordFault p now code pc).tar.tiles = x.tar.tiles := by
  have hr := (OnlyIn.resetCtx (faultCounted p now code pc x) ((faultCounted p now code pc x).ctxOf p)).2 .tar (by decide)
  have hc := (OnlyIn.faultCounted x p now code pc).2 .tar (by decide)
  exact (congrArg Tar.tiles (hr.trans hc)).trans (takeEvents_tiles x now)

/-- What the record of a fault says (R111). -/
structure Recorded (p : Nat) (x y : DieState) : Prop where
  count : y.rd rTAR_FAULT_COUNT = min 0xFFFFFFFF (x.rd rTAR_FAULT_COUNT + 1)
  valid : y.flag rTAR_FAULT 31 = true
  reset : x.ctxOf p ∈ y.ctx.resets

theorem recorded_recordFault : Recorded p x (x.recordFault p now code pc) where
  count := (rd_of_onlyIn (OnlyIn.resetCtx _ _) (by decide) _).trans (rd_faultCounted x p now code pc)
  valid := by
    rw [recordFault_counted, DieState.flag, rd_of_onlyIn (OnlyIn.resetCtx _ _) (by decide)]
    exact flag_faultNoted _ _ _ _
  reset := by
    rw [recordFault_counted, ← ctxOf_faultCounted x p now code pc]
    exact mem_resetCtx _ _

theorem OnlyIn.withdraw (born : Nat) : OnlyIn [.tar, .syn] x (x.withdraw p born) :=
  .trans (y := { x with tar := (x.withdraw p born).tar }) ((OnlyIn.tar x _).mono (by decide)) ((OnlyIn.syn _ _).mono (by decide))

end

/-! ### The bundle that faults (R111) -/

/-- The die of a faulting bundle before the fault is recorded: what the bundle had under way is withdrawn, and its tile stands as before it, stopped. -/
def bundleUndone (p now : Nat) (s : TileSlot) (d : DieState) : DieState :=
  let d := d.withdraw p now
  let d := { d with mem := match s.undoS with | some (k, st) => { d.mem with streams := tset d.mem.streams k st } | none => d.mem }
  d.setSlot p { s with cur := { s.pre with stat := .stopped }, undo := [], undoS := none }

section
variable (d : DieState) (p now code : Nat) (s : TileSlot)

theorem bundleUndone_only : OnlyIn [.tar, .syn, .mem] d (bundleUndone p now s d) :=
  ((OnlyIn.withdraw d p now).mono (by decide)).trans (((OnlyIn.onMem _ (fun _ => _)).mono (by decide)).trans ((setSlot_only _ _ _).mono (by decide)))

theorem bundleUndone_slot : (bundleUndone p now s d).slotOf p = { s with cur := { s.pre with stat := .stopped }, undo := [], undoS := none } := tget_tset_same _ _ _ _

theorem bundleUndone_others {q : Nat} (h : q ≠ p) : (bundleUndone p now s d).slotOf q = d.slotOf q := tget_tset_ne _ _ _ _ _ h

theorem OnlyIn.faultTile : OnlyIn [.tar, .syn, .mem, .ctx, .regs, .ink] d (faultTile d p now code s).1 :=
  ((bundleUndone_only d p now s).mono (by decide)).trans
    (((OnlyIn.recordFault _ _ _ _ _).mono (by decide)).trans ((mirrorSram_only _ _ _).mono (by decide)))

theorem faultTile_slotOf (q : Nat) : (faultTile d p now code s).1.slotOf q = (bundleUndone p now s d).slotOf q :=
  congrArg (fun t => tget t q slot0) (recordFault_tiles (bundleUndone p now s d) p now code s.pcAt)

theorem recorded_faultTile : Recorded p d (faultTile d p now code s).1 := by
  have hu : (bundleUndone p now s d).regs = d.regs := rfl
  have hc : (bundleUndone p now s d).ctxOf p = d.ctxOf p := ctxOf_congr (.of_regs [] hu) (by simp) (by simp) (by simp) (by simp) p
  obtain ⟨hcount, hvalid, hreset⟩ := recorded_recordFault (bundleUndone p now s d) p now code s.pcAt
  exact ⟨hcount, hvalid, hc ▸ hreset⟩

end

/-! ### What an operation and the jobs of its tile leave -/

/-- From `e` to `f` the die of a tile's environment changes in no part but those of `us`, no tile's slot in the die changes, and the stores made are at
addresses for which `at_` holds. -/
structure Moves (us : List DiePart) (at_ : Nat → Prop) (e f : TEnv) : Prop where
  p : f.p = e.p
  die : OnlyIn us e.d f.d
  tiles : f.d.tar.tiles = e.d.tar.tiles
  stores : ∃ ws, f.stores = e.stores ++ ws ∧ f.mem = memApply e.mem ws ∧ ∀ c ∈ ws, at_ c.1

section
variable {us vs : List DiePart} {at_ on_ : Nat → Prop} {e f g : TEnv}

/-- A change of the slot, of the cycle, or of the die's parts `us`, that stores nothing. -/
theorem Moves.of_die (hp : f.p = e.p) (hd : OnlyIn us e.d f.d) (ht : f.d.tar.tiles = e.d.tar.tiles) (hs : f.stores = e.stores) (hm : f.mem = e.mem) :
    Moves us at_ e f := ⟨hp, hd, ht, [], by rw [hs, List.append_nil], hm, by simp⟩

theorem Moves.refl (e : TEnv) : Moves us at_ e e := .of_die rfl (.refl _ _) rfl rfl rfl

theorem Moves.trans (h : Moves us at_ e f) (k : Moves us at_ f g) : Moves us at_ e g := by
  obtain ⟨ws, hs, hm, ha⟩ := h.stores
  obtain ⟨vs, ks, km, ka⟩ := k.stores
  refine ⟨k.p.trans h.p, h.die.trans k.die, k.tiles.trans h.tiles, ws ++ vs, ?_, ?_, ?_⟩
  · rw [ks, hs, List.append_assoc]
  · rw [km, hm, memApply_append]
  · exact fun c hc => (List.mem_append.1 hc).elim (ha c) (ka c)

theorem Moves.mono (h : Moves us at_ e f) (hu : ∀ p, p ∈ us → p ∈ vs) (ht : ∀ a, at_ a → on_ a) : Moves vs on_ e f := by
  obtain ⟨ws, hs, hm, ha⟩ := h.stores
  exact ⟨h.p, h.die.mono hu, h.tiles, ws, hs, hm, fun c hc => ht _ (ha c hc)⟩

theorem Moves.mem_wf (h : Moves us at_ e f) (hw : Memory.wf e.mem = true) : Memory.wf f.mem = true := by
  obtain ⟨ws, -, hm, -⟩ := h.stores
  exact hm ▸ memApply_wf _ _ hw

theorem Moves.mem_eq (h : Moves us (fun _ => False) e f) : f.mem = e.mem := by
  obtain ⟨ws, -, hm, ha⟩ := h.stores
  rw [hm, List.eq_nil_iff_forall_not_mem.2 fun c hc => ha c hc]
  rfl

theorem Moves.memGet_eq (h : Moves us at_ e f) (hw : Memory.wf e.mem = true) {a : Nat} (ha : ¬at_ a) : memGet f.mem a = memGet e.mem a := by
  obtain ⟨ws, -, hm, hws⟩ := h.stores
  rw [hm]
  exact memGet_memApply_ne _ _ _ hw fun c hc hca => ha (hca ▸ hws c hc)

theorem Moves.withT (t : Tile) : Moves us at_ e (e.withT t) := .of_die rfl (.refl _ _) rfl rfl rfl

theorem Moves.now (n : Nat) : Moves us at_ e { e with now := n } := .of_die rfl (.refl _ _) rfl rfl rfl

theorem Moves.undo (u : List Host.Cell) : Moves us at_ e { e with slot := { e.slot with undo := u } } := .of_die rfl (.refl _ _) rfl rfl rfl

theorem Moves.event (born : Nat) (b : Option Nat) : Moves [.tar] at_ e (e.event born b) := .of_die rfl (.tar _ _) rfl rfl rfl

theorem Moves.flags (born : Nat) (fs : List Nat) : Moves [.tar] at_ e (e.flags born fs) := by
  induction fs generalizing e with
  | nil => exact .refl _
  | cons b fs ih => exact (Moves.event born (some b)).trans ih

theorem Moves.put (a : Nat) (bs : List Byte) :
    Moves [.tar] (fun i => sramBase e.d.die e.p + a ≤ i ∧ i < sramBase e.d.die e.p + a + bs.length) e (e.put a bs) :=
  ⟨rfl, mirrorSram_only _ _ _, rfl, _, rfl, rfl, cellsAt_range _ _⟩

theorem Moves.jobFault (j : Job) (code : Nat) : Moves [.tar, .syn, .ctx, .regs, .ink] (fun _ => True) e (e.jobFault j code) := by
  rw [jobFault_eq]
  refine ⟨rfl, ?_, recordFault_tiles _ _ _ _ _, _, rfl, rfl, fun _ _ => trivial⟩
  exact ((OnlyIn.withdraw e.d e.p j.born).mono (by decide)).trans (((OnlyIn.recordFault _ _ _ _ _).mono (by decide)).trans ((mirrorSram_only _ _ _).mono (by decide)))

end

end Sys2Proof

/-! SUPPORT. What the accesses and jobs of a tile change (R92 to R103), and the frame of a slot operation as a command. -/

namespace Sys2Proof

open Machine

/-! ### Accesses to tile SRAM (R92 to R94) -/

/-- The tile with the banks in use `bk`. -/
def Machine.TEnv.withBanks (e : TEnv) (bk : List (Nat × Nat)) : TEnv := e.withT { e.t with banks := bk }

/-- The environment with the die's events `evs`. -/
def Machine.TEnv.withEvents (e : TEnv) (evs : List TarEv) : TEnv := { e with d := { e.d with tar := { e.d.tar with events := evs } } }

/-- The addresses of tile SRAM below the SYNC region. -/
def inTile (e : TEnv) (i : Nat) : Prop := sramBase e.d.die e.p ≤ i ∧ i < sramBase e.d.die e.p + 0x7FC00

section
variable {e e' : TEnv}

theorem useBank_ok {t t' : Tile} {c b : Nat} (h : t.useBank c b = .ok t') : t' = { t with banks := t'.banks } := by
  unfold Tile.useBank at h
  split at h
  · cases h
  · cases h; rfl

theorem useLines_ok {t t' : Tile} {c l n : Nat} (h : t.useLines c l n = .ok t') : t' = { t with banks := t'.banks } := by
  induction n generalizing t l with
  | zero => cases h; rfl
  | succ n ih =>
    unfold Tile.useLines at h
    split at h
    · rename_i u hu
      rw [ih h, useBank_ok hu]
    · cases h

theorem use_ok {c a n : Nat} (h : e.use c a n = .ok e') : ∃ bk, e' = e.withBanks bk := by
  unfold TEnv.use at h
  split at h
  · rename_i t ht
    cases h
    exact ⟨t.banks, congrArg e.withT (useLines_ok ht)⟩
  · cases h

theorem read_ok {k : Access} {c a n : Nat} {bs : List Byte} (h : e.read k c a n = .ok (e', bs)) :
    (∃ bk, e' = e.withBanks bk) ∧ bs = memRead e.mem (sramBase e.d.die e.p + a) n := by
  unfold TEnv.read at h
  split at h
  · cases h
  · split at h
    · rename_i f hf
      obtain ⟨bk, rfl⟩ := use_ok hf
      cases h
      exact ⟨⟨bk, rfl⟩, rfl⟩
    · cases h

theorem reserve_ok {k : Access} {c a n : Nat} (h : e.reserve k c a n = .ok e') : ∃ bk, e' = e.withBanks bk := by
  induction n generalizing e c a with
  | zero => cases h; exact ⟨e'.t.banks, rfl⟩
  | succ n ih =>
    unfold TEnv.reserve at h
    split at h
    · cases h
    · split at h
      · rename_i f hf
        obtain ⟨bk, rfl⟩ := use_ok hf
        obtain ⟨bk', rfl⟩ := ih h
        exact ⟨bk', rfl⟩
      · cases h

/-- What a region permits lies below the SYNC region. -/
theorem allows_bound {r : Regions} {k : Access} {a n : Nat} (h : r.allows k a n = true) : a + n ≤ 0x7FC00 := by
  have hin {q : Nat × Nat} (hq : inRegion q a n = true) : a + n ≤ 0x7FC00 := (of_decide_eq_true hq).2.2
  unfold Regions.allows Regions.find at h
  split at h
  · rename_i x hx
    split_ifs at hx with h0 h1 h2 h3
    · exact hin h0
    · exact hin h1
    · exact hin h2
    · exact hin h3
  · cases h

theorem signed_eq (k : Access) (c a : Nat) (bs : List Byte) : ∃ crc, e.signed k c a bs = e.withT { e.t with crc := crc } := by
  unfold TEnv.signed
  split
  · exact ⟨_, rfl⟩
  · exact ⟨e.t.crc, rfl⟩

theorem write_ok {k : Access} {c a : Nat} {bs : List Byte} (h : e.write k c a bs = .ok e') :
    (∃ bk crc, e' = ((e.withBanks bk).put a bs).withT { e.t with banks := bk, crc := crc }) ∧ a + bs.length ≤ 0x7FC00 := by
  unfold TEnv.write at h
  split at h
  · cases h
  · rename_i ha
    split at h
    · rename_i f hf
      obtain ⟨bk, rfl⟩ := use_ok hf
      obtain ⟨crc, hc⟩ := signed_eq (e := (e.withBanks bk).put a bs) k c a bs
      cases h
      exact ⟨⟨bk, crc, hc⟩, allows_bound (by simpa using ha)⟩
    · cases h

theorem Moves.write {k : Access} {c a : Nat} {bs : List Byte} (h : e.write k c a bs = .ok e') : Moves [.tar] (inTile e) e e' := by
  obtain ⟨⟨bk, crc, rfl⟩, hb⟩ := write_ok h
  have hp : Moves [.tar] (inTile e) (e.withBanks bk) ((e.withBanks bk).put a bs) :=
    (Moves.put a bs).mono (fun _ h => h) fun i hi => ⟨by have := hi.1; exact (Nat.le_add_right _ _).trans this, by have := hi.2; change _ < sramBase e.d.die e.p + a + bs.length at this; omega⟩
  exact (Moves.withT _).trans (hp.trans (.withT _))

theorem flags_eq (born : Nat) (fs : List Nat) : ∃ evs, e.flags born fs = e.withEvents evs := by
  induction fs generalizing e with
  | nil => exact ⟨e.d.tar.events, rfl⟩
  | cons b fs ih => exact ih (e := e.event born (some b))

end

/-! ### The rows of an MMA and of a WB (R101, R102) -/

/-- What an operation of two parts answers comes from an answer of its first part. -/
theorem bind_ok {A B : Type} {r : Except Nat A} {f : A → Except Nat B} {b : B} (h : r.bind f = .ok b) : ∃ a, r = .ok a ∧ f a = .ok b := by
  cases r with
  | error => cases h
  | ok a => exact ⟨a, rfl, h⟩

section
variable {e e' : TEnv}

theorem operandLine_ok {af c a : Nat} {w : Wag} {x : AOperand} (h : operandLine af c a w e = .ok (e', x)) : ∃ bk, e' = e.withBanks bk := by
  obtain ⟨⟨f, bs⟩, hr, h⟩ := bind_ok h
  obtain ⟨⟨bk, rfl⟩, -⟩ := read_ok hr
  dsimp only at h
  split at h
  · obtain ⟨⟨f, ss⟩, hs, h⟩ := bind_ok h
    obtain ⟨⟨bk, rfl⟩, -⟩ := read_ok hs
    cases h
    exact ⟨bk, rfl⟩
  · cases h
    exact ⟨bk, rfl⟩

/-- An operand of an MMA changes generator A and the banks in use. -/
theorem operandA_ok {af c : Nat} {x : AOperand} (h : e.operandA af c = .ok (e', x)) : ∃ g bk, e' = e.withT { e.t with genA := g, banks := bk } := by
  obtain ⟨⟨g, w, a⟩, -, h⟩ := bind_ok h
  cases a with
  | none => cases h; exact ⟨g, e.t.banks, rfl⟩
  | some a =>
    obtain ⟨bk, rfl⟩ := operandLine_ok (e := e.withT { e.t with genA := g }) h
    exact ⟨g, bk, rfl⟩

/-- The row that an MMA adds its terms to, and its terms added (R102). -/
def mmaAdded (af bf : Nat) (k : AccKind) (clr : Bool) (r : Nat) (x : AOperand) (t : Tile) : Row × List Nat :=
  let row := if clr then clearedRow k t.anch else tget t.rows r default
  row.mapCols fun j c => if k = .fp32 then (addBf16 (bf16Pairs x t.wAct.lines j) c, []) else addTerms k row.anchor (mmaTerms af bf x t.wAct.lines j) c

theorem mmaRow_of_operand {af bf r born : Nat} {k : AccKind} {clr : Bool} {x : AOperand} {f : TEnv} (hx : e.operandA af e.now = .ok (f, x)) :
    mmaRow af bf k clr r born e = .ok (if f.t.enabled r then (f.withT { f.t with rows := tset f.t.rows r (mmaAdded af bf k clr r x f.t).1 }).flags born
      (mmaAdded af bf k clr r x f.t).2 else f) := by
  unfold mmaRow
  rw [hx]
  change (if !f.t.enabled r then _ else _) = _
  cases f.t.enabled r <;> rfl

/-- A row of an MMA changes generator A, the banks in use and the events, and of the rows its own where the mask enables it (R102). -/
theorem mmaRow_ok {af bf r born : Nat} {k : AccKind} {clr : Bool} (h : mmaRow af bf k clr r born e = .ok e') :
    ∃ g bk rows evs, e' = (e.withT { e.t with genA := g, banks := bk, rows := rows }).withEvents evs ∧
      ∀ q, q ≠ r ∨ e.t.enabled q = false → tget rows q default = tget e.t.rows q default := by
  obtain ⟨⟨f, x⟩, hx, -⟩ := bind_ok h
  rw [mmaRow_of_operand hx] at h
  obtain ⟨g, bk, rfl⟩ := operandA_ok hx
  split at h
  · rename_i hr
    cases h
    refine ⟨g, bk, _, _, (flags_eq born _).choose_spec, fun q hq => tget_tset_ne _ _ _ _ _ ?_⟩
    rintro rfl
    exact hq.elim (· rfl) fun hd => Bool.false_ne_true (hd.symm.trans hr)
  · cases h
    exact ⟨g, bk, e.t.rows, e.d.tar.events, rfl, fun _ _ => rfl⟩

/-- From `e` to `f` a tile's write-back changes its generator S, its banks in use and its CRC, stores below the SYNC region, and notes events. -/
structure WritesBack (e f : TEnv) : Prop where
  moves : Moves [.tar] (inTile e) e f
  tile : ∃ g bk crc, f.t = { e.t with genS := g, banks := bk, crc := crc }

theorem WritesBack.trans {f g : TEnv} (h : WritesBack e f) (k : WritesBack f g) : WritesBack e g where
  moves := h.moves.trans (k.moves.mono (fun _ h => h) fun i hi => by
    have hb : sramBase f.d.die f.p = sramBase e.d.die e.p := by rw [h.moves.p, h.moves.die.1]
    unfold inTile at *
    rwa [hb] at hi)
  tile := by
    obtain ⟨g, bk, crc, h⟩ := h.tile
    obtain ⟨g, bk, crc, k⟩ := k.tile
    exact ⟨g, bk, crc, by rw [k, h]⟩

theorem WritesBack.genS (g : Gen) : WritesBack e (e.withT { e.t with genS := g }) := ⟨.withT _, g, e.t.banks, e.t.crc, rfl⟩

theorem WritesBack.flags (born : Nat) (fs : List Nat) : WritesBack e (e.flags born fs) := by
  refine ⟨.flags _ _, e.t.genS, e.t.banks, e.t.crc, ?_⟩
  obtain ⟨evs, h⟩ := flags_eq (e := e) born fs
  rw [h]
  rfl

theorem WritesBack.write {k : Access} {c a : Nat} {bs : List Byte} (h : e.write k c a bs = .ok e') : WritesBack e e' := by
  refine ⟨.write h, ?_⟩
  obtain ⟨⟨bk, crc, rfl⟩, -⟩ := write_ok h
  exact ⟨e.t.genS, bk, crc, rfl⟩

theorem WritesBack.wbAddress {odd : Bool} {sh : Option (Wag × Option Nat)} {x : Wag × Option Nat} (h : wbAddress odd sh e = .ok (e', x)) : WritesBack e e' := by
  unfold Sys2Proof.wbAddress at h
  split at h
  · cases h
    exact .genS e.t.genS
  · obtain ⟨⟨g, w, a⟩, -, h⟩ := bind_ok h
    cases h
    exact .genS g

theorem WritesBack.wbStart {o r i born : Nat} {sh sh' : Option (Wag × Option Nat)} {ls : List (Option (Nat × List Byte))}
    (h : wbStart o r i born sh e = .ok (e', sh', ls)) : WritesBack e e' := by
  unfold Machine.wbStart at h
  obtain ⟨⟨f, w, a⟩, hf, h⟩ := bind_ok h
  refine (WritesBack.flags born _).trans ((WritesBack.wbAddress (odd := isMx4 o && i % 2 == 1) (sh := sh) hf).trans ?_)
  cases a with
  | none => cases h; exact .genS e'.t.genS
  | some a =>
    dsimp only at h
    split at h
    · cases h; exact .genS e'.t.genS
    · obtain ⟨g, hg, h⟩ := bind_ok h
      cases h
      exact .write hg

theorem WritesBack.wbBegin {o : Nat} {j j' : Job} (h : wbBegin o j e = .ok (e', j')) : WritesBack e e' := by
  unfold Sys2Proof.wbBegin at h
  split at h
  · obtain ⟨⟨f, sh, ls⟩, hf, h⟩ := bind_ok h
    cases h
    exact .wbStart hf
  · cases h
    exact .genS e.t.genS

/-- A cycle of a WB. -/
def wbCycle (o : Nat) (j : Job) (e : TEnv) : Except Nat (TEnv × Job) :=
  (wbBegin o j e).bind fun r =>
    match r.2.outs.headD none with
    | some (a, bs) => (r.1.write .genS r.1.now a bs).bind fun e => .ok (e, { r.2 with outs := r.2.outs.drop 1, next := r.2.next + 1 })
    | none => .ok (r.1, { r.2 with outs := r.2.outs.drop 1, next := r.2.next + 1 })

theorem WritesBack.wbCycle {o : Nat} {j j' : Job} (h : wbCycle o j e = .ok (e', j')) : WritesBack e e' := by
  obtain ⟨⟨f, i⟩, hf, h⟩ := bind_ok h
  refine (WritesBack.wbBegin hf).trans ?_
  dsimp only at h
  split at h
  · obtain ⟨g, hg, h⟩ := bind_ok h
    cases h
    exact .write hg
  · cases h
    exact .genS e'.t.genS

end

/-! ### Jobs (R97) -/

/-- The operations that read a line a cycle. -/
def readsLines (k : JobKind) : Prop := (∀ af bf c clr, k ≠ .mma af bf c clr) ∧ (∀ o, k ≠ .wb o) ∧ k ≠ .asave

section
variable {j : Job} (e : TEnv)

theorem act_mma {af bf : Nat} {k : AccKind} {clr : Bool} (h : j.kind = .mma af bf k clr) :
    j.act e = (mmaRow af bf k clr j.row j.born e).bind fun e => .ok (e, { j.on with row := j.row + 1 }) := by
  cases j
  cases h
  rfl

theorem act_wb {o : Nat} (h : j.kind = .wb o) : j.act e = wbCycle o j e := by
  cases j
  cases h
  rfl

theorem act_asave (h : j.kind = .asave) : j.act e = .ok (match j.outs.headD none with | some (a, bs) => e.put a bs | none => e, { j with outs := j.outs.drop 1, next := j.next + 1 }) := by
  cases j
  cases h
  rfl

theorem act_reads (h : readsLines j.kind) : j.act e = .ok (e, { j.on with addr := j.addr + 32, got := j.got ++ [e.line j.addr] }) := by
  obtain ⟨hm, hw, ha⟩ := h
  unfold Job.act
  split
  · exact absurd ‹_› (hm _ _ _ _)
  · exact absurd ‹_› (hw _)
  · exact absurd ‹_› ha
  · rfl

end

/-! ### A cycle of a job -/

/-- The parts of a die that the jobs of its tiles may change, by a fault of theirs (R111). -/
def jobParts : List DiePart := [.tar, .syn, .ctx, .regs, .ink]

section
variable {e e' : TEnv}

/-- What a job's access changes in the die and memory. -/
theorem Moves.act {j j' : Job} (h : j.act e = .ok (e', j')) : Moves [.tar] (fun _ => True) e e' := by
  cases hk : j.kind with
  | mma af bf k clr =>
    rw [act_mma e hk] at h
    obtain ⟨f, hf, h⟩ := bind_ok h
    obtain ⟨g, bk, rows, evs, rfl, -⟩ := mmaRow_ok hf
    cases h
    exact .of_die rfl (.tar _ _) rfl rfl rfl
  | wb o =>
    rw [act_wb e hk] at h
    exact (WritesBack.wbCycle h).moves.mono (fun _ h => h) fun _ _ => trivial
  | asave =>
    rw [act_asave e hk] at h
    cases h
    split
    · exact (Moves.put _ _).mono (fun _ h => h) fun _ _ => trivial
    · exact .refl _
  | _ =>
    rw [act_reads e (by simp [readsLines, hk])] at h
    cases h
    exact .refl _

theorem Moves.actNoted {j j' : Job} (h : j.actNoted e = .ok (e', j')) : Moves [.tar] (fun _ => True) e e' := by
  unfold Job.actNoted at h
  split at h
  · cases h
  · rename_i hr
    cases h
    exact (Moves.undo []).trans ((Moves.act hr).trans (.undo _))

theorem Moves.stepJob (j : Job) : Moves jobParts (fun _ => True) e (e.stepJob j) := by
  unfold TEnv.stepJob
  split
  · exact .withT _
  · split
    · exact .jobFault _ _
    · rename_i hr
      exact ((Moves.actNoted hr).mono (by decide) fun _ h => h).trans (.withT _)

theorem Moves.onRow (born r : Nat) (f : Row → Nat → Acc → Acc × List Nat) : Moves [.tar] (fun _ => True) e (e.onRow born r f) := by
  unfold TEnv.onRow
  dsimp only
  split
  · exact (Moves.withT _).trans (.flags _ _)
  · exact .refl _

theorem Moves.finish (j : Job) : Moves jobParts (fun _ => True) e (j.finish e) := by
  unfold Job.finish
  split
  · exact .withT _
  · exact (Moves.onRow _ _ _).mono (by decide) fun _ h => h
  · exact (Moves.onRow _ _ _).mono (by decide) fun _ h => h
  · exact .withT _
  · exact .withT _
  · exact .refl _
  · exact .refl _
  · exact .refl _

theorem Moves.foldl {us : List DiePart} {at_ : Nat → Prop} {A : Type} {f : TEnv → A → TEnv} (hf : ∀ e a, Moves us at_ e (f e a)) (l : List A) (e : TEnv) : Moves us at_ e (l.foldl f e) := by
  induction l generalizing e with
  | nil => exact .refl _
  | cons a l ih => exact (hf e a).trans (ih _)

theorem Moves.cycleJobs : Moves jobParts (fun _ => True) e e.cycleJobs :=
  ((Moves.withT _).trans (.foldl (fun _ j => .finish j) _ _)).trans (.foldl (fun _ j => .stepJob j) _ _)

theorem Moves.runJobs (n c : Nat) (e : TEnv) : Moves jobParts (fun _ => True) e (TEnv.runJobs n c e) := by
  induction n generalizing c e with
  | zero => exact .refl _
  | succ n ih =>
    unfold TEnv.runJobs
    split
    · exact .refl _
    · exact (Moves.now c).trans (Moves.cycleJobs.trans (ih _ _))

theorem Moves.jobsTo (t : Nat) (e : TEnv) : Moves jobParts (fun _ => True) e (e.jobsTo t) := (Moves.runJobs _ _ _).trans (.now _)

end

/-! ### The bundle that acts (R97, R110) -/

/-- The environment in which tile and cycle of bundle `b` stand before its tile's jobs. -/
def issuing (s : State) (b : Issue) : TEnv := DM.tenv ⟨(s.here b.die).toCycle b.cyc.val, s.mem, []⟩ b.tile.val (s.cycleOf b)

/-- A bundle that is ready acts where its tile's jobs have left it. -/
theorem begin_ready {h : Nat} {e e' : TEnv} (hb : e.begin h = .ready e') : e'.now = e.now ∧ Moves jobParts (fun _ => True) e e' := by
  unfold TEnv.begin at hb
  split at hb
  · split at hb
    · cases hb
    · cases hb
      exact ⟨rfl, .refl _⟩
  · dsimp only at hb
    split at hb
    · cases hb
    · cases hb
      exact ⟨rfl, (Moves.jobsTo _ _).trans (.of_die rfl (.refl _ _) rfl rfl rfl)⟩
    · cases hb

/-- What an operation that acted in `e` leaves of the die, with its stores: what it answers, or the fault of its bundle. -/
def slotEnd (e : TEnv) (r : Except Nat TEnv) : DieState × List Host.Cell :=
  match r with
  | .ok e' => (e'.d.setSlot e'.p e'.slot, e'.stores)
  | .error f => e.fault f

section
variable {s : State} {b : Issue} {e : TEnv} (h : s.acts b e)
include h

theorem acts_now : e.now = s.cycleOf b := (begin_ready h.2).1

theorem acts_moves : Moves jobParts (fun _ => True) (issuing s b) e := (begin_ready h.2).2

theorem acts_p : e.p = b.tile.val := (acts_moves h).p

theorem acts_die : e.d.die = (s.dieOf b.die).die := (acts_moves h).die.1

theorem acts_tiles : e.d.tar.tiles = (s.dieOf b.die).tar.tiles := (acts_moves h).tiles

theorem acts_mem : memApply s.mem e.stores = e.mem := by
  obtain ⟨ws, hs, hm, -⟩ := (acts_moves h).stores
  rw [hs, hm]
  rfl

theorem acts_mem_wf (hw : Memory.wf s.mem = true) : Memory.wf e.mem = true := (acts_moves h).mem_wf hw

theorem runSlotOn_acts (op : TEnv → Except Nat TEnv) : runSlotOn b op s.mem (s.here b.die) = slotEnd e (op e) := by
  obtain ⟨hs, hb⟩ := h
  have hst : (s.here b.die).stepping = true := hs
  have hr : (DM.tenv ⟨(s.here b.die).toCycle b.cyc.val, s.mem, []⟩ b.tile.val (((s.here b.die).toCycle b.cyc.val).acyc b.cyc.val)).begin b.hdr.toNat = .ready e := hb
  simp only [runSlotOn, hst, Bool.not_true, Bool.false_eq_true, if_false, hr]
  rfl

/-- The frame of a command that is a slot operation of an acting bundle, when the operation answers `e'`. -/
theorem slot_change {op : TEnv → Except Nat TEnv} {e' : TEnv} {us : List DiePart} {at_ : Nat → Prop} (ho : op e = .ok e') (hm : Moves (.tar :: us) at_ e e') :
    SlotChange b us e s (s.runSlot b op) e'.slot ∧ (s.runSlot b op).mem = e'.mem := by
  have hr : runSlotOn b op s.mem ((s.dieOf b.die).sync s.now) = (e'.d.setSlot e'.p e'.slot, e'.stores) := by
    have := runSlotOn_acts h op
    rwa [ho] at this
  have hd : (s.runSlot b op).dieOf b.die = e'.d.setSlot e'.p e'.slot := (State.onDieMem_dieOf _ _ _).trans ((congrArg Prod.fst hr).trans rfl)
  have hp : e'.p = b.tile.val := hm.p.trans (acts_p h)
  refine ⟨⟨?_, fun q hq => ?_, ?_, State.onDieMem_other _ _ _, State.onDieMem_mod _ _ _, State.onDieMem_pending _ _ _, ?_⟩, ?_⟩
  · rw [hd, hp]
    exact tget_tset_same _ _ _ _
  · rw [hd, hp]
    refine (tget_tset_ne _ _ _ _ _ hq).trans ?_
    rw [hm.tiles, acts_tiles h]
    rfl
  · rw [hd]
    exact hm.die.trans ((setSlot_only _ _ _).mono (by simp))
  · exact (Nat.le_max_left _ _).trans_eq (State.onDieMem_now _ _ _).symm
  · obtain ⟨ws, hs, hmem, -⟩ := hm.stores
    refine (State.onDieMem_mem _ _ _).trans ?_
    rw [hr, hs, memApply_append, acts_mem h, hmem]

theorem slot_next {op : TEnv → Except Nat TEnv} {e' : TEnv} {us : List DiePart} (ho : op e = .ok e') (hm : Moves (.tar :: us) (fun _ => False) e e') :
    SlotNext b us e s (s.runSlot b op) e'.slot := by
  obtain ⟨hc, hmem⟩ := slot_change h ho hm
  exact ⟨hc, hmem.trans hm.mem_eq⟩

theorem slot_nextMem {op : TEnv → Except Nat TEnv} {e' : TEnv} {us : List DiePart} {at_ out : Nat → Prop} (hw : Memory.wf s.mem = true) (ho : op e = .ok e')
    (hm : Moves (.tar :: us) at_ e e') (hout : ∀ a, out a → ¬at_ a) : SlotNextMem b us out e s (s.runSlot b op) e'.slot := by
  obtain ⟨hc, hmem⟩ := slot_change h ho hm
  exact ⟨hc, fun a ha => hmem ▸ hm.memGet_eq (acts_mem_wf h hw) (hout a ha)⟩

/-- A bundle faults when one of its operations answers a fault (R111). -/
theorem slot_fault {op : TEnv → Except Nat TEnv} {f : Nat} (ho : op e = .error f) : SlotFault b e s (s.runSlot b op) := by
  have hr : runSlotOn b op s.mem ((s.dieOf b.die).sync s.now) = e.fault f := by
    have := runSlotOn_acts h op
    rwa [ho] at this
  have hd : (s.runSlot b op).dieOf b.die = (faultTile e.d e.p e.now f e.slot).1 := (State.onDieMem_dieOf _ _ _).trans ((congrArg Prod.fst hr).trans rfl)
  obtain ⟨hcount, hvalid, hreset⟩ := recorded_faultTile e.d e.p e.now f e.slot
  have hp := acts_p h
  refine ⟨?_, fun q hq => ?_, hd ▸ hcount, hd ▸ hvalid, hp ▸ hd ▸ hreset, ?_, hd ▸ OnlyIn.faultTile _ _ _ _ _, State.onDieMem_other _ _ _, State.onDieMem_mod _ _ _,
    State.onDieMem_pending _ _ _⟩
  · rw [hd, faultTile_slotOf, ← hp, bundleUndone_slot]
  · rw [hd, faultTile_slotOf, bundleUndone_others _ _ _ _ (hp ▸ hq)]
    exact congrArg (fun t => tget t q slot0) (acts_tiles h)
  · refine (State.onDieMem_mem _ _ _).trans ?_
    rw [hr]
    exact (memApply_append _ _ _).trans (congrArg (memApply · _) (acts_mem h))

end

end Sys2Proof

/-! SUPPORT. The VPU slot (R84 to R87, R104, R105), and the statement on it. -/

namespace Sys2Proof

open Machine

/-! ### Checks of fields -/

theorem need_true {c : Bool} (h : c = true) : need c = .ok () := if_pos h

theorem need_false {c : Bool} (h : c = false) : need c = .error fIllegal := if_neg (by simp [h])

section
variable {s : State} {b : Issue} {e : TEnv} (h : s.acts b e)
include h

/-- A result for `reg` is all that an operation leaves that answers it. -/
theorem later_next {op : TEnv → Except Nat TEnv} {lat reg : Nat} {lanes : Tbl Nat} {fs : List Nat} (ho : op e = .ok ((e.later lat reg lanes).flags e.now fs)) :
    SlotNext b [] e s (s.runSlot b op) { e.slot with cur := { e.slot.cur with pend := insertPend ⟨s.cycleOf b + lat, reg, lanes⟩ e.slot.cur.pend } } := by
  have hn := slot_next h (us := []) ho ((Moves.withT _).trans (.flags _ _))
  obtain ⟨evs, hf⟩ := flags_eq (e := e.later lat reg lanes) e.now fs
  rw [hf] at hn
  rw [← acts_now h]
  exact hn

end

/-- A lane-wise command that takes the fields which keep `ok`, noting some events, and faults on others. -/
theorem vpuLanes_of {c : Issue → BitVec 27 → Instr} {ok : BitVec 27 → Bool} {lat : Nat} {g : BitVec 27 → Nat → Nat → Nat → Nat → Nat}
    (op : BitVec 27 → TEnv → Except Nat TEnv) (hc : ∀ b f s, exec (c b f) s = .next (s.runSlot b (op f)))
    (hok : ∀ f e, ok f = true → ∃ fs, op f e = .ok ((e.lanes f lat fun k => g f k (e.vd f k) (e.va f k) (e.vb f k)).flags e.now fs))
    (hno : ∀ f e, ok f = false → op f e = .error fIllegal) : VpuLanes c ok lat g := by
  refine fun s b f e h => ⟨fun hf => ⟨_, hc b f s, ?_⟩, fun hf => ⟨_, hc b f s, slot_fault h (hno f e hf)⟩⟩
  obtain ⟨fs, ho⟩ := hok f e hf
  exact later_next h ho

/-- As `vpuLanes_of`, for a command that notes no events and checks its fields by `ok` first. -/
theorem vpuLanes_need {c : Issue → BitVec 27 → Instr} {ok : BitVec 27 → Bool} {lat : Nat} {g : BitVec 27 → Nat → Nat → Nat → Nat → Nat}
    (op : BitVec 27 → TEnv → Except Nat TEnv) (hc : ∀ b f s, exec (c b f) s = .next (s.runSlot b (op f)))
    (hop : ∀ f e, op f e = (need (ok f)).bind fun _ => .ok (e.lanes f lat fun k => g f k (e.vd f k) (e.va f k) (e.vb f k))) : VpuLanes c ok lat g :=
  vpuLanes_of op hc (fun f e hf => ⟨[], by rw [hop, need_true hf]; rfl⟩) (fun f e hf => by rw [hop, need_false hf]; rfl)

/-! ### The operations lane by lane -/

theorem vpuLanes_opLanes {c : Issue → BitVec 27 → Instr} {lat : Nat} (g : Nat → Nat → Nat → Nat)
    (hc : ∀ b f s, exec (c b f) s = .next (s.runSlot b (opLanes lat g f))) : VpuLanes c (fun f => bits 11 0 f.toNat == 0) lat (fun _ _ z x y => g z x y) :=
  vpuLanes_need _ hc fun _ _ => rfl

theorem max_lanes : VpuLanes .max (fun f => bits 11 1 f.toNat == 0) 2 (fun f _ _ x y =>
    if bits 0 0 f.toNat = 1 then maxMin32 true x y else if toSigned 32 x < toSigned 32 y then y else x) := by
  refine vpuLanes_need (opMaxMin true) (fun _ _ _ => rfl) fun f e => ?_
  have hm (x y : Nat) : maxMinI true x y = if toSigned 32 x < toSigned 32 y then y else x := by simp [maxMinI]
  simp only [opMaxMin, hm, sf]
  rfl

theorem min_lanes : VpuLanes .min (fun f => bits 11 1 f.toNat == 0) 2 (fun f _ _ x y =>
    if bits 0 0 f.toNat = 1 then maxMin32 false x y else if toSigned 32 x < toSigned 32 y then x else y) := by
  refine vpuLanes_need (opMaxMin false) (fun _ _ _ => rfl) fun f e => ?_
  have hm (x y : Nat) : maxMinI false x y = if toSigned 32 x < toSigned 32 y then x else y := by
    by_cases h : toSigned 32 x < toSigned 32 y <;> simp [maxMinI, h]
  simp only [opMaxMin, hm, sf]
  rfl

/-- The function of FUNC with code `k`, of those that are defined (R104). -/
def funcOf (k x : Nat) : Nat := match k with | 0 => fExp2 x | 1 => fLog2 x | 2 => fRecip x | 3 => fRsqrt x | 4 => fSigmoid x | _ => fTanh x

/-- The functions of FUNC that are defined are those of codes 0 to 5. -/
theorem vpuFunc_some {k : Nat} (h : k ≤ 5) : vpuFunc k = some (funcOf k) := by
  match k, h with
  | 0, _ | 1, _ | 2, _ | 3, _ | 4, _ | 5, _ => rfl

theorem vpuFunc_none {k : Nat} (h : 5 < k) : vpuFunc k = none := by
  match k, h with
  | _ + 6, _ => rfl

theorem func_lanes : VpuLanes .func (fun f => bits 11 3 f.toNat == 0 && decide (bits 2 0 f.toNat ≤ 5)) 8 (fun f _ _ x _ =>
    match bits 2 0 f.toNat with | 0 => fExp2 x | 1 => fLog2 x | 2 => fRecip x | 3 => fRsqrt x | 4 => fSigmoid x | _ => fTanh x) := by
  refine vpuLanes_of opFunc (fun _ _ _ => rfl) (fun f e hf => ⟨[], ?_⟩) (fun f e hf => ?_)
  · rw [Bool.and_eq_true, decide_eq_true_eq] at hf
    unfold opFunc
    rw [need_true (show (sf f 11 3 == 0) = true from hf.1), show vpuFunc (sf f 2 0) = some (funcOf (sf f 2 0)) from vpuFunc_some hf.2]
    rfl
  · unfold opFunc
    cases h0 : sf f 11 3 == 0 with
    | false => rw [need_false rfl]; rfl
    | true =>
      have h5 : 5 < sf f 2 0 := by
        have h0' : (bits 11 3 f.toNat == 0) = true := h0
        rw [h0', Bool.true_and, decide_eq_false_iff_not] at hf
        exact Nat.lt_of_not_le hf
      rw [need_true rfl, vpuFunc_none h5]
      rfl

theorem cvt_lanes : VpuLanes .cvt (fun f => decide (bits 11 6 f.toNat ≤ 0x13) && decide (bits 5 0 f.toNat ≤ 0x13)) 4
    (fun f _ _ x _ => (cvtLane (bits 5 0 f.toNat) (bits 11 6 f.toNat) x).1) := by
  refine vpuLanes_of opCvt (fun _ _ _ => rfl) (fun f e hf =>
    ⟨if (List.range 64).any (fun k => (cvtLane (sf f 5 0) (sf f 11 6) (e.va f k)).2) then [numOutSat] else [], ?_⟩) (fun f e hf => ?_)
  · unfold opCvt
    rw [need_true (by rw [Bool.decide_and]; exact hf)]
    rfl
  · unfold opCvt
    rw [need_false (by rw [Bool.decide_and]; exact hf)]
    rfl

theorem logic_lanes : VpuLanes .logic (fun f => bits 11 2 f.toNat == 0) 1 (fun f _ _ x y =>
    match bits 1 0 f.toNat with | 0 => x &&& y | 1 => x ||| y | 2 => x ^^^ y | _ => x &&& (y ^^^ 0xFFFFFFFF)) :=
  vpuLanes_need opLogic (fun _ _ _ => rfl) fun _ _ => rfl

theorem shift_lanes : VpuLanes .shift (fun f => bits 11 8 f.toNat == 0 && decide (bits 7 6 f.toNat ≠ 3)) 1 (fun f _ _ x y =>
    let n := if bits 5 5 f.toNat = 1 then y % 32 else bits 4 0 f.toNat
    match bits 7 6 f.toNat with | 0 => x * 2 ^ n % 2 ^ 32 | 1 => x / 2 ^ n | _ => ofSigned 32 (toSigned 32 x / (2 : Int) ^ n)) := by
  refine vpuLanes_need opShift (fun _ _ _ => rfl) fun f e => ?_
  rw [show decide (bits 7 6 f.toNat ≠ 3) = (sf f 7 6 != 3) from decide_not]
  rfl

theorem sel_lanes : VpuLanes .sel (fun f => bits 11 0 f.toNat == 0) 1 (fun _ _ z x y => if z = 0 then y else x) := by
  refine vpuLanes_need opSel (fun _ _ _ => rfl) fun f e => ?_
  unfold opSel
  simp only [ne_eq, ite_not]
  rfl

theorem cmp_lanes : VpuLanes .cmp (fun f => bits 11 3 f.toNat == 0 && decide (bits 1 0 f.toNat ≠ 3)) 2 (fun f _ _ x y =>
    let eq := if bits 2 2 f.toNat = 1 then eq32 x y else decide (x = y)
    let lt := if bits 2 2 f.toNat = 1 then lt32 x y else decide (toSigned 32 x < toSigned 32 y)
    if (match bits 1 0 f.toNat with | 0 => eq | 1 => lt | _ => eq || lt) then 1 else 0) := by
  refine vpuLanes_need opCmp (fun _ _ _ => rfl) fun f e => ?_
  rw [show decide (bits 1 0 f.toNat ≠ 3) = (sf f 1 0 != 3) from decide_not]
  rfl

theorem imm_lanes : VpuLanes .imm (fun _ => true) 1 (fun f _ _ _ _ => ofSigned 32 (toSigned 12 (bits 11 0 f.toNat))) :=
  vpuLanes_need opImm (fun _ _ _ => rfl) fun _ _ => rfl

/-! ### Reduction, moves and broadcast -/

theorem bits_upper_of_zero {n : Nat} (h : bits 11 0 n = 0) : bits 11 1 n = 0 ∧ bits 0 0 n = 0 := by
  simp only [bits] at *
  omega

theorem bits_upper_of_one {n : Nat} (h : bits 11 0 n = 1) : bits 11 1 n = 0 ∧ bits 0 0 n = 1 := by
  simp only [bits] at *
  omega

/-- The operation that RED's fields name (R105). -/
def redOp (f : BitVec 27) (a c : Nat) : Nat :=
  match bits 1 0 f.toNat with
  | 0 => (a + c) % 2 ^ 32
  | 1 => add32 a c
  | k => if bits 2 2 f.toNat = 1 then maxMin32 (k == 2) a c else if decide (toSigned 32 a < toSigned 32 c) = (k == 2) then c else a

/-- RED's fields are those of its table (R104, R105). -/
def redOk (f : BitVec 27) : Bool := bits 11 3 f.toNat == 0 && (decide (2 ≤ bits 1 0 f.toNat) || !(bits 2 2 f.toNat == 1))

theorem opRed_eq (f : BitVec 27) (e : TEnv) : opRed f e = (need (redOk f)).bind fun _ =>
    .ok (e.lanes f 12 fun i => if i = 0 then (redTree (redOp f) 6 ((List.range 64).map (e.va f))).headD 0 else 0) := by
  have ho : (fun a c : Nat => match sf f 1 0 with
      | 0 => addW a c
      | 1 => add32 a c
      | _ => if (sf f 2 2 == 1) = true then maxMin32 (sf f 1 0 == 2) a c else maxMinI (sf f 1 0 == 2) a c) = redOp f := by
    funext a c
    unfold redOp sf
    generalize bits 1 0 f.toNat = k
    match k with
    | 0 | 1 => rfl
    | k + 2 => simp only [beq_iff_eq, maxMinI]
  rw [← ho]
  rfl

/-- The result that an operation leaves for `reg`, due `lat` cycles after the bundle, and nothing else. -/
def Leaves (s : State) (b : Issue) (e : TEnv) (t : State) (lat reg : Nat) (lanes : Tbl Nat) : Prop :=
  SlotNext b [] e s t { e.slot with cur := { e.slot.cur with pend := insertPend ⟨s.cycleOf b + lat, reg, lanes⟩ e.slot.cur.pend } }

theorem mem_insertEv (x : TarEv) (l : List TarEv) : x ∈ insertEv x l := by
  induction l with
  | nil => exact List.mem_cons_self
  | cons y l ih =>
    unfold insertEv
    split
    · exact List.mem_cons_self
    · exact List.mem_cons_of_mem _ ih

section
variable {s : State} {b : Issue} {e : TEnv} (h : s.acts b e) (f : BitVec 27)
include h

theorem red_reduces (hz : bits 11 3 f.toNat = 0) (hk : bits 1 0 f.toNat < 2 → bits 2 2 f.toNat = 0) :
    ∃ t, exec (.red b f) s = .next t ∧ Leaves s b e t 12 (bits 26 22 f.toNat)
      ((List.range 64).map fun i => (i, if i = 0 then (redTree (redOp f) 6 ((List.range 64).map (e.t.lane (bits 21 17 f.toNat)))).headD 0 else 0)) := by
  have hr : redOk f = true := by
    simp only [redOk, hz, beq_self_eq_true, Bool.true_and, Bool.or_eq_true, decide_eq_true_eq]
    refine (Nat.lt_or_ge (bits 1 0 f.toNat) 2).symm.imp id fun h2 => ?_
    rw [hk h2]
    rfl
  exact ⟨_, rfl, later_next h (fs := []) (by rw [opRed_eq, need_true hr]; rfl)⟩

theorem red_faults (hz : bits 11 3 f.toNat ≠ 0 ∨ (bits 1 0 f.toNat < 2 ∧ bits 2 2 f.toNat = 1)) : ∃ t, exec (.red b f) s = .next t ∧ SlotFault b e s t := by
  have hr : redOk f = false := by
    unfold redOk
    rcases hz with hz | ⟨hk, hf⟩
    · simp [hz]
    · simp [hf, Nat.not_le.2 hk]
  exact ⟨_, rfl, slot_fault h (by rw [opRed_eq, need_false hr]; rfl)⟩

theorem movsd_toSd (hm : bits 11 0 f.toNat = 0) : ∃ t, exec (.movsd b f) s = .next t ∧ Leaves s b e t 1 32 [(0, e.t.lane (bits 21 17 f.toNat) 0)] := by
  obtain ⟨hu, hl⟩ := bits_upper_of_zero hm
  refine ⟨_, rfl, later_next h (fs := []) ?_⟩
  unfold opMovsd sf
  rw [hu, hl]
  rfl

theorem movsd_fromSd (hm : bits 11 0 f.toNat = 1) : ∃ t, exec (.movsd b f) s = .next t ∧ Leaves s b e t 1 (bits 26 22 f.toNat) [(0, e.t.sd)] := by
  obtain ⟨hu, hl⟩ := bits_upper_of_one hm
  refine ⟨_, rfl, later_next h (fs := []) ?_⟩
  unfold opMovsd sf
  rw [hu, hl]
  rfl

theorem movsd_faults (hm : bits 11 1 f.toNat ≠ 0) : ∃ t, exec (.movsd b f) s = .next t ∧ SlotFault b e s t :=
  ⟨_, rfl, slot_fault h (by unfold opMovsd sf; rw [need_false (beq_eq_false_iff_ne.2 hm)]; rfl)⟩

theorem bcast_lanes (hm : bits 11 6 f.toNat = 0) : ∃ t, exec (.bcast b f) s = .next t ∧
    Leaves s b e t 1 (bits 26 22 f.toNat) ((List.range 64).map fun k => (k, e.t.lane (bits 21 17 f.toNat) (bits 5 0 f.toNat))) :=
  ⟨_, rfl, later_next h (fs := []) (by unfold opBcast sf; rw [need_true (beq_iff_eq.2 hm)]; rfl)⟩

theorem bcast_faults (hm : bits 11 6 f.toNat ≠ 0) : ∃ t, exec (.bcast b f) s = .next t ∧ SlotFault b e s t :=
  ⟨_, rfl, slot_fault h (by unfold opBcast sf; rw [need_false (beq_eq_false_iff_ne.2 hm)]; rfl)⟩

/-! ### Numeric events (R83) -/

/-- A lane that CVT clamps is noted (R83). -/
theorem cvt_notes (hd : bits 11 6 f.toNat ≤ 0x13) (hsrc : bits 5 0 f.toNat ≤ 0x13)
    (hk : ∃ k, k < 64 ∧ (cvtLane (bits 5 0 f.toNat) (bits 11 6 f.toNat) (e.t.lane (bits 21 17 f.toNat) k)).2 = true) :
    ∃ t, exec (.cvt b f) s = .next t ∧ ⟨s.cycleOf b, b.tile.val, s.cycleOf b, some numOutSat⟩ ∈ (t.dieOf b.die).tar.events := by
  have ho : opCvt f e = .ok ((e.lanes f 4 fun k => (cvtLane (sf f 5 0) (sf f 11 6) (e.va f k)).1).event e.now (some numOutSat)) := by
    have ha : ((List.range 64).any fun k => (cvtLane (sf f 5 0) (sf f 11 6) (e.va f k)).2) = true := by
      obtain ⟨k, hk, hc⟩ := hk
      exact List.any_eq_true.2 ⟨k, List.mem_range.2 hk, hc⟩
    unfold opCvt
    rw [need_true (decide_eq_true ⟨hd, hsrc⟩)]
    simp only [ha, if_true]
    rfl
  refine ⟨_, rfl, ?_⟩
  have hr := (State.onDieMem_dieOf b.die s (fun _ => runSlotOn b (opCvt f))).trans (congrArg Prod.fst (runSlotOn_acts h (opCvt f)))
  rw [ho] at hr
  rw [show (s.runSlot b (opCvt f)).dieOf b.die = _ from hr, ← acts_now h, ← acts_p h]
  exact mem_insertEv _ _

end

/-- Settles O34: each operation lane by lane, then RED, the moves and the events of CVT. -/
theorem vpuOperations : Obligations.VpuOperations :=
  ⟨vpuLanes_opLanes (fun _ x y => add32 x y) fun _ _ _ => rfl, vpuLanes_opLanes (fun _ x y => mul32 x y) fun _ _ _ => rfl,
    vpuLanes_opLanes (fun z x y => fma32 x y z) fun _ _ _ => rfl, vpuLanes_opLanes (fun _ x y => addW x y) fun _ _ _ => rfl,
    vpuLanes_opLanes (fun _ x y => subW x y) fun _ _ _ => rfl, vpuLanes_opLanes (fun _ x y => mulW x y) fun _ _ _ => rfl, max_lanes, min_lanes, func_lanes, cvt_lanes,
    logic_lanes, shift_lanes, sel_lanes, cmp_lanes, imm_lanes, fun _ _ f _ h =>
      ⟨red_reduces h f, red_faults h f, movsd_toSd h f, movsd_fromSd h f, movsd_faults h f, bcast_lanes h f, bcast_faults h f, cvt_notes h f⟩⟩

end Sys2Proof

/-! SUPPORT. How an operation of several cycles begins and how a tile's only job runs (R97, R101 to R103). -/

namespace Sys2Proof

open Machine

/-! ### Bytes overwritten before an operation -/

/-- The environment with the bytes `u` noted as overwritten before those that it notes. -/
def Machine.TEnv.below (u : List Host.Cell) (e : TEnv) : TEnv := { e with slot := { e.slot with undo := e.slot.undo ++ u } }

section
variable {A B : Type}

/-- What two parts of an operation let pass, the whole lets pass. -/
theorem bind_map_comm {g : A → A} {n : B → B} (r : Except Nat A) {f : A → Except Nat B} (h : ∀ a, f (g a) = (f a).map n) : (r.map g).bind f = (r.bind f).map n := by
  cases r with
  | error => rfl
  | ok a => exact h a

variable (u : List Host.Cell) (e : TEnv)

/-- The same of an answer that begins with an environment. -/
def under (r : TEnv × A) : TEnv × A := (r.1.below u, r.2)

theorem use_below (c a n : Nat) : (e.below u).use c a n = (e.use c a n).map (TEnv.below u) := by
  unfold TEnv.use
  rw [show (e.below u).t = e.t from rfl]
  cases e.t.useBytes c a n <;> rfl

theorem read_below (k : Access) (c a n : Nat) : (e.below u).read k c a n = (e.read k c a n).map (under u) := by
  unfold TEnv.read
  rw [show (e.below u).t = e.t from rfl, use_below]
  split
  · rfl
  · cases e.use c a n <;> rfl

theorem put_below (a : Nat) (bs : List Byte) : (e.below u).put a bs = (e.put a bs).below u := by
  simp only [TEnv.put, TEnv.below, List.append_assoc]

theorem signed_below (k : Access) (c a : Nat) (bs : List Byte) : (e.below u).signed k c a bs = (e.signed k c a bs).below u := map_ite (TEnv.below u) rfl rfl

theorem write_below (k : Access) (c a : Nat) (bs : List Byte) : (e.below u).write k c a bs = (e.write k c a bs).map (TEnv.below u) := by
  unfold TEnv.write
  rw [show (e.below u).t = e.t from rfl, use_below]
  split
  · rfl
  · cases e.use c a bs.length with
    | error => rfl
    | ok f => exact congrArg Except.ok ((congrArg (·.signed k c a bs) (put_below u f a bs)).trans (signed_below u _ _ _ _ _))

theorem flags_below (born : Nat) (fs : List Nat) : (e.below u).flags born fs = (e.flags born fs).below u := map_foldl (TEnv.below u) _ (fun _ _ => rfl) _ _

theorem operandLine_below (af c a : Nat) (w : Wag) : operandLine af c a w (e.below u) = (operandLine af c a w e).map (under u) := by
  unfold operandLine
  refine (congrArg (Except.bind · _) (read_below u e .genA c a 32)).trans ?_
  refine bind_map_comm _ fun r => ?_
  dsimp only
  split
  · exact (congrArg (Except.bind · _) (read_below u r.1 .genA c _ _)).trans (bind_map_comm _ fun _ => rfl)
  · rfl

theorem operandA_below (af c : Nat) : (e.below u).operandA af c = (e.operandA af c).map (under u) := by
  unfold TEnv.operandA
  rw [show (e.below u).t = e.t from rfl]
  cases e.t.genA.next with
  | error => rfl
  | ok g =>
    obtain ⟨g, w, a⟩ := g
    cases a with
    | none => rfl
    | some a => exact operandLine_below u (e.withT { e.t with genA := g }) af c a w

theorem mmaRow_below (af bf r born : Nat) (k : AccKind) (clr : Bool) : mmaRow af bf k clr r born (e.below u) = (mmaRow af bf k clr r born e).map (TEnv.below u) := by
  unfold mmaRow
  refine (congrArg (Except.bind · _) (operandA_below u e af e.now)).trans ?_
  refine bind_map_comm _ fun x => ?_
  dsimp only
  rw [show ((under u x).1).t = x.1.t from rfl]
  split
  · rfl
  · exact congrArg Except.ok (flags_below u (x.1.withT _) born _)

theorem wbAddress_below (odd : Bool) (sh : Option (Wag × Option Nat)) : wbAddress odd sh (e.below u) = (wbAddress odd sh e).map (under u) := by
  unfold wbAddress
  split
  · rfl
  · rw [show (e.below u).t = e.t from rfl]
    cases e.t.genS.next <;> rfl

theorem wbStart_below (o r i born : Nat) (sh : Option (Wag × Option Nat)) : wbStart o r i born sh (e.below u) = (wbStart o r i born sh e).map (under u) := by
  unfold wbStart
  dsimp only
  rw [show (e.below u).t = e.t from rfl, flags_below]
  generalize TEnv.flags e born _ = f
  refine (congrArg (Except.bind · _) (wbAddress_below u f _ sh)).trans (bind_map_comm _ fun x => ?_)
  obtain ⟨f, w, a⟩ := x
  cases a with
  | none => rfl
  | some a =>
    dsimp only [under]
    split
    · rfl
    · exact (congrArg (Except.bind · _) (write_below u f .genS f.now _ _)).trans (bind_map_comm _ fun _ => rfl)

theorem wbBegin_below (o : Nat) (j : Job) : wbBegin o j (e.below u) = (wbBegin o j e).map (under u) := by
  unfold wbBegin
  split
  · exact (congrArg (Except.bind · _) (wbStart_below u e _ _ _ _ _)).trans (bind_map_comm _ fun _ => rfl)
  · rfl

theorem wbCycle_below (o : Nat) (j : Job) : wbCycle o j (e.below u) = (wbCycle o j e).map (under u) := by
  refine (congrArg (Except.bind · _) (wbBegin_below u e o j)).trans (bind_map_comm _ fun x => ?_)
  obtain ⟨f, j⟩ := x
  dsimp only [under]
  split
  · exact (congrArg (Except.bind · _) (write_below u f .genS f.now _ _)).trans (bind_map_comm _ fun _ => rfl)
  · rfl

/-- A job's access does not depend on what was overwritten before it. -/
theorem act_below (j : Job) : j.act (e.below u) = (j.act e).map (under u) := by
  cases hk : j.kind with
  | mma af bf k clr =>
    rw [act_mma _ hk, act_mma _ hk]
    exact (congrArg (Except.bind · _) (mmaRow_below u e _ _ _ _ _ _)).trans (bind_map_comm _ fun _ => rfl)
  | wb o => rw [act_wb _ hk, act_wb _ hk, wbCycle_below]
  | asave =>
    rw [act_asave _ hk, act_asave _ hk]
    split
    · rw [put_below]
      rfl
    · rfl
  | _ =>
    have hr : readsLines j.kind := by simp [readsLines, hk]
    rw [act_reads _ hr, act_reads _ hr]
    rfl

end

/-! ### The first cycle of an operation -/

/-- An operation begins with its first access, and goes on as a job that notes the bytes it has overwritten (R97, R111). -/
theorem start_of_act {e e' : TEnv} {j j' : Job} (hj : j.over = false) (h : j.act e = .ok (e', j')) :
    e.start j = .ok (e'.withT { e'.t with jobs := e'.t.jobs ++ [{ j' with undo := e'.slot.undo.take (e'.slot.undo.length - e.slot.undo.length) }] }) := by
  have hb := act_below e.slot.undo { e with slot := { e.slot with undo := [] } } j
  rw [show TEnv.below e.slot.undo { e with slot := { e.slot with undo := [] } } = e from rfl, h] at hb
  unfold TEnv.start
  rw [hj]
  cases hr : j.act { e with slot := { e.slot with undo := [] } } with
  | error => rw [hr] at hb; cases hb
  | ok r =>
    obtain ⟨f, i⟩ := r
    rw [hr] at hb
    cases hb
    have hu : (f.below e.slot.undo).slot.undo.take ((f.below e.slot.undo).slot.undo.length - e.slot.undo.length) = f.slot.undo := by
      simp [TEnv.below]
    dsimp only
    rw [hu]
    rfl

/-- The job of an operation that has read its first line. -/
def readJob (e : TEnv) (k : JobKind) (n row a : Nat) : Job := ⟨k, e.slot.pcAt, e.now, e.now + 1, n - 1, row, 0, a + 32, [e.line a], [], none, e.t.rows, []⟩

/-- An operation that reads lines begins where their banks are free (R92, R94). -/
theorem reads_ok {e e' : TEnv} {acc : Access} {k : JobKind} {row a n : Nat} (hk : readsLines k) (hn : n ≠ 0) (h : e.reserve acc e.now a n = .ok e') :
    e.reads acc k row a n = .ok (e'.withT { e'.t with jobs := e'.t.jobs ++ [readJob e k n row a] }) := by
  obtain ⟨bk, rfl⟩ := reserve_ok h
  have hs := start_of_act (e := e.withBanks bk) (j := (e.withBanks bk).job k n row a) (by simp [Job.over, TEnv.job, hn]) (act_reads _ hk)
  unfold TEnv.reads
  rw [h]
  refine hs.trans ?_
  rw [Nat.sub_self, List.take_zero]
  rfl

/-! ### A tile's only job -/

section
variable {e : TEnv} {j : Job}

theorem runJobs_succ (he : e.t.jobs = [j]) (n c : Nat) : TEnv.runJobs (n + 1) c e = TEnv.runJobs n (c + 1) ({ e with now := c }).cycleJobs := by
  rw [TEnv.runJobs, he]
  rfl

theorem onRow_now (born r : Nat) (f : Row → Nat → Acc → Acc × List Nat) : (e.onRow born r f).now = e.now := by
  unfold TEnv.onRow
  dsimp only
  split
  · rw [(flags_eq born _).choose_spec]
    rfl
  · rfl

theorem finish_now (j : Job) : (j.finish e).now = e.now := by
  unfold Job.finish
  split
  · rfl
  · exact onRow_now _ _ _
  · exact onRow_now _ _ _
  · rfl
  · rfl
  · rfl
  · rfl
  · rfl

theorem cycleJobs_ends (he : e.t.jobs = [j]) (hj : j.endsAt e.now = true) : e.cycleJobs = j.finish (e.withT { e.t with jobs := [] }) := by
  have hf : (j.finish (e.withT { e.t with jobs := [] })).now = e.now := finish_now j
  simp only [TEnv.cycleJobs, he, List.filter_cons, hj, List.filter_nil, if_true, List.foldl_cons, List.foldl_nil, hf, Bool.not_true, Bool.false_eq_true, if_false]

theorem cycleJobs_goesOn (he : e.t.jobs = [j]) (hj : j.endsAt e.now = false) : e.cycleJobs = (e.withT { e.t with jobs := [] }).stepJob j := by
  have hf : (e.withT { e.t with jobs := [] }).now = e.now := rfl
  simp only [TEnv.cycleJobs, he, List.filter_cons, hj, List.filter_nil, if_true, List.foldl_cons, List.foldl_nil, hf, Bool.not_false, Bool.false_eq_true, if_false]

/-- The tile's only job up to its cycle `t`. -/
theorem jobsTo_single (he : e.t.jobs = [j]) {n : Nat} (hn : j.next ≤ n) : e.jobsTo n = { TEnv.runJobs (n + 1 - j.next) j.next e with now := e.now } := by
  have hc : (e.t.jobs.map (·.next)).foldl min n = j.next := by
    rw [he]
    exact Nat.min_eq_right hn
  rw [TEnv.jobsTo, hc]

theorem jobsTo_single_t (he : e.t.jobs = [j]) {n : Nat} (hn : j.next ≤ n) : (e.jobsTo n).t = (TEnv.runJobs (n + 1 - j.next) j.next e).t :=
  (congrArg TEnv.t (jobsTo_single he hn)).trans rfl

theorem jobsTo_single_mem (he : e.t.jobs = [j]) {n : Nat} (hn : j.next ≤ n) : (e.jobsTo n).mem = (TEnv.runJobs (n + 1 - j.next) j.next e).mem :=
  (congrArg TEnv.mem (jobsTo_single he hn)).trans rfl

/-- The cycle after a job's last access. -/
theorem runJobs_over (he : e.t.jobs = [j]) (hj : j.over = true) : TEnv.runJobs 1 j.next e = j.finish ({ e with now := j.next }.withT { e.t with jobs := [] }) := by
  rw [runJobs_succ he]
  exact cycleJobs_ends (e := { e with now := j.next }) he (by simp [Job.endsAt, hj])

/-- A job's access in its cycle, the bytes that it overwrites noted for it. -/
theorem stepJob_act {j' : Job} {f : TEnv} (hn : ¬e.now < j.next) (ha : j.act { e with slot := { e.slot with undo := [] } } = .ok (f, j')) :
    e.stepJob j = { f with slot := { f.slot with undo := e.slot.undo, cur := { f.slot.cur with jobs := f.slot.cur.jobs ++ [{ j' with undo := f.slot.undo ++ j.undo }] } } } := by
  unfold TEnv.stepJob Job.actNoted
  rw [if_neg hn, ha]
  rfl

/-- The environment in which the tile's only job has its access in cycle `c`. -/
def accessIn (c : Nat) (e : TEnv) : TEnv := { e with now := c, slot := { e.slot with undo := [], cur := { e.slot.cur with jobs := [] } } }

/-- The environment after an access of the tile's only job in `f`, `u` the bytes noted before it. -/
def afterAccess (u : List Host.Cell) (j : Job) (f : TEnv) : TEnv := { f with slot := { f.slot with undo := u, cur := { f.slot.cur with jobs := f.slot.cur.jobs ++ [j] } } }

/-- A cycle of a job that has an access in it. -/
theorem runJobs_act {j' : Job} {f : TEnv} (he : e.t.jobs = [j]) (hj : j.over = false) (ha : j.act (accessIn j.next e) = .ok (f, j')) (n : Nat) :
    TEnv.runJobs (n + 1) j.next e = TEnv.runJobs n (j.next + 1) (afterAccess e.slot.undo { j' with undo := f.slot.undo ++ j.undo } f) := by
  rw [runJobs_succ he, cycleJobs_goesOn (e := { e with now := j.next }) he (by simp [Job.endsAt, hj])]
  exact congrArg _ (stepJob_act (e := ({ e with now := j.next } : TEnv).withT { e.t with jobs := [] }) (Nat.lt_irrefl _) ha)

/-- The lines of a job that reads, once the last is read. -/
def Machine.Job.allRead (j : Job) (e : TEnv) : Job :=
  { j with next := j.next + j.left, left := 0, addr := j.addr + 32 * j.left, got := j.got ++ (List.range j.left).map fun i => e.line (j.addr + 32 * i) }

/-- A job that reads lines runs to its end when it is the tile's only one. -/
theorem runJobs_reads (hk : readsLines j.kind) (ho : j.outs = []) (he : e.t.jobs = [j]) :
    TEnv.runJobs (j.left + 1) j.next e = (j.allRead e).finish ({ e with now := j.next + j.left }.withT { e.t with jobs := [] }) := by
  induction hl : j.left generalizing j e with
  | zero =>
    have hj : j.allRead e = j := by
      obtain ⟨kind, pc, born, next, left, row, inst, addr, got, outs, shared, rows0, undo⟩ := j
      cases hl
      simp [Job.allRead]
    rw [hj]
    exact runJobs_over he (by simp [Job.over, hl, ho])
  | succ n ih =>
    rw [runJobs_act he (by simp [Job.over, hl]) (act_reads _ hk)]
    let j' : Job := { j.on with addr := j.addr + 32, got := j.got ++ [e.line j.addr] }
    have hi := ih (j := j') (e := afterAccess e.slot.undo j' (accessIn j.next e)) hk ho rfl (by simp [j', Job.on, hl])
    have hj : Job.allRead { j.on with addr := j.addr + 32, got := j.got ++ [e.line j.addr] } e = j.allRead e := by
      have hline (i : Nat) : j.addr + 32 + 32 * i = j.addr + 32 * (i + 1) := by omega
      simp only [Job.allRead, Job.on, hl, List.range_succ_eq_map, List.map_cons, List.map_map, Function.comp_def, hline, List.append_assoc, List.cons_append,
        List.nil_append, Nat.mul_zero, Nat.add_zero, Nat.add_assoc, Nat.add_comm 1]
      rfl
    have hn : j'.next + n = j.next + (n + 1) := by
      simp only [j', Job.on]
      omega
    refine hi.trans ?_
    rw [show Job.allRead j' (afterAccess e.slot.undo j' (accessIn j.next e)) = j.allRead e from hj, hn]
    rfl

end

end Sys2Proof

/-! SUPPORT. The operations of the MAC slot that read lines (R101 to R103): how they begin, and what their jobs leave once the last line is read. -/

namespace Sys2Proof

open Machine

/-! ### Bytes read line by line -/

theorem memRead_add (m : List Host.Cell) (a n k : Nat) : memRead m a (n + k) = memRead m a n ++ memRead m (a + n) k := by
  simp only [memRead, List.range_add, List.map_append, List.map_map, Function.comp_def, Nat.add_assoc]

/-- Lines one after the other are the bytes from the first line's address on. -/
theorem memRead_lines (m : List Host.Cell) (a n : Nat) : ((List.range n).map fun i => memRead m (a + 32 * i) 32).flatten = memRead m a (32 * n) := by
  induction n with
  | zero => rfl
  | succ n ih => rw [List.range_succ, List.map_append, List.flatten_append, ih, Nat.mul_succ, memRead_add, List.map_singleton, List.flatten_singleton]

theorem memRead_length (m : List Host.Cell) (a n : Nat) : (memRead m a n).length = n := by simp [memRead]

theorem memRead_drop_take (m : List Host.Cell) (a : Nat) {i l n : Nat} (h : i + l ≤ n) : ((memRead m a n).drop i).take l = memRead m (a + i) l := by
  obtain ⟨k, rfl⟩ := Nat.exists_eq_add_of_le h
  rw [Nat.add_assoc, memRead_add, List.drop_left' (memRead_length m a i), memRead_add, List.take_left' (memRead_length _ _ l)]

/-! ### A tile after its bundle -/

/-- The place of the SRAM of the tile of bundle `b`. -/
def slotBase (s : State) (b : Issue) : Nat := sramBase (s.dieOf b.die).die b.tile.val

/-- The tile of bundle `b` as the bundle has left it. -/
def afterEnv (t : State) (b : Issue) (now : Nat) : TEnv := (⟨t.dieOf b.die, t.mem, []⟩ : DM).tenv b.tile.val now

/-- Its jobs `k` cycles further on. -/
def laterEnv (t : State) (b : Issue) (now k : Nat) : TEnv := (afterEnv t b now).jobsTo (now + k)

section
variable {s : State} {b : Issue} {e : TEnv} (h : s.acts b e)
include h

theorem acts_base : sramBase e.d.die e.p = slotBase s b := by
  rw [acts_die h, acts_p h]
  rfl

theorem line_eq (a : Nat) : e.line a = memRead e.mem (slotBase s b + a) 32 := by rw [TEnv.line, acts_base h]

variable {us : List DiePart} {t : State} {y : TileSlot} (hc : SlotChange b us e s t y)
include hc

theorem after_base (now : Nat) : sramBase (afterEnv t b now).d.die (afterEnv t b now).p = slotBase s b := by
  have hd : (afterEnv t b now).d.die = e.d.die := hc.die.1
  rw [hd, acts_die h]
  rfl

omit h in
theorem after_t (now : Nat) : (afterEnv t b now).t = y.cur := congrArg TileSlot.cur hc.slot

end

/-! ### Operations that read lines -/

/-- An operation of `n` lines from address `a` on has begun, its first line read: its job joins those of the slot `y`. -/
def Begins (s : State) (b : Issue) (e : TEnv) (t : State) (y : TileSlot) (k : JobKind) (n row a : Nat) : Prop :=
  SlotNext b [] e s t { y with cur := { y.cur with
    jobs := y.cur.jobs ++ [⟨k, e.slot.pcAt, s.cycleOf b, s.cycleOf b + 1, n - 1, row, 0, a + 32, [memRead e.mem (slotBase s b + a) 32], [], none, e.t.rows, []⟩] } }

/-- In `f` a job has ended that read `n` lines from `a` on in the memory of `e`, for a tile with the rows and the mask of `e`. -/
structure ReadDone (e : TEnv) (k : JobKind) (n row a : Nat) (j : Job) (g f : TEnv) : Prop where
  ends : f.t = (j.finish g).t
  rows : g.t.rows = e.t.rows
  mask : g.t.mask = e.t.mask
  kind : j.kind = k
  row : j.row = row
  got : j.got.flatten = memRead e.mem a (32 * n)
  lines : j.got = (List.range n).map fun i => memRead e.mem (a + 32 * i) 32

/-- What an operation that reads lines leaves when it issues, and when its last line is read. -/
theorem reads_run {s : State} {b : Issue} {e : TEnv} (h : s.acts b e) {op : TEnv → Except Nat TEnv} {acc : Access} {k : JobKind} {row a n : Nat} {t0 : Tile} {e' : TEnv}
    (hk : readsLines k) (hn : n ≠ 0) (ho : op e = (e.withT t0).reads acc k row a n) (hr : (e.withT t0).reserve acc (s.cycleOf b) a n = .ok e')
    (hrows : t0.rows = e.t.rows) (hmask : t0.mask = e.t.mask) (hjobs : t0.jobs = e.t.jobs) :
    Begins s b e (s.runSlot b op) e'.slot k n row a ∧
    (e.t.jobs = [] → ∃ j g, ReadDone e k n row (slotBase s b + a) j g (laterEnv (s.runSlot b op) b (s.cycleOf b) n)) := by
  have hnow : e.now = s.cycleOf b := acts_now h
  rw [← hnow] at hr
  obtain ⟨bk, he'⟩ := reserve_ok hr
  have hs := slot_next h (us := []) (ho.trans (reads_ok hk hn hr)) (by rw [he']; exact (Moves.withT _).trans ((Moves.withT _).trans (.withT _)))
  let j : Job := ⟨k, e.slot.pcAt, s.cycleOf b, s.cycleOf b + 1, n - 1, row, 0, a + 32, [memRead e.mem (slotBase s b + a) 32], [], none, e.t.rows, []⟩
  have hj : readJob (e.withT t0) k n row a = j := by
    simp only [readJob, ← line_eq h, ← hnow, ← hrows, j]
    rfl
  rw [hj] at hs
  refine ⟨hs, fun hnil => ?_⟩
  obtain ⟨hc, hm⟩ := hs
  let f := afterEnv (s.runSlot b op) b (s.cycleOf b)
  have hf : f.t = { e'.t with jobs := [j] } := by
    refine (after_t hc _).trans ?_
    have hj' : e'.t.jobs = [] := by rw [he']; exact hjobs.trans hnil
    rw [TEnv.withT, hj']
    rfl
  have hfr : f.t.rows = e.t.rows := by rw [hf, he']; exact hrows
  have hfm : f.t.mask = e.t.mask := by rw [hf, he']; exact hmask
  have hl (i : Nat) : f.line i = memRead e.mem (slotBase s b + i) 32 := by
    rw [TEnv.line, after_base h hc, ← hm]
    rfl
  rw [show laterEnv (s.runSlot b op) b (s.cycleOf b) n = f.jobsTo (s.cycleOf b + n) from rfl]
  clear_value f
  have hleft : s.cycleOf b + n + 1 - j.next = j.left + 1 := by
    simp only [j]
    omega
  have hto := jobsTo_single_t (j := j) (e := f) (congrArg Tile.jobs hf) (n := s.cycleOf b + n) (by simp only [j]; omega)
  rw [hleft, runJobs_reads (j := j) hk rfl (congrArg Tile.jobs hf)] at hto
  have hlines : (j.allRead f).got = (List.range n).map fun i => memRead e.mem (slotBase s b + a + 32 * i) 32 := by
    obtain ⟨m, rfl⟩ := Nat.exists_eq_succ_of_ne_zero hn
    have hline (i : Nat) : slotBase s b + (a + 32 + 32 * i) = slotBase s b + a + 32 * (i + 1) := by omega
    simp only [Job.allRead, j, hl, List.range_succ_eq_map, List.map_cons, List.map_map, Function.comp_def, hline, Nat.succ_eq_add_one, Nat.add_sub_cancel,
      List.cons_append, List.nil_append]
    rfl
  refine ⟨j.allRead f, ({ f with now := j.next + j.left } : TEnv).withT { f.t with jobs := [] }, hto, hfr, hfm, rfl, rfl, ?_, hlines⟩
  rw [hlines, memRead_lines]

/-! ### What the lines leave (R101 to R103) -/

theorem Machine.Row.mapCols_congr (r : Row) {f g : Nat → Acc → Acc × List Nat} (h : ∀ j < 32, ∀ c, f j c = g j c) : r.mapCols f = r.mapCols g := by
  have hx : (List.range 32).map (fun j => f j (tget r.cols j accZero)) = (List.range 32).map (fun j => g j (tget r.cols j accZero)) :=
    List.map_congr_left fun j hj => h j (List.mem_range.1 hj) _
  unfold Row.mapCols
  rw [hx]

/-- The rows after an operation on the columns of one of them. -/
def rowsAfter (t : Tile) (r : Nat) (f : Row → Nat → Acc → Acc × List Nat) : Tbl Row :=
  if t.enabled r then tset t.rows r ((tget t.rows r default).mapCols (f (tget t.rows r default))).1 else t.rows

theorem onRow_rows (e : TEnv) (born r : Nat) (f : Row → Nat → Acc → Acc × List Nat) : (e.onRow born r f).t.rows = rowsAfter e.t r f := by
  unfold TEnv.onRow rowsAfter
  dsimp only
  split
  · rw [(flags_eq born _).choose_spec]
    rfl
  · rfl

section
variable {e g f : TEnv} {j : Job} {n row a : Nat}

theorem ReadDone.wSh {fmt : Nat} (h : ReadDone e (.wld fmt) n row a j g f) : f.t.wSh = ⟨fmt, (List.range n).map fun i => memRead e.mem (a + 32 * i) 32⟩ := by
  rw [h.ends, Job.finish, h.kind, ← h.lines]
  rfl

theorem ReadDone.wpar (h : ReadDone e .wpar 8 row a j g f) : f.t.wpar = (List.range 32).map fun k => reqOfBytes (memRead e.mem (a + 8 * k) 8) := by
  rw [h.ends, Job.finish, h.kind, h.got]
  refine List.map_congr_left fun k hk => ?_
  have hk := List.mem_range.1 hk
  rw [memRead_drop_take _ _ (by omega)]

/-- An operation on the columns of a row that takes the `w` bytes of each from the lines read. -/
theorem ReadDone.rowsOf {k : JobKind} {w : Row → Nat} {F : Row → List Byte → Acc → Acc × List Nat} (h : ReadDone e k n row a j g f)
    (hw : w (tget e.t.rows row default) * 32 ≤ 32 * n) (hf : j.finish g = g.onRow j.born j.row fun r i c => F r ((j.got.flatten.drop (w r * i)).take (w r)) c) :
    f.t.rows = rowsAfter e.t row fun r i c => F r (memRead e.mem (a + w r * i) (w r)) c := by
  let r := tget e.t.rows row default
  have hm : r.mapCols (fun i c => F r ((j.got.flatten.drop (w r * i)).take (w r)) c) = r.mapCols fun i c => F r (memRead e.mem (a + w r * i) (w r)) c :=
    r.mapCols_congr fun i hi c => by
      have hle : w r * i + w r ≤ 32 * n := (Nat.mul_le_mul_left (w r) hi).trans hw
      rw [h.got, memRead_drop_take _ _ hle]
  have hen : g.t.enabled row = e.t.enabled row := by rw [Tile.enabled, h.mask, Tile.enabled]
  rw [h.ends, hf, onRow_rows]
  simp only [rowsAfter, h.row, h.rows, hen]
  exact congrArg (fun x : Row × List Nat => if e.t.enabled row then tset e.t.rows row x.1 else e.t.rows) hm

end

end Sys2Proof

/-! SUPPORT. The MAC slot's operations one by one (R101 to R103): the units they find busy, and those that load weights, masks and parameters. -/

namespace Sys2Proof

open Machine

/-! ### Busy units (R97) -/

theorem idle_ok {busy now : Nat} (h : busy ≤ now) : idle busy now = .ok () := if_pos h

theorem idle_busy {busy now : Nat} (h : now < busy) : idle busy now = .error fSlotBusy := if_neg (Nat.not_le.2 h)

/-- An operation faults. -/
def Faults {A : Type} (r : Except Nat A) : Prop := ∃ f, r = .error f

/-- Whatever its fields, an operation that asks for a busy unit after its fields faults. -/
theorem faults_busy {A : Type} {busy now : Nat} (h : now < busy) (c : Bool) (k : Except Nat A) :
    Faults ((need c).bind fun _ => (idle busy now).bind fun _ => k) := by
  cases c with
  | false => exact ⟨_, rfl⟩
  | true => exact ⟨fSlotBusy, by rw [idle_busy h]; rfl⟩

section
variable {e : TEnv} (h : e.now < e.t.macBusy) (f : BitVec 27)
include h

theorem opMma_busy : Faults (opMma f e) := by
  unfold opMma
  dsimp only
  cases sf f 2 0 == 0 && decide (sf f 12 8 + sf f 7 3 ≤ 31) with
  | false => exact ⟨_, rfl⟩
  | true =>
    cases hk : macKind (sf f 26 21) (sf f 20 15) with
    | none => exact ⟨fIllegal, rfl⟩
    | some k => exact ⟨fSlotBusy, by rw [idle_busy h]; rfl⟩

theorem opAnch_busy : Faults (opAnch f e) := faults_busy h _ _

theorem opBias_busy : Faults (opBias f e) := faults_busy h _ _

theorem opWb_busy : Faults (opWb f e) := faults_busy h _ _

theorem opWpar_busy : Faults (opWpar f e) := faults_busy h _ _

theorem opAsave_busy : Faults (opAsave f e) := faults_busy h _ _

theorem opAmerge_busy : Faults (opAmerge f e) := faults_busy h _ _

theorem opMask_busy : Faults (opMask f e) := faults_busy h _ _

end

theorem opWld_busy {e : TEnv} (h : e.now < e.t.wldBusy) (f : BitVec 27) : Faults (opWld f e) := by
  unfold opWld
  cases sf f 6 0 == 0 with
  | false => exact ⟨_, rfl⟩
  | true =>
    cases hl : wldLines (sf f 26 21) with
    | none => exact ⟨fIllegal, rfl⟩
    | some r => exact ⟨fSlotBusy, by rw [idle_busy h]; rfl⟩

theorem wldLines_pos {fmt n m : Nat} (h : wldLines fmt = some (n, m)) : n + m ≠ 0 := by
  unfold wldLines at h
  split at h <;> cases h <;> decide

theorem stateLines_pos (k : AccKind) : stateLines k ≠ 0 := by cases k <;> decide

section
variable {s : State} {b : Issue} {e : TEnv} (h : s.acts b e) (f : BitVec 27)
include h

theorem faults_slot {c : Instr} {op : TEnv → Except Nat TEnv} (hc : exec c s = .next (s.runSlot b op)) (ho : Faults (op e)) : ∃ t, exec c s = .next t ∧ SlotFault b e s t := by
  obtain ⟨f, ho⟩ := ho
  exact ⟨_, hc, slot_fault h ho⟩

/-- Each operation of the MAC array faults its bundle while the array is busy (R97). -/
theorem mac_busy (hb : s.cycleOf b < e.t.macBusy) : ∀ c ∈ [Instr.mma b f, .anch b f, .bias b f, .wb b f, .wpar b f, .asave b f, .amerge b f, .mask b f],
    ∃ t, exec c s = .next t ∧ SlotFault b e s t := by
  have hm : e.now < e.t.macBusy := by rwa [acts_now h]
  simp only [List.forall_mem_cons, List.not_mem_nil, false_implies, implies_true, and_true]
  exact ⟨faults_slot h rfl (opMma_busy hm f), faults_slot h rfl (opAnch_busy hm f), faults_slot h rfl (opBias_busy hm f), faults_slot h rfl (opWb_busy hm f),
    faults_slot h rfl (opWpar_busy hm f), faults_slot h rfl (opAsave_busy hm f), faults_slot h rfl (opAmerge_busy hm f), faults_slot h rfl (opMask_busy hm f)⟩

theorem wld_busy (hb : s.cycleOf b < e.t.wldBusy) : ∃ t, exec (.wld b f) s = .next t ∧ SlotFault b e s t :=
  faults_slot h rfl (opWld_busy (by rwa [acts_now h]) f)

/-! ### WLD (R103) -/

theorem wld_loads {n m : Nat} {e' : TEnv} (hb : e.t.wldBusy ≤ s.cycleOf b) (hz : bits 6 0 f.toNat = 0) (hl : wldLines (bits 26 21 f.toNat) = some (n, m))
    (hr : (e.withT { e.t with wldBusy := s.cycleOf b + n + m }).reserve .wld (s.cycleOf b) (32 * bits 20 7 f.toNat) (n + m) = .ok e') :
    ∃ t, exec (.wld b f) s = .next t ∧ Begins s b e t e'.slot (.wld (bits 26 21 f.toNat)) (n + m) 0 (32 * bits 20 7 f.toNat) ∧
      e'.t.wldBusy = s.cycleOf b + n + m ∧ (e.t.jobs = [] → (laterEnv t b (s.cycleOf b) (n + m)).t.wSh =
        ⟨bits 26 21 f.toNat, (List.range (n + m)).map fun i => memRead e.mem (slotBase s b + 32 * bits 20 7 f.toNat + 32 * i) 32⟩) := by
  have ho : opWld f e = (e.withT { e.t with wldBusy := s.cycleOf b + n + m }).reads .wld (.wld (bits 26 21 f.toNat)) 0 (32 * bits 20 7 f.toNat) (n + m) := by
    unfold opWld sf
    rw [hz, hl, acts_now h]
    dsimp only
    rw [idle_ok hb]
    rfl
  obtain ⟨hs, hd⟩ := reads_run h (op := opWld f) (by simp [readsLines]) (wldLines_pos hl) ho hr rfl rfl rfl
  obtain ⟨bk, rfl⟩ := reserve_ok hr
  refine ⟨_, rfl, hs, rfl, fun hj => ?_⟩
  obtain ⟨j, g, hd⟩ := hd hj
  exact hd.wSh

/-! ### ANCH and MASK (R101, R102) -/

theorem anch_sets (hm : e.t.macBusy ≤ s.cycleOf b) (hz : bits 18 0 f.toNat = 0) (hv : -126 ≤ toSigned 8 (bits 26 19 f.toNat)) :
    ∃ t, exec (.anch b f) s = .next t ∧
      SlotNext b [] e s t { e.slot with cur := { e.slot.cur with anch := toSigned 8 (bits 26 19 f.toNat), macBusy := s.cycleOf b + 1 } } := by
  have ho : opAnch f e = .ok (e.withT { e.t with anch := toSigned 8 (bits 26 19 f.toNat), macBusy := s.cycleOf b + 1 }) := by
    unfold opAnch sf
    rw [hz, acts_now h, idle_ok hm]
    dsimp only
    rw [need_true (by simp [hv]), ← acts_now h]
    rfl
  exact ⟨_, rfl, slot_next h ho (.withT _)⟩

theorem mask_sets {e' : TEnv} {bs : List Byte} (hm : e.t.macBusy ≤ s.cycleOf b) (hu : bits 26 21 f.toNat = 0) (hz : bits 6 0 f.toNat = 0)
    (hr : e.read .mask (s.cycleOf b) (32 * bits 20 7 f.toNat) 32 = .ok (e', bs)) :
    ∃ t, exec (.mask b f) s = .next t ∧ SlotNext b [] e s t { e'.slot with cur := { e'.slot.cur with
      mask := leNat (memRead e.mem (slotBase s b + 32 * bits 20 7 f.toNat) 4), macBusy := s.cycleOf b + 1 } } := by
  obtain ⟨⟨bk, rfl⟩, hbs⟩ := read_ok hr
  have hw : bs.take 4 = memRead e.mem (slotBase s b + 32 * bits 20 7 f.toNat) 4 := by
    rw [hbs, acts_base h]
    exact memRead_drop_take (i := 0) e.mem _ (by decide)
  have ho : opMask f e = .ok ((e.withBanks bk).withT { e.t with banks := bk, mask := leNat (bs.take 4), macBusy := s.cycleOf b + 1 }) := by
    unfold opMask sf
    rw [hu, hz, acts_now h, idle_ok hm]
    dsimp only
    rw [hr, ← acts_now h]
    rfl
  rw [hw] at ho
  exact ⟨_, rfl, slot_next h ho ((Moves.withT _).trans (.withT _))⟩

/-! ### WPAR, BIAS and AMERGE (R76, R101, R102) -/

theorem wpar_loads {e' : TEnv} (hm : e.t.macBusy ≤ s.cycleOf b) (hu : bits 26 21 f.toNat = 0) (hz : bits 6 0 f.toNat = 0)
    (hr : (e.withT { e.t with macBusy := s.cycleOf b + 8 }).reserve .wpar (s.cycleOf b) (32 * bits 20 7 f.toNat) 8 = .ok e') :
    ∃ t, exec (.wpar b f) s = .next t ∧ Begins s b e t e'.slot .wpar 8 0 (32 * bits 20 7 f.toNat) ∧
      (e.t.jobs = [] → (laterEnv t b (s.cycleOf b) 8).t.wpar =
        (List.range 32).map fun j => reqOfBytes (memRead e.mem (slotBase s b + 32 * bits 20 7 f.toNat + 8 * j) 8)) := by
  have ho : opWpar f e = (e.withT { e.t with macBusy := s.cycleOf b + 8 }).reads .wpar .wpar 0 (32 * bits 20 7 f.toNat) 8 := by
    unfold opWpar sf
    rw [hu, hz, acts_now h, idle_ok hm, ← acts_now h]
    rfl
  obtain ⟨hs, hd⟩ := reads_run h (op := opWpar f) (by simp [readsLines]) (by decide) ho hr rfl rfl rfl
  refine ⟨_, rfl, hs, fun hj => ?_⟩
  obtain ⟨j, g, hd⟩ := hd hj
  exact hd.wpar

theorem bias_adds {e' : TEnv} (hm : e.t.macBusy ≤ s.cycleOf b) (hz : bits 7 0 f.toNat = 0)
    (hr : (e.withT { e.t with macBusy := s.cycleOf b + 8 }).reserve .bias (s.cycleOf b) (32 * bits 21 8 f.toNat) 8 = .ok e') :
    ∃ t, exec (.bias b f) s = .next t ∧ Begins s b e t e'.slot .bias 8 (bits 26 22 f.toNat) (32 * bits 21 8 f.toNat) ∧
      (e.t.jobs = [] → (laterEnv t b (s.cycleOf b) 8).t.rows = rowsAfter e.t (bits 26 22 f.toNat) fun row j c =>
        addBias row.kind row.anchor (memRead e.mem (slotBase s b + 32 * bits 21 8 f.toNat + 8 * j) 8) c) := by
  have ho : opBias f e = (e.withT { e.t with macBusy := s.cycleOf b + 8 }).reads .bias .bias (bits 26 22 f.toNat) (32 * bits 21 8 f.toNat) 8 := by
    unfold opBias sf
    rw [hz, acts_now h, idle_ok hm, ← acts_now h]
    rfl
  obtain ⟨hs, hd⟩ := reads_run h (op := opBias f) (by simp [readsLines]) (by decide) ho hr rfl rfl rfl
  refine ⟨_, rfl, hs, fun hj => ?_⟩
  obtain ⟨j, g, hd⟩ := hd hj
  refine hd.rowsOf (w := fun _ => 8) (F := fun row bs c => addBias row.kind row.anchor bs c) (by decide) ?_
  rw [Job.finish, hd.kind]
  rfl

theorem amerge_adds {e' : TEnv} (hm : e.t.macBusy ≤ s.cycleOf b) (hz : bits 7 0 f.toNat = 0)
    (hr : (e.withT { e.t with macBusy := s.cycleOf b + stateLines (tget e.t.rows (bits 26 22 f.toNat) default).kind }).reserve .amerge (s.cycleOf b) (32 * bits 21 8 f.toNat)
      (stateLines (tget e.t.rows (bits 26 22 f.toNat) default).kind) = .ok e') :
    ∃ t, exec (.amerge b f) s = .next t ∧
      Begins s b e t e'.slot .amerge (stateLines (tget e.t.rows (bits 26 22 f.toNat) default).kind) (bits 26 22 f.toNat) (32 * bits 21 8 f.toNat) ∧
      (e.t.jobs = [] → (laterEnv t b (s.cycleOf b) (stateLines (tget e.t.rows (bits 26 22 f.toNat) default).kind)).t.rows =
        rowsAfter e.t (bits 26 22 f.toNat) fun row j c =>
          mergeState row.kind (memRead e.mem (slotBase s b + 32 * bits 21 8 f.toNat + stateLines row.kind * j) (stateLines row.kind)) c) := by
  have ho : opAmerge f e = (e.withT { e.t with macBusy := s.cycleOf b + stateLines (tget e.t.rows (bits 26 22 f.toNat) default).kind }).reads .amerge .amerge
      (bits 26 22 f.toNat) (32 * bits 21 8 f.toNat) (stateLines (tget e.t.rows (bits 26 22 f.toNat) default).kind) := by
    unfold opAmerge sf
    rw [hz, acts_now h, idle_ok hm, ← acts_now h]
    rfl
  obtain ⟨hs, hd⟩ := reads_run h (op := opAmerge f) (by simp [readsLines]) (stateLines_pos _) ho hr rfl rfl rfl
  refine ⟨_, rfl, hs, fun hj => ?_⟩
  obtain ⟨j, g, hd⟩ := hd hj
  refine hd.rowsOf (w := fun row => stateLines row.kind) (F := fun row bs c => mergeState row.kind bs c) (Nat.mul_comm _ _).le ?_
  rw [Job.finish, hd.kind]
  rfl

end

end Sys2Proof

/-! SUPPORT. ASAVE (R76, R101): a row's states, stored line by line. -/

namespace Sys2Proof

open Machine

theorem stateBytes_length (k : AccKind) (a : Acc) : (stateBytes k a).length = stateLines k := by
  cases k <;> simp only [stateBytes, stateLines, lasBytes, iasBytes, List.length_append, leBytes_length]

theorem stored_length (r : Row) : r.stored.length = 32 * stateLines r.kind := by
  have hl : (List.range 32).map (List.length ∘ fun j => stateBytes r.kind (tget r.cols j accZero)) = (List.range 32).map fun _ => stateLines r.kind :=
    List.map_congr_left fun _ _ => stateBytes_length _ _
  rw [Row.stored, List.length_flatten, List.map_map, hl, List.map_const', List.sum_replicate, List.length_range, smul_eq_mul]

theorem cellsAt_line (a : Nat) {bs : List Byte} (h : 32 ≤ bs.length) : cellsAt a bs = cellsAt a (bs.take 32) ++ cellsAt (a + 32) (bs.drop 32) := by
  have hc := cellsAt_append a (bs.take 32) (bs.drop 32)
  rwa [List.take_append_drop, List.length_take_of_le h] at hc

/-- A job that saves lines runs to its end when it is the tile's only one. -/
theorem runJobs_saves {e : TEnv} {j : Job} {a m : Nat} {bs : List Byte} (hk : j.kind = .asave) (hl : j.left = 0) (ho : j.outs = linesFrom a m bs) (hb : bs.length = 32 * m)
    (he : e.t.jobs = [j]) : (TEnv.runJobs (m + 1) j.next e).mem = memApply e.mem (cellsAt (sramBase e.d.die e.p + a) bs) := by
  induction m generalizing e j a bs with
  | zero =>
    rw [runJobs_over he (by simp [Job.over, hl, ho, linesFrom]), Job.finish, hk, List.eq_nil_of_length_eq_zero hb]
    rfl
  | succ m ih =>
    let g := accessIn j.next e
    let j' : Job := { j with outs := linesFrom (a + 32) m (bs.drop 32), next := j.next + 1 }
    have ha : j.act g = .ok (g.put a (bs.take 32), j') := by
      rw [act_asave g hk, ho]
      rfl
    have hi := ih (e := afterAccess e.slot.undo { j' with undo := (g.put a (bs.take 32)).slot.undo ++ j.undo } (g.put a (bs.take 32)))
      (j := { j' with undo := (g.put a (bs.take 32)).slot.undo ++ j.undo }) hk hl rfl (by rw [List.length_drop, hb]; omega) rfl
    refine (congrArg TEnv.mem (runJobs_act he (by simp [Job.over, ho, linesFrom]) ha (m + 1))).trans (hi.trans ?_)
    rw [cellsAt_line _ (show 32 ≤ bs.length by omega), memApply_append, Nat.add_assoc]
    rfl

/-- The lines that a bundle's ASAVE has left to save, once the last is saved. -/
theorem later_saves {s t : State} {b : Issue} {e : TEnv} {us : List DiePart} {y : TileSlot} {j : Job} {a m : Nat} {bs : List Byte} (h : s.acts b e)
    (hc : SlotChange b us e s t y) (hy : y.cur.jobs = [j]) (hk : j.kind = .asave) (hl : j.left = 0) (ho : j.outs = linesFrom a m bs) (hb : bs.length = 32 * m)
    (hn : j.next = s.cycleOf b + 1) : (laterEnv t b (s.cycleOf b) (m + 1)).mem = memApply t.mem (cellsAt (slotBase s b + a) bs) := by
  have hbase := after_base h hc (s.cycleOf b)
  have hjobs : (afterEnv t b (s.cycleOf b)).t.jobs = [j] := (congrArg Tile.jobs (after_t hc _)).trans hy
  have hmem : (afterEnv t b (s.cycleOf b)).mem = t.mem := rfl
  rw [laterEnv]
  generalize afterEnv t b (s.cycleOf b) = f at *
  rw [jobsTo_single_mem hjobs (by omega), show s.cycleOf b + (m + 1) + 1 - j.next = m + 1 by omega, runJobs_saves hk hl ho hb hjobs, hbase, hmem]

section
variable {s : State} {b : Issue} {e e' : TEnv} (h : s.acts b e) (f : BitVec 27)

/-- The row of ASAVE. -/
def savedRow (f : BitVec 27) (e : TEnv) : Row := tget e.t.rows (bits 26 22 f.toNat) default

/-- The job of an ASAVE whose first line is saved in `g`, its bank and those of the others taken in `e'`. -/
def saveJob (f : BitVec 27) (e e' g : TEnv) : Job :=
  { e'.job .asave 0 (bits 26 22 f.toNat) (32 * bits 21 8 f.toNat) with
    outs := linesFrom (32 * bits 21 8 f.toNat + 32) (stateLines (savedRow f e).kind - 1) ((savedRow f e).stored.drop 32), next := e'.now + 1
    undo := g.slot.undo.take (g.slot.undo.length - e'.slot.undo.length) }

include h

/-- ASAVE with the row's first line saved. -/
theorem opAsave_first (hm : e.t.macBusy ≤ s.cycleOf b) (hz : bits 7 0 f.toNat = 0)
    (hr : (e.withT { e.t with macBusy := s.cycleOf b + stateLines (savedRow f e).kind }).reserve .asave (s.cycleOf b) (32 * bits 21 8 f.toNat) (stateLines (savedRow f e).kind) = .ok e') :
    let g := e'.put (32 * bits 21 8 f.toNat) ((savedRow f e).stored.take 32)
    opAsave f e = .ok (g.withT { g.t with jobs := g.t.jobs ++ [saveJob f e e' g] }) := by
  intro g
  let j : Job := { e'.job .asave 0 (bits 26 22 f.toNat) (32 * bits 21 8 f.toNat) with
    outs := linesFrom (32 * bits 21 8 f.toNat) (stateLines (savedRow f e).kind) (savedRow f e).stored }
  obtain ⟨m, hn⟩ := Nat.exists_eq_succ_of_ne_zero (stateLines_pos (savedRow f e).kind)
  have hj : j.over = false := by simp [j, Job.over, hn, linesFrom]
  have ha : j.act e' = .ok (g, { saveJob f e e' g with undo := [] }) := by
    rw [act_asave e' rfl]
    simp only [j, hn, linesFrom, saveJob]
    rfl
  refine Eq.trans ?_ (start_of_act hj ha)
  unfold opAsave sf
  rw [hz, acts_now h, idle_ok hm]
  dsimp only
  rw [← acts_now h] at hr ⊢
  change Except.bind ((e.withT { e.t with macBusy := e.now + stateLines (savedRow f e).kind }).reserve .asave e.now (32 * bits 21 8 f.toNat)
    (stateLines (savedRow f e).kind)) _ = _
  rw [hr]
  rfl

/-- ASAVE's first line. -/
theorem asave_first (hm : e.t.macBusy ≤ s.cycleOf b) (hz : bits 7 0 f.toNat = 0)
    (hr : (e.withT { e.t with macBusy := s.cycleOf b + stateLines (savedRow f e).kind }).reserve .asave (s.cycleOf b) (32 * bits 21 8 f.toNat) (stateLines (savedRow f e).kind) = .ok e') :
    let a := slotBase s b + 32 * bits 21 8 f.toNat
    let g := e'.put (32 * bits 21 8 f.toNat) ((savedRow f e).stored.take 32)
    let g' := g.withT { g.t with jobs := g.t.jobs ++ [saveJob f e e' g] }
    opAsave f e = .ok g' ∧ Moves [.tar] (fun i => a ≤ i ∧ i < a + 32) e g' ∧ g'.mem = memApply e.mem (cellsAt a ((savedRow f e).stored.take 32)) := by
  intro a g g'
  have ho := opAsave_first h f hm hz hr
  obtain ⟨bk, rfl⟩ := reserve_ok hr
  have hp := Moves.put (e := (e.withT { e.t with macBusy := s.cycleOf b + stateLines (savedRow f e).kind }).withBanks bk) (32 * bits 21 8 f.toNat) ((savedRow f e).stored.take 32)
  have hlen : 32 ≤ (savedRow f e).stored.length := by
    have := Nat.pos_of_ne_zero (stateLines_pos (savedRow f e).kind)
    rw [stored_length]
    omega
  have ha : a = sramBase e.d.die e.p + 32 * bits 21 8 f.toNat := congrArg (· + _) (acts_base h).symm
  rw [List.length_take_of_le hlen] at hp
  rw [ha]
  exact ⟨ho, ((Moves.withT _).trans (.withT _)).trans (hp.trans (.withT _)), rfl⟩

theorem asave_saves (hw : Memory.wf s.mem = true) (hm : e.t.macBusy ≤ s.cycleOf b) (hz : bits 7 0 f.toNat = 0)
    (hr : (e.withT { e.t with macBusy := s.cycleOf b + stateLines (savedRow f e).kind }).reserve .asave (s.cycleOf b) (32 * bits 21 8 f.toNat) (stateLines (savedRow f e).kind) = .ok e') :
    let n := stateLines (savedRow f e).kind
    let a := slotBase s b + 32 * bits 21 8 f.toNat
    ∃ t y, exec (.asave b f) s = .next t ∧ SlotNextMem b [] (fun i => i < a ∨ a + 32 ≤ i) e s t y ∧ memRead t.mem a 32 = (savedRow f e).stored.take 32 ∧
      y.cur.rows = e.t.rows ∧ y.cur.macBusy = s.cycleOf b + n ∧
      (e.t.jobs = [] → memRead (laterEnv t b (s.cycleOf b) n).mem a (32 * n) = (savedRow f e).stored ∧
        ∀ i, i < a ∨ a + 32 * n ≤ i → memGet (laterEnv t b (s.cycleOf b) n).mem i = memGet e.mem i) := by
  intro n a
  have hwe := acts_mem_wf h hw
  have hn : 1 ≤ n := Nat.pos_of_ne_zero (stateLines_pos _)
  have hlen : (savedRow f e).stored.length = 32 * n := stored_length _
  obtain ⟨ho, hmv, hmem⟩ := asave_first h f hm hz hr
  obtain ⟨hc, ht⟩ := slot_change h ho hmv
  obtain ⟨bk, rfl⟩ := reserve_ok hr
  have hmem := ht.trans hmem
  refine ⟨_, _, rfl, slot_nextMem h hw ho hmv fun i hi => by omega, ?_, rfl, rfl, fun hnil => ?_⟩
  · have hread := memRead_memApply_cellsAt e.mem a ((savedRow f e).stored.take 32) hwe
    rwa [List.length_take_of_le (by omega), ← hmem] at hread
  · have hnext : e.now + 1 = s.cycleOf b + 1 := congrArg (· + 1) (acts_now h)
    have hl := later_saves h hc (congrArg (· ++ _) hnil) rfl rfl rfl (by rw [List.length_drop, hlen, Nat.mul_sub]) hnext
    have hall : (laterEnv (s.runSlot b (opAsave f)) b (s.cycleOf b) n).mem = memApply e.mem (cellsAt a (savedRow f e).stored) := by
      rw [cellsAt_line _ (show 32 ≤ (savedRow f e).stored.length by omega), memApply_append, ← hmem, ← Nat.sub_add_cancel hn]
      exact hl
    rw [hall, ← hlen]
    refine ⟨memRead_memApply_cellsAt _ _ _ hwe, fun i hi => memGet_memApply_ne _ _ _ hwe fun c hcell hci => ?_⟩
    have hrange := cellsAt_range a _ c hcell
    omega

end

end Sys2Proof

/-! SUPPORT. MMA (R102): its first row, and the rows that its later cycles leave alone. -/

namespace Sys2Proof

open Machine

/-! ### The first row -/

/-- The environment in which an MMA adds its first row: its buffers swapped where the bundle asks for it, the array busy. -/
def mmaEnv (now : Nat) (f : BitVec 27) (e : TEnv) : TEnv :=
  if bits 13 13 f.toNat = 1 then e.withT { e.t with wAct := e.t.wSh, wSh := e.t.wAct, macBusy := now + (bits 7 3 f.toNat + 1) }
  else e.withT { e.t with macBusy := now + (bits 7 3 f.toNat + 1) }

/-- The job of an MMA once its first row is done. -/
def mmaJob (now : Nat) (f : BitVec 27) (k : AccKind) (e : TEnv) : Job :=
  ⟨.mma (bits 26 21 f.toNat) (bits 20 15 f.toNat) k (bits 14 14 f.toNat == 1), e.slot.pcAt, now, now + 1, bits 7 3 f.toNat, bits 12 8 f.toNat + 1, 0, 0, [], [], none, e.t.rows, []⟩

section
variable (now : Nat) (f : BitVec 27) (e : TEnv)

theorem mmaEnv_eq : ∃ wa ws, mmaEnv now f e = e.withT { e.t with wAct := wa, wSh := ws, macBusy := now + (bits 7 3 f.toNat + 1) } ∧
    wa = (if bits 13 13 f.toNat = 1 then e.t.wSh else e.t.wAct) ∧ ws = if bits 13 13 f.toNat = 1 then e.t.wAct else e.t.wSh := by
  unfold mmaEnv
  split
  · exact ⟨_, _, rfl, rfl, rfl⟩
  · exact ⟨_, _, rfl, rfl, rfl⟩

end

section
variable {s : State} {b : Issue} {e e' : TEnv} (h : s.acts b e) (f : BitVec 27) {k : AccKind}
include h

theorem opMma_start (hm : e.t.macBusy ≤ s.cycleOf b) (hz : bits 2 0 f.toNat = 0) (hrow : bits 12 8 f.toNat + bits 7 3 f.toNat ≤ 31)
    (hk : macKind (bits 26 21 f.toNat) (bits 20 15 f.toNat) = some k) (hkind : (bits 14 14 f.toNat == 1) = true ∨ e.t.kindsAre k (bits 12 8 f.toNat) (bits 7 3 f.toNat) = true)
    (hswap : bits 13 13 f.toNat = 1 → e.t.wldBusy ≤ s.cycleOf b) :
    opMma f e = (mmaEnv (s.cycleOf b) f e).start
      (e.job (.mma (bits 26 21 f.toNat) (bits 20 15 f.toNat) k (bits 14 14 f.toNat == 1)) (bits 7 3 f.toNat + 1) (bits 12 8 f.toNat) 0) := by
  rw [← acts_now h] at hm hswap ⊢
  unfold opMma sf mmaEnv
  dsimp only
  rw [hz, hk, need_true (by simp [hrow])]
  dsimp only
  rw [idle_ok hm, need_true (by simpa using hkind)]
  by_cases hs : bits 13 13 f.toNat = 1
  · rw [idle_ok (hswap hs), if_pos hs, if_pos hs]
    rfl
  · rw [if_neg hs, if_neg hs]
    rfl

/-- MMA with its first row done. -/
theorem opMma_first (hm : e.t.macBusy ≤ s.cycleOf b) (hz : bits 2 0 f.toNat = 0) (hrow : bits 12 8 f.toNat + bits 7 3 f.toNat ≤ 31)
    (hk : macKind (bits 26 21 f.toNat) (bits 20 15 f.toNat) = some k) (hkind : (bits 14 14 f.toNat == 1) = true ∨ e.t.kindsAre k (bits 12 8 f.toNat) (bits 7 3 f.toNat) = true)
    (hswap : bits 13 13 f.toNat = 1 → e.t.wldBusy ≤ s.cycleOf b)
    (hr : mmaRow (bits 26 21 f.toNat) (bits 20 15 f.toNat) k (bits 14 14 f.toNat == 1) (bits 12 8 f.toNat) (s.cycleOf b) (mmaEnv (s.cycleOf b) f e) = .ok e') :
    opMma f e = .ok (e'.withT { e'.t with jobs := e'.t.jobs ++ [mmaJob (s.cycleOf b) f k e] }) := by
  have hnow : e.now = s.cycleOf b := acts_now h
  rw [opMma_start h f hm hz hrow hk hkind hswap]
  have hu : e'.slot.undo = (mmaEnv (s.cycleOf b) f e).slot.undo := by
    obtain ⟨g, bk, rows, evs, rfl, -⟩ := mmaRow_ok hr
    rfl
  let j : Job := { mmaJob (s.cycleOf b) f k e with next := s.cycleOf b, left := bits 7 3 f.toNat + 1, row := bits 12 8 f.toNat }
  have hj : e.job (.mma (bits 26 21 f.toNat) (bits 20 15 f.toNat) k (bits 14 14 f.toNat == 1)) (bits 7 3 f.toNat + 1) (bits 12 8 f.toNat) 0 = j := by
    unfold TEnv.job
    rw [hnow]
    rfl
  have ha : j.act (mmaEnv (s.cycleOf b) f e) = .ok (e', mmaJob (s.cycleOf b) f k e) := by
    rw [act_mma _ rfl, show mmaRow _ _ _ _ j.row j.born _ = _ from hr]
    rfl
  rw [hj, start_of_act (by simp [j, Job.over]) ha, hu, Nat.sub_self, List.take_zero]
  rfl

end

/-! ### The rows of the later cycles -/

/-- From `t` to `u` the rows outside `lo` to `hi`, and those that the mask disables, are unchanged. -/
def RowsKept (lo hi : Nat) (t u : Tile) : Prop := u.mask = t.mask ∧ ∀ q, (q < lo ∨ hi < q ∨ t.enabled q = false) → tget u.rows q default = tget t.rows q default

/-- A job of an MMA that began in `t` and whose rows lie in `lo` to `hi`. -/
structure MmaJobIn (lo hi : Nat) (t : Tile) (j : Job) : Prop where
  kind : ∃ af bf k clr, j.kind = .mma af bf k clr
  outs : j.outs = []
  rows0 : j.rows0 = t.rows
  lo : lo ≤ j.row
  hi : j.row + j.left ≤ hi + 1

/-- The tile's only job, if it still has one, is an MMA that began in `t`, and its rows are kept. -/
structure MmaRuns (lo hi : Nat) (t : Tile) (e : TEnv) : Prop where
  kept : RowsKept lo hi t e.t
  jobs : e.t.jobs = [] ∨ ∃ j, e.t.jobs = [j] ∧ MmaJobIn lo hi t j

section
variable {lo hi : Nat} {t : Tile} {e e' : TEnv} {j : Job}

/-- A row of an MMA between `lo` and `hi`. -/
theorem RowsKept.mmaRow {af bf r born : Nat} {k : AccKind} {clr : Bool} (hk : RowsKept lo hi t e.t) (hlo : lo ≤ r) (hhi : r ≤ hi)
    (h : mmaRow af bf k clr r born e = .ok e') : RowsKept lo hi t e'.t ∧ e'.t.jobs = e.t.jobs := by
  obtain ⟨g, bk, rows, evs, rfl, hq⟩ := mmaRow_ok h
  obtain ⟨hm, hrows⟩ := hk
  refine ⟨⟨hm, fun q ho => (hq q ?_).trans (hrows q ho)⟩, rfl⟩
  rcases ho with ho | ho | ho
  · exact .inl (by omega)
  · exact .inl (by omega)
  · exact .inr (by rwa [Tile.enabled, hm])

/-- An MMA's job goes on in its own rows. -/
theorem MmaJobIn.goesOn (hj : MmaJobIn lo hi t j) (h0 : j.left ≠ 0) (u : List Host.Cell) : MmaJobIn lo hi t { j.on with row := j.row + 1, undo := u } := by
  obtain ⟨hkind, houts, hrows, hlo, hhi⟩ := hj
  refine ⟨hkind, houts, hrows, by simp only; omega, ?_⟩
  simp only [Job.on]
  omega

/-- A cycle of an MMA's job: its row, or a fault that puts the rows back (R111). -/
theorem MmaRuns.stepJob (hk : RowsKept lo hi t e.t) (hjobs : e.t.jobs = []) (hj : MmaJobIn lo hi t j) (hn : e.now < j.next ∨ j.left ≠ 0) : MmaRuns lo hi t (e.stepJob j) := by
  by_cases hlt : e.now < j.next
  · rw [TEnv.stepJob, if_pos hlt]
    exact ⟨hk, .inr ⟨j, congrArg (· ++ [j]) hjobs, hj⟩⟩
  have h0 : j.left ≠ 0 := hn.resolve_left hlt
  obtain ⟨af, bf, k, clr, hkind⟩ := hj.kind
  cases hr : Machine.mmaRow af bf k clr j.row j.born { e with slot := { e.slot with undo := [] } } with
  | ok f =>
    obtain ⟨hf, hfj⟩ := RowsKept.mmaRow (e := { e with slot := { e.slot with undo := [] } }) hk hj.lo (by have := hj.hi; omega) hr
    have ha : j.act { e with slot := { e.slot with undo := [] } } = .ok (f, { j.on with row := j.row + 1 }) := by
      rw [act_mma _ hkind, hr]
      rfl
    rw [stepJob_act hlt ha]
    exact ⟨hf, .inr ⟨_, congrArg (· ++ _) (hfj.trans hjobs), hj.goesOn h0 _⟩⟩
  | error c =>
    have ha : j.actNoted e = .error c := by
      rw [Job.actNoted, act_mma _ hkind, hr]
      rfl
    have hrows : faultRows j e = t.rows := by
      rw [faultRows, hkind]
      exact hj.rows0
    rw [TEnv.stepJob, if_neg hlt, ha]
    change MmaRuns lo hi t (e.jobFault j c)
    rw [jobFault_eq, hrows]
    exact ⟨⟨hk.1, fun _ _ => rfl⟩, .inl hjobs⟩

theorem MmaRuns.cycleJobs (h : MmaRuns lo hi t e) (hne : e.t.jobs ≠ []) : MmaRuns lo hi t e.cycleJobs := by
  obtain ⟨hk, hjobs⟩ := h
  obtain ⟨j, hj, hin⟩ := hjobs.resolve_left hne
  cases he : j.endsAt e.now with
  | true =>
    obtain ⟨af, bf, k, clr, hkind⟩ := hin.kind
    rw [cycleJobs_ends hj he, Job.finish, hkind]
    exact ⟨hk, .inl rfl⟩
  | false =>
    rw [cycleJobs_goesOn hj he]
    refine MmaRuns.stepJob hk rfl hin ?_
    by_contra hc
    obtain ⟨hnext, hleft⟩ := not_or.1 hc
    have he : ¬j.next ≤ e.now := by simpa [Job.endsAt, Job.over, hin.outs, not_not.1 hleft] using he
    exact hnext (Nat.not_le.1 he)

theorem MmaRuns.runJobs (h : MmaRuns lo hi t e) (n c : Nat) : MmaRuns lo hi t (TEnv.runJobs n c e) := by
  induction n generalizing c e with
  | zero => exact h
  | succ n ih =>
    unfold TEnv.runJobs
    split
    · exact h
    · rename_i hne
      exact ih (MmaRuns.cycleJobs (e := { e with now := c }) ⟨h.kept, h.jobs⟩ (fun h0 => hne (List.isEmpty_iff.2 h0))) (c + 1)

theorem MmaRuns.jobsTo (h : MmaRuns lo hi t e) (n : Nat) : RowsKept lo hi t (e.jobsTo n).t := (h.runJobs _ _).kept

end

section
variable {s : State} {b : Issue} {e e' : TEnv}

/-- The terms that a row of an MMA adds where the mask enables it (R102). -/
theorem mmaRow_adds {af bf r born : Nat} {k : AccKind} {clr : Bool} {e1 : TEnv} {a : AOperand} (hr : mmaRow af bf k clr r born e = .ok e') (hen : e.t.enabled r = true)
    (hx : e.operandA af e.now = .ok (e1, a)) : tget e'.t.rows r default = (mmaAdded af bf k clr r a e.t).1 := by
  rw [mmaRow_of_operand hx] at hr
  obtain ⟨hen1, hadd⟩ : e1.t.enabled r = true ∧ mmaAdded af bf k clr r a e1.t = mmaAdded af bf k clr r a e.t := by
    obtain ⟨g, bk, rfl⟩ := operandA_ok hx
    exact ⟨hen, rfl⟩
  rw [if_pos hen1, hadd] at hr
  cases hr
  rw [(flags_eq born _).choose_spec]
  exact tget_tset_same _ _ _ _

theorem mma_terms {f : BitVec 27} {k : AccKind} {af bf r now : Nat} {clr : Bool} (hn : e.now = now) (hr : mmaRow af bf k clr r now (mmaEnv now f e) = .ok e') {e1 : TEnv}
    {a : AOperand} (hen : e.t.enabled r = true) (hx : (mmaEnv now f e).operandA af now = .ok (e1, a)) :
    let old := if clr then clearedRow k e.t.anch else tget e.t.rows r default
    tget e'.t.rows r default = (old.mapCols fun j c =>
      if k = .fp32 then (addBf16 (bf16Pairs a (mmaEnv now f e).t.wAct.lines j) c, [])
      else addTerms k old.anchor (mmaTerms af bf a (mmaEnv now f e).t.wAct.lines j) c).1 := by
  obtain ⟨hnow, hmask, hanch, hrows⟩ : (mmaEnv now f e).now = now ∧ (mmaEnv now f e).t.mask = e.t.mask ∧ (mmaEnv now f e).t.anch = e.t.anch ∧ (mmaEnv now f e).t.rows = e.t.rows := by
    obtain ⟨wa, ws, he0, -, -⟩ := mmaEnv_eq now f e
    rw [he0]
    exact ⟨hn, rfl, rfl, rfl⟩
  rw [mmaRow_adds hr (by rwa [Tile.enabled, hmask]) (by rwa [hnow]), mmaAdded, hanch, hrows]

variable (h : s.acts b e) (f : BitVec 27) {k : AccKind}
include h

theorem mma_adds (hm : e.t.macBusy ≤ s.cycleOf b) (hz : bits 2 0 f.toNat = 0) (hrow : bits 12 8 f.toNat + bits 7 3 f.toNat ≤ 31)
    (hk : macKind (bits 26 21 f.toNat) (bits 20 15 f.toNat) = some k) (hkind : (bits 14 14 f.toNat == 1) = true ∨ e.t.kindsAre k (bits 12 8 f.toNat) (bits 7 3 f.toNat) = true)
    (hswap : bits 13 13 f.toNat = 1 → e.t.wldBusy ≤ s.cycleOf b)
    (hr : mmaRow (bits 26 21 f.toNat) (bits 20 15 f.toNat) k (bits 14 14 f.toNat == 1) (bits 12 8 f.toNat) (s.cycleOf b) (mmaEnv (s.cycleOf b) f e) = .ok e') :
    ∃ t, exec (.mma b f) s = .next t ∧ SlotNext b [] e s t { e'.slot with cur := { e'.slot.cur with jobs := e'.slot.cur.jobs ++ [mmaJob (s.cycleOf b) f k e] } } ∧
      e'.t.macBusy = s.cycleOf b + (bits 7 3 f.toNat + 1) ∧ e'.t.wAct = (if bits 13 13 f.toNat = 1 then e.t.wSh else e.t.wAct) ∧
      e'.t.wSh = (if bits 13 13 f.toNat = 1 then e.t.wAct else e.t.wSh) ∧
      (e.t.jobs = [] → ∀ r, (r < bits 12 8 f.toNat ∨ bits 12 8 f.toNat + bits 7 3 f.toNat < r ∨ e.t.enabled r = false) →
        tget (laterEnv t b (s.cycleOf b) (bits 7 3 f.toNat + 1)).t.rows r default = tget e.t.rows r default) := by
  have ho := opMma_first h f hm hz hrow hk hkind hswap hr
  obtain ⟨wa, ws, he0, hwa, hws⟩ := mmaEnv_eq (s.cycleOf b) f e
  rw [he0] at hr
  obtain ⟨hkept, hjobs⟩ := RowsKept.mmaRow (lo := bits 12 8 f.toNat) (hi := bits 12 8 f.toNat + bits 7 3 f.toNat) (t := e.t)
    (e := e.withT { e.t with wAct := wa, wSh := ws, macBusy := s.cycleOf b + (bits 7 3 f.toNat + 1) }) ⟨rfl, fun _ _ => rfl⟩ (Nat.le_refl _)
    (Nat.le_add_right _ _) hr
  obtain ⟨g, bk, rows, evs, rfl, -⟩ := mmaRow_ok hr
  have hnext := slot_next (us := []) h ho (.of_die rfl (.tar _ _) rfl rfl rfl)
  refine ⟨_, rfl, hnext, rfl, hwa, hws, fun hnil => (MmaRuns.jobsTo ⟨?_, .inr ⟨mmaJob (s.cycleOf b) f k e, ?_, ?_⟩⟩ _).2⟩
  · rw [after_t hnext.1]
    exact hkept
  · rw [after_t hnext.1]
    exact congrArg (· ++ _) (hjobs.trans hnil)
  · exact ⟨⟨_, _, _, _, rfl⟩, rfl, rfl, Nat.le_succ _, by simp only [mmaJob]; omega⟩

end

end Sys2Proof

/-! SUPPORT. WB (R79 to R82): its first row's first line, and what it leaves alone. -/

namespace Sys2Proof

open Machine

/-! ### A row in a format without a scale (R80) -/

theorem isMx4_of_not_isMx {o : Nat} (h : isMx o = false) : isMx4 o = false := by
  simp only [isMx, isMx4, decide_eq_false_iff_not] at *
  omega

theorem elemBits_pos (o : Nat) : 4 ≤ elemBits o := by
  unfold elemBits
  split <;> decide

/-- A row in a format without a scale is as long as its 32 elements, and has no scale byte. -/
theorem wbRow_scalar {o : Nat} (h : isMx o = false) (z : Nat → Int) (vs : List Num) : (wbRow o z vs).2.1 = none ∧ (wbRow o z vs).1.length = 4 * elemBits o := by
  unfold wbRow
  rw [h, if_neg Bool.false_ne_true]
  split
  · exact ⟨rfl, leBytes_length _ _⟩
  · exact ⟨rfl, leBytes_length _ _⟩

/-- The bytes of a row of tile `t` in format `o`, requantised. -/
def wbBytes (o r : Nat) (t : Tile) : List Byte :=
  (wbRow o (fun j => (t.wpar.getD j default).z) ((List.range 32).map fun j =>
    wbValue (t.wpar.getD j default) (accSrc (tget t.rows r default).kind (tget t.rows r default).anchor (tget (tget t.rows r default).cols j accZero)).1)).1

section
variable {e e' : TEnv} {o r : Nat}

/-- The first cycle of a row in a format without a scale, its address that of generator S. -/
theorem wbStart_scalar (ho : isMx o = false) {g : Gen} {c : Wag} {a : Nat} (hg : e.t.genS.next = .ok (g, c, some a)) (i born : Nat) (sh : Option (Wag × Option Nat)) :
    ∃ evs, wbStart o r i born sh e = .ok ((e.withEvents evs).withT { e.t with genS := g }, some (c, some a), linesFrom a ((4 * elemBits o + 31) / 32) (wbBytes o r e.t)) := by
  have hsrc : (List.range 32).map (fun j => wbValue (e.t.wpar.getD j default)
        (((List.range 32).map fun j => accSrc (tget e.t.rows r default).kind (tget e.t.rows r default).anchor (tget (tget e.t.rows r default).cols j accZero)).getD j (.nan, [])).1) =
      (List.range 32).map fun j => wbValue (e.t.wpar.getD j default)
        (accSrc (tget e.t.rows r default).kind (tget e.t.rows r default).anchor (tget (tget e.t.rows r default).cols j accZero)).1 :=
    List.map_congr_left fun j hj => by simp [List.getD, List.mem_range.1 hj]
  unfold wbStart
  dsimp only
  generalize hF : TEnv.flags e born _ = F
  obtain ⟨evs, rfl⟩ : ∃ evs, F = e.withEvents evs := hF ▸ flags_eq born _
  rw [isMx4_of_not_isMx ho, hsrc, show (e.withEvents evs).t = e.t from rfl, hg, (wbRow_scalar ho _ _).1]
  exact ⟨evs, rfl⟩

/-- The first cycle of a row in a format without a scale stores the row's first line. -/
theorem wbCycle_scalar {j j' : Job} (ho : isMx o = false) {g : Gen} {c : Wag} {a : Nat} (hg : e.t.genS.next = .ok (g, c, some a)) (hj : j.outs = [])
    (h : wbCycle o j e = .ok (e', j')) : e'.mem = memApply e.mem (cellsAt (sramBase e.d.die e.p + a) ((wbBytes o j.row e.t).take 32)) := by
  obtain ⟨evs, hs⟩ := wbStart_scalar (r := j.row) ho hg j.inst j.born j.shared
  obtain ⟨m, hm⟩ : ∃ m, (4 * elemBits o + 31) / 32 = m + 1 := Nat.exists_eq_succ_of_ne_zero (by have := elemBits_pos o; omega)
  rw [hm, linesFrom] at hs
  obtain ⟨⟨f, i⟩, hf, h⟩ := bind_ok h
  unfold Sys2Proof.wbBegin at hf
  rw [hj] at hf
  obtain ⟨x, hx, hf⟩ := bind_ok hf
  cases hs.symm.trans hx
  cases hf
  obtain ⟨f, hf, h⟩ := bind_ok h
  cases h
  obtain ⟨⟨bk, crc, rfl⟩, -⟩ := write_ok hf
  rfl

end

section
variable {s : State} {b : Issue} {e e' : TEnv} (h : s.acts b e) (f : BitVec 27)

/-- The environment in which a WB stores its first line, the array busy. -/
def wbEnv (now : Nat) (f : BitVec 27) (e : TEnv) : TEnv :=
  e.withT { e.t with macBusy := now + (bits 15 11 f.toNat + 1) * ((4 * elemBits (bits 26 21 f.toNat) + 31) / 32) }

/-- The job of a WB before its first cycle. -/
def wbJob (f : BitVec 27) (e : TEnv) : Job := e.job (.wb (bits 26 21 f.toNat)) (bits 15 11 f.toNat + 1) (bits 20 16 f.toNat) 0

include h

/-- WB with its first line stored. -/
theorem opWb_first (hm : e.t.macBusy ≤ s.cycleOf b) (hz : bits 10 0 f.toNat = 0) (hfmt : wbFormat (bits 26 21 f.toNat) = true)
    (hrow : bits 20 16 f.toNat + bits 15 11 f.toNat ≤ 31) {j' : Job} (ha : (wbJob f (wbEnv (s.cycleOf b) f e)).act (wbEnv (s.cycleOf b) f e) = .ok (e', j')) :
    opWb f e = .ok (e'.withT { e'.t with jobs := e'.t.jobs ++ [{ j' with undo := e'.slot.undo.take (e'.slot.undo.length - e.slot.undo.length) }] }) := by
  refine Eq.trans ?_ (start_of_act (e := wbEnv (s.cycleOf b) f e) (j := wbJob f (wbEnv (s.cycleOf b) f e)) (by simp [wbJob, TEnv.job, Job.over]) ha)
  rw [← acts_now h] at hm ⊢
  unfold opWb sf
  dsimp only
  rw [hz, hfmt, need_true (by simp [hrow]), idle_ok hm]
  rfl

theorem wb_stores (hw : Memory.wf s.mem = true) (hm : e.t.macBusy ≤ s.cycleOf b) (hz : bits 10 0 f.toNat = 0) (hfmt : wbFormat (bits 26 21 f.toNat) = true)
    (hrow : bits 20 16 f.toNat + bits 15 11 f.toNat ≤ 31) {j' : Job} (ha : (wbJob f (wbEnv (s.cycleOf b) f e)).act (wbEnv (s.cycleOf b) f e) = .ok (e', j')) :
    ∃ t y, exec (.wb b f) s = .next t ∧ SlotNextMem b [] (fun a => a < slotBase s b ∨ slotBase s b + 0x7FC00 ≤ a) e s t y ∧ y.cur.rows = e.t.rows ∧
      y.cur.wAct = e.t.wAct ∧ y.cur.wpar = e.t.wpar ∧ y.cur.v = e.t.v ∧ y.cur.macBusy = (wbEnv (s.cycleOf b) f e).t.macBusy ∧
      y.cur.jobs = e.t.jobs ++ [{ j' with undo := e'.slot.undo.take (e'.slot.undo.length - e.slot.undo.length) }] ∧
      (∀ g c a, isMx (bits 26 21 f.toNat) = false → e.t.genS.next = .ok (g, c, some a) →
        memRead t.mem (slotBase s b + a) (min 32 (4 * elemBits (bits 26 21 f.toNat))) = (wbBytes (bits 26 21 f.toNat) (bits 20 16 f.toNat) e.t).take 32) := by
  have ho := opWb_first h f hm hz hfmt hrow ha
  rw [act_wb _ rfl] at ha
  have hwb := WritesBack.wbCycle ha
  have hmv : Moves [.tar] (inTile e) e (e'.withT { e'.t with jobs := e'.t.jobs ++ [{ j' with undo := e'.slot.undo.take (e'.slot.undo.length - e.slot.undo.length) }] }) :=
    (Moves.withT _).trans (hwb.moves.trans (.withT _))
  obtain ⟨hc, hmem⟩ := slot_change h ho hmv
  obtain ⟨g, bk, crc, ht⟩ := hwb.tile
  refine ⟨_, _, rfl, slot_nextMem h hw ho hmv ?_, (congrArg Tile.rows ht :), (congrArg Tile.wAct ht :), (congrArg Tile.wpar ht :), (congrArg Tile.v ht :), (congrArg Tile.macBusy ht :),
    (congrArg (·.jobs ++ _) ht :), fun g c a hmx hg => ?_⟩
  · intro a ha hin
    rw [inTile, acts_base h] at hin
    omega
  · have hlen : (wbBytes (bits 26 21 f.toNat) (bits 20 16 f.toNat) e.t).length = 4 * elemBits (bits 26 21 f.toNat) := (wbRow_scalar hmx _ _).2
    have hread := memRead_memApply_cellsAt e.mem (slotBase s b + a) ((wbBytes (bits 26 21 f.toNat) (bits 20 16 f.toNat) e.t).take 32) (acts_mem_wf h hw)
    have hstored := wbCycle_scalar (e := wbEnv (s.cycleOf b) f e) hmx hg rfl ha
    rw [List.length_take, hlen, ← acts_base h] at hread
    rw [hmem, ← acts_base h]
    exact (congrArg (memRead · _ _) hstored).trans hread

end

end Sys2Proof

/-! ### MacOperations -/

namespace Sys2Proof

open Machine

/-- Settles O36: each operation of the MAC slot by its own lemma; those that read or save lines by running the tile's only job to its last line, and MMA's
later cycles by an invariant of its job that holds whatever they meet. -/
theorem macOperations : Obligations.MacOperations := by
  intro s b f e h
  refine ⟨mac_busy h f, wld_busy h f, fun n m e' hb hz hl hr => ?_, fun hm => ⟨anch_sets h f hm, fun e' bs hu hz hr => mask_sets h f hm hu hz hr,
    fun e' hu hz hr => wpar_loads h f hm hu hz hr, fun e' hz hr => bias_adds h f hm hz hr, fun e' hz hr => amerge_adds h f hm hz hr,
    fun k e' hz hrow hk hkind hswap hr => ?_, fun e' j' hz hfmt hrow hw ha => wb_stores h f hw hm hz hfmt hrow ha,
    fun e' hz hw hr => asave_saves h f hw hm hz hr⟩⟩
  · exact wld_loads h f hb hz hl hr
  · obtain ⟨t, ht, hs, hbusy, hact, hsh, hrows⟩ := mma_adds h f hm hz hrow hk hkind hswap hr
    exact ⟨t, ht, hs, hbusy, hact, hsh, hrows, fun e1 a hen hx => mma_terms (acts_now h) hr hen hx⟩

end Sys2Proof

/-! SUPPORT. The control and sync slot (R98, R110, R208 to R220): what each of its operations leaves, and the ends of waits and Strokes. -/

namespace Sys2Proof

open Machine

/-! ### Operations that check their fields first -/

/-- What holds of each command of a list that a condition adds holds of each of none where the condition fails. -/
theorem forall_mem_ite_nil {A : Type} {c : Prop} [Decidable c] {l : List A} {P : A → Prop} (h : c → ∀ a ∈ l, P a) : ∀ a ∈ (if c then l else []), P a := by
  split
  · exact h ‹_›
  · simp

theorem forall_mem_append_of {A : Type} {l m : List A} {P : A → Prop} (hl : ∀ a ∈ l, P a) (hm : ∀ a ∈ m, P a) : ∀ a ∈ l ++ m, P a :=
  List.forall_mem_append.2 ⟨hl, hm⟩

theorem need_faults {A : Type} {c : Bool} (h : c = false) (k : Unit → Except Nat A) : Faults ((need c).bind k) := ⟨_, by rw [need_false h]; rfl⟩

section
variable {s : State} {b : Issue} {e : TEnv} (h : s.acts b e)
include h

/-- The die after an operation that answers `e'`. -/
theorem runSlot_die {op : TEnv → Except Nat TEnv} {e' : TEnv} (ho : op e = .ok e') : (s.runSlot b op).dieOf b.die = e'.d.setSlot e'.p e'.slot := by
  have hr := (State.onDieMem_dieOf b.die s (fun _ => runSlotOn b op)).trans (congrArg Prod.fst (runSlotOn_acts h op))
  rwa [ho] at hr

/-- An operation that leaves the tile `t`, its fields in order. -/
theorem need_next {op : TEnv → Except Nat TEnv} {c : Bool} {t : Tile} (ho : op e = (need c).bind fun _ => .ok (e.withT t)) (hc : c = true) :
    SlotNext b [] e s (s.runSlot b op) { e.slot with cur := t } :=
  slot_next h (ho.trans (by rw [need_true hc]; rfl)) (.withT _)

variable (f : BitVec 19)

/-! ### The operations (R110, R211, R212, R219, R220) -/

theorem wait_holds (hz : bits 18 14 f.toNat = 0) (hn : bits 13 0 f.toNat ≠ 0) : ∃ t, exec (.wait b f) s = .next t ∧
    SlotNext b [] e s t { e.slot with cur := { e.slot.cur with wait := .timer, ready := s.cycleOf b + bits 13 0 f.toNat } } := by
  rw [← acts_now h]
  exact ⟨_, rfl, need_next h (op := opWait f) rfl (by simp [cf, hz, hn])⟩

theorem wait_faults (hz : bits 18 14 f.toNat ≠ 0 ∨ bits 13 0 f.toNat = 0) : ∃ t, exec (.wait b f) s = .next t ∧ SlotFault b e s t :=
  faults_slot h rfl (need_faults (by rcases hz with hz | hz <;> simp [cf, hz]) _)

theorem loop_repeats (hl : e.slot.pre.loops.length < 4) : ∃ t, exec (.loop b f) s = .next t ∧
    SlotNext b [] e s t { e.slot with cur := { e.slot.cur with
      pc := e.slot.pcAt + 1, loops := ⟨e.slot.pcAt + 1, e.slot.pcAt + 1 + bits 6 0 f.toNat, bits 18 7 f.toNat⟩ :: e.slot.pre.loops } } :=
  ⟨_, rfl, slot_next h (if_neg (Nat.not_le.2 hl)) (.withT _)⟩

theorem loop_faults (hl : 4 ≤ e.slot.pre.loops.length) : ∃ t, exec (.loop b f) s = .next t ∧ SlotFault b e s t :=
  faults_slot h rfl ⟨fLoop, if_pos hl⟩

theorem jump_continues (hz : bits 18 15 f.toNat = 0) : ∃ t, exec (.jump b f) s = .next t ∧
    SlotNext b [] e s t { e.slot with cur := { e.slot.cur with pc := bits 14 0 f.toNat, loops := e.slot.pre.loops } } :=
  ⟨_, rfl, need_next h (op := opJump f) rfl (by simp [cf, hz])⟩

theorem budget_sets (hz : bits 18 16 f.toNat = 0) (hn : bits 15 0 f.toNat ≠ 0) : ∃ t, exec (.budget b f) s = .next t ∧
    SlotNext b [] e s t { e.slot with cur := { e.slot.cur with budget := bits 15 0 f.toNat } } :=
  ⟨_, rfl, need_next h (op := opBudget f) rfl (by simp [cf, hz, hn])⟩

theorem tileHalt_halts (hf : f = 0) : ∃ t, exec (.tileHalt b f) s = .next t ∧ SlotNext b [] e s t { e.slot with cur := { e.slot.cur with stat := .halted } } :=
  ⟨_, rfl, need_next h (op := opHalt f) rfl (by simp [hf])⟩

theorem swait_waits (hs : bits 18 17 f.toNat ≤ 1) (hz : bits 16 16 f.toNat = 0) : ∃ t, exec (.swait b f) s = .next t ∧
    SlotNext b [] e s t { e.slot with cur := { e.slot.cur with
      wait := .sync (bits 15 0 f.toNat) (bits 18 17 f.toNat) (s.cycleOf b + 16) e.d.seq.step e.t.budget (hSen e.t.hdr) none } } := by
  rw [← acts_now h]
  exact ⟨_, rfl, need_next h (op := opSwait f) rfl (by simp [cf, hs, hz])⟩

/-! ### What leaves for Sync (R208, R219) -/

/-- An operation that changes the tile and Sync. -/
theorem syn_next {op : TEnv → Except Nat TEnv} {t : Tile} {y : Syn} (ho : op e = .ok { e.withT t with d := { e.d with syn := y } }) :
    SlotNext b [.syn] e s (s.runSlot b op) { e.slot with cur := t } ∧ ((s.runSlot b op).dieOf b.die).syn = y := by
  exact ⟨slot_next h ho ((Moves.withT t).trans (.of_die rfl ((OnlyIn.syn _ _).mono (by decide)) rfl rfl rfl)), congrArg DieState.syn (runSlot_die h ho)⟩

theorem barrier_arrives (hz : bits 18 6 f.toNat = 0) : ∃ t, exec (.barrier b f) s = .next t ∧ SlotNext b [.syn] e s t e.slot ∧
    (t.dieOf b.die).syn.arrs = insertArr ⟨s.cycleOf b + 16, bits 5 0 f.toNat, e.d.vtileOf b.tile.val, b.tile.val, e.d.ctxOf b.tile.val⟩ e.d.syn.arrs := by
  rw [← acts_now h, ← acts_p h]
  have ho : opBarrier f e = .ok { e.withT e.t with d := { e.d with syn := { e.d.syn with
      arrs := insertArr ⟨e.now + 16, bits 5 0 f.toNat, e.d.vtileOf e.p, e.p, e.d.ctxOf e.p⟩ e.d.syn.arrs } } } := by
    unfold opBarrier cf
    rw [hz]
    rfl
  obtain ⟨hs, hy⟩ := syn_next h ho
  exact ⟨_, rfl, hs, congrArg Syn.arrs hy⟩

theorem bwait_waits (hz : bits 18 6 f.toNat = 0) : ∃ t, exec (.bwait b f) s = .next t ∧
    SlotNext b [.syn] e s t { e.slot with cur := { e.slot.cur with
      wait := .bar (bits 5 0 f.toNat) 0 e.d.seq.step e.t.budget false (hSen e.t.hdr) none } } ∧
    (t.dieOf b.die).syn.ops = insertOp ⟨s.cycleOf b + 16, e.d.vtileOf b.tile.val, b.tile.val, e.d.ctxOf b.tile.val, 5, bits 5 0 f.toNat, e.t.sd⟩
      e.d.syn.ops := by
  rw [← acts_now h, ← acts_p h]
  have ho : opBwait f e = .ok { e.withT { e.t with wait := .bar (bits 5 0 f.toNat) 0 e.d.seq.step e.t.budget false (hSen e.t.hdr) none } with
      d := { e.d with syn := { e.d.syn with
        ops := insertOp ⟨e.now + 16, e.d.vtileOf e.p, e.p, e.d.ctxOf e.p, 5, bits 5 0 f.toNat, e.t.sd⟩ e.d.syn.ops } } } := by
    unfold opBwait cf
    rw [hz]
    rfl
  obtain ⟨hs, hy⟩ := syn_next h ho
  exact ⟨_, rfl, hs, congrArg Syn.ops hy⟩

theorem opSync_sends (op : Nat) (v : BitVec 16) : SlotNext b [.syn] e s (s.runSlot b (opSync op v)) e.slot ∧
    ((s.runSlot b (opSync op v)).dieOf b.die).syn.ops =
      insertOp ⟨s.cycleOf b + 16, e.d.vtileOf b.tile.val, b.tile.val, e.d.ctxOf b.tile.val, op, v.toNat, e.t.sd⟩ e.d.syn.ops := by
  rw [← acts_now h, ← acts_p h]
  obtain ⟨hs, hy⟩ := syn_next h (op := opSync op v) (t := e.t) rfl
  exact ⟨hs, congrArg Syn.ops hy⟩

theorem syncOperations (v : BitVec 16) (c : Instr) (op : Nat)
    (hc : (c, op) ∈ [(Instr.writeFull b v, 0), (.readEmpty b v, 1), (.poll b v, 2), (.fill b v, 3), (.clear b v, 4)]) :
    ∃ t, exec c s = .next t ∧ SlotNext b [.syn] e s t e.slot ∧
      (t.dieOf b.die).syn.ops = insertOp ⟨s.cycleOf b + 16, e.d.vtileOf b.tile.val, b.tile.val, e.d.ctxOf b.tile.val, op, v.toNat, e.t.sd⟩ e.d.syn.ops := by
  have hx : exec c s = .next (s.runSlot b (opSync op v)) := by
    simp only [List.mem_cons, Prod.mk.injEq, List.not_mem_nil, or_false] at hc
    rcases hc with ⟨rfl, rfl⟩ | ⟨rfl, rfl⟩ | ⟨rfl, rfl⟩ | ⟨rfl, rfl⟩ | ⟨rfl, rfl⟩ <;> rfl
  exact ⟨_, hx, opSync_sends h op v⟩

/-! ### Reserved fields -/

theorem control_reserved : ∀ c ∈ (if bits 18 15 f.toNat ≠ 0 then [Instr.jump b f] else []) ++ (if bits 18 16 f.toNat ≠ 0 ∨ bits 15 0 f.toNat = 0 then [Instr.budget b f] else []) ++
      (if f ≠ 0 then [Instr.tileHalt b f] else []) ++ (if 2 ≤ bits 18 17 f.toNat ∨ bits 16 16 f.toNat = 1 then [Instr.swait b f] else []) ++
      (if bits 18 6 f.toNat ≠ 0 then [Instr.barrier b f, Instr.bwait b f] else []), ∃ t, exec c s = .next t ∧ SlotFault b e s t := by
  have hhalt (hf : f ≠ 0) : (f.toNat == 0) = false := beq_eq_false_iff_ne.2 fun h0 => hf (BitVec.eq_of_toNat_eq h0)
  have hswait (hz : 2 ≤ bits 18 17 f.toNat ∨ bits 16 16 f.toNat = 1) : (decide (cf f 18 17 ≤ 1) && cf f 16 16 == 0) = false := by
    rcases hz with hz | hz
    · rw [decide_eq_false (show ¬cf f 18 17 ≤ 1 from Nat.not_le.2 hz), Bool.false_and]
    · simp [cf, hz]
  refine forall_mem_append_of (forall_mem_append_of (forall_mem_append_of (forall_mem_append_of
    (forall_mem_ite_nil fun hz => ?_) (forall_mem_ite_nil fun hz => ?_)) (forall_mem_ite_nil fun hz => ?_)) (forall_mem_ite_nil fun hz => ?_))
    (forall_mem_ite_nil fun hz => List.forall_mem_cons.2 ⟨?_, ?_⟩)
  · exact List.forall_mem_singleton.2 (faults_slot h rfl (need_faults (by simp [cf, hz]) _))
  · exact List.forall_mem_singleton.2 (faults_slot h rfl (need_faults (by rcases hz with hz | hz <;> simp [cf, hz]) _))
  · exact List.forall_mem_singleton.2 (faults_slot h rfl (need_faults (hhalt hz) _))
  · exact List.forall_mem_singleton.2 (faults_slot h rfl (need_faults (hswait hz) _))
  · exact faults_slot h rfl (need_faults (by simp [cf, hz]) _)
  · exact List.forall_mem_singleton.2 (faults_slot h rfl (need_faults (by simp [cf, hz]) _))

end

/-! ### Tiles that fault outside a bundle (R99, R111, R113) -/

/-- A slot between two bundles: a fault there undoes nothing. -/
def Machine.TileSlot.resting (q : TileSlot) : TileSlot := { q with pre := q.cur, pcAt := q.cur.pc, undo := [], undoS := none }

/-- From `s` to `t` tile `p` of die `d` stops where it stands, its fault is counted, and its context is to be reset (R111). -/
structure TileStops (d : Die) (p : Nat) (s t : State) : Prop where
  cur : ((t.dieOf d).slotOf p).cur = { ((s.dieOf d).slotOf p).cur with stat := .stopped }
  count : (t.dieOf d).rd rTAR_FAULT_COUNT = min 0xFFFFFFFF ((s.dieOf d).rd rTAR_FAULT_COUNT + 1)
  reset : (s.dieOf d).ctxOf p ∈ (t.dieOf d).ctx.resets
  tiles : TilesOnly p (s.dieOf d) (t.dieOf d)
  frame : Frame d [.seq, .tar, .syn, .mem, .ctx, .regs, .ink] s t

/-- The frame of a command of one die that stores nothing, of those that may store. -/
theorem frame_of_onDieMem {s : State} {d : Die} {us : List DiePart} {g : Nat → List Host.Cell → DieState → DieState × List Host.Cell}
    (h : OnlyIn us (s.here d) (g s.free s.mem (s.here d)).1) (hst : (g s.free s.mem (s.here d)).2 = []) : Frame d us s (s.onDieMem d g) where
  other := State.onDieMem_other _ _ _
  mod := State.onDieMem_mod _ _ _
  mem := (State.onDieMem_mem _ _ _).trans (congrArg (memApply s.mem) hst)
  pending := State.onDieMem_pending _ _ _
  time := by rw [State.onDieMem_now]; exact Nat.le_max_left _ _
  die := by rw [State.onDieMem_dieOf]; exact (OnlyIn.sync _ _ _).trans h

theorem tile_stops {s : State} {d : Die} {p now code : Nat} {g : DieState → DieState × List Host.Cell} {y : DieState}
    (hg : g (s.here d) = faultTile y p now code ((s.dieOf d).slotOf p).resting) (hy : OnlyIn [.seq, .tar] (s.here d) y) (ht : y.tar.tiles = (s.dieOf d).tar.tiles) :
    TileStops d p s (s.onDieMem d fun _ _ => g) := by
  have hd : (s.onDieMem d fun _ _ => g).dieOf d = (faultTile y p now code ((s.dieOf d).slotOf p).resting).1 :=
    (State.onDieMem_dieOf _ _ _).trans (congrArg Prod.fst hg)
  obtain ⟨hcount, -, hreset⟩ := recorded_faultTile y p now code ((s.dieOf d).slotOf p).resting
  have hregs : RegsOnly [] (s.dieOf d) y := (RegsOnly.of_regs [] (y := s.here d) rfl).trans (.of_onlyIn [] hy (by decide))
  refine ⟨?_, ?_, ?_, fun q hq => ?_, frame_of_onDieMem ?_ (congrArg Prod.snd hg)⟩
  · rw [hd, faultTile_slotOf, bundleUndone_slot]
    rfl
  · rw [hd, hcount, hregs _ (by simp)]
  · rw [hd, ← ctxOf_congr hregs (by simp) (by simp) (by simp) (by simp)]
    exact hreset
  · rw [hd, faultTile_slotOf, bundleUndone_others _ _ _ _ hq]
    exact congrArg (fun t => tget t q slot0) ht
  · rw [hg]
    exact (hy.mono (by decide)).trans ((OnlyIn.faultTile _ _ _ _ _).mono (by decide))

/-! ### The ends of waits and of Strokes (R99, R110) -/

section
variable {s : State} {d : Die} {p : Fin 272}

theorem waitExpiry_ends (hw : ((s.dieOf d).slotOf p.val).cur.wait = .timer) (hr : ((s.dieOf d).slotOf p.val).cur.ready < ((s.dieOf d).seq.step + 1) * 20000) :
    ∃ t, exec (.waitExpiry d p) s = .next t ∧ ((t.dieOf d).slotOf p.val).cur = { ((s.dieOf d).slotOf p.val).cur with wait := .none } ∧
      TilesOnly p.val (s.dieOf d) (t.dieOf d) ∧ Frame d [.seq, .tar] s t := by
  let q := (s.dieOf d).slotOf p.val
  have hx : waitExpiry p.val (s.here d) = ((s.here d).toCycle ((s.here d).cycOf q.cur.ready)).setSlot p.val { q with cur := { q.cur with wait := .none } } := by
    have hw' : ((s.here d).slotOf p.val).cur.wait = .timer := hw
    unfold waitExpiry
    dsimp only
    rw [hw']
    exact if_pos hr
  have hd : (s.onDie d (waitExpiry p.val)).dieOf d = _ := (State.onDie_dieOf _ _ _).trans hx
  refine ⟨_, rfl, ?_, fun r hr => ?_, frame_of_here ?_⟩
  · rw [hd]
    exact congrArg TileSlot.cur (tget_tset_same _ _ _ _)
  · rw [hd]
    exact tget_tset_ne _ _ _ _ _ hr
  · rw [hx]
    exact ((OnlyIn.toCycle _ _).mono (by decide)).trans ((setSlot_only _ _ _).mono (by decide))

theorem strokeLen_stops {a : Nat} (hs : (s.dieOf d).stepping = true) (ha : ((s.dieOf d).slotOf p.val).cur.stroke = some a)
    (hr : ((s.dieOf d).slotOf p.val).cur.stat = .running) (hl : a + 64000 < ((s.dieOf d).seq.step + 1) * 20000) :
    TileStops d p.val s (s.onDieMem d fun _ _ x => strokeLen p.val x) := by
  refine tile_stops (y := (s.here d).toCycle ((s.here d).cycOf (a + 64000))) (now := a + 64000) (code := fStrokeLen) ?_ ((OnlyIn.toCycle _ _).mono (by decide)) rfl
  have ha' : ((s.here d).slotOf p.val).cur.stroke = some a := ha
  unfold strokeLen
  dsimp only
  rw [ha']
  exact if_pos ⟨hr, hs, hl⟩

end

/-- Settles O35, operation by operation. -/
theorem controlSlotOperations : Obligations.ControlSlotOperations := by
  refine ⟨fun s b f e h => ⟨wait_holds h f, wait_faults h f, loop_repeats h f, loop_faults h f, jump_continues h f, budget_sets h f, tileHalt_halts h f, swait_waits h f,
    barrier_arrives h f, bwait_waits h f, control_reserved h f⟩, fun s b v e c op h hc => syncOperations h v c op hc, fun s d p hw hr => waitExpiry_ends hw hr,
    fun s d p a hs ha hr hl => ?_⟩
  obtain ⟨hcur, hcount, hreset, htiles, hframe⟩ := strokeLen_stops hs ha hr hl
  exact ⟨_, rfl, hcur, hcount, hreset, htiles, hframe⟩

end Sys2Proof

/-! SUPPORT. The WAG slot (R106 to R108): what its accesses to tile SRAM read and leave, and the checks that its operations share. -/

namespace Sys2Proof

open Machine

/-! ### Lines, words and lanes -/

/-- Lines read one each cycle are the bytes from the first line's address on, and change the banks in use alone (R92). -/
theorem readLines_ok {e e' : TEnv} {k : Access} {c a n : Nat} {ls : List (List Byte)} (h : e.readLines k c a n = .ok (e', ls)) :
    (∃ bk, e' = e.withBanks bk) ∧ ls.flatten = memRead e.mem (sramBase e.d.die e.p + a) (32 * n) := by
  induction n generalizing e c a ls with
  | zero => cases h; exact ⟨⟨e'.t.banks, rfl⟩, rfl⟩
  | succ n ih =>
    unfold TEnv.readLines at h
    split at h
    · cases h
    · rename_i f l hr
      obtain ⟨⟨bk, rfl⟩, rfl⟩ := read_ok hr
      split at h
      · cases h
      · rename_i g ls' hl
        cases h
        obtain ⟨⟨bk', rfl⟩, hls⟩ := ih hl
        refine ⟨⟨bk', rfl⟩, ?_⟩
        rw [List.flatten_cons, hls, Nat.mul_succ, Nat.add_comm (32 * n), memRead_add, Nat.add_assoc]
        rfl

/-- The lanes of bytes read from memory are its words. -/
theorem lanesOf_memRead (k0 : Nat) (m : List Host.Cell) (a n : Nat) :
    lanesOf k0 (memRead m a (4 * n)) = (List.range n).map fun k => (k0 + k, leNat (memRead m (a + 4 * k) 4)) := by
  rw [lanesOf, memRead_length, Nat.mul_div_cancel_left n (by decide)]
  refine List.map_congr_left fun k hk => ?_
  have hk := List.mem_range.1 hk
  rw [memRead_drop_take m a (by omega)]

theorem laneBytes_succ (t : Tile) (r k0 n : Nat) : t.laneBytes r k0 (n + 1) = t.laneBytes r k0 n ++ leBytes 4 (t.lane r (k0 + n)) := by
  simp [Tile.laneBytes, List.range_succ]

theorem laneBytes_length (t : Tile) (r k0 n : Nat) : (t.laneBytes r k0 n).length = 4 * n := by
  induction n with
  | zero => rfl
  | succ n ih => rw [laneBytes_succ, List.length_append, ih, leBytes_length, Nat.mul_succ]

/-- Four bytes a lane. -/
theorem laneBytes_lane (t : Tile) (r k0 : Nat) {k n : Nat} (h : k < n) : ((t.laneBytes r k0 n).drop (4 * k)).take 4 = leBytes 4 (t.lane r (k0 + k)) := by
  induction n with
  | zero => cases h
  | succ n ih =>
    have hl := laneBytes_length t r k0 n
    rw [laneBytes_succ]
    rcases Nat.lt_succ_iff_lt_or_eq.1 h with hk | rfl
    · rw [List.drop_append_of_le_length (by omega), List.take_append_of_le_length (by rw [List.length_drop]; omega), ih hk]
    · rw [← hl, List.drop_left, List.take_of_length_le (leBytes_length _ _).le]

/-- Lanes that are stored read back as words. -/
theorem stored_lane {m : List Host.Cell} {a r k0 n k : Nat} {t : Tile} (h : memRead m a (4 * n) = t.laneBytes r k0 n) (hk : k < n) :
    leNat (memRead m (a + 4 * k) 4) = t.lane r (k0 + k) % 2 ^ 32 := by
  rw [← memRead_drop_take m a (show 4 * k + 4 ≤ 4 * n by omega), h, laneBytes_lane t r k0 hk]
  exact leNat_leBytes 4 _

/-! ### What a write leaves (R92 to R94) -/

/-- From `e` to `f` a tile stores `bs` at its address `a`, and its other state but its banks and its CRC stays. -/
structure Stores (e f : TEnv) (a : Nat) (bs : List Byte) : Prop where
  moves : Moves [.tar] (fun i => sramBase e.d.die e.p + a ≤ i ∧ i < sramBase e.d.die e.p + a + bs.length) e f
  mem : f.mem = memApply e.mem (cellsAt (sramBase e.d.die e.p + a) bs)
  tile : ∃ bk crc, f.t = { e.t with banks := bk, crc := crc }

theorem stores_write {e f : TEnv} {k : Access} {c a : Nat} {bs : List Byte} (h : e.write k c a bs = .ok f) : Stores e f a bs := by
  obtain ⟨⟨bk, crc, rfl⟩, -⟩ := write_ok h
  exact ⟨(Moves.withT _).trans ((Moves.put (e := e.withBanks bk) a bs).trans (.withT _)), rfl, bk, crc, rfl⟩

theorem net_write {e f : TEnv} {k : Access} {c a : Nat} {bs : List Byte} (h : e.write k c a bs = .ok f) : f.d.tar.net = e.d.tar.net := by
  obtain ⟨⟨bk, crc, rfl⟩, -⟩ := write_ok h
  rfl

/-- The environment with `l` on the data network. -/
def Machine.TEnv.withNet (e : TEnv) (l : List Xfer) : TEnv := { e with d := { e.d with tar := { e.d.tar with net := l } } }

theorem Moves.withNet {at_ : Nat → Prop} (e : TEnv) (l : List Xfer) : Moves [.tar] at_ e (e.withNet l) := .of_die rfl (.tar _ _) rfl rfl rfl

theorem Stores.withNet {e f : TEnv} {a : Nat} {bs : List Byte} (h : Stores e f a bs) (l : List Xfer) : Stores e (f.withNet l) a bs :=
  ⟨h.moves.trans (.withNet f l), h.mem, h.tile⟩

section
variable {s : State} {b : Issue} {e e' : TEnv} (h : s.acts b e)
include h

/-- An operation whose last effect is a store, from where it has left the tile as `t0`. -/
theorem store_next {op : TEnv → Except Nat TEnv} {a : Nat} {bs : List Byte} {t0 : Tile} (hw : Memory.wf s.mem = true) (ho : op e = .ok e') (hs : Stores (e.withT t0) e' a bs) :
    SlotNextMem b [] (fun i => i < slotBase s b + a ∨ slotBase s b + a + bs.length ≤ i) e s (s.runSlot b op) e'.slot ∧
      memRead (s.runSlot b op).mem (slotBase s b + a) bs.length = bs := by
  have hb : sramBase e.d.die e.p = slotBase s b := acts_base h
  obtain ⟨hmv, hmem, -⟩ := hs
  change Moves [.tar] (fun i => sramBase e.d.die e.p + a ≤ i ∧ i < sramBase e.d.die e.p + a + bs.length) _ _ at hmv
  change e'.mem = memApply e.mem (cellsAt (sramBase e.d.die e.p + a) bs) at hmem
  rw [hb] at hmv hmem
  have hmv := (Moves.withT t0).trans hmv
  refine ⟨slot_nextMem h hw ho hmv fun i hi => by omega, ?_⟩
  rw [(slot_change h ho hmv).2, hmem]
  exact memRead_memApply_cellsAt _ _ _ (acts_mem_wf h hw)

/-- An operation that leaves the tile as `t0` and a result for `reg`. -/
theorem result_next {op : TEnv → Except Nat TEnv} {t0 : Tile} {lat reg : Nat} {lanes : Tbl Nat} (ho : op e = .ok ((e.withT t0).later lat reg lanes)) :
    SlotNext b [] e s (s.runSlot b op) { e.slot with cur := { t0 with pend := insertPend ⟨s.cycleOf b + lat, reg, lanes⟩ t0.pend } } := by
  rw [← acts_now h]
  exact slot_next h ho ((Moves.withT _).trans (.withT _))

theorem runSlot_net {op : TEnv → Except Nat TEnv} (ho : op e = .ok e') : ((s.runSlot b op).dieOf b.die).tar.net = e'.d.tar.net := by
  rw [runSlot_die h ho]
  rfl

/-- What a tile reads is what memory holds at its place. -/
theorem acts_read {k : Access} {c a n : Nat} {bs : List Byte} {t0 : Tile} (hr : (e.withT t0).read k c a n = .ok (e', bs)) :
    (∃ bk, e' = e.withT { t0 with banks := bk }) ∧ bs = memRead e.mem (slotBase s b + a) n := by
  obtain ⟨hbk, hbs⟩ := read_ok hr
  have hb : sramBase e.d.die e.p = slotBase s b := acts_base h
  exact ⟨hbk, hbs.trans (congrArg (fun i => memRead e.mem (i + a) n) hb)⟩

end

/-! ### Checks that the operations share (R97, R107, R111) -/

/-- An operation of the WAG slot: its fields are in order and the slot is idle before it does anything else. -/
def wagOp (ok : Bool) (e : TEnv) (k : Except Nat TEnv) : Except Nat TEnv := (need ok).bind fun _ => (idle e.t.wagBusy e.now).bind fun _ => k

section
variable {e : TEnv} {ok : Bool} {k : Except Nat TEnv}

theorem wagOp_busy (h : e.now < e.t.wagBusy) : Faults (wagOp ok e k) := faults_busy h ok k

theorem wagOp_reserved (h : ok = false) : Faults (wagOp ok e k) := need_faults h _

theorem wagOp_ok (hi : e.t.wagBusy ≤ e.now) (h : ok = true) : wagOp ok e k = k := by
  rw [wagOp, need_true h, idle_ok hi]
  rfl

end

/-- What arrives at the tile of an environment in its cycle (R113). -/
def arriving (e : TEnv) : List Xfer := e.d.tar.net.filter fun y => y.dst == e.d.vtileOf e.p && y.due == e.now

/-- A transfer once a RECV has taken `y`. -/
def taken (y z : Xfer) : Xfer := if z = y then { z with got := true } else z

/-- The only transfer that arrives has been taken. -/
theorem taken_arriving {e : TEnv} {y z : Xfer} (hy : arriving e = [y]) (hz : z ∈ e.d.tar.net.map (taken y)) (hd : z.dst = e.d.vtileOf e.p) (hn : z.due = e.now) : z.got = true := by
  obtain ⟨x, hx, rfl⟩ := List.mem_map.1 hz
  unfold taken at *
  split
  · rfl
  · rename_i hne
    rw [if_neg hne] at hd hn
    have hin : x ∈ arriving e := List.mem_filter.2 ⟨hx, by simp [hd, hn]⟩
    rw [hy] at hin
    exact absurd (List.mem_singleton.1 hin) hne

/-- The fields of SEND and of RECV are in order (R113). -/
def netFields (f : BitVec 27) : Bool := bits 17 13 f.toNat == 0 && decide (bits 26 18 f.toNat ≤ 265)

theorem netFields_false {f : BitVec 27} (h : bits 17 13 f.toNat ≠ 0 ∨ 265 < bits 26 18 f.toNat) : netFields f = false := by
  rcases h with h | h
  · simp [netFields, h]
  · rw [netFields, decide_eq_false (Nat.not_le.2 h), Bool.and_false]

theorem netFields_true {f : BitVec 27} (h0 : bits 17 13 f.toNat = 0) (h : bits 26 18 f.toNat ≤ 265) : netFields f = true := by simp [netFields, h0, h]

/-! ### Streams (R186, R187) -/

/-- The place of stream `n` of the tile of an environment among those of its die. -/
def streamKey (e : TEnv) (n : Nat) : Nat := 64 * e.d.vtileOf e.p + n

/-- The stream that a command for stream `n` replaces. -/
def replacedStream (e : TEnv) (n : Nat) : Stream := tget e.d.mem.streams (streamKey e n) default

/-- The events of the die, UNARMED noted where a command for stream `n` replaces one that has lines to move. -/
def eventsArming (e : TEnv) (n : Nat) : List TarEv :=
  if (replacedStream e n).moved < (replacedStream e n).lines then insertEv ⟨e.now, e.p, e.now, none⟩ e.d.tar.events else e.d.tar.events

/-- The environment with stream `n` armed as `st`. -/
def armed (n : Nat) (st : Stream) (e : TEnv) : TEnv :=
  let f := if (replacedStream e n).moved < (replacedStream e n).lines then e.event e.now none else e
  { f with
    d := { f.d with mem := { f.d.mem with streams := tset f.d.mem.streams (streamKey e n) st } }
    slot := { f.slot with undoS := some (streamKey e n, replacedStream e n) } }

theorem armed_eq (n : Nat) (st : Stream) (e : TEnv) : armed n st e = { e with
    d := { e.d with
      tar := { e.d.tar with events := eventsArming e n }
      mem := { e.d.mem with streams := tset e.d.mem.streams (streamKey e n) st } }
    slot := { e.slot with undoS := some (streamKey e n, replacedStream e n) } } := by
  unfold armed eventsArming
  split <;> rfl

theorem Moves.armed {at_ : Nat → Prop} (n : Nat) (st : Stream) (e : TEnv) : Moves [.tar, .mem] at_ e (armed n st e) := by
  rw [armed_eq]
  have hd : OnlyIn [.tar, .mem] e.d { e.d with tar := { e.d.tar with events := eventsArming e n } } := (OnlyIn.tar e.d _).mono (by decide)
  exact .of_die rfl (hd.trans ((OnlyIn.mem _ _).mono (by decide))) rfl rfl rfl

/-- A stream that a command arms has moved nothing. -/
theorem streamOf_moved {bs : List Byte} {n : Nat} {st : Stream} (h : streamOf bs = some (n, st)) : st.moved = 0 := by
  unfold streamOf at h
  dsimp only at h
  split at h
  · cases h; rfl
  · cases h

/-! ### The operations -/

section
variable (f : BitVec 27) (e : TEnv)

theorem opWcfg_eq : opWcfg f e = wagOp (bits 26 25 f.toNat != 3 && bits 24 14 f.toNat == 0) e
    ((e.readLines .wcfg e.now (32 * bits 13 0 f.toNat) 2).bind fun r =>
      match wagOf r.2.flatten with
      | none => .error fIllegal
      | some _ => (r.1.withT { r.1.t with wagBusy := r.1.now + 2 }).start { r.1.job (.wcfg (bits 26 25 f.toNat)) 0 0 0 with got := r.2, next := r.1.now + 2 }) := rfl

theorem opVld_eq : opVld f e = wagOp (bits 10 0 f.toNat == 0) e
    ((e.read .vld e.now (256 * bits 21 11 f.toNat) 256).bind fun r => .ok (r.1.later 1 (bits 26 22 f.toNat) (lanesOf 0 r.2))) := rfl

theorem opVst_eq : opVst f e = wagOp (bits 10 0 f.toNat == 0) e
    (e.write .vst e.now (256 * bits 21 11 f.toNat) (e.t.laneBytes (bits 26 22 f.toNat) 0 64)) := rfl

theorem opVldg_eq : opVldg f e = wagOp (bits 18 0 f.toNat == 0) e (e.t.genV.next.bind fun r =>
    match r.2.2 with
    | none => .ok ((e.withT { e.t with genV := r.1 }).later 1 (bits 26 22 f.toNat) (lanesOf (8 * bits 21 19 f.toNat) (List.replicate 32 0)))
    | some a => ((e.withT { e.t with genV := r.1 }).read .vldg e.now a 32).bind fun q =>
      .ok (q.1.later 1 (bits 26 22 f.toNat) (lanesOf (8 * bits 21 19 f.toNat) q.2))) := rfl

theorem opVstg_eq : opVstg f e = wagOp (bits 18 0 f.toNat == 0) e (e.t.genS.next.bind fun r =>
    match r.2.2 with
    | none => .ok (e.withT { e.t with genS := r.1 })
    | some a => (e.withT { e.t with genS := r.1 }).write .vstg e.now a (e.t.laneBytes (bits 26 22 f.toNat) (8 * bits 21 19 f.toNat) 8)) := rfl

theorem opSend_eq : opSend f e = wagOp (netFields f && e.now % 20000 % 16 != 15) e
    ((e.read .send e.now (64 * bits 12 0 f.toNat) 64).bind fun r =>
      if 512 ≤ r.1.d.vtileOf r.1.p ∧ bits 26 18 f.toNat ≠ 260 then .ok r.1
      else .ok (r.1.withNet (r.1.d.tar.net ++ [⟨r.1.d.vtileOf r.1.p, bits 26 18 f.toNat, r.1.now + 48, r.2, false⟩]))) := rfl

theorem opRecv_eq : opRecv f e = wagOp (netFields f) e
    (match arriving e with
    | [] => .error fNetEmpty
    | [y] =>
      if y.src ≠ bits 26 18 f.toNat then .error fNetDrop
      else (e.write (.recv (decide (bits 26 18 f.toNat = 260 ∨ bits 26 18 f.toNat = 265))) e.now (64 * bits 12 0 f.toNat) y.data).bind fun e =>
        .ok (e.withNet (e.d.tar.net.map (taken y)))
    | _ => .error fNetDrop) := rfl

theorem opMcmd_eq : opMcmd f e = wagOp (bits 26 14 f.toNat == 0) e
    ((e.read .mcmd e.now (32 * bits 13 0 f.toNat) 32).bind fun r =>
      match streamOf r.2 with
      | none => .error fIllegal
      | some (n, st) => .ok (armed n st r.1)) := rfl

end

end Sys2Proof

/-! SUPPORT. The operations of the WAG slot one by one (R106 to R108, R112 to R114, R186), transfers that arrive, and the statement on them. -/

namespace Sys2Proof

open Machine

section
variable {s : State} {b : Issue} {e e' : TEnv} (h : s.acts b e) (f : BitVec 27)
include h

/-! ### Bundles that fault (R97, R111) -/

/-- A bundle faults by an operation that finds the slot busy or its fields out of order. -/
theorem wag_faults {c : Instr} {op : TEnv → Except Nat TEnv} {ok : Bool} {k : Except Nat TEnv} (hc : exec c s = .next (s.runSlot b op)) (ho : op e = wagOp ok e k)
    (hf : e.now < e.t.wagBusy ∨ ok = false) : ∃ t, exec c s = .next t ∧ SlotFault b e s t :=
  faults_slot h hc (by rw [ho]; exact hf.elim wagOp_busy wagOp_reserved)

theorem wag_busy (hb : s.cycleOf b < e.t.wagBusy) : ∀ c ∈ [Instr.wcfg b f, .vld b f, .vst b f, .vldg b f, .vstg b f, .send b f, .recv b f, .mcmd b f],
    ∃ t, exec c s = .next t ∧ SlotFault b e s t := by
  rw [← acts_now h] at hb
  simp only [List.forall_mem_cons, List.not_mem_nil, false_implies, implies_true, and_true]
  exact ⟨wag_faults h rfl (opWcfg_eq f e) (.inl hb), wag_faults h rfl (opVld_eq f e) (.inl hb), wag_faults h rfl (opVst_eq f e) (.inl hb),
    wag_faults h rfl (opVldg_eq f e) (.inl hb), wag_faults h rfl (opVstg_eq f e) (.inl hb), wag_faults h rfl (opSend_eq f e) (.inl hb),
    wag_faults h rfl (opRecv_eq f e) (.inl hb), wag_faults h rfl (opMcmd_eq f e) (.inl hb)⟩

theorem wag_reserved : ∀ c ∈ (if bits 26 25 f.toNat = 3 ∨ bits 24 14 f.toNat ≠ 0 then [Instr.wcfg b f] else []) ++ (if bits 10 0 f.toNat ≠ 0 then [Instr.vld b f, Instr.vst b f] else []) ++
      (if bits 18 0 f.toNat ≠ 0 then [Instr.vldg b f, Instr.vstg b f] else []) ++ (if bits 17 13 f.toNat ≠ 0 ∨ 265 < bits 26 18 f.toNat then [Instr.send b f, Instr.recv b f] else []) ++
      (if s.cycleOf b % 20000 % 16 = 15 then [Instr.send b f] else []) ++ (if bits 26 14 f.toNat ≠ 0 then [Instr.mcmd b f] else []),
    ∃ t, exec c s = .next t ∧ SlotFault b e s t := by
  have hwcfg (hz : bits 26 25 f.toNat = 3 ∨ bits 24 14 f.toNat ≠ 0) : (bits 26 25 f.toNat != 3 && bits 24 14 f.toNat == 0) = false := by
    rcases hz with hz | hz <;> simp [hz]
  have hzero {n : Nat} (hn : n ≠ 0) : (n == 0) = false := beq_eq_false_iff_ne.2 hn
  rw [← acts_now h]
  refine forall_mem_append_of (forall_mem_append_of (forall_mem_append_of (forall_mem_append_of (forall_mem_append_of
    (forall_mem_ite_nil fun hz => ?_) (forall_mem_ite_nil fun hz => ?_)) (forall_mem_ite_nil fun hz => ?_)) (forall_mem_ite_nil fun hz => ?_))
    (forall_mem_ite_nil fun hz => ?_)) (forall_mem_ite_nil fun hz => ?_) <;>
    simp only [List.forall_mem_cons, List.not_mem_nil, false_implies, implies_true, and_true]
  · exact wag_faults h rfl (opWcfg_eq f e) (.inr (hwcfg hz))
  · exact ⟨wag_faults h rfl (opVld_eq f e) (.inr (hzero hz)), wag_faults h rfl (opVst_eq f e) (.inr (hzero hz))⟩
  · exact ⟨wag_faults h rfl (opVldg_eq f e) (.inr (hzero hz)), wag_faults h rfl (opVstg_eq f e) (.inr (hzero hz))⟩
  · exact ⟨wag_faults h rfl (opSend_eq f e) (.inr (by rw [netFields_false hz, Bool.false_and])),
      wag_faults h rfl (opRecv_eq f e) (.inr (netFields_false hz))⟩
  · exact wag_faults h rfl (opSend_eq f e) (.inr (by simp [hz]))
  · exact wag_faults h rfl (opMcmd_eq f e) (.inr (hzero hz))

end

/-! ### WCFG (R106, R108) -/

/-- The generators of a tile once its only job, a WCFG for generator `g`, has ended. -/
theorem jobsTo_wcfg {e : TEnv} {j : Job} {g : Nat} {w : Option Wag} (he : e.t.jobs = [j]) (hj : j.over = true) (hk : j.kind = .wcfg g) (hg : g < 3)
    (hw : wagOf j.got.flatten = w) :
    (e.jobsTo j.next).t.genA = (if g = 0 then ⟨w, 0⟩ else e.t.genA) ∧ (e.jobsTo j.next).t.genV = (if g = 1 then ⟨w, 0⟩ else e.t.genV) ∧
      (e.jobsTo j.next).t.genS = (if g = 2 then ⟨w, 0⟩ else e.t.genS) := by
  subst hw
  rw [jobsTo_single_t he (Nat.le_refl _), Nat.add_sub_cancel_left, runJobs_over he hj, Job.finish, hk]
  match g, hg with
  | 0, _ => exact ⟨rfl, rfl, rfl⟩
  | 1, _ => exact ⟨rfl, rfl, rfl⟩
  | 2, _ => exact ⟨rfl, rfl, rfl⟩

section
variable {s : State} {b : Issue} {e e' : TEnv} (h : s.acts b e) (f : BitVec 27)
include h

theorem wcfg_loads {ls : List (List Byte)} (hi : e.t.wagBusy ≤ s.cycleOf b) (hg : bits 26 25 f.toNat ≠ 3) (hz : bits 24 14 f.toNat = 0)
    (hr : e.readLines .wcfg (s.cycleOf b) (32 * bits 13 0 f.toNat) 2 = .ok (e', ls)) :
    (∀ g, wagOf (memRead e.mem (slotBase s b + 32 * bits 13 0 f.toNat) 64) = some g → ∃ t, exec (.wcfg b f) s = .next t ∧
      SlotNext b [] e s t { e'.slot with cur := { e'.slot.cur with wagBusy := s.cycleOf b + 2, jobs := e.t.jobs ++
        [⟨.wcfg (bits 26 25 f.toNat), e.slot.pcAt, s.cycleOf b, s.cycleOf b + 2, 0, 0, 0, 0, ls, [], none, e.t.rows, []⟩] } } ∧
      (e.t.jobs = [] →
        let y := (laterEnv t b (s.cycleOf b) 2).t
        y.genA = (if bits 26 25 f.toNat = 0 then ⟨some g, 0⟩ else e.t.genA) ∧ y.genV = (if bits 26 25 f.toNat = 1 then ⟨some g, 0⟩ else e.t.genV) ∧
        y.genS = (if bits 26 25 f.toNat = 2 then ⟨some g, 0⟩ else e.t.genS))) ∧
    (wagOf (memRead e.mem (slotBase s b + 32 * bits 13 0 f.toNat) 64) = none → ∃ t, exec (.wcfg b f) s = .next t ∧ SlotFault b e s t) := by
  obtain ⟨⟨bk, rfl⟩, hls⟩ := readLines_ok hr
  rw [acts_base h] at hls
  rw [← hls]
  have hop : opWcfg f e = match wagOf ls.flatten with
      | none => .error fIllegal
      | some _ => ((e.withBanks bk).withT { (e.withBanks bk).t with wagBusy := e.now + 2 }).start
          { (e.withBanks bk).job (.wcfg (bits 26 25 f.toNat)) 0 0 0 with got := ls, next := e.now + 2 } := by
    rw [opWcfg_eq, wagOp_ok (by rwa [acts_now h]) (by simp [hg, hz]), acts_now h, hr, ← acts_now h]
    rfl
  refine ⟨fun g hw => ?_, fun hw => faults_slot h rfl ⟨_, by rw [hop, hw]⟩⟩
  let j : Job := ⟨.wcfg (bits 26 25 f.toNat), e.slot.pcAt, s.cycleOf b, s.cycleOf b + 2, 0, 0, 0, 0, ls, [], none, e.t.rows, []⟩
  have ho : opWcfg f e = .ok ((e.withBanks bk).withT { (e.withBanks bk).t with wagBusy := s.cycleOf b + 2, jobs := e.t.jobs ++ [j] }) := by
    simp only [hop, hw, j, ← acts_now h]
    rfl
  have hs := slot_next (us := []) h ho ((Moves.withT _).trans (.withT _))
  refine ⟨_, rfl, hs, fun hnil => ?_⟩
  have ht := after_t hs.1 (s.cycleOf b)
  have hbits : bits 26 25 f.toNat < 4 := Nat.mod_lt _ (by decide)
  have hd := jobsTo_wcfg (e := afterEnv (s.runSlot b (opWcfg f)) b (s.cycleOf b)) (j := j) (by rw [ht, hnil]; rfl) rfl rfl (by omega) hw
  rw [congrArg Tile.genA ht, congrArg Tile.genV ht, congrArg Tile.genS ht] at hd
  exact hd

/-! ### VLD, VST, VLDG, VSTG (R107, R108) -/

theorem vld_loads {bs : List Byte} (hi : e.t.wagBusy ≤ s.cycleOf b) (hz : bits 10 0 f.toNat = 0)
    (hr : e.read .vld (s.cycleOf b) (256 * bits 21 11 f.toNat) 256 = .ok (e', bs)) : ∃ t, exec (.vld b f) s = .next t ∧
      SlotNext b [] e s t { e'.slot with cur := { e'.slot.cur with pend := insertPend ⟨s.cycleOf b + 1, bits 26 22 f.toNat,
        (List.range 64).map fun k => (k, leNat (memRead e.mem (slotBase s b + 256 * bits 21 11 f.toNat + 4 * k) 4))⟩ e'.slot.cur.pend } } := by
  have ho : opVld f e = .ok (e'.later 1 (bits 26 22 f.toNat) (lanesOf 0 bs)) := by
    rw [opVld_eq, wagOp_ok (by rwa [acts_now h]) (by simp [hz]), acts_now h, hr]
    rfl
  obtain ⟨⟨bk, rfl⟩, rfl⟩ := acts_read (t0 := e.t) h hr
  rw [show (256 : Nat) = 4 * 64 from rfl, lanesOf_memRead] at ho
  simp only [Nat.zero_add] at ho
  exact ⟨_, rfl, result_next h ho⟩

theorem vst_stores (hi : e.t.wagBusy ≤ s.cycleOf b) (hz : bits 10 0 f.toNat = 0) (hw : Memory.wf s.mem = true)
    (hr : e.write .vst (s.cycleOf b) (256 * bits 21 11 f.toNat) (e.t.laneBytes (bits 26 22 f.toNat) 0 64) = .ok e') :
    ∃ t y, exec (.vst b f) s = .next t ∧
      SlotNextMem b [] (fun i => i < slotBase s b + 256 * bits 21 11 f.toNat ∨ slotBase s b + 256 * bits 21 11 f.toNat + 256 ≤ i) e s t y ∧ y.cur.v = e.t.v ∧
      ∀ k, k < 64 → leNat (memRead t.mem (slotBase s b + 256 * bits 21 11 f.toNat + 4 * k) 4) = e.t.lane (bits 26 22 f.toNat) k % 2 ^ 32 := by
  have ho : opVst f e = .ok e' := by rw [opVst_eq, wagOp_ok (by rwa [acts_now h]) (by simp [hz]), acts_now h, hr]
  have hst := stores_write hr
  obtain ⟨hs, hm⟩ := store_next (t0 := e.t) h hw ho hst
  obtain ⟨bk, crc, ht⟩ := hst.tile
  rw [laneBytes_length] at hs hm
  refine ⟨_, _, rfl, hs, (congrArg Tile.v ht :), fun k hk => ?_⟩
  rw [stored_lane hm hk, Nat.zero_add]

theorem vldg_loads {g : Gen} {c : Wag} {a : Option Nat} (hi : e.t.wagBusy ≤ s.cycleOf b) (hz : bits 18 0 f.toNat = 0) (hn : e.t.genV.next = .ok (g, c, a)) :
    (a = none → ∃ t, exec (.vldg b f) s = .next t ∧
      SlotNext b [] e s t { e.slot with cur := { e.t with genV := g, pend := insertPend ⟨s.cycleOf b + 1, bits 26 22 f.toNat,
        (List.range 8).map fun k => (8 * bits 21 19 f.toNat + k, 0)⟩ e.t.pend } }) ∧
    (∀ a0 e' bs, a = some a0 → (e.withT { e.t with genV := g }).read .vldg (s.cycleOf b) a0 32 = .ok (e', bs) → ∃ t, exec (.vldg b f) s = .next t ∧
      SlotNext b [] e s t { e'.slot with cur := { e'.slot.cur with pend := insertPend ⟨s.cycleOf b + 1, bits 26 22 f.toNat,
        (List.range 8).map fun k => (8 * bits 21 19 f.toNat + k, leNat (memRead e.mem (slotBase s b + a0 + 4 * k) 4))⟩ e'.slot.cur.pend } }) := by
  have hop := opVldg_eq f e
  rw [wagOp_ok (by rwa [acts_now h]) (by simp [hz]), hn] at hop
  refine ⟨?_, ?_⟩
  · rintro rfl
    exact ⟨_, rfl, result_next h hop⟩
  · rintro a0 e' bs rfl hr
    have ho : opVldg f e = .ok (e'.later 1 (bits 26 22 f.toNat) (lanesOf (8 * bits 21 19 f.toNat) bs)) := by
      rw [← acts_now h] at hr
      refine hop.trans ?_
      change Except.bind ((e.withT _).read _ _ _ _) _ = _
      rw [hr]
      rfl
    obtain ⟨⟨bk, rfl⟩, rfl⟩ := acts_read h hr
    rw [show (32 : Nat) = 4 * 8 from rfl, lanesOf_memRead] at ho
    exact ⟨_, rfl, result_next h ho⟩

theorem vstg_stores {g : Gen} {c : Wag} {a : Option Nat} (hi : e.t.wagBusy ≤ s.cycleOf b) (hz : bits 18 0 f.toNat = 0) (hn : e.t.genS.next = .ok (g, c, a)) :
    (a = none → ∃ t, exec (.vstg b f) s = .next t ∧ SlotNext b [] e s t (e.withT { e.t with genS := g }).slot) ∧
    (∀ a0 e', a = some a0 → Memory.wf s.mem = true →
      (e.withT { e.t with genS := g }).write .vstg (s.cycleOf b) a0 (e.t.laneBytes (bits 26 22 f.toNat) (8 * bits 21 19 f.toNat) 8) = .ok e' →
      ∃ t y, exec (.vstg b f) s = .next t ∧ SlotNextMem b [] (fun i => i < slotBase s b + a0 ∨ slotBase s b + a0 + 32 ≤ i) e s t y ∧ y.cur.genS = g ∧
        ∀ k, k < 8 → leNat (memRead t.mem (slotBase s b + a0 + 4 * k) 4) = e.t.lane (bits 26 22 f.toNat) (8 * bits 21 19 f.toNat + k) % 2 ^ 32) := by
  have hop := opVstg_eq f e
  rw [wagOp_ok (by rwa [acts_now h]) (by simp [hz]), hn] at hop
  refine ⟨?_, ?_⟩
  · rintro rfl
    exact ⟨_, rfl, slot_next h hop (.withT _)⟩
  · rintro a0 e' rfl hw hr
    have ho : opVstg f e = .ok e' := by
      rw [← acts_now h] at hr
      exact hop.trans hr
    have hst := stores_write hr
    obtain ⟨hs, hm⟩ := store_next h hw ho hst
    obtain ⟨bk, crc, ht⟩ := hst.tile
    rw [laneBytes_length] at hs hm
    exact ⟨_, _, rfl, hs, (congrArg Tile.genS ht :), fun k hk => stored_lane hm hk⟩

/-! ### SEND, RECV (R113, R114) -/

theorem send_sends {bs : List Byte} (hi : e.t.wagBusy ≤ s.cycleOf b) (hz : bits 17 13 f.toNat = 0) (hd : bits 26 18 f.toNat ≤ 265) (hc : s.cycleOf b % 20000 % 16 ≠ 15)
    (hr : e.read .send (s.cycleOf b) (64 * bits 12 0 f.toNat) 64 = .ok (e', bs)) :
    ∃ t, exec (.send b f) s = .next t ∧ SlotNext b [] e s t e'.slot ∧ (t.dieOf b.die).tar.net = e.d.tar.net ++
      (if 512 ≤ e.d.vtileOf b.tile.val ∧ bits 26 18 f.toNat ≠ 260 then []
        else [⟨e.d.vtileOf b.tile.val, bits 26 18 f.toNat, s.cycleOf b + 48, memRead e.mem (slotBase s b + 64 * bits 12 0 f.toNat) 64, false⟩]) := by
  have hop := opSend_eq f e
  have hok : (netFields f && e.now % 20000 % 16 != 15) = true := by rw [netFields_true hz hd, acts_now h, bne_iff_ne.2 hc, Bool.true_and]
  rw [wagOp_ok (by rwa [acts_now h]) hok, acts_now h, hr] at hop
  obtain ⟨⟨bk, rfl⟩, rfl⟩ := acts_read (t0 := e.t) h hr
  rw [← acts_p h, ← acts_now h]
  by_cases hm : 512 ≤ e.d.vtileOf e.p ∧ bits 26 18 f.toNat ≠ 260
  · have ho : opSend f e = .ok (e.withBanks bk) := hop.trans (if_pos hm)
    refine ⟨_, rfl, slot_next h ho (.withT _), ?_⟩
    rw [runSlot_net h ho, if_pos hm, List.append_nil]
    rfl
  · have ho : opSend f e = .ok ((e.withBanks bk).withNet (e.d.tar.net ++
        [⟨e.d.vtileOf e.p, bits 26 18 f.toNat, e.now + 48, memRead e.mem (slotBase s b + 64 * bits 12 0 f.toNat) 64, false⟩])) := hop.trans (if_neg hm)
    have hs := slot_next (us := []) h ho ((Moves.withT _).trans (.withNet _ _))
    refine ⟨_, rfl, hs, ?_⟩
    rw [runSlot_net h ho, if_neg hm]
    rfl

theorem recv_drops (hi : e.t.wagBusy ≤ s.cycleOf b) (hz : bits 17 13 f.toNat = 0) (hd : bits 26 18 f.toNat ≤ 265) :
    (arriving e = [] ∨ 2 ≤ (arriving e).length → ∃ t, exec (.recv b f) s = .next t ∧ SlotFault b e s t) ∧
    (∀ y, arriving e = [y] → y.src ≠ bits 26 18 f.toNat → ∃ t, exec (.recv b f) s = .next t ∧ SlotFault b e s t) := by
  have hop := opRecv_eq f e
  rw [wagOp_ok (by rwa [acts_now h]) (netFields_true hz hd)] at hop
  refine ⟨fun hn => faults_slot h rfl ?_, fun y hy hne => faults_slot h rfl ⟨fNetDrop, ?_⟩⟩
  · match ha : arriving e with
    | [] => exact ⟨fNetEmpty, by rw [hop, ha]⟩
    | [x] => simp [ha] at hn
    | x :: y :: l => exact ⟨fNetDrop, by rw [hop, ha]⟩
  · rw [hop, hy]
    exact if_pos hne

theorem recv_stores {y : Xfer} (hi : e.t.wagBusy ≤ s.cycleOf b) (hz : bits 17 13 f.toNat = 0) (hd : bits 26 18 f.toNat ≤ 265) (hy : arriving e = [y])
    (hsrc : y.src = bits 26 18 f.toNat) (hw : Memory.wf s.mem = true)
    (hr : e.write (.recv (decide (y.src = 260 ∨ y.src = 265))) (s.cycleOf b) (64 * bits 12 0 f.toNat) y.data = .ok e') :
    ∃ t, exec (.recv b f) s = .next t ∧
      SlotNextMem b [] (fun i => i < slotBase s b + 64 * bits 12 0 f.toNat ∨ slotBase s b + 64 * bits 12 0 f.toNat + y.data.length ≤ i) e s t e'.slot ∧
      memRead t.mem (slotBase s b + 64 * bits 12 0 f.toNat) y.data.length = y.data ∧
      ∀ z ∈ (t.dieOf b.die).tar.net, z.dst = e.d.vtileOf b.tile.val → z.due = s.cycleOf b → z.got = true := by
  have ho : opRecv f e = .ok (e'.withNet (e.d.tar.net.map (taken y))) := by
    rw [opRecv_eq, wagOp_ok (by rwa [acts_now h]) (netFields_true hz hd), hy]
    dsimp only
    rw [if_neg (fun hne => hne hsrc), ← hsrc, acts_now h, hr, ← net_write hr]
    rfl
  obtain ⟨hs, hm⟩ := store_next (t0 := e.t) h hw ho ((stores_write hr).withNet _)
  refine ⟨_, rfl, hs, hm, fun z hz hdst hdue => ?_⟩
  rw [runSlot_net h ho] at hz
  exact taken_arriving hy hz (by rw [acts_p h, hdst]) (by rw [acts_now h, hdue])

/-! ### MCMD (R186, R187) -/

theorem mcmd_arms {bs : List Byte} (hi : e.t.wagBusy ≤ s.cycleOf b) (hz : bits 26 14 f.toNat = 0)
    (hr : e.read .mcmd (s.cycleOf b) (32 * bits 13 0 f.toNat) 32 = .ok (e', bs)) :
    (streamOf (memRead e.mem (slotBase s b + 32 * bits 13 0 f.toNat) 32) = none → ∃ t, exec (.mcmd b f) s = .next t ∧ SlotFault b e s t) ∧
    (∀ n st, streamOf (memRead e.mem (slotBase s b + 32 * bits 13 0 f.toNat) 32) = some (n, st) →
      let old := tget e.d.mem.streams (64 * e.d.vtileOf b.tile.val + n) default
      ∃ t, exec (.mcmd b f) s = .next t ∧ SlotNext b [.mem] e s t { e'.slot with undoS := some (64 * e.d.vtileOf b.tile.val + n, old) } ∧
        (t.dieOf b.die).mem = { e.d.mem with streams := tset e.d.mem.streams (64 * e.d.vtileOf b.tile.val + n) st } ∧ st.moved = 0 ∧
        (t.dieOf b.die).tar.events =
          (if old.moved < old.lines then insertEv ⟨s.cycleOf b, b.tile.val, s.cycleOf b, none⟩ e.d.tar.events else e.d.tar.events)) := by
  have hop := opMcmd_eq f e
  rw [wagOp_ok (by rwa [acts_now h]) (by simp [hz]), acts_now h, hr] at hop
  obtain ⟨⟨bk, rfl⟩, rfl⟩ := acts_read (t0 := e.t) h hr
  rw [← acts_p h, ← acts_now h]
  refine ⟨fun hn => faults_slot h rfl ⟨fIllegal, ?_⟩, fun n st hst => ?_⟩
  · rw [hop, Except.bind, hn]
  · have ho : opMcmd f e = .ok (armed n st (e.withBanks bk)) := by
      rw [hop, Except.bind, hst]
      rfl
    have hs := slot_next h ho ((Moves.withT _).trans (.armed n st _))
    have hd := runSlot_die h ho
    rw [armed_eq] at hs hd
    exact ⟨_, rfl, hs, congrArg DieState.mem hd, streamOf_moved hst, congrArg (fun x : DieState => x.tar.events) hd⟩

end

/-! ### Transfers that arrive (R113) -/

/-- What is due at endpoint `e` in active cycle `now`. -/
def dueAt (e now : Nat) (y : Xfer) : Bool := y.dst == e && y.due == now

/-- The die in cycle `cyc`, what is due at endpoint `e` off the network. -/
def delivered (e cyc : Nat) (x : DieState) : DieState :=
  let y := x.toCycle cyc
  { y with tar := { y.tar with net := y.tar.net.filter fun z => !dueAt e (x.seq.step * 20000 + cyc) z } }

theorem delivered_only (e cyc : Nat) (x : DieState) : OnlyIn [.seq, .tar] x (delivered e cyc x) :=
  ((OnlyIn.toCycle x cyc).mono (by decide)).trans ((OnlyIn.tar _ _).mono (by decide))

theorem transferArrival_eq (e cyc : Nat) (x : DieState) : transferArrival e cyc x =
    let here := x.tar.net.filter (dueAt e (x.seq.step * 20000 + cyc))
    if here.isEmpty then (delivered e cyc x, [])
    else if 256 ≤ e then ({ delivered e cyc x with tar := { (delivered e cyc x).tar with inbox := x.tar.inbox ++ here } }, [])
    else if here.all (·.got) then (delivered e cyc x, [])
    else if (x.slotOf (x.ptileOf e)).cur.stat ≠ .running then (delivered e cyc x, [])
    else faultTile (delivered e cyc x) (x.ptileOf e) (x.seq.step * 20000 + cyc) fNetDrop
      (if (x.slotOf (x.ptileOf e)).at_ = some (x.seq.step * 20000 + cyc) then x.slotOf (x.ptileOf e) else (x.slotOf (x.ptileOf e)).resting) := rfl

/-! What TRANSFER_ARRIVAL leaves, by where it arrives. -/

section
variable {e cyc : Nat} {x : DieState}

theorem transferArrival_engine (he : 256 ≤ e) : transferArrival e cyc x = ({ delivered e cyc x with tar := { (delivered e cyc x).tar with
    inbox := x.tar.inbox ++ x.tar.net.filter (dueAt e (x.seq.step * 20000 + cyc)) } }, []) := by
  rw [transferArrival_eq]
  dsimp only
  by_cases hn : (x.tar.net.filter (dueAt e (x.seq.step * 20000 + cyc))).isEmpty = true
  · rw [if_pos hn, List.isEmpty_iff.1 hn, List.append_nil]
    rfl
  · rw [if_neg hn, if_pos he]

theorem transferArrival_taken (he : e < 256) (hg : ∀ y ∈ x.tar.net.filter (dueAt e (x.seq.step * 20000 + cyc)), y.got = true) :
    transferArrival e cyc x = (delivered e cyc x, []) := by
  rw [transferArrival_eq]
  dsimp only
  rw [if_neg (Nat.not_le.2 he), if_pos (List.all_eq_true.2 hg), ite_self]

theorem transferArrival_dropped (he : e < 256) {y : Xfer} (hy : y ∈ x.tar.net.filter (dueAt e (x.seq.step * 20000 + cyc))) (hg : y.got = false)
    (hr : (x.slotOf (x.ptileOf e)).cur.stat = .running) (hn : (x.slotOf (x.ptileOf e)).at_ ≠ some (x.seq.step * 20000 + cyc)) :
    transferArrival e cyc x = faultTile (delivered e cyc x) (x.ptileOf e) (x.seq.step * 20000 + cyc) fNetDrop (x.slotOf (x.ptileOf e)).resting := by
  have hne : ¬(x.tar.net.filter (dueAt e (x.seq.step * 20000 + cyc))).isEmpty = true := fun h0 => by rw [List.isEmpty_iff.1 h0] at hy; cases hy
  have hall : ¬(x.tar.net.filter (dueAt e (x.seq.step * 20000 + cyc))).all (·.got) = true := fun h0 => by
    rw [List.all_eq_true.1 h0 y hy] at hg
    cases hg
  rw [transferArrival_eq]
  dsimp only
  rw [if_neg hne, if_neg (Nat.not_le.2 he), if_neg hall, if_neg (fun h0 => h0 hr), if_neg hn]

end

/-- Settles O37, operation by operation. -/
theorem loadStoreAndNetworkOperations : Obligations.LoadStoreAndNetworkOperations := by
  refine ⟨fun s b f e h => ⟨wag_busy h f, wag_reserved h f, fun hi => ⟨fun e' ls hg hz hr => wcfg_loads h f hi hg hz hr, fun e' bs hz hr => vld_loads h f hi hz hr,
    fun e' hz hw hr => vst_stores h f hi hz hw hr, fun g c a hz hn => vldg_loads h f hi hz hn, fun g c a hz hn => vstg_stores h f hi hz hn,
    fun e' bs hz hd hc hr => send_sends h f hi hz hd hc hr, fun hz hd => ?_, fun e' bs hz hr => mcmd_arms h f hi hz hr⟩⟩, fun s d e cyc => ⟨fun he => ?_, fun he hg => ?_,
    fun he y hy hg hr hn => ?_⟩⟩
  · rw [show e.d.tar.net.filter (fun y => y.dst == e.d.vtileOf b.tile.val && y.due == s.cycleOf b) = arriving e by rw [arriving, acts_p h, acts_now h]]
    obtain ⟨hno, hother⟩ := recv_drops h f hi hz hd
    exact ⟨hno, hother, fun y e' hy hsrc hw hr => recv_stores h f hi hz hd hy hsrc hw hr⟩
  · have hx := transferArrival_engine (cyc := cyc.val) (x := s.here d) he
    have ht := (State.onDieMem_dieOf d s (fun _ _ => transferArrival e.val cyc.val)).trans (congrArg Prod.fst hx)
    refine ⟨_, rfl, ?_, ?_, ?_, frame_of_onDieMem ?_ (congrArg Prod.snd hx)⟩
    · exact congrArg (fun y : DieState => y.tar.inbox) ht
    · exact congrArg (fun y : DieState => y.tar.net) ht
    · exact (congrArg (fun y : DieState => y.tar.tiles) ht).trans rfl
    · rw [hx]
      exact (delivered_only _ _ _).trans ((OnlyIn.tar _ _).mono (by decide))
  · have hx := transferArrival_taken (cyc := cyc.val) (x := s.here d) he hg
    have ht := (State.onDieMem_dieOf d s (fun _ _ => transferArrival e.val cyc.val)).trans (congrArg Prod.fst hx)
    refine ⟨_, rfl, congrArg DieState.tar ht, frame_of_onDieMem ?_ (congrArg Prod.snd hx)⟩
    rw [hx]
    exact delivered_only _ _ _
  · obtain ⟨hcur, hcount, -, htiles, hframe⟩ := tile_stops (transferArrival_dropped (cyc := cyc.val) (x := s.here d) he hy hg hr hn) (delivered_only _ _ _) rfl
    exact ⟨_, rfl, hcur, hcount, htiles, hframe⟩

end Sys2Proof

/-! SUPPORT. The rotations' registers and state (R115, R165): fields of one register that stand apart, the places of a rotation's registers, and what a
fence changes (R123). -/

namespace Sys2Proof

open Machine

/-! ### Fields of one register -/

theorem testBit_bits (hi lo n j : Nat) : (bits hi lo n).testBit j = (decide (j < hi + 1 - lo) && n.testBit (lo + j)) := by
  rw [bits, Nat.testBit_mod_two_pow, Nat.testBit_div_two_pow, Nat.add_comm j]

theorem testBit_setBits_apart {hi lo j : Nat} (v n : Nat) (hl : lo ≤ hi) (h : j < lo ∨ hi < j) : (setBits hi lo v n).testBit j = n.testBit j := by
  have hr : n % 2 ^ lo < 2 ^ lo := Nat.mod_lt _ (Nat.two_pow_pos lo)
  have hv : 2 ^ lo * (v % 2 ^ (hi + 1 - lo)) + n % 2 ^ lo < 2 ^ (hi + 1) := by
    calc _ < 2 ^ lo * (v % 2 ^ (hi + 1 - lo) + 1) := by rw [Nat.mul_succ]; omega
      _ ≤ 2 ^ lo * 2 ^ (hi + 1 - lo) := Nat.mul_le_mul_left _ (Nat.mod_lt _ (Nat.two_pow_pos _))
      _ = 2 ^ (hi + 1) := by rw [← pow_add]; congr 1; omega
  have e : setBits hi lo v n = 2 ^ (hi + 1) * (n / 2 ^ (hi + 1)) + (2 ^ lo * (v % 2 ^ (hi + 1 - lo)) + n % 2 ^ lo) := by unfold setBits; ring
  rw [e, Nat.testBit_two_pow_mul_add _ hv]
  rcases h with h | h
  · rw [if_pos (by omega), Nat.testBit_two_pow_mul_add _ hr, if_pos h, Nat.testBit_mod_two_pow, decide_eq_true h, Bool.true_and]
  · rw [if_neg (by omega), Nat.testBit_div_two_pow]
    congr 1
    omega

/-- Setting one field leaves the fields beside it. -/
theorem fld_setFld_apart (x : DieState) (off v : Nat) {hi lo a b : Nat} (hl : lo ≤ hi) (ha : a < 32) (h : a < lo ∨ hi < b) :
    (x.setFld off hi lo v).fld off a b = x.fld off a b := by
  unfold DieState.setFld DieState.fld
  rw [DieState.rd_wr_same]
  refine Nat.eq_of_testBit_eq fun j => ?_
  rw [testBit_bits, testBit_bits]
  by_cases hj : j < a + 1 - b
  · rw [Nat.testBit_mod_two_pow, testBit_setBits_apart _ _ hl (by omega), decide_eq_true (show b + j < 32 by omega), Bool.true_and]
  · simp [hj]

theorem flag_eq_fld (x : DieState) (off b : Nat) : x.flag off b = decide (x.fld off b b = 1) := bit_eq_bits _ _

theorem fld_setFlag_apart (x : DieState) (off k : Nat) (v : Bool) {a b : Nat} (ha : a < 32) (h : a < k ∨ k < b) :
    (x.setFlag off k v).fld off a b = x.fld off a b := fld_setFld_apart x off _ (Nat.le_refl k) ha h

theorem flag_setFld_apart (x : DieState) (off v : Nat) {hi lo b : Nat} (hl : lo ≤ hi) (hb : b < 32) (h : b < lo ∨ hi < b) :
    (x.setFld off hi lo v).flag off b = x.flag off b := by rw [flag_eq_fld, flag_eq_fld, fld_setFld_apart x off v hl hb h]

/-! ### Registers out of reach of a change -/

section
variable {os : List Nat} {x y : DieState} (h : RegsOnly os x y) {off : Nat} (ho : off ∉ os)
include h ho

theorem fld_of_regsOnly (hi lo : Nat) : y.fld off hi lo = x.fld off hi lo := congrArg (bits hi lo) (h off ho)
theorem flag_of_regsOnly (b : Nat) : y.flag off b = x.flag off b := congrArg (bit b) (h off ho)

end

theorem RegsOnly.setUsw (x : DieState) (u st : Nat) : RegsOnly ((rSYS_USW + 4 * u) :: inkRegs) x (x.setUsw u st) := by
  unfold DieState.setUsw
  split
  · exact .refl _ _
  · exact (((RegsOnly.setFld _ _ _ _ _).trans (.countFld _ _ _ _ _)).mono (by simp)).trans ((RegsOnly.inkPut _ _ _ _ _ _).mono fun _ => List.mem_cons_of_mem _)

theorem RegsOnly.uswEvent (x : DieState) (u i st : Nat) : RegsOnly (rQLL_STATUS :: inkRegs) x (x.uswEvent u i st) := by
  unfold DieState.uswEvent
  split
  · exact .of_regs _ rfl
  · exact .raise _ _ _

/-! ### A rotation's place in the die -/

/-- The part of a die that holds a rotation. -/
def rotPart (u : Rot) : DiePart := if u then .stm else .tar

theorem rot_of_onlyIn {us : List DiePart} {x y : DieState} {u : Rot} (h : OnlyIn us x y) (hu : rotPart u ∉ us) : y.rot u = x.rot u := by
  cases u
  · exact congrArg Tar.rot (h.2 .tar hu)
  · exact congrArg Stm.rot (h.2 .stm hu)

theorem OnlyIn.setRot (x : DieState) (u : Rot) (r : Rotation) : OnlyIn [rotPart u] x (x.setRot u r) := by
  cases u
  · exact .tar _ _
  · exact .stm _ _

section
variable (x : DieState) (u : Rot) (r : Rotation)

@[simp] theorem rot_setRot : (x.setRot u r).rot u = r := by cases u <;> rfl
@[simp] theorem setRot_regs : (x.setRot u r).regs = x.regs := by cases u <;> rfl
@[simp] theorem setRot_fld (off hi lo : Nat) : (x.setRot u r).fld off hi lo = x.fld off hi lo := by cases u <;> rfl
@[simp] theorem setRot_flag (off b : Nat) : (x.setRot u r).flag off b = x.flag off b := by cases u <;> rfl

end

/-- The registers outside its own block that a fence may change: the Unit State Word, QLL_STATUS and those of a SAFE cause. -/
def tellRegs (u : Rot) : List Nat := (rSYS_USW + 4 * u.unit) :: rQLL_STATUS :: causeRegs

/-- No register of a rotation's block is among them. -/
theorem tellRegs_apart : ∀ u : Bool, ∀ r ∈ tellRegs u, r < Rot.block u ∨ Rot.block u + 0x100 ≤ r := by decide

theorem not_tellRegs {u : Rot} {k : Nat} (h : k < 0x100) : u.block + k ∉ tellRegs u := fun hm => by
  have := tellRegs_apart u _ hm
  omega

theorem not_inkRegs {u : Rot} {k : Nat} (h : k < 0x100) : u.block + k ∉ inkRegs := fun hm =>
  not_tellRegs h (List.mem_cons_of_mem _ (List.mem_cons_of_mem _ (List.mem_append_right _ hm)))

theorem grp_not_tellRegs {u : Rot} {g : Nat} (hg : g ≤ 16) : u.grp g ∉ tellRegs u := by
  rw [Rot.grp, Nat.add_assoc]
  exact not_tellRegs (by omega)

theorem grp_not_inkRegs {u : Rot} {g : Nat} (hg : g ≤ 16) : u.grp g ∉ inkRegs := by
  rw [Rot.grp, Nat.add_assoc]
  exact not_inkRegs (by omega)

/-! ### A fence (R123) -/

/-- A fence marks its group and its rotation. -/
def fenceMark (u : Rot) (g : Nat) (failed : Bool) (x : DieState) : DieState :=
  let x := x.setFld (u.grp g) 2 0 6
  let x := if failed then x.setFlag (u.grp g) 3 true else x
  (x.raiseWith u.diag 1 (some 58) []).setFlag u.out 8 true

/-- The die with what a fence tells, but for a SAFE cause: the Unit State Word, its event and a lifetime count. -/
def fenceTold (u : Rot) (x : DieState) : DieState :=
  let x := (x.setUsw u.unit 3).uswEvent u.unit 0xFF 3
  x.life (24 + x.die.num) 1

/-- What a fence tells; under its policy, a SAFE cause. -/
def fenceTell (u : Rot) (x : DieState) : DieState := if (fenceTold u x).flag u.cfg 1 then (fenceTold u x).detect 12 else fenceTold u x

theorem fenceGroup_eq (x : DieState) (u : Rot) (g : Nat) (failed : Bool) : x.fenceGroup u g failed = fenceTell u (fenceMark u g failed x) := rfl

section
variable (x : DieState) (u : Rot) (g : Nat) (failed : Bool)

theorem fenceMark_only : OnlyIn [.regs, .ink] x (fenceMark u g failed x) :=
  (((OnlyIn.setFld x _ _ _ _).trans (.ite _ (.setFlag _ _ _ _) (.refl _ _))).mono (by decide)).trans
    ((OnlyIn.raiseWith _ _ _ _ _).trans ((OnlyIn.setFlag _ _ _ _).mono (by decide)))

theorem fenceMark_regs : RegsOnly (u.grp g :: u.out :: u.diag :: inkRegs) x (fenceMark u g failed x) :=
  (((RegsOnly.setFld x _ _ _ _).trans (.ite _ (.setFlag _ _ _ _) (.refl _ _))).mono (by simp)).trans
    (((RegsOnly.raiseWith _ _ _ _ _).mono (by simp +contextual)).trans ((RegsOnly.setFlag _ _ _ _).mono (by simp)))

theorem fenceMark_exhausted : (fenceMark u g failed x).exhausted u = true :=
  (flag_of_regsOnly (RegsOnly.setFlag _ u.out 8 true) (by simp [Rot.diag, Rot.out]) 1).trans (flag_raiseWith_same _ _ _ _ _ (by decide) (not_inkRegs (by decide)))

theorem fenceMark_stopped : (fenceMark u g failed x).flag u.out 8 = true := DieState.flag_setFlag_same _ _ _ _ (by decide)

theorem fenceMark_out : (fenceMark u g failed x).rotOut u = x.rotOut u := by
  have hg : u.out ∉ [u.grp g] := by simp only [Rot.out, Rot.grp, List.mem_singleton]; omega
  have hd : u.out ∉ u.diag :: inkRegs := by simp [Rot.out, Rot.diag, not_inkRegs]
  have h : RegsOnly [u.grp g] x (if failed then (x.setFld (u.grp g) 2 0 6).setFlag (u.grp g) 3 true else x.setFld (u.grp g) 2 0 6) :=
    (RegsOnly.setFld x _ _ _ _).trans (.ite _ (.setFlag _ _ _ _) (.refl _ _))
  exact (fld_setFlag_apart _ u.out 8 true (by decide) (by decide)).trans
    ((fld_of_regsOnly (RegsOnly.raiseWith _ u.diag 1 (some 58) []) hd 4 0).trans (fld_of_regsOnly h hg 4 0))

/-- What a fence leaves in the register of its group before it tells. -/
theorem fenceMark_grp {g : Nat} (hg : g ≤ 16) :
    (fenceMark u g failed x).rd (u.grp g) = (if failed then (x.setFld (u.grp g) 2 0 6).setFlag (u.grp g) 3 true else x.setFld (u.grp g) 2 0 6).rd (u.grp g) := by
  have ho : u.grp g ∉ [u.out] := by simp only [Rot.out, Rot.grp, List.mem_singleton]; omega
  have hd : u.grp g ≠ u.diag := by simp only [Rot.diag, Rot.grp]; omega
  exact (RegsOnly.setFlag _ u.out 8 true _ ho).trans (RegsOnly.raiseWith _ u.diag 1 (some 58) [] _ (by simp [hd, grp_not_inkRegs hg]))

theorem fenceMark_state {g : Nat} (hg : g ≤ 16) : (fenceMark u g failed x).grpState u g = 6 := by
  have h6 : (x.setFld (u.grp g) 2 0 6).grpState u g = 6 := DieState.fld_setFld_same _ _ _ _ _ (by decide) (by decide)
  refine (congrArg (bits 2 0) (fenceMark_grp x u failed hg)).trans ?_
  cases failed
  · exact h6
  · exact (fld_setFlag_apart _ (u.grp g) 3 true (by decide) (by decide)).trans h6

theorem fenceMark_failed {g : Nat} (hg : g ≤ 16) : (fenceMark u g true x).flag (u.grp g) 3 = true :=
  (congrArg (bit 3) (fenceMark_grp x u true hg)).trans (DieState.flag_setFlag_same _ _ _ _ (by decide))

theorem fenceTold_only : OnlyIn [.regs, .ink, .qll] x (fenceTold u x) :=
  (((OnlyIn.setUsw x _ _).mono (by decide)).trans (.uswEvent _ _ _ _)).trans ((OnlyIn.life _ _ _).mono (by decide))

theorem fenceTold_regs : RegsOnly (tellRegs u) x (fenceTold u x) := by
  have hink : ∀ o, o ∈ inkRegs → o ∈ tellRegs u := fun _ h => List.mem_cons_of_mem _ (List.mem_cons_of_mem _ (List.mem_append_right _ h))
  refine (((RegsOnly.setUsw x _ _).mono fun o h => ?_).trans ((RegsOnly.uswEvent _ _ _ _).mono fun o h => ?_)).trans (.life _ _ _ _)
  · exact (List.mem_cons.1 h).elim (fun e => e ▸ List.mem_cons_self) (hink o)
  · exact (List.mem_cons.1 h).elim (fun e => e ▸ List.mem_cons_of_mem _ List.mem_cons_self) (hink o)

theorem fenceTell_only : OnlyIn [.regs, .ink, .qll, .chk, .net] x (fenceTell u x) :=
  ((fenceTold_only x u).mono (by decide)).trans (.ite _ ((OnlyIn.detect _ 12).mono (by decide)) (.refl _ _))

theorem fenceTell_regs : RegsOnly (tellRegs u) x (fenceTell u x) :=
  (fenceTold_regs x u).trans (.ite _ ((RegsOnly.detect _ 12).mono fun _ h => List.mem_cons_of_mem _ (List.mem_cons_of_mem _ h)) (.refl _ _))

theorem fenceTell_cause (h : x.flag u.cfg 1 = true) : (fenceTell u x).flag rCHK_SAFE_CAUSE 12 = true := by
  have hc : (fenceTold u x).flag u.cfg 1 = true := (flag_of_regsOnly (fenceTold_regs x u) (not_tellRegs (by decide)) 1).trans h
  rw [fenceTell, if_pos hc]
  exact flag_detect _ 12 (by decide)

end

/-- The registers that a fence of group `g` may change. -/
def fenceRegs (u : Rot) (g : Nat) : List Nat := u.grp g :: u.out :: u.diag :: tellRegs u

theorem not_fenceRegs {u : Rot} {g k : Nat} (hk : k < 0x100) (hout : k ≠ 0x40) (hdiag : k ≠ 0x50) (hg : k ≠ 0x80 + 4 * g) : u.block + k ∉ fenceRegs u g := by
  have ht : u.block + k ∉ tellRegs u := not_tellRegs hk
  simp only [fenceRegs, Rot.grp, Rot.out, Rot.diag, List.mem_cons, ht, or_false]
  omega

/-- What a fence of group `g` makes of a die. -/
structure Fenced (u : Rot) (g : Nat) (x y : DieState) : Prop where
  state : y.grpState u g = 6
  exhausted : y.exhausted u = true
  stopped : y.flag u.out 8 = true
  out : y.rotOut u = x.rotOut u
  cause : x.flag u.cfg 1 = true → y.flag rCHK_SAFE_CAUSE 12 = true
  regs : RegsOnly (fenceRegs u g) x y
  only : OnlyIn [.regs, .ink, .qll, .chk, .net] x y

section
variable (x : DieState) {u : Rot} {g : Nat} (hg : g ≤ 16)
include hg

theorem fenceGroup_fences (failed : Bool) : Fenced u g x (x.fenceGroup u g failed) := by
  have ht := fenceTell_regs (fenceMark u g failed x) u
  have hm := fenceMark_regs x u g failed
  have hcfg : u.cfg ∉ u.grp g :: u.out :: u.diag :: inkRegs := by
    have hne : u.cfg ≠ u.grp g := by simp only [Rot.cfg, Rot.grp]; omega
    have ho : u.cfg ≠ u.out := by simp [Rot.cfg, Rot.out]
    have hd : u.cfg ≠ u.diag := by simp [Rot.cfg, Rot.diag]
    have hink : u.cfg ∉ inkRegs := not_inkRegs (by decide)
    simp [hne, ho, hd, hink]
  rw [fenceGroup_eq]
  exact {
    state := (fld_of_regsOnly ht (grp_not_tellRegs hg) 2 0).trans (fenceMark_state x u failed hg)
    exhausted := (flag_of_regsOnly ht (not_tellRegs (by decide)) 1).trans (fenceMark_exhausted x u g failed)
    stopped := (flag_of_regsOnly ht (not_tellRegs (by decide)) 8).trans (fenceMark_stopped x u g failed)
    out := (fld_of_regsOnly ht (not_tellRegs (by decide)) 4 0).trans (fenceMark_out x u g failed)
    cause := fun h => fenceTell_cause _ u ((flag_of_regsOnly hm hcfg 1).trans h)
    regs := (hm.mono (by simp +contextual [fenceRegs, tellRegs, causeRegs])).trans (ht.mono (by simp +contextual [fenceRegs]))
    only := ((fenceMark_only x u g failed).mono (by decide)).trans (fenceTell_only _ u) }

/-- A fence after a failed test marks the failure. -/
theorem fenceGroup_failed : (x.fenceGroup u g true).flag (u.grp g) 3 = true := by
  rw [fenceGroup_eq]
  exact (flag_of_regsOnly (fenceTell_regs _ u) (grp_not_tellRegs hg) 3).trans (fenceMark_failed x u hg)

end

end Sys2Proof

/-! SUPPORT. The rotating spare (R117 to R124): how a handover begins, what a group test, the spare's interval and a fence request make of the die. -/

namespace Sys2Proof

open Machine

/-! ### Group tests (R121, R123) -/

section
variable {x : DieState} {u : Rot} {g : Nat}

/-- The register of a group that passed its test. -/
def testPassed (u : Rot) (g : Nat) (x : DieState) : DieState :=
  (((x.setFld (u.grp g) 2 0 5).setFlag (u.grp g) 3 false).countFld (u.grp g) 31 16 1)

/-- The age of a group's test begins anew. -/
def ageZero (u : Rot) (g : Nat) (x : DieState) : DieState := x.setRot u { x.rot u with tested := tset (x.rot u).tested g x.seq.step }

theorem groupTestPass_eq (h : x.grpState u (x.rotOut u) = 4) : groupTestPass u x = ageZero u (x.rotOut u) (testPassed u (x.rotOut u) x) :=
  if_neg (not_not.2 h)

theorem groupTestFail_eq (h : x.grpState u (x.rotOut u) = 4) : groupTestFail u x = x.fenceGroup u (x.rotOut u) true := if_neg (not_not.2 h)

variable (x u g)

theorem testPassed_regs : RegsOnly [u.grp g] x (testPassed u g x) := ((RegsOnly.setFld x _ _ _ _).trans (.setFlag _ _ _ _)).trans (.countFld _ _ _ _ _)

theorem testPassed_only : OnlyIn [.regs] x (testPassed u g x) := ((OnlyIn.setFld x _ _ _ _).trans (.setFlag _ _ _ _)).trans (.countFld _ _ _ _ _)

theorem testPassed_state : (testPassed u g x).grpState u g = 5 :=
  ((fld_setFld_apart _ _ _ (by decide) (by decide) (by decide)).trans (fld_setFlag_apart _ _ 3 false (by decide) (by decide))).trans
    (DieState.fld_setFld_same x _ 2 0 5 (by decide) (by decide))

theorem testPassed_flag : (testPassed u g x).flag (u.grp g) 3 = false :=
  (flag_setFld_apart _ _ _ (by decide) (by decide) (by decide)).trans (DieState.flag_setFlag_same _ _ 3 false (by decide))

/-- The passes are counted, up to the most the field holds. -/
theorem testPassed_count : (testPassed u g x).fld (u.grp g) 31 16 = min 65535 (x.fld (u.grp g) 31 16 + 1) := by
  have h : ((x.setFld (u.grp g) 2 0 5).setFlag (u.grp g) 3 false).fld (u.grp g) 31 16 = x.fld (u.grp g) 31 16 :=
    (fld_setFlag_apart _ _ 3 false (by decide) (by decide)).trans (fld_setFld_apart x _ 5 (by decide) (by decide) (by decide))
  refine (DieState.fld_setFld_same _ _ 31 16 _ (by decide) (by decide)).trans ?_
  rw [h, satAdd]
  omega

theorem ageZero_only : OnlyIn [rotPart u] x (ageZero u g x) := .setRot _ _ _

theorem ageZero_age : (ageZero u g x).testAge u g = 0 := by
  have hs : (ageZero u g x).seq = x.seq := by cases u <;> rfl
  rw [DieState.testAge, hs, ageZero, rot_setRot, tget_tset_same, sub_self]

end

section
variable {s : State} {d : Die} {u : Bool} {g : Nat} (hr : (s.dieOf d).rotOut u = g) (h : (s.dieOf d).grpState u g = 4)
include hr h

theorem groupTest_passes : ∃ t, exec (if u then .stmGroupTestPass d else .groupTestPass d) s = .next t ∧ (t.dieOf d).grpState u g = 5 ∧
    (t.dieOf d).testAge u g = 0 ∧ (t.dieOf d).flag (Rot.grp u g) 3 = false ∧
    (t.dieOf d).fld (Rot.grp u g) 31 16 = min 65535 ((s.dieOf d).fld (Rot.grp u g) 31 16 + 1) ∧ RegsOnly [Rot.grp u g] (s.dieOf d) (t.dieOf d) ∧
    Frame d (if u then [.stm, .regs] else [.tar, .regs]) s t := by
  subst hr
  have hx : exec (if u then .stmGroupTestPass d else .groupTestPass d) s = .next (s.onDie d (groupTestPass u)) := by cases u <;> rfl
  have he : groupTestPass u (s.here d) = ageZero u ((s.dieOf d).rotOut u) (testPassed u ((s.dieOf d).rotOut u) (s.here d)) := groupTestPass_eq h
  have hf : Frame d [rotPart u, .regs] s (s.onDie d (groupTestPass u)) := frame_of_here (by
    rw [he]
    exact ((testPassed_only _ _ _).mono (by simp)).trans ((ageZero_only _ _ _).mono (by simp)))
  refine ⟨_, hx, ?_⟩
  rw [State.onDie_dieOf, ← State.here, he]
  exact ⟨(setRot_fld _ _ _ _ _ _).trans (testPassed_state _ _ _), ageZero_age _ _ _, (setRot_flag _ _ _ _ _).trans (testPassed_flag _ _ _),
    (setRot_fld _ _ _ _ _ _).trans (testPassed_count _ _ _), (testPassed_regs _ _ _).trans (.of_regs _ (setRot_regs _ _ _)), by cases u <;> exact hf⟩

theorem groupTest_fails (hg : g ≤ 16) : ∃ t, exec (if u then .stmGroupTestFail d else .groupTestFail d) s = .next t ∧
    (t.dieOf d).grpState u g = 6 ∧ (t.dieOf d).flag (Rot.grp u g) 3 = true ∧ (t.dieOf d).exhausted u = true ∧ (t.dieOf d).flag (Rot.out u) 8 = true ∧
    ((s.dieOf d).flag (Rot.cfg u) 1 = true → (t.dieOf d).flag rCHK_SAFE_CAUSE 12 = true) ∧ Frame d [.regs, .ink, .qll, .chk, .net] s t := by
  subst hr
  have hx : exec (if u then .stmGroupTestFail d else .groupTestFail d) s = .next (s.onDie d (groupTestFail u)) := by cases u <;> rfl
  have he : groupTestFail u (s.here d) = (s.here d).fenceGroup u ((s.dieOf d).rotOut u) true := groupTestFail_eq h
  have hfen : Fenced u ((s.dieOf d).rotOut u) (s.here d) _ := fenceGroup_fences (s.here d) hg true
  refine ⟨_, hx, ?_⟩
  rw [State.onDie_dieOf, ← State.here, he]
  exact ⟨hfen.state, fenceGroup_failed _ hg, hfen.exhausted, hfen.stopped, hfen.cause, frame_of_here (by rw [he]; exact hfen.only)⟩

end

/-! ### The spare's interval (R122, R358) -/

/-- The largest test age so far is kept. -/
def ageKept (u : Rot) (x : DieState) : DieState := x.wr u.maxInt (max (x.rd u.maxInt) (min max32 (x.maxAge u)))

/-- A test age above the limit is a flag, and by policy a SAFE cause. -/
def ageExceeded (u : Rot) (x : DieState) : DieState := if (x.raise u.diag 0).flag rCHK_CFG 0 then (x.raise u.diag 0).detect 16 else x.raise u.diag 0

theorem maxAge_ageKept (x : DieState) (u v : Rot) : (ageKept v x).maxAge u = x.maxAge u := by cases u <;> rfl

theorem spareInterval_eq {x : DieState} {u : Rot} (h : x.stepping = true) :
    spareInterval u x = if x.exhausted u || decide (x.maxAge u ≤ x.rd u.limit) then ageKept u x else ageExceeded u (ageKept u x) := by
  have hex : (ageKept u x).exhausted u = x.exhausted u := flag_of_regsOnly (RegsOnly.wr x u.maxInt _) (by simp [Rot.diag, Rot.maxInt]) 1
  have hlim : (ageKept u x).rd u.limit = x.rd u.limit := RegsOnly.wr x u.maxInt _ _ (by simp [Rot.limit, Rot.maxInt])
  rw [← hex, ← hlim, ← maxAge_ageKept x u u]
  exact if_neg (by simp [h])

theorem spareInterval_within {x : DieState} {u : Rot} (h : x.stepping = true) (hl : x.exhausted u = true ∨ x.maxAge u ≤ x.rd u.limit) :
    spareInterval u x = ageKept u x := by
  rw [spareInterval_eq h]
  exact if_pos (by simpa using hl)

theorem spareInterval_beyond {x : DieState} {u : Rot} (h : x.stepping = true) (hex : x.exhausted u = false) (hl : x.rd u.limit < x.maxAge u) :
    spareInterval u x = ageExceeded u (ageKept u x) := by
  rw [spareInterval_eq h]
  exact if_neg (by simpa [hex] using hl)

section
variable (x : DieState) (u : Rot)

theorem ageKept_max : (ageKept u x).rd u.maxInt = max (x.rd u.maxInt) (min 0xFFFFFFFF (x.maxAge u)) % 2 ^ 32 := DieState.rd_wr_same _ _ _

/-- The policy's register is out of reach of what comes before it is read. -/
theorem policy_raise : ((ageKept u x).raise u.diag 0).flag rCHK_CFG 0 = x.flag rCHK_CFG 0 := by
  have hd : rCHK_CFG ∉ u.diag :: inkRegs := by cases u <;> decide
  have hm : rCHK_CFG ∉ [u.maxInt] := by cases u <;> decide
  exact (flag_of_regsOnly (RegsOnly.raise _ u.diag 0) hd 0).trans (flag_of_regsOnly (RegsOnly.wr x u.maxInt _) hm 0)

theorem ageExceeded_only : OnlyIn [.regs, .ink, .chk, .net] x (ageExceeded u x) :=
  ((OnlyIn.raise x u.diag 0).mono (by decide)).trans (.ite _ ((OnlyIn.detect _ 16).mono (by decide)) (.refl _ _))

theorem ageExceeded_regs : RegsOnly (u.diag :: causeRegs) x (ageExceeded u x) :=
  ((RegsOnly.raise x u.diag 0).mono (by simp +contextual [causeRegs])).trans
    (.ite _ ((RegsOnly.detect _ 16).mono fun _ => List.mem_cons_of_mem _) (.refl _ _))

theorem ageExceeded_flag : (ageExceeded u x).flag u.diag 0 = true := by
  have h : (x.raise u.diag 0).flag u.diag 0 = true := DieState.flag_raise x _ 0 (by decide) (not_inkRegs (by decide))
  have hc : u.diag ∉ causeRegs := fun hm => not_tellRegs (u := u) (k := 0x50) (by decide) (List.mem_cons_of_mem _ (List.mem_cons_of_mem _ hm))
  unfold ageExceeded
  split
  · exact (flag_of_regsOnly (RegsOnly.detect _ 16) hc 0).trans h
  · exact h

theorem ageExceeded_cause (h : (x.raise u.diag 0).flag rCHK_CFG 0 = true) : (ageExceeded u x).flag rCHK_SAFE_CAUSE 16 = true := by
  rw [ageExceeded, if_pos h]
  exact flag_detect _ 16 (by decide)

theorem ageExceeded_max : (ageExceeded u x).rd u.maxInt = x.rd u.maxInt := by
  have hd : u.maxInt ≠ u.diag := by simp [Rot.maxInt, Rot.diag]
  have hc : u.maxInt ∉ causeRegs := fun hm => not_tellRegs (u := u) (k := 0x54) (by decide) (List.mem_cons_of_mem _ (List.mem_cons_of_mem _ hm))
  exact ageExceeded_regs x u _ (by simp [hd, hc])

end

section
variable {s : State} {d : Die} {u : Bool} (h : (s.dieOf d).stepping = true)
include h

theorem interval_kept (hl : (s.dieOf d).exhausted u = true ∨ (s.dieOf d).maxAge u ≤ (s.dieOf d).rd (Rot.limit u)) :
    ∃ t, exec (if u then .stmSpareInterval d else .spareInterval d) s = .next t ∧
      (t.dieOf d).rd (Rot.maxInt u) = max ((s.dieOf d).rd (Rot.maxInt u)) (min 0xFFFFFFFF ((s.dieOf d).maxAge u)) % 2 ^ 32 ∧
      RegsOnly [Rot.maxInt u] (s.dieOf d) (t.dieOf d) ∧ Frame d [.regs] s t := by
  have hx : exec (if u then .stmSpareInterval d else .spareInterval d) s = .next (s.onDie d (spareInterval u)) := by cases u <;> rfl
  have he : spareInterval u (s.here d) = ageKept u (s.here d) := spareInterval_within (x := s.here d) h hl
  refine ⟨_, hx, ?_⟩
  rw [State.onDie_dieOf, ← State.here, he]
  exact ⟨ageKept_max _ u, .wr _ _ _, frame_of_here (by rw [he]; exact .wr _ _ _)⟩

theorem interval_exceeded (hex : (s.dieOf d).exhausted u = false) (hl : (s.dieOf d).rd (Rot.limit u) < (s.dieOf d).maxAge u) :
    ∃ t, exec (if u then .stmSpareInterval d else .spareInterval d) s = .next t ∧
      (t.dieOf d).rd (Rot.maxInt u) = max ((s.dieOf d).rd (Rot.maxInt u)) (min 0xFFFFFFFF ((s.dieOf d).maxAge u)) % 2 ^ 32 ∧
      (t.dieOf d).flag (Rot.diag u) 0 = true ∧ ((s.dieOf d).flag rCHK_CFG 0 = true → (t.dieOf d).flag rCHK_SAFE_CAUSE 16 = true) ∧
      Frame d [.regs, .ink, .chk, .net] s t := by
  have hx : exec (if u then .stmSpareInterval d else .spareInterval d) s = .next (s.onDie d (spareInterval u)) := by cases u <;> rfl
  have he : spareInterval u (s.here d) = ageExceeded u (ageKept u (s.here d)) := spareInterval_beyond (x := s.here d) h hex hl
  refine ⟨_, hx, ?_⟩
  rw [State.onDie_dieOf, ← State.here, he]
  exact ⟨(ageExceeded_max _ u).trans (ageKept_max _ u), ageExceeded_flag _ u, fun hp => ageExceeded_cause _ u ((policy_raise _ u).trans hp),
    frame_of_here (by rw [he]; exact ((OnlyIn.wr _ _ _).mono (by decide)).trans (ageExceeded_only _ u))⟩

end

/-! ### A fence request (R124) -/

section
variable {x : DieState} {u : Rot} {v : Nat}

/-- The die as a fence finds it: a handover in progress is given up, its outgoing group in use; else MAINT stops on the tiles. -/
def fenceStart (u : Rot) (x : DieState) : DieState :=
  match (x.rot u).hand with
  | some h => (x.setFld (u.grp h.outg) 2 0 1).setRot u { x.rot u with hand := none, copies := [], mirror := [], mirrorW := [] }
  | none => if u then x else x.maintStop

/-- The die where another group is to be brought out and fenced. -/
def fenceAwaited (u : Rot) (f : Nat) (x : DieState) : DieState :=
  let y := if (x.rot u).hand.isNone ∧ x.grpState u (x.rotOut u) = 4 then x.setFld (u.grp (x.rotOut u)) 2 0 5 else x
  y.setRot u { x.rot u with fencing := some f }

theorem fenceRequest_without_go (h : bit 31 v = false) : fenceRequest u v x = x := by simp [fenceRequest, h]

theorem fenceRequest_refused (h : bit 31 v = true) (hf : 16 < v % 32 ∨ (v % 32 ≠ x.rotOut u ∧ x.exhausted u = true)) :
    fenceRequest u v x = x.raise u.diag 4 := by
  rw [fenceRequest, h]
  by_cases h16 : 16 < v % 32
  · simp [h16]
  · obtain ⟨hne, hex⟩ := hf.resolve_left h16
    simp [h16, hne, hex]

theorem fenceRequest_awaited (h : bit 31 v = true) (h16 : v % 32 ≤ 16) (hne : v % 32 ≠ x.rotOut u) (hex : x.exhausted u = false) :
    fenceRequest u v x = fenceAwaited u (v % 32) x := by
  simp [fenceRequest, h, Nat.not_lt.2 h16, hne, hex, fenceAwaited]

theorem fenceRequest_spare (h : bit 31 v = true) (h16 : v % 32 ≤ 16) (he : v % 32 = x.rotOut u) :
    fenceRequest u v x = (fenceStart u x).fenceGroup u (v % 32) false := by
  rw [fenceRequest, h]
  refine (if_neg (by simp)).trans ((if_neg (Nat.not_lt.2 h16)).trans ((if_pos he).trans ?_))
  rfl

variable (x u)

theorem maintStop_only : OnlyIn [.tar, .syn, .ctx] x x.maintStop := by
  unfold DieState.maintStop
  split
  · exact .refl _ _
  · exact ⟨rfl, fun p hp => by cases p <;> simp_all [DiePart.Same]⟩

theorem maintStop_rot : x.maintStop.rot u = x.rot u := by
  unfold DieState.maintStop
  split
  · rfl
  · cases u <;> rfl

theorem fenceStart_only : OnlyIn [.tar, .stm, .syn, .ctx, .regs] x (fenceStart u x) := by
  unfold fenceStart
  split
  · exact ((OnlyIn.setFld x _ _ _ _).mono (by decide)).trans ((OnlyIn.setRot _ u _).mono (by cases u <;> decide))
  · exact .ite _ (.refl _ _) ((maintStop_only x).mono (by decide))

theorem fenceStart_hand : ((fenceStart u x).rot u).hand = none := by
  unfold fenceStart
  split
  · rw [rot_setRot]
  next hn =>
    cases u
    · exact (congrArg Rotation.hand (maintStop_rot x false)).trans hn
    · exact hn

theorem fenceAwaited_only (f : Nat) : OnlyIn [rotPart u, .regs] x (fenceAwaited u f x) :=
  (OnlyIn.ite _ ((OnlyIn.setFld x _ _ _ _).mono (by simp)) (.refl _ _)).trans ((OnlyIn.setRot _ u _).mono (by simp))

theorem fenceAwaited_regs (f : Nat) : RegsOnly [u.grp (x.rotOut u)] x (fenceAwaited u f x) :=
  (RegsOnly.ite _ (.setFld x _ _ _ _) (.refl _ _)).trans (.of_regs _ (setRot_regs _ _ _))

theorem fenceAwaited_fencing (f : Nat) : ((fenceAwaited u f x).rot u).fencing = some f := by rw [fenceAwaited, rot_setRot]

end

/-- The frame of a command of the module that does one thing on one die. -/
theorem frameOf_here {s : State} {d : Die} {us : List DiePart} {g : Whole → Whole} {f : DieState → DieState} (hg : g s.whole = s.whole.onDie d f)
    (h : OnlyIn us (s.here d) (f (s.here d))) : FrameOf d us s (s.onWhole g) := by
  refine ((Led.start s d).setDie (y := f (s.here d)) (by rw [State.whole_die]; exact h)).frameOf (hg.trans ?_)
  rw [← Whole.onDie_synced, State.whole_die]
  rfl

/-- The register that asks for a fence. -/
def fenceReg (u : Rot) : Nat := if u then rSTM_FENCE_REQ else rTAR_FENCE_REQ

section
variable {s : State} {d : Die} {u : Bool} {v : BitVec 32}

theorem exec_fenceReq : exec (if u then .stmFenceReq d v else .tarFenceReq d v) s = .next (s.onWhole (fun w => w.ask d (fenceReg u) v.toNat)) := by cases u <;> rfl

theorem fence_waits (hs : (s.dieOf d).stepping = true) (hp : s.whole.paired = false) :
    ∃ t, exec (if u then .stmFenceReq d v else .tarFenceReq d v) s = .next t ∧
      (t.dieOf d).reqs = (s.dieOf d).reqs ++ [(if u then rSTM_FENCE_REQ else rTAR_FENCE_REQ, v.toNat, (s.dieOf d).seq.step + 1)] ∧ FrameOf d [.reqs] s t := by
  have hd : s.whole.die d = s.here d := State.whole_die _ _
  have hg : s.whole.ask d (fenceReg u) v.toNat = s.whole.onDie d (fun x => x.queueReq (fenceReg u) v.toNat ((s.dieOf d).seq.step + 1)) := by
    rw [ask_alone (by rw [hd]; exact hs) hp, hd]
    rfl
  refine ⟨_, exec_fenceReq, ?_, frameOf_here hg (queueReq_only _ _ _ _)⟩
  rw [onWhole_onDie_die _ _ hg]
  rfl

variable (hs : (s.dieOf d).stepping = false)
include hs

theorem ask_acts : s.whole.ask d (fenceReg u) v.toNat = s.whole.onDie d (fenceRequest u v.toNat) := by
  have hd : (s.whole.die d).stepping = false := by rw [State.whole_die]; exact hs
  rw [Whole.ask, hd]
  cases u <;> rfl

/-- A fence request where no step runs is what it does to its die. -/
theorem fence_acts {us : List DiePart} {y : DieState} (he : fenceRequest u v.toNat (s.here d) = y) (ho : OnlyIn us (s.here d) y) :
    ∃ t, exec (if u then .stmFenceReq d v else .tarFenceReq d v) s = .next t ∧ t.dieOf d = y ∧ FrameOf d us s t :=
  ⟨_, exec_fenceReq, (onWhole_onDie_die _ _ (ask_acts hs)).trans he, frameOf_here (ask_acts hs) (by rw [he]; exact ho)⟩

theorem fence_without_go (h : bit 31 v.toNat = false) : ∃ t, exec (if u then .stmFenceReq d v else .tarFenceReq d v) s = .next t ∧ FrameOf d [] s t := by
  obtain ⟨t, hx, -, hf⟩ := fence_acts hs (fenceRequest_without_go h) (.refl [] _)
  exact ⟨t, hx, hf⟩

variable (h : bit 31 v.toNat = true)
include h

theorem fence_refused (hf : 16 < v.toNat % 32 ∨ (v.toNat % 32 ≠ (s.dieOf d).rotOut u ∧ (s.dieOf d).exhausted u = true)) :
    ∃ t, exec (if u then .stmFenceReq d v else .tarFenceReq d v) s = .next t ∧ (t.dieOf d).flag (Rot.diag u) 4 = true ∧ FrameOf d [.regs, .ink] s t := by
  obtain ⟨t, hx, hd, hfr⟩ := fence_acts hs (fenceRequest_refused (x := s.here d) h hf) (.raise _ _ _)
  exact ⟨t, hx, by rw [hd]; exact DieState.flag_raise _ _ _ (by decide) (not_inkRegs (by decide)), hfr⟩

theorem fence_awaited (h16 : v.toNat % 32 ≤ 16) (hne : v.toNat % 32 ≠ (s.dieOf d).rotOut u) (hex : (s.dieOf d).exhausted u = false) :
    ∃ t, exec (if u then .stmFenceReq d v else .tarFenceReq d v) s = .next t ∧ ((t.dieOf d).rot u).fencing = some (v.toNat % 32) ∧
      RegsOnly [Rot.grp u ((s.dieOf d).rotOut u)] (s.dieOf d) (t.dieOf d) ∧ FrameOf d (if u then [.stm, .regs] else [.tar, .regs]) s t := by
  obtain ⟨t, hx, hd, hfr⟩ := fence_acts hs (fenceRequest_awaited (x := s.here d) h h16 hne hex) (fenceAwaited_only _ u _)
  exact ⟨t, hx, by rw [hd]; exact fenceAwaited_fencing _ u _, by rw [hd]; exact fenceAwaited_regs (s.here d) u _, by cases u <;> exact hfr⟩

theorem fence_spare (he : v.toNat % 32 = (s.dieOf d).rotOut u) (h16 : (s.dieOf d).rotOut u ≤ 16) :
    ∃ t, exec (if u then .stmFenceReq d v else .tarFenceReq d v) s = .next t ∧ (t.dieOf d).grpState u ((s.dieOf d).rotOut u) = 6 ∧
      ((t.dieOf d).rot u).hand = none ∧ (t.dieOf d).exhausted u = true ∧ FrameOf d [.tar, .stm, .syn, .ctx, .regs, .ink, .qll, .chk, .net] s t := by
  have hf := fenceGroup_fences (fenceStart u (s.here d)) (u := u) (he ▸ h16 : v.toNat % 32 ≤ 16) false
  obtain ⟨t, hx, hd, hfr⟩ := fence_acts (us := [.tar, .stm, .syn, .ctx, .regs, .ink, .qll, .chk, .net]) hs
    (fenceRequest_spare (x := s.here d) h (he ▸ h16) he) (((fenceStart_only _ u).mono (by decide)).trans (hf.only.mono (by decide)))
  refine ⟨t, hx, ?_, ?_, by rw [hd]; exact hf.exhausted, hfr⟩
  · rw [hd, ← he]
    exact hf.state
  · rw [hd, rot_of_onlyIn hf.only (by cases u <;> decide)]
    exact fenceStart_hand _ u

end

/-! ### A handover begins (R117) -/

/-- The handover of group `o` to the spare, or back: `n` goes out and `o` comes in, from the present step on. -/
def handed (u : Rot) (n o : Nat) (x : DieState) : DieState :=
  let x := if u then x else x.maintStop
  let x := (x.setFld (u.grp n) 2 0 2).setFld (u.grp o) 2 0 3
  x.setRot u { x.rot u with hand := some ⟨n, o, x.seq.step⟩, copies := [], mirror := [], mirrorW := [] }

section
variable {x : DieState} {u : Rot} {n o : Nat}

theorem maintStop_regs (x : DieState) : x.maintStop.regs = x.regs := (maintStop_only x).2 .regs (by decide)
theorem maintStop_seq (x : DieState) : x.maintStop.seq = x.seq := (maintStop_only x).2 .seq (by decide)

theorem handed_regs : RegsOnly [u.grp n, u.grp o] x (handed u n o x) :=
  (RegsOnly.ite _ (.refl _ _) (.of_regs _ (maintStop_regs x))).trans
    (((RegsOnly.setFld _ _ _ _ _).mono (by simp)).trans (((RegsOnly.setFld _ _ _ _ _).mono (by simp)).trans (.of_regs _ (setRot_regs _ _ _))))

theorem handed_only : OnlyIn (if u then [.stm, .regs] else [.tar, .syn, .ctx, .regs]) x (handed u n o x) := by
  cases u
  · exact ((maintStop_only x).mono (by decide)).trans (((OnlyIn.setFld _ _ _ _ _).mono (by decide)).trans
      (((OnlyIn.setFld _ _ _ _ _).mono (by decide)).trans ((OnlyIn.setRot _ false _).mono (by decide))))
  · exact ((OnlyIn.setFld _ _ _ _ _).mono (by decide)).trans (((OnlyIn.setFld _ _ _ _ _).mono (by decide)).trans ((OnlyIn.setRot _ true _).mono (by decide)))

theorem handed_hand : ((handed u n o x).rot u).hand = some ⟨n, o, x.seq.step⟩ := by
  cases u
  · exact congrArg (fun q : Seq => some (Handover.mk n o q.step)) (maintStop_seq x)
  · rfl

theorem handed_in : (handed u n o x).grpState u o = 3 :=
  (setRot_fld _ _ _ _ _ _).trans (DieState.fld_setFld_same _ _ 2 0 3 (by decide) (by decide))

theorem handed_out (h : n ≠ o) : (handed u n o x).grpState u n = 2 :=
  (setRot_fld _ _ _ _ _ _).trans ((DieState.fld_setFld_ne _ _ 2 0 3 _ 2 0 (by simp only [Rot.grp]; omega)).trans
    (DieState.fld_setFld_same _ _ 2 0 2 (by decide) (by decide)))

theorem handoverBegin_elsewhere (h : x.handDue u = false ∨ x.seq.cycle ≠ 0) : handoverBegin u x = x := if_pos (by simpa using h)

variable (hd : x.handDue u = true) (hc : x.seq.cycle = 0)
include hd hc

theorem handoverBegin_waits (h : x.grpState u (x.rotOut u) = 4 ∨ (x.grpState u (x.rotOut u) = 5 ∧ u = false ∧ x.maintBusy = true)) :
    handoverBegin u x = x.raise u.diag 3 := by
  rw [handoverBegin, if_neg (by simp [hd, hc])]
  refine (if_pos ?_).trans (if_pos (h.imp id And.left))
  rcases h with h | ⟨-, hu, hm⟩
  · exact Or.inl (by omega)
  · exact Or.inr ⟨by simp [hu], hm⟩

theorem handoverBegin_hands (h : x.grpState u (x.rotOut u) = 5) (hm : u = false → x.maintBusy = false) :
    handoverBegin u x = handed u ((x.rotOut u + 1) % 17) (x.rotOut u) x := by
  rw [handoverBegin, if_neg (by simp [hd, hc])]
  refine if_neg (not_or.2 ⟨not_not.2 h, fun ⟨hu, hb⟩ => ?_⟩)
  simp [hm (by simpa using hu)] at hb

end

section
variable {s : State} {d : Die} {u : Bool}

theorem exec_begin : exec (if u then .stmHandoverBegin d else .handoverBegin d) s = .next (s.onDie d (handoverBegin u)) := by cases u <;> rfl

theorem begin_elsewhere (h : (s.dieOf d).handDue u = false ∨ (s.dieOf d).seq.cycle ≠ 0) :
    ∃ t, exec (if u then .stmHandoverBegin d else .handoverBegin d) s = .next t ∧ Frame d [] s t :=
  ⟨_, exec_begin, frame_of_here (by rw [handoverBegin_elsewhere (x := s.here d) h]; exact .refl _ _)⟩

variable (hd : (s.dieOf d).handDue u = true) (hc : (s.dieOf d).seq.cycle = 0) {o : Nat} (ho : (s.dieOf d).rotOut u = o)
include hd hc ho

theorem begin_waits (h : (s.dieOf d).grpState u o = 4 ∨ ((s.dieOf d).grpState u o = 5 ∧ u = false ∧ (s.dieOf d).maintBusy = true)) :
    ∃ t, exec (if u then .stmHandoverBegin d else .handoverBegin d) s = .next t ∧ (t.dieOf d).flag (Rot.diag u) 3 = true ∧ Frame d [.regs, .ink] s t := by
  subst ho
  have he := handoverBegin_waits (x := s.here d) hd hc h
  refine ⟨_, exec_begin, ?_, frame_of_here (by rw [he]; exact .raise _ _ _)⟩
  rw [State.onDie_dieOf, ← State.here, he]
  exact DieState.flag_raise _ _ _ (by decide) (not_inkRegs (by decide))

theorem begin_hands (ho16 : o ≤ 16) (h : (s.dieOf d).grpState u o = 5) (hm : u = false → (s.dieOf d).maintBusy = false) :
    ∃ t, exec (if u then .stmHandoverBegin d else .handoverBegin d) s = .next t ∧
      ((t.dieOf d).rot u).hand = some ⟨(o + 1) % 17, o, (s.dieOf d).seq.step⟩ ∧ (t.dieOf d).grpState u ((o + 1) % 17) = 2 ∧ (t.dieOf d).grpState u o = 3 ∧
      RegsOnly [Rot.grp u ((o + 1) % 17), Rot.grp u o] (s.dieOf d) (t.dieOf d) ∧ Frame d (if u then [.stm, .regs] else [.tar, .syn, .ctx, .regs]) s t := by
  subst ho
  have he := handoverBegin_hands (x := s.here d) hd hc h hm
  refine ⟨_, exec_begin, ?_⟩
  rw [State.onDie_dieOf, ← State.here, he]
  refine ⟨handed_hand, handed_out ?_, handed_in, handed_regs (x := s.here d), frame_of_here (by rw [he]; exact handed_only)⟩
  change ((s.dieOf d).rotOut u + 1) % 17 ≠ (s.dieOf d).rotOut u
  omega

end

end Sys2Proof

/-! SUPPORT. Copies within the byte memory: what a memory lists, and a range that takes over the bytes of another. -/

namespace Sys2Proof

open Machine

/-! ### What a memory lists -/

/-- A memory in canonical form reads what it lists. -/
theorem memGet_of_mem {m : List Host.Cell} {lo a : Nat} {v : Byte} (h : memWfFrom lo m = true) (hm : (a, v) ∈ m) : memGet m a = v ∧ lo ≤ a := by
  induction m generalizing lo with
  | nil => simp at hm
  | cons c r ih =>
    obtain ⟨a', w⟩ := c
    simp only [memWfFrom, Bool.and_eq_true, decide_eq_true_eq] at h
    obtain ⟨⟨hlo, -⟩, hr⟩ := h
    rcases List.mem_cons.1 hm with he | hm
    · obtain ⟨rfl, rfl⟩ := Prod.mk.inj he
      simp [memGet, hlo]
    · obtain ⟨hv, ha⟩ := ih hr hm
      rw [memGet, if_neg (by omega), if_neg (by omega)]
      exact ⟨hv, by omega⟩

/-- A byte that is not zero is listed. -/
theorem mem_of_memGet {m : List Host.Cell} {a : Nat} (h : memGet m a ≠ 0) : (a, memGet m a) ∈ m := by
  induction m with
  | nil => exact absurd rfl h
  | cons c r ih =>
    obtain ⟨a', w⟩ := c
    unfold memGet at h ⊢
    split_ifs at h ⊢ with h1 h2
    · simp [h1]
    · exact absurd rfl h
    · exact List.mem_cons_of_mem _ (ih h)

/-- After stores that agree on the value of a byte it has that value, if one of them stores it or it had it before. -/
theorem memGet_memApply_const {m ws : List Host.Cell} {b : Nat} {v : Byte} (hw : Memory.wf m = true) (hv : ∀ c ∈ ws, c.1 = b → c.2 = v)
    (h : (∃ c ∈ ws, c.1 = b) ∨ memGet m b = v) : memGet (memApply m ws) b = v := by
  induction ws generalizing m with
  | nil => exact h.resolve_left (by simp)
  | cons c r ih =>
    obtain ⟨hc, hr⟩ := List.forall_mem_cons.1 hv
    refine ih (memSet_wfFrom m 0 c.1 c.2 hw (Nat.zero_le _)) hr ?_
    by_cases hb : c.1 = b
    · subst hb
      exact Or.inr ((memGet_memSet_same m 0 _ _ hw).trans (hc rfl))
    · rcases h with ⟨e, he, heb⟩ | h
      · exact Or.inl ⟨e, (List.mem_cons.1 he).resolve_left (fun q => hb (q ▸ heb)), heb⟩
      · exact Or.inr ((memGet_memSet_ne m 0 c.1 b c.2 hw (Ne.symm hb)).trans h)

/-! ### A range copied -/

theorem mem_memRange {m : List Host.Cell} {lo hi : Nat} {c : Host.Cell} : c ∈ memRange m lo hi ↔ c ∈ m ∧ lo ≤ c.1 ∧ c.1 < hi := by
  simp [memRange]

theorem copyCells_range {m : List Host.Cell} {src dst n : Nat} : ∀ c ∈ copyCells m src dst n, dst ≤ c.1 ∧ c.1 < dst + n := by
  intro c hc
  rcases List.mem_append.1 hc with hc | hc
  · obtain ⟨e, he, rfl⟩ := List.mem_map.1 hc
    exact (mem_memRange.1 he).2
  · obtain ⟨e, he, rfl⟩ := List.mem_map.1 hc
    obtain ⟨-, hlo, hhi⟩ := mem_memRange.1 he
    exact ⟨by omega, by omega⟩

/-- Stores that copy a range of `m`, made on a memory that agrees with `m` in the range they write. -/
theorem copyCells_get {m M : List Host.Cell} {src dst n k : Nat} (hm : Memory.wf m = true) (hM : Memory.wf M = true) (hk : k < n)
    (hb : memGet M (dst + k) = memGet m (dst + k)) : memGet (memApply M (copyCells m src dst n)) (dst + k) = memGet m (src + k) := by
  have hzero : memGet (memApply M ((memRange m dst (dst + n)).map fun c => (c.1, (0 : Byte)))) (dst + k) = 0 := by
    refine memGet_memApply_const hM (fun c hc _ => ?_) ?_
    · obtain ⟨e, -, rfl⟩ := List.mem_map.1 hc
      rfl
    · by_cases h0 : memGet m (dst + k) = 0
      · exact Or.inr (hb.trans h0)
      · exact Or.inl ⟨_, List.mem_map.2 ⟨_, mem_memRange.2 ⟨mem_of_memGet h0, by omega, by omega⟩, rfl⟩, rfl⟩
  rw [copyCells, memApply_append]
  refine memGet_memApply_const (memApply_wf _ _ hM) (fun c hc hcb => ?_) ?_
  · obtain ⟨e, he, rfl⟩ := List.mem_map.1 hc
    obtain ⟨hem, hlo, -⟩ := mem_memRange.1 he
    have hek : e.1 = src + k := by dsimp only at hcb; omega
    rw [← hek]
    exact (memGet_of_mem hm hem).1.symm
  · by_cases h0 : memGet m (src + k) = 0
    · exact Or.inr (hzero.trans h0.symm)
    · exact Or.inl ⟨_, List.mem_map.2 ⟨_, mem_memRange.2 ⟨mem_of_memGet h0, by omega, by omega⟩, rfl⟩, by dsimp only; omega⟩

/-- Two ranges of `n` bytes do not meet. -/
def Apart (a b n : Nat) : Prop := a + n ≤ b ∨ b + n ≤ a

/-- The stores that copy each of the ranges at `src i` to that at `dst i`. -/
def copyAll (m : List Host.Cell) (src dst : Nat → Nat) (cnt n : Nat) : List Host.Cell :=
  ((List.range cnt).map fun i => copyCells m (src i) (dst i) n).flatten

section
variable {m : List Host.Cell} {src dst : Nat → Nat} {cnt n : Nat}

theorem copyAll_range : ∀ c ∈ copyAll m src dst cnt n, ∃ i < cnt, dst i ≤ c.1 ∧ c.1 < dst i + n := by
  intro c hc
  obtain ⟨l, hl, hc⟩ := List.mem_flatten.1 hc
  obtain ⟨i, hi, rfl⟩ := List.mem_map.1 hl
  exact ⟨i, List.mem_range.1 hi, copyCells_range c hc⟩

variable (hm : Memory.wf m = true)
include hm

/-- A byte outside the ranges written stays. -/
theorem copyAll_apart {b : Nat} (hb : ∀ i < cnt, b < dst i ∨ dst i + n ≤ b) : memGet (memApply m (copyAll m src dst cnt n)) b = memGet m b := by
  refine memGet_memApply_ne _ _ _ hm fun c hc => ?_
  obtain ⟨i, hi, hlo, hhi⟩ := copyAll_range c hc
  have := hb i hi
  omega

/-- Ranges that do not meet each take over what they are a copy of. -/
theorem copyAll_get (hd : ∀ i j, i < cnt → j < cnt → i ≠ j → Apart (dst i) (dst j) n) {i k : Nat} (hi : i < cnt) (hk : k < n) :
    memGet (memApply m (copyAll m src dst cnt n)) (dst i + k) = memGet m (src i + k) := by
  obtain ⟨l, r, hlr⟩ := List.append_of_mem (List.mem_range.2 hi)
  have hnd : i ∉ l ++ r := (List.nodup_cons.1 (List.nodup_middle.1 (hlr ▸ List.nodup_range))).1
  have hlt : ∀ j ∈ l ++ i :: r, j < cnt := fun j hj => List.mem_range.1 (hlr ▸ hj)
  have hne (q : List Nat) (hq : ∀ j ∈ q, j ∈ l ++ i :: r ∧ i ≠ j) : ∀ c ∈ (q.map fun j => copyCells m (src j) (dst j) n).flatten, c.1 ≠ dst i + k := by
    intro c hc
    obtain ⟨s, hs, hc⟩ := List.mem_flatten.1 hc
    obtain ⟨j, hj, rfl⟩ := List.mem_map.1 hs
    have hr := copyCells_range c hc
    have ha : Apart (dst i) (dst j) n := hd i j hi (hlt j (hq j hj).1) (hq j hj).2
    unfold Apart at ha
    omega
  have hl := hne l fun j hj => ⟨List.mem_append_left _ hj, fun e => hnd (List.mem_append_left _ (e ▸ hj))⟩
  have hr := hne r fun j hj => ⟨List.mem_append_right _ (List.mem_cons_of_mem _ hj), fun e => hnd (List.mem_append_right _ (e ▸ hj))⟩
  have hM := memApply_wf m (l.map fun j => copyCells m (src j) (dst j) n).flatten hm
  rw [copyAll, hlr, List.map_append, List.map_cons, List.flatten_append, List.flatten_cons, memApply_append, memApply_append,
    memGet_memApply_ne _ _ _ (memApply_wf _ _ hM) hr]
  exact copyCells_get hm hM hk (memGet_memApply_ne _ _ _ hm hl)

end

end Sys2Proof

/-! SUPPORT. The memory of a handover (R118): what is due at the incoming group, and what a handover cycle puts on its way. -/

namespace Sys2Proof

open Machine

/-- The frame of a command of one die that stores follows from what it changes in the die as it finds it, and from where it stores. -/
theorem frameMem_of_onDM {s : State} {d : Die} {us : List DiePart} {out : Nat → Prop} {f : Nat → DM → DM} (hw : Memory.wf s.mem = true)
    (h : OnlyIn us (s.here d) (f s.free ⟨s.here d, s.mem, []⟩).d) (hst : ∀ b, out b → ∀ c ∈ (f s.free ⟨s.here d, s.mem, []⟩).stores, c.1 ≠ b) :
    FrameMem d us out s (s.onDM d f) where
  other := State.onDieMem_other _ _ _
  mod := State.onDieMem_mod _ _ _
  mem b hb := (congrArg (memGet · b) (State.onDieMem_mem _ _ _)).trans (memGet_memApply_ne _ _ _ hw (hst b hb))
  pending := State.onDieMem_pending _ _ _
  time := by rw [State.onDM, State.onDieMem_now]; exact Nat.le_max_left _ _
  die := by rw [onDM_die]; exact (OnlyIn.sync _ _ _).trans h

theorem onDM_mem {s : State} {d : Die} (f : Nat → DM → DM) : (s.onDM d f).mem = memApply s.mem (f s.free ⟨s.here d, s.mem, []⟩).stores := State.onDieMem_mem _ _ _

/-! ### What is due at the incoming group -/

/-- The stores due at the incoming group by active cycle `t`: copies, then mirrored writes. -/
def dueCells (r : Rotation) (t : Nat) : List Host.Cell :=
  (r.copies.filter (fun c => decide (c.due ≤ t))).flatMap CopyW.cells ++ (r.mirror.filter (fun m => decide (m.1 ≤ t))).map (·.2)

/-- A rotation once what is due by `t` is stored. -/
def undue (r : Rotation) (t : Nat) : Rotation :=
  { r with
    copies := (r.copies.filter (fun c => decide (t < c.due))).map (·.note (r.mirror.filter (fun m => decide (m.1 ≤ t))))
    mirror := r.mirror.filter (fun m => decide (t < m.1)), mirrorW := r.mirrorW.filter (fun m => decide (t < m.1)) }

section
variable {u : Rot} {t : Nat} {x : DM}

theorem mirrorTo_mem : (x.mirrorTo u t).mem = memApply x.mem (dueCells (x.d.rot u) t) := (memApply_append _ _ _).symm

theorem mirrorTo_stores : (x.mirrorTo u t).stores = x.stores ++ dueCells (x.d.rot u) t := List.append_assoc _ _ _

theorem mirrorTo_rot : (x.mirrorTo u t).d.rot u = undue (x.d.rot u) t := by
  have h (n : Nat) : (!decide (n ≤ t)) = decide (t < n) := by simp [← decide_not]
  refine (rot_setRot _ _ _).trans ?_
  simp only [undue, h]

theorem mirrorTo_only : OnlyIn [rotPart u, .syn] x.d (x.mirrorTo u t).d :=
  ((OnlyIn.syn x.d _).mono (by simp)).trans ((OnlyIn.setRot _ u _).mono (by simp))

theorem mirrorTo_seq : (x.mirrorTo u t).d.seq = x.d.seq := mirrorTo_only.2 .seq (by cases u <;> decide)

/-- What is due lies in its copies and mirrored writes. -/
theorem dueCells_apart {r : Rotation} {b : Nat} (hc : ∀ y ∈ r.copies, b < y.addr ∨ y.addr + y.data.length ≤ b) (hm : ∀ y ∈ r.mirror, y.2.1 ≠ b) :
    ∀ c ∈ dueCells r t, c.1 ≠ b := by
  intro c h
  rcases List.mem_append.1 h with h | h
  · obtain ⟨y, hy, h⟩ := List.mem_flatMap.1 h
    have hr := cellsAt_range _ _ c (List.mem_filter.1 h).1
    have := hc y (List.mem_filter.1 hy).1
    omega
  · obtain ⟨y, hy, rfl⟩ := List.mem_map.1 h
    exact hm y (List.mem_filter.1 hy).1

/-- One copy that is due, with no mirrored write on it, is stored whole. -/
theorem dueCells_one {r : Rotation} {y : CopyW} (hc : r.copies = [y]) (hm : r.mirror = []) (hs : y.since = []) (hd : y.due ≤ t) :
    dueCells r t = cellsAt y.addr y.data := by
  simp [dueCells, hc, hm, hd, CopyW.cells, hs]

end

/-! ### HANDOVER_COPY (R118, R163) -/

/-- What a handover cycle finds: the die at that cycle, with what is due stored. -/
def copyFinds (u : Rot) (m : Nat) (x : DM) : DM := (x.onD (·.toCycle (16 * m + 15))).mirrorTo u (x.d.acyc (16 * m + 15))

/-- The copies that handover cycle `m`, at active cycle `now`, puts on their way, of the 64 bytes at `a` of each unit. -/
def copiesOf (u : Rot) (m : Nat) (h : Handover) (a now : Nat) (d : DieState) (mem : List Host.Cell) : List CopyW :=
  (List.range (unitCount u)).map fun i =>
    ⟨now, d.copyDue u m, unitBase u d.die h.inc i + a, memRead mem (unitBase u d.die h.outg i + a) 64, []⟩

/-- Copies are added to those under way. -/
def addCopies (u : Rot) (cs : List CopyW) (d : DieState) : DieState := d.setRot u { d.rot u with copies := (d.rot u).copies ++ cs }

theorem addCopies_only (u : Rot) (cs : List CopyW) (d : DieState) : OnlyIn [rotPart u] d (addCopies u cs d) := .setRot _ _ _

section
variable {u : Rot} {m : Nat} {x : DM} {h : Handover} {a : Nat}

theorem copyFinds_only : OnlyIn (if u then [.seq, .stm, .syn] else [.seq, .tar, .syn]) x.d (copyFinds u m x).d := by
  have ht : OnlyIn [.seq] x.d (x.d.toCycle (16 * m + 15)) := .toCycle _ _
  cases u <;> exact (ht.mono (by decide)).trans (mirrorTo_only.mono (by decide))

theorem toCycle_rot (d : DieState) (c : Nat) : (d.toCycle c).rot u = d.rot u := by cases u <;> rfl

theorem copyFinds_rot : (copyFinds u m x).d.rot u = undue (x.d.rot u) (x.d.acyc (16 * m + 15)) :=
  mirrorTo_rot.trans (congrArg (undue · _) (toCycle_rot _ _))

theorem copyFinds_stores : (copyFinds u m x).stores = x.stores ++ dueCells (x.d.rot u) (x.d.acyc (16 * m + 15)) := by
  rw [copyFinds, mirrorTo_stores]
  exact congrArg (fun r => x.stores ++ dueCells r _) (toCycle_rot _ _)

theorem copyFinds_mem : (copyFinds u m x).mem = memApply x.mem (dueCells (x.d.rot u) (x.d.acyc (16 * m + 15))) := by
  rw [copyFinds, mirrorTo_mem]
  exact congrArg (fun r => memApply x.mem (dueCells r _)) (toCycle_rot _ _)

theorem copyFinds_step : (copyFinds u m x).d.seq.step = x.d.seq.step := by
  rw [copyFinds, mirrorTo_seq]
  rfl

theorem copyFinds_stepping : (copyFinds u m x).d.stepping = x.d.stepping := by cases u <;> rfl

theorem copyFinds_die : (copyFinds u m x).d.die = x.d.die := by cases u <;> rfl

/-- With no operation of several cycles under way a handover cycle finds what is due stored. -/
theorem copyFinds_eq (hjobs : x.d.jobTiles = []) :
    ((x.onD (·.toCycle (16 * m + 15))).allJobs (x.d.acyc (16 * m + 15))).mirrorTo u (x.d.acyc (16 * m + 15)) = copyFinds u m x := by
  have : (x.onD (·.toCycle (16 * m + 15))).d.jobTiles = [] := hjobs
  rw [DM.allJobs, this]
  rfl

/-- What a handover cycle, at active cycle `now`, does with what it finds. -/
def copyStep (u : Rot) (m : Nat) (h : Handover) (now : Nat) (x : DM) : DM :=
  if 6 < x.d.seq.step - h.step ∨ !x.d.stepping then x
  else
    match copyOffset u (x.d.seq.step - h.step) m with
    | none => x
    | some a => x.onD (addCopies u (copiesOf u m h a now x.d x.mem))

theorem copiesOf_finds (now : Nat) (mem : List Host.Cell) : copiesOf u m h a now (copyFinds u m x).d mem = copiesOf u m h a now x.d mem := by
  unfold copiesOf DieState.copyDue DieState.acyc
  rw [copyFinds_step, copyFinds_die]

variable (hh : (x.d.rot u).hand = some h)
include hh

theorem handoverCopy_hand (hjobs : x.d.jobTiles = []) : handoverCopy u m x = copyStep u m h (x.d.acyc (16 * m + 15)) (copyFinds u m x) := by
  rw [← copyFinds_eq hjobs, handoverCopy, hh]
  rfl

theorem handoverCopy_eq (hs : x.d.stepping = true) (hj : x.d.seq.step - h.step ≤ 6) (ha : copyOffset u (x.d.seq.step - h.step) m = some a)
    (hjobs : x.d.jobTiles = []) :
    handoverCopy u m x = (copyFinds u m x).onD (addCopies u (copiesOf u m h a (x.d.acyc (16 * m + 15)) x.d (copyFinds u m x).mem)) := by
  rw [handoverCopy_hand hh hjobs, copyStep, copyFinds_step, copyFinds_stepping, ha, if_neg (by simp [hj, hs]), ← copiesOf_finds]

end

section
variable {s : State} {d : Die} {u : Bool} {m : Fin 1250} {h : Handover} {a : Nat} (hh : ((s.dieOf d).rot u).hand = some h) (hs : (s.dieOf d).stepping = true)
  (hj : (s.dieOf d).seq.step - h.step ≤ 6) (ha : copyOffset u ((s.dieOf d).seq.step - h.step) m.val = some a) (hjobs : (s.dieOf d).jobTiles = [])
  (hw : Memory.wf s.mem = true)

/-- What a command of one die finds. -/
def found (s : State) (d : Die) : DM := ⟨s.here d, s.mem, []⟩

theorem exec_copy : exec (if u then .stmHandoverCopy d m else .handoverCopy d m) s = .next (s.onDM d (fun _ => handoverCopy u m.val)) := by cases u <;> rfl

include hh hs hj ha hjobs

theorem copy_found : handoverCopy u m.val (found s d) = (copyFinds u m.val (found s d)).onD
    (addCopies u (copiesOf u m.val h a ((s.dieOf d).acyc (16 * m.val + 15)) (s.dieOf d) (copyFinds u m.val (found s d)).mem)) :=
  handoverCopy_eq (x := found s d) hh hs hj ha hjobs

theorem copy_stores : (handoverCopy u m.val (found s d)).stores = dueCells ((s.dieOf d).rot u) ((s.dieOf d).acyc (16 * m.val + 15)) := by
  rw [copy_found hh hs hj ha hjobs, DM.onD_stores, copyFinds_stores]
  rfl

theorem copy_mem : (s.onDM d (fun _ => handoverCopy u m.val)).mem = memApply s.mem (dueCells ((s.dieOf d).rot u) ((s.dieOf d).acyc (16 * m.val + 15))) :=
  (onDM_mem _).trans (congrArg (memApply s.mem) (copy_stores hh hs hj ha hjobs))

theorem copy_rot : ((s.onDM d (fun _ => handoverCopy u m.val)).dieOf d).rot u =
    { undue ((s.dieOf d).rot u) ((s.dieOf d).acyc (16 * m.val + 15)) with
      copies := (undue ((s.dieOf d).rot u) ((s.dieOf d).acyc (16 * m.val + 15))).copies ++
        copiesOf u m.val h a ((s.dieOf d).acyc (16 * m.val + 15)) (s.dieOf d) (s.onDM d (fun _ => handoverCopy u m.val)).mem } := by
  have hr : (copyFinds u m.val (found s d)).d.rot u = undue ((s.dieOf d).rot u) ((s.dieOf d).acyc (16 * m.val + 15)) := copyFinds_rot
  have hm : (copyFinds u m.val (found s d)).mem = (s.onDM d (fun _ => handoverCopy u m.val)).mem := copyFinds_mem.trans (copy_mem hh hs hj ha hjobs).symm
  rw [onDM_die, ← hr, ← hm]
  refine (congrArg (fun y : DM => y.d.rot u) (copy_found hh hs hj ha hjobs)).trans ?_
  exact rot_setRot _ _ _

include hw

theorem copy_frame : FrameMem d (if u then [.seq, .stm, .syn] else [.seq, .tar, .syn])
    (fun b => (∀ y ∈ ((s.dieOf d).rot u).copies, b < y.addr ∨ y.addr + y.data.length ≤ b) ∧ ∀ y ∈ ((s.dieOf d).rot u).mirror, y.2.1 ≠ b)
    s (s.onDM d (fun _ => handoverCopy u m.val)) := by
  have he := copy_found hh hs hj ha hjobs
  refine frameMem_of_onDM hw ?_ fun b hb c hc => ?_
  · change OnlyIn _ _ (handoverCopy u m.val (found s d)).d
    rw [he]
    exact copyFinds_only.trans ((addCopies_only u _ _).mono (by cases u <;> decide))
  · have hc' : c ∈ dueCells ((s.dieOf d).rot u) ((s.dieOf d).acyc (16 * m.val + 15)) := copy_stores hh hs hj ha hjobs ▸ hc
    exact dueCells_apart hb.1 hb.2 c hc'

/-- A copy that is due alone reaches its place. -/
theorem copy_lands {y : CopyW} (hc : ((s.dieOf d).rot u).copies = [y]) (hm : ((s.dieOf d).rot u).mirror = []) (hy : y.since = [])
    (hdue : y.due ≤ (s.dieOf d).acyc (16 * m.val + 15)) (hl : y.data.length = 64) :
    memRead (s.onDM d (fun _ => handoverCopy u m.val)).mem y.addr 64 = y.data := by
  rw [copy_mem hh hs hj ha hjobs, dueCells_one hc hm hy hdue, ← hl]
  exact memRead_memApply_cellsAt _ _ _ hw

end

/-- Handover cycle `m` is over at its 16th cycle. -/
theorem acyc_handover (x : DieState) (m : Nat) : x.seq.step * 20000 + 16 * m + 15 = x.acyc (16 * m + 15) := Nat.add_assoc _ _ _

end Sys2Proof

/-! SUPPORT. HANDOVER_SWITCH (R119, R163): the map, the groups' states and the memory after a switch. -/

namespace Sys2Proof

open Machine

/-! ### The tiles of the incoming group -/

/-- Two runs of table entries set in turn: an entry of the first run keeps what it was set to. -/
theorem tget_foldl_tset_two {V : Type} (f g : Nat → V) (d : V) {a b n : Nat} (hab : a + n ≤ b ∨ b + n ≤ a) (t : Tbl V) {i : Nat} (hi : i < n) :
    tget ((List.range n).foldl (fun t i => tset (tset t (a + i) (f i)) (b + i) (g i)) t) (a + i) d = f i := by
  have hend (k : Nat) (hk : k ≤ n) (hik : i < k) :
      tget ((List.range k).foldl (fun t i => tset (tset t (a + i) (f i)) (b + i) (g i)) t) (a + i) d = f i := by
    induction k with
    | zero => omega
    | succ k ih =>
      rw [List.range_succ, List.foldl_append, List.foldl_cons, List.foldl_nil, tget_tset_ne _ _ _ _ _ (by omega)]
      by_cases he : i = k
      · rw [he, tget_tset_same]
      · rw [tget_tset_ne _ _ _ _ _ (by omega), ih (by omega) (by omega)]
  exact hend n (Nat.le_refl n) hi

/-- The tiles once those of the incoming group `o` have taken over the control state of the outgoing group `n`. -/
def movedTiles (x : DieState) (n o : Nat) : Tbl TileSlot :=
  (List.range 16).foldl (fun t i =>
    tset (tset t (16 * o + i) { x.slotOf (16 * n + i) with
        cur := (x.slotOf (16 * o + i)).cur.mirrorOf (x.slotOf (16 * n + i)).cur, pre := (x.slotOf (16 * o + i)).cur.mirrorOf (x.slotOf (16 * n + i)).cur
        undo := [], undoS := none })
      (16 * n + i) { x.slotOf (16 * n + i) with cur := { (x.slotOf (16 * n + i)).cur with stat := .switched } })
    (x.tar.tiles.filter (fun y => y.1 / 16 ≠ o))

/-- A tile of the incoming group takes over the control state of its counterpart. -/
theorem tget_movedTiles (x : DieState) {n o i : Nat} (hno : n ≠ o) (hi : i < 16) :
    (tget (movedTiles x n o) (16 * o + i) slot0).cur = (x.slotOf (16 * o + i)).cur.mirrorOf (x.slotOf (16 * n + i)).cur := by
  rw [movedTiles, tget_foldl_tset_two (n := 16) _ _ slot0 (by omega) _ hi]

/-- A die with other tiles and other word states. -/
def withTiles (ts : Tbl TileSlot) (ws : Tbl Nat) (x : DieState) : DieState := { x with tar := { x.tar with tiles := ts }, syn := { x.syn with words := ws } }

theorem withTiles_only (ts : Tbl TileSlot) (ws : Tbl Nat) (x : DieState) : OnlyIn [.tar, .syn] x (withTiles ts ws x) :=
  ⟨rfl, fun p hp => by cases p <;> simp_all [DiePart.Same, withTiles]⟩

theorem withTiles_rot (ts : Tbl TileSlot) (ws : Tbl Nat) (x : DieState) (u : Rot) : (withTiles ts ws x).rot u = x.rot u := by cases u <;> rfl

/-- What moves in a switch: the tiles and the states of their words. -/
theorem moveTiles_eq (x : DieState) (n o : Nat) : ∃ ws, x.moveTiles n o = withTiles (movedTiles x n o) ws x :=
  ⟨_, by unfold DieState.moveTiles movedTiles withTiles; rfl⟩

/-! ### The die after a switch -/

/-- The control state of the outgoing group's tiles stands in the incoming group. -/
def moved (u : Rot) (h : Handover) (x : DieState) : DieState := if u then x else x.moveTiles h.outg h.inc

/-- The map names the incoming group where it named the outgoing one. -/
def mapped (u : Rot) (h : Handover) (x : DieState) : DieState :=
  match x.rotVirt u h.outg with
  | some vg => x.wr (u.map vg) h.inc
  | none => x

/-- The incoming group is in use, the outgoing one out of rotation. -/
def placed (u : Rot) (h : Handover) (x : DieState) : DieState := (x.setFld u.out 4 0 h.outg).setFld (u.grp h.inc) 2 0 1

/-- A rotation at the end of a handover of step `step`. -/
def handoverOver (h : Handover) (step : Nat) (r : Rotation) : Rotation :=
  { r with
    hand := none, copies := [], mirror := [], mirrorW := [], lastSw := step, fencing := if r.fencing = some h.outg then none else r.fencing }

/-- The groups are placed and the handover is over. -/
def rotated (u : Rot) (h : Handover) (x : DieState) : DieState :=
  (placed u h x).setRot u (handoverOver h (placed u h x).seq.step ((placed u h x).rot u))

/-- A handover is counted. -/
def counted (u : Rot) (x : DieState) : DieState := (x.count u.hands 1).life (22 + x.die.num) 1

/-- A die that has switched, but for the state of the outgoing group. -/
def switchDone (u : Rot) (h : Handover) (x : DieState) : DieState := counted u (rotated u h (mapped u h (moved u h x)))

/-- What becomes of the outgoing group: it is fenced, or waits to be, or is tested. -/
def switchEnd (u : Rot) (h : Handover) (fencing : Option Nat) (x : DieState) : DieState :=
  if fencing = some h.outg then x.fenceGroup u h.outg false else x.setFld (u.grp h.outg) 2 0 (if fencing.isSome then 5 else 4)

section
variable (u : Rot) (h : Handover) (x : DieState)

theorem moved_eq : ∃ ws, moved false h x = withTiles (movedTiles x h.outg h.inc) ws x := moveTiles_eq _ _ _

theorem moved_only : OnlyIn [rotPart u, .syn] x (moved u h x) := by
  cases u
  · obtain ⟨ws, he⟩ := moved_eq h x
    rw [he]
    exact withTiles_only _ _ _
  · exact .refl _ _

theorem moved_rot : (moved u h x).rot u = x.rot u := by
  cases u
  · obtain ⟨ws, he⟩ := moved_eq h x
    rw [he, withTiles_rot]
  · rfl

theorem moved_tiles : (moved false h x).tar.tiles = movedTiles x h.outg h.inc := by
  obtain ⟨ws, he⟩ := moved_eq h x
  rw [he, withTiles]

theorem moved_seq : (moved u h x).seq = x.seq := (moved_only u h x).2 .seq (by cases u <;> decide)
theorem moved_regs : (moved u h x).regs = x.regs := (moved_only u h x).2 .regs (by cases u <;> decide)

theorem mapped_only : OnlyIn [.regs] x (mapped u h x) := by
  unfold mapped
  split
  · exact .wr _ _ _
  · exact .refl _ _

theorem rotVirt_lt {vg n : Nat} (hv : x.rotVirt u n = some vg) : vg < 16 := List.mem_range.1 (List.mem_of_find?_eq_some hv)

theorem mapped_hands : (mapped u h x).rd u.hands = x.rd u.hands := by
  unfold mapped
  split
  next vg hv =>
    have := rotVirt_lt u x hv
    exact DieState.rd_wr_ne _ _ _ _ (by simp only [Rot.hands, Rot.map]; omega)
  · rfl

theorem mapped_map {vg : Nat} (hi : h.inc ≤ 16) (hv : x.rotVirt u h.outg = some vg) : (mapped u h x).rd (u.map vg) = h.inc := by
  rw [mapped, hv]
  exact (DieState.rd_wr_same _ _ _).trans (Nat.mod_eq_of_lt (by omega))

theorem rotVirt_of_regs {x y : DieState} (hr : y.regs = x.regs) (n : Nat) : y.rotVirt u n = x.rotVirt u n := by
  simp only [DieState.rotVirt, DieState.fld, DieState.rd, hr]

theorem rotated_regs : RegsOnly [u.out, u.grp h.inc] x (rotated u h x) :=
  (((RegsOnly.setFld x _ _ _ _).mono (by simp)).trans ((RegsOnly.setFld _ _ _ _ _).mono (by simp))).trans (.of_regs _ (setRot_regs _ _ _))

theorem rotated_only : OnlyIn [rotPart u, .regs] x (rotated u h x) :=
  (((OnlyIn.setFld x _ _ _ _).trans (.setFld _ _ _ _ _)).mono (by simp)).trans ((OnlyIn.setRot _ u _).mono (by simp))

theorem placed_rot : (placed u h x).rot u = x.rot u := by cases u <;> rfl

theorem rotated_rot : (rotated u h x).rot u = handoverOver h x.seq.step (x.rot u) := by
  rw [rotated, rot_setRot, placed_rot]
  rfl

theorem rotated_out (ho : h.outg ≤ 16) : (rotated u h x).rotOut u = h.outg := by
  refine (setRot_fld _ _ _ _ _ _).trans ((DieState.fld_setFld_ne _ _ 2 0 1 _ 4 0 (by simp only [Rot.out, Rot.grp]; omega)).trans ?_)
  exact (DieState.fld_setFld_same _ _ 4 0 _ (by decide) (by decide)).trans (Nat.mod_eq_of_lt (by omega))

theorem rotated_inc : (rotated u h x).grpState u h.inc = 1 :=
  (setRot_fld _ _ _ _ _ _).trans (DieState.fld_setFld_same _ _ 2 0 1 (by decide) (by decide))

theorem counted_regs : RegsOnly [u.hands] x (counted u x) := (RegsOnly.count x _ _).trans (.life _ _ _ _)

theorem counted_only : OnlyIn [.regs, .ink] x (counted u x) := ((OnlyIn.count x _ _).mono (by decide)).trans ((OnlyIn.life _ _ _).mono (by decide))

theorem counted_rot : (counted u x).rot u = x.rot u := by cases u <;> rfl

theorem counted_hands : (counted u x).rd u.hands = min 0xFFFFFFFF (x.rd u.hands + 1) := DieState.rd_count_same _ _ _

theorem switchDone_only : OnlyIn [rotPart u, .syn, .regs, .ink] x (switchDone u h x) :=
  (((moved_only u h x).mono (by simp)).trans ((mapped_only u h _).mono (by simp))).trans
    (((rotated_only u h _).mono (by simp)).trans ((counted_only u _).mono (by simp)))

theorem mapped_rot : (mapped u h x).rot u = x.rot u := rot_of_onlyIn (mapped_only u h x) (by cases u <;> decide)

theorem mapped_seq : (mapped u h x).seq = x.seq := (mapped_only u h x).2 .seq (by decide)

theorem mapped_map_moved {vg : Nat} (hi : h.inc ≤ 16) (hv : x.rotVirt u h.outg = some vg) : (mapped u h (moved u h x)).rd (u.map vg) = h.inc :=
  mapped_map u h _ hi ((rotVirt_of_regs u (moved_regs u h x) _).trans hv)

theorem switchDone_rot : (switchDone u h x).rot u = handoverOver h x.seq.step (x.rot u) := by
  rw [switchDone, counted_rot, rotated_rot, mapped_rot, mapped_seq, moved_rot, moved_seq]

theorem switchDone_out (ho : h.outg ≤ 16) : (switchDone u h x).rotOut u = h.outg :=
  (fld_of_regsOnly (counted_regs u _) (by simp [Rot.out, Rot.hands]) 4 0).trans (rotated_out u h _ ho)

theorem switchDone_inc : (switchDone u h x).grpState u h.inc = 1 :=
  (fld_of_regsOnly (counted_regs u _) (by simp only [Rot.grp, Rot.hands, List.mem_singleton]; omega) 2 0).trans (rotated_inc u h _)

theorem switchDone_hands : (switchDone u h x).rd u.hands = min 0xFFFFFFFF (x.rd u.hands + 1) := by
  have hr : u.hands ∉ [u.out, u.grp h.inc] := by simp only [Rot.hands, Rot.out, Rot.grp, List.mem_cons, List.not_mem_nil, or_false]; omega
  have hm : (moved u h x).rd u.hands = x.rd u.hands := RegsOnly.of_regs [] (moved_regs u h x) _ (by simp)
  rw [switchDone, counted_hands, rotated_regs u h _ _ hr, mapped_hands, hm]

theorem switchDone_map {vg : Nat} (hi : h.inc ≤ 16) (hv : x.rotVirt u h.outg = some vg) : (switchDone u h x).rd (u.map vg) = h.inc := by
  have hlt := rotVirt_lt u x hv
  have hc : u.map vg ∉ [u.hands] := by simp only [Rot.map, Rot.hands, List.mem_singleton]; omega
  have hr : u.map vg ∉ [u.out, u.grp h.inc] := by simp only [Rot.map, Rot.out, Rot.grp, List.mem_cons, List.not_mem_nil, or_false]; omega
  exact (counted_regs u _ _ hc).trans ((rotated_regs u h _ _ hr).trans (mapped_map_moved u h x hi hv))

theorem switchDone_tiles : (switchDone false h x).tar.tiles = movedTiles x h.outg h.inc := by
  have hm : (mapped false h (moved false h x)).tar = (moved false h x).tar := (mapped_only false h _).2 .tar (by decide)
  have hs : (switchDone false h x).tar.tiles = (mapped false h (moved false h x)).tar.tiles := rfl
  rw [hs, hm, moved_tiles]

/-- What the end of a switch leaves of the outgoing group: its state, and no other register of the rotation but those of a fence. -/
structure SwitchEnd (u : Rot) (h : Handover) (us : List DiePart) (x y : DieState) : Prop where
  regs : RegsOnly (fenceRegs u h.outg) x y
  out : y.rotOut u = x.rotOut u
  only : OnlyIn us x y

variable (ho : h.outg ≤ 16)
include ho

theorem switchEnd_tests : SwitchEnd u h [.regs] x (switchEnd u h none x) ∧ (switchEnd u h none x).grpState u h.outg = 4 := by
  refine ⟨⟨(RegsOnly.setFld x _ _ _ _).mono (by simp [fenceRegs]), DieState.fld_setFld_ne _ _ _ _ _ _ _ _ ?_, .setFld _ _ _ _ _⟩,
    DieState.fld_setFld_same _ _ 2 0 4 (by decide) (by decide)⟩
  simp only [Rot.out, Rot.grp]
  omega

theorem switchEnd_fences : SwitchEnd u h [.regs, .ink, .qll, .chk, .net] x (switchEnd u h (some h.outg) x) ∧
    (switchEnd u h (some h.outg) x).grpState u h.outg = 6 ∧ (switchEnd u h (some h.outg) x).exhausted u = true := by
  have hf : Fenced u h.outg x (switchEnd u h (some h.outg) x) := by
    rw [switchEnd, if_pos rfl]
    exact fenceGroup_fences x ho false
  exact ⟨⟨hf.regs, hf.out, hf.only⟩, hf.state, hf.exhausted⟩

end

/-! ### The memory after a switch -/

/-- The memories of two units do not meet. -/
theorem unitBase_apart (u : Rot) (d : Die) {g g' i i' : Nat} (hi : i < unitCount u) (hi' : i' < unitCount u) (h : g ≠ g' ∨ i ≠ i') :
    Apart (unitBase u d g i) (unitBase u d g' i') (unitSize u) := by
  cases u
  · simp only [unitCount, unitBase, unitSize, Apart, sramBase, Bool.false_eq_true, if_false] at hi hi' ⊢
    omega
  · simp only [unitCount, unitBase, unitSize, Apart, if_true] at hi hi' ⊢
    omega

/-- What a switch finds, with what is due stored and the outgoing group's memory in the incoming group. -/
def switchStored (u : Rot) (h : Handover) (x : DM) : DM :=
  let y := x.mirrorTo u (x.d.acyc 2)
  y.store (copyAll y.mem (unitBase u y.d.die h.outg) (unitBase u y.d.die h.inc) (unitCount u) (unitSize u))

/-- What a switch makes of the die. -/
def switchDie (u : Rot) (h : Handover) (x : DieState) : DieState := switchEnd u h ((placed u h (mapped u h (moved u h x))).rot u).fencing (switchDone u h x)

section
variable {u : Rot} {h : Handover} {x : DM}

theorem switchDie_eq (d : DieState) : switchDie u h d = switchEnd u h (d.rot u).fencing (switchDone u h d) := by
  rw [switchDie, placed_rot, mapped_rot, moved_rot]

variable (hh : (x.d.rot u).hand = some h) (hs : x.d.stepping = true) (hc : x.d.seq.cycle = 0) (hstep : h.step + 8 ≤ x.d.seq.step)
include hh hs hc hstep

theorem handoverSwitch_waits (hr : x.d.groupReady u h.outg = false) : handoverSwitch u x = x.onD (·.raise u.diag 2) := by
  rw [handoverSwitch, hh]
  refine (if_neg (by simp [hs, hc, hstep])).trans (if_pos (by simp [hr]))

theorem handoverSwitch_switches (hr : x.d.groupReady u h.outg = true) : handoverSwitch u x = (switchStored u h x).onD (switchDie u h) := by
  rw [handoverSwitch, hh]
  refine (if_neg (by simp [hs, hc, hstep])).trans ((if_neg (by simp [hr])).trans ?_)
  rfl

end

end Sys2Proof

/-! SUPPORT. A switch as the module finds it, and what settles the rotating spare. -/

namespace Sys2Proof

open Machine

/-- From `s` to `t` the handover `h` of a die ends: the map, the groups' states, the memory and the tiles of the incoming group, and nothing else but `us`. -/
def HandedOver (s t : State) (d : Die) (u : Bool) (h : Handover) (us : List DiePart) : Prop :=
  ((t.dieOf d).rot u).hand = none ∧ ((t.dieOf d).rot u).lastSw = (s.dieOf d).seq.step ∧ (t.dieOf d).rotOut u = h.outg ∧ (t.dieOf d).grpState u h.inc = 1 ∧
    (t.dieOf d).rd (Rot.hands u) = min 0xFFFFFFFF ((s.dieOf d).rd (Rot.hands u) + 1) ∧
    (∀ vg, (s.dieOf d).rotVirt u h.outg = some vg → (t.dieOf d).rd (Rot.map u vg) = h.inc) ∧
    (∀ i k, i < unitCount u → k < unitSize u →
      memGet t.mem (unitBase u (s.dieOf d).die h.inc i + k) = memGet t.mem (unitBase u (s.dieOf d).die h.outg i + k)) ∧
    (u = false → ∀ i, i < 16 → ((t.dieOf d).slotOf (16 * h.inc + i)).cur =
      ((s.dieOf d).slotOf (16 * h.inc + i)).cur.mirrorOf ((s.dieOf d).slotOf (16 * h.outg + i)).cur) ∧
    FrameMem d ((if u then .stm else .tar) :: .syn :: .regs :: .ink :: us) (fun b =>
      (∀ i, i < unitCount u → b < unitBase u (s.dieOf d).die h.inc i ∨ unitBase u (s.dieOf d).die h.inc i + unitSize u ≤ b) ∧
      (∀ y ∈ ((s.dieOf d).rot u).copies, b < y.addr ∨ y.addr + y.data.length ≤ b) ∧ ∀ y ∈ ((s.dieOf d).rot u).mirror, y.2.1 ≠ b) s t

/-- What a switch leaves of a die. -/
structure SwitchedDie (u : Rot) (h : Handover) (x y : DieState) : Prop where
  rot : y.rot u = handoverOver h x.seq.step (x.rot u)
  out : y.rotOut u = h.outg
  inc : y.grpState u h.inc = 1
  hands : y.rd u.hands = min 0xFFFFFFFF (x.rd u.hands + 1)
  map : ∀ vg, x.rotVirt u h.outg = some vg → y.rd (u.map vg) = h.inc
  tiles : u = false → y.tar.tiles = movedTiles x h.outg h.inc

section
variable {u : Rot} {h : Handover} {x y : DieState} {us : List DiePart} (ho : h.outg ≤ 16) (hi : h.inc ≤ 16) (hne : h.outg ≠ h.inc)
include ho hi hne

theorem SwitchEnd.switched (he : SwitchEnd u h us (switchDone u h x) y) (hu : rotPart u ∉ us) : SwitchedDie u h x y where
  rot := (rot_of_onlyIn he.only hu).trans (switchDone_rot u h x)
  out := he.out.trans (switchDone_out u h x ho)
  inc := by
    have hn : u.grp h.inc ∉ fenceRegs u h.outg := by
      rw [Rot.grp, Nat.add_assoc]
      exact not_fenceRegs (by omega) (by omega) (by omega) (by omega)
    exact (fld_of_regsOnly he.regs hn 2 0).trans (switchDone_inc u h x)
  hands := (he.regs _ (not_fenceRegs (by decide) (by decide) (by decide) (by omega))).trans (switchDone_hands u h x)
  map vg hv := by
    have hlt := rotVirt_lt u x hv
    exact (he.regs _ (not_fenceRegs (by omega) (by omega) (by omega) (by omega))).trans (switchDone_map u h x hi hv)
  tiles hu' := by
    subst hu'
    exact (congrArg Tar.tiles (he.only.2 .tar hu)).trans (switchDone_tiles h x)

end

theorem movedTiles_of_tiles {x y : DieState} (h : y.tar.tiles = x.tar.tiles) (n o : Nat) : movedTiles y n o = movedTiles x n o := by
  simp only [movedTiles, DieState.slotOf, h]

/-- Storing what is due changes nothing that a switch goes by. -/
theorem SwitchedDie.of_mirrored {u : Rot} {h : Handover} {x : DM} {y : DieState} {t : Nat} (hs : SwitchedDie u h (x.mirrorTo u t).d y) : SwitchedDie u h x.d y where
  rot := by
    rw [hs.rot, mirrorTo_rot, mirrorTo_seq]
    rfl
  out := hs.out
  inc := hs.inc
  hands := by rw [hs.hands, rd_of_onlyIn mirrorTo_only (by cases u <;> decide)]
  map vg hv := hs.map vg ((rotVirt_of_regs u (mirrorTo_only.2 .regs (by cases u <;> decide)) _).trans hv)
  tiles hu := by
    subst hu
    exact (hs.tiles rfl).trans (movedTiles_of_tiles rfl _ _)

/-- The die as a switch finds it, with what is due stored. -/
def dueStored (s : State) (d : Die) (u : Rot) : DM := (found s d).mirrorTo u ((s.dieOf d).acyc 2)

section
variable {s : State} {d : Die} {u : Bool} {h : Handover}

theorem exec_switch : exec (if u then .stmHandoverSwitch d else .handoverSwitch d) s = .next (s.onDM d (fun _ => handoverSwitch u)) := by cases u <;> rfl

theorem dueStored_fencing : ((dueStored s d u).d.rot u).fencing = ((s.dieOf d).rot u).fencing := by
  rw [dueStored, mirrorTo_rot]
  rfl

theorem dueStored_mem : (dueStored s d u).mem = memApply s.mem (dueCells ((s.dieOf d).rot u) ((s.dieOf d).acyc 2)) := mirrorTo_mem (x := found s d)

theorem dueStored_die : (dueStored s d u).d.die = (s.dieOf d).die := (mirrorTo_only (x := found s d)).1

variable (hh : ((s.dieOf d).rot u).hand = some h) (hs : (s.dieOf d).stepping = true) (hc : (s.dieOf d).seq.cycle = 0) (hstep : h.step + 8 ≤ (s.dieOf d).seq.step)
include hh hs hc hstep

theorem switch_waits (hr : (s.dieOf d).groupReady u h.outg = false) :
    ∃ t, exec (if u then .stmHandoverSwitch d else .handoverSwitch d) s = .next t ∧ (t.dieOf d).flag (Rot.diag u) 2 = true ∧ Frame d [.regs, .ink] s t := by
  have he := handoverSwitch_waits (x := found s d) hh hs hc hstep hr
  have hd : (s.onDM d (fun _ => handoverSwitch u)).dieOf d = (s.here d).raise (Rot.diag u) 2 := (onDM_die _).trans (congrArg DM.d he)
  refine ⟨_, exec_switch, ?_, frame_of_onDM ?_ (congrArg DM.stores he)⟩
  · rw [hd]
    exact DieState.flag_raise _ _ _ (by decide) (not_inkRegs (by decide))
  · change OnlyIn _ _ (handoverSwitch u (found s d)).d
    rw [he]
    exact .raise _ _ _

variable (hr : (s.dieOf d).groupReady u h.outg = true)
include hr

theorem switch_found : handoverSwitch u (found s d) = (switchStored u h (found s d)).onD (switchDie u h) :=
  handoverSwitch_switches (x := found s d) hh hs hc hstep hr

theorem switch_die : (s.onDM d (fun _ => handoverSwitch u)).dieOf d = switchEnd u h ((s.dieOf d).rot u).fencing (switchDone u h (dueStored s d u).d) := by
  refine (onDM_die _).trans ((congrArg DM.d (switch_found hh hs hc hstep hr)).trans ?_)
  rw [← dueStored_fencing]
  exact switchDie_eq _

/-- The stores of a switch: what is due, and the outgoing group's memory. -/
theorem switch_stores : (handoverSwitch u (found s d)).stores = dueCells ((s.dieOf d).rot u) ((s.dieOf d).acyc 2) ++
    copyAll (dueStored s d u).mem (unitBase u (s.dieOf d).die h.outg) (unitBase u (s.dieOf d).die h.inc) (unitCount u) (unitSize u) := by
  rw [switch_found hh hs hc hstep hr, ← dueStored_die (u := u)]
  rfl

theorem switch_mem : (s.onDM d (fun _ => handoverSwitch u)).mem = memApply (dueStored s d u).mem
    (copyAll (dueStored s d u).mem (unitBase u (s.dieOf d).die h.outg) (unitBase u (s.dieOf d).die h.inc) (unitCount u) (unitSize u)) := by
  refine (onDM_mem _).trans ((congrArg (memApply s.mem) (switch_stores hh hs hc hstep hr)).trans ?_)
  rw [memApply_append, ← dueStored_mem]

variable (hw : Memory.wf s.mem = true)
include hw

/-- The incoming group's memory is the outgoing one's. -/
theorem switch_copies {i k : Nat} (hne : h.outg ≠ h.inc) (hi : i < unitCount u) (hk : k < unitSize u) :
    memGet (s.onDM d (fun _ => handoverSwitch u)).mem (unitBase u (s.dieOf d).die h.inc i + k) =
      memGet (s.onDM d (fun _ => handoverSwitch u)).mem (unitBase u (s.dieOf d).die h.outg i + k) := by
  have hwm : Memory.wf (dueStored s d u).mem = true := by
    rw [dueStored_mem]
    exact memApply_wf _ _ hw
  rw [switch_mem hh hs hc hstep hr, copyAll_get hwm (fun i j hi hj hij => unitBase_apart u _ hi hj (Or.inr hij)) hi hk, copyAll_apart hwm]
  intro j hj
  have ha : Apart (unitBase u (s.dieOf d).die h.outg i) (unitBase u (s.dieOf d).die h.inc j) (unitSize u) := unitBase_apart u _ hi hj (Or.inl hne)
  unfold Apart at ha
  omega

theorem switch_frame {us vs : List DiePart} {y : DieState} (hd : (s.onDM d (fun _ => handoverSwitch u)).dieOf d = y)
    (he : SwitchEnd u h vs (switchDone u h (dueStored s d u).d) y) (hv : ∀ p ∈ vs, p ∈ .regs :: .ink :: us) :
    FrameMem d ((if u then .stm else .tar) :: .syn :: .regs :: .ink :: us) (fun b =>
      (∀ i, i < unitCount u → b < unitBase u (s.dieOf d).die h.inc i ∨ unitBase u (s.dieOf d).die h.inc i + unitSize u ≤ b) ∧
      (∀ y ∈ ((s.dieOf d).rot u).copies, b < y.addr ∨ y.addr + y.data.length ≤ b) ∧ ∀ y ∈ ((s.dieOf d).rot u).mirror, y.2.1 ≠ b)
      s (s.onDM d (fun _ => handoverSwitch u)) := by
  have hdue : OnlyIn [rotPart u, .syn] (s.here d) (dueStored s d u).d := mirrorTo_only
  have hdone : OnlyIn [rotPart u, .syn, .regs, .ink] (dueStored s d u).d _ := switchDone_only u h _
  refine frameMem_of_onDM hw ?_ fun b ⟨hb, hcopies, hmirror⟩ c hc' => ?_
  · rw [onDM_die] at hd
    rw [hd]
    exact (hdue.mono (by simp [rotPart])).trans ((hdone.mono (by simp [rotPart])).trans
      (he.only.mono fun p hp => List.mem_cons_of_mem _ (List.mem_cons_of_mem _ (hv p hp))))
  · have hc'' := switch_stores hh hs hc hstep hr ▸ hc'
    rcases List.mem_append.1 hc'' with hm | hm
    · exact dueCells_apart hcopies hmirror c hm
    · obtain ⟨i, hi, hlo, hhi⟩ := copyAll_range c hm
      have := hb i hi
      omega

theorem switch_hands_over {us vs : List DiePart} {y : DieState} (ho : h.outg ≤ 16) (hi : h.inc ≤ 16) (hne : h.outg ≠ h.inc)
    (hd : (s.onDM d (fun _ => handoverSwitch u)).dieOf d = y) (he : SwitchEnd u h vs (switchDone u h (dueStored s d u).d) y)
    (hv : ∀ p ∈ vs, p ∈ .regs :: .ink :: us) (hu : rotPart u ∉ vs) : HandedOver s (s.onDM d (fun _ => handoverSwitch u)) d u h us := by
  have hsw : SwitchedDie u h (s.here d) y := SwitchedDie.of_mirrored (x := found s d) (he.switched ho hi hne hu)
  have hframe := switch_frame hh hs hc hstep hr hw hd he hv
  subst hd
  refine ⟨congrArg Rotation.hand hsw.rot, congrArg Rotation.lastSw hsw.rot, hsw.out, hsw.inc, hsw.hands, hsw.map,
    fun i k hik hk => switch_copies hh hs hc hstep hr hw hne hik hk, fun hu i hi => ?_, hframe⟩
  subst hu
  rw [DieState.slotOf, hsw.tiles rfl]
  exact tget_movedTiles _ hne hi

theorem switch_tests (ho : h.outg ≤ 16) (hi : h.inc ≤ 16) (hne : h.outg ≠ h.inc) (hf : ((s.dieOf d).rot u).fencing = none) :
    ∃ t, exec (if u then .stmHandoverSwitch d else .handoverSwitch d) s = .next t ∧ HandedOver s t d u h [] ∧ (t.dieOf d).grpState u h.outg = 4 := by
  have hd := switch_die hh hs hc hstep hr
  rw [hf] at hd
  obtain ⟨he, hg⟩ := switchEnd_tests u h (switchDone u h (dueStored s d u).d) ho
  exact ⟨_, exec_switch, switch_hands_over hh hs hc hstep hr hw ho hi hne hd he (by decide) (by cases u <;> decide), by rw [hd]; exact hg⟩

theorem switch_fences (ho : h.outg ≤ 16) (hi : h.inc ≤ 16) (hne : h.outg ≠ h.inc) (hf : ((s.dieOf d).rot u).fencing = some h.outg) :
    ∃ t, exec (if u then .stmHandoverSwitch d else .handoverSwitch d) s = .next t ∧ HandedOver s t d u h [.qll, .chk, .net] ∧
      (t.dieOf d).grpState u h.outg = 6 ∧ (t.dieOf d).exhausted u = true ∧ ((t.dieOf d).rot u).fencing = none := by
  have hd := switch_die hh hs hc hstep hr
  rw [hf] at hd
  obtain ⟨he, hg, hex⟩ := switchEnd_fences u h (switchDone u h (dueStored s d u).d) ho
  have hsw : SwitchedDie u h (s.here d) _ := SwitchedDie.of_mirrored (x := found s d) (he.switched ho hi hne (by cases u <;> decide))
  refine ⟨_, exec_switch, switch_hands_over hh hs hc hstep hr hw ho hi hne hd he (by decide) (by cases u <;> decide), by rw [hd]; exact hg,
    by rw [hd]; exact hex, ?_⟩
  rw [hd, hsw.rot]
  exact if_pos hf

end

/-- Settles O40, clause by clause: the begin, the copies and the switch of a handover, the group tests, the spare's interval and the fence requests. -/
theorem rotationHandsOverTestsAndFences : Obligations.RotationHandsOverTestsAndFences := by
  unfold Obligations.RotationHandsOverTestsAndFences
  refine ⟨fun s d u => ⟨begin_elsewhere, fun hd hc => ⟨begin_waits hd hc rfl, begin_hands hd hc rfl⟩⟩,
    fun s d u m h a hh hs hj ha hjobs hw => ⟨?_, ?_⟩,
    fun s d u h hh hs hc hstep ho hi hne => ⟨switch_waits hh hs hc hstep, fun hr hf hw => switch_tests hh hs hc hstep hr hw ho hi hne hf,
      fun hr hf hw => switch_fences hh hs hc hstep hr hw ho hi hne hf⟩,
    fun s d u hg h => ⟨groupTest_passes rfl h, groupTest_fails rfl h hg⟩,
    fun s d u hs => ⟨interval_kept hs, interval_exceeded hs⟩,
    fun s d u v => ⟨fence_waits, fun hs => ⟨fence_without_go hs, fence_refused hs, fun hb => fence_awaited hs hb, fun hb => fence_spare hs hb⟩⟩⟩
  · have hr := copy_rot hh hs hj ha hjobs
    rw [acyc_handover]
    exact ⟨_, exec_copy, congrArg Rotation.copies hr, congrArg Rotation.mirror hr, copy_frame hh hs hj ha hjobs hw⟩
  · intro y hc hm hy hdue hl
    exact ⟨_, exec_copy, copy_lands hh hs hj ha hjobs hw hc hm hy (acyc_handover _ _ ▸ hdue) hl⟩

end Sys2Proof

/-! SUPPORT. The parts of a lane (R130 to R148): what a change of parts keeps of each, and what opening, closing, giving up and retiring one leave alone. -/

namespace Sys2Proof
open Machine

/-! ### Changing parts -/

section
variable (x : DieState)

theorem OnlyIn.modParts (c : Part → Bool) (f : Part → Part) : OnlyIn [.ptk] x (x.modParts c f) := .ptk x _

theorem OnlyIn.modPart (q : Nat) (f : Part → Part) : OnlyIn [.ptk] x (x.modPart q f) := .ptk x _

variable {x}

/-- A part with property `P` leaves one with property `Q`, if `f` leads from `P` to `Q` where it is applied and `P` implies `Q` elsewhere. -/
theorem exists_modParts {c : Part → Bool} {f : Part → Part} {P Q : Part → Prop} (h : ∃ p ∈ x.ptk.parts, P p) (hf : ∀ p, c p = true → P p → Q (f p))
    (hk : ∀ p, c p = false → P p → Q p) : ∃ p ∈ (x.modParts c f).ptk.parts, Q p := by
  obtain ⟨p, hp, hP⟩ := h
  refine ⟨_, List.mem_map_of_mem hp, ?_⟩
  cases hc : c p with
  | true => exact (if_pos rfl).symm ▸ hf p hc hP
  | false => exact hk p hc hP

/-- The part of order `q` is one of the die's. -/
theorem mem_of_partOf {q : Nat} {p : Part} (h : x.partOf q = some p) : p ∈ x.ptk.parts ∧ p.seq = q :=
  ⟨List.mem_of_find?_eq_some h, by simpa using List.find?_some h⟩

end

/-! ### Sorted lists -/

theorem mem_insertBy {A : Type} (lt : A → A → Bool) (x y : A) (l : List A) : y ∈ insertBy lt x l ↔ y = x ∨ y ∈ l := by
  induction l with
  | nil => simp [insertBy]
  | cons z r ih =>
    rw [insertBy]
    split
    · exact List.mem_cons
    · rw [List.mem_cons, ih, List.mem_cons, or_left_comm]

theorem mem_foldl_insertBy {A : Type} (lt : A → A → Bool) (y : A) (l acc : List A) : y ∈ l.foldl (fun acc x => insertBy lt x acc) acc ↔ y ∈ l ∨ y ∈ acc := by
  induction l generalizing acc with
  | nil => simp
  | cons z r ih => rw [List.foldl_cons, ih, mem_insertBy, List.mem_cons, or_assoc, or_left_comm]

theorem mem_sortBy {A : Type} (lt : A → A → Bool) (y : A) (l : List A) : y ∈ sortBy lt l ↔ y ∈ l := by
  rw [sortBy, mem_foldl_insertBy]
  simp

/-- A fold over a list that has `a`: what the step of `a` brings about where `I` holds, and every step keeps, holds at the end. -/
theorem foldl_attains {A B : Type} {f : B → A → B} {I P : B → Prop} {a : A} (hI : ∀ b c, I b → I (f b c)) (ha : ∀ b, I b → P (f b a))
    (hP : ∀ b c, P b → P (f b c)) {l : List A} (hl : a ∈ l) {b : B} (hb : I b) : P (l.foldl f b) := by
  induction l generalizing b with
  | nil => cases hl
  | cons c r ih =>
    rcases List.mem_cons.1 hl with rfl | hr
    · exact List.foldlRecOn r f (ha b hb) fun b hb c _ => hP b c hb
    · exact ih hr (hI b c hb)

/-! ### Runs that open a part (R130, R132, R136, R140) -/

/-- What a part keeps of how it opened: lane, number, order, lines, positions and columns. -/
structure SameSpan (p p' : Part) : Prop where
  lane : p'.lane = p.lane
  num : p'.num = p.num
  seq : p'.seq = p.seq
  first : p'.first = p.first
  last : p'.last = p.last
  leadPos : p'.leadPos = p.leadPos
  trailPos : p'.trailPos = p.trailPos
  colA : p'.colA = p.colA
  colB : p'.colB = p.colB

theorem SameSpan.refl (p : Part) : SameSpan p p := ⟨rfl, rfl, rfl, rfl, rfl, rfl, rfl, rfl, rfl⟩

theorem SameSpan.trans {p q r : Part} (h : SameSpan p q) (k : SameSpan q r) : SameSpan p r where
  lane := k.lane.trans h.lane
  num := k.num.trans h.num
  seq := k.seq.trans h.seq
  first := k.first.trans h.first
  last := k.last.trans h.last
  leadPos := k.leadPos.trans h.leadPos
  trailPos := k.trailPos.trans h.trailPos
  colA := k.colA.trans h.colA
  colB := k.colB.trans h.colB

theorem SameSpan.mark (p : Part) (code : Nat) : SameSpan p (p.mark code) := by
  unfold Part.mark
  split <;> exact ⟨rfl, rfl, rfl, rfl, rfl, rfl, rfl, rfl, rfl⟩

/-- The registers that may change once a part has opened in lane `n`: those of the queue, UNADMITTED, CORRUPT, OVERSIZE and a lane fault. -/
def followRegs (n : Nat) : List Nat :=
  [rPTK_LANE + 4 * n, rPTK_STATUS, rPTK_QUEUE, rPTK_CNT + 8, rPTK_CNT + 20, rPTK_CNT + 24, rQLL_STATUS] ++ inkRegs

theorem openRegs_apart : ∀ n < 32, rPTK_NEXT_PART + 4 * n ∉ followRegs n ∧ rPTK_CNT ∉ followRegs n ∧ rPTK_NEXT_PART + 4 * n ≠ rPTK_CNT := by decide

/-- From `x` to `y` no part comes or goes or changes its span, and no register changes but those of `followRegs n`. -/
structure Follows (n : Nat) (x y : DieState) : Prop where
  parts : ∃ f : Part → Part, (∀ p, SameSpan p (f p)) ∧ y.ptk.parts = x.ptk.parts.map f
  regs : RegsOnly (followRegs n) x y

section
variable {n : Nat} {x y z : DieState}

theorem Follows.of_parts (h : y.ptk.parts = x.ptk.parts) (hr : RegsOnly (followRegs n) x y) : Follows n x y :=
  ⟨⟨id, SameSpan.refl, by rw [h, List.map_id]⟩, hr⟩

theorem Follows.refl (n : Nat) (x : DieState) : Follows n x x := .of_parts rfl (.refl _ _)

theorem Follows.trans (h : Follows n x y) (k : Follows n y z) : Follows n x z := by
  obtain ⟨⟨f, hf, hy⟩, hr⟩ := h
  obtain ⟨⟨g, hg, hz⟩, kr⟩ := k
  exact ⟨⟨g ∘ f, fun p => (hf p).trans (hg (f p)), by rw [hz, hy, List.map_map]⟩, hr.trans kr⟩

theorem Follows.ite (c : Prop) [Decidable c] (h : Follows n x y) (k : Follows n x z) : Follows n x (if c then y else z) := by split <;> assumption

/-- A part of `x` has its successor in `y`. -/
theorem Follows.part (h : Follows n x y) {p : Part} (hp : p ∈ x.ptk.parts) : ∃ p' ∈ y.ptk.parts, SameSpan p p' := by
  obtain ⟨⟨f, hf, hy⟩, -⟩ := h
  exact ⟨f p, hy ▸ List.mem_map_of_mem hp, hf p⟩

/-- If all parts of order `q` are of lane `n`, they stay so. -/
theorem Follows.lanes (h : Follows n x y) {q : Nat} (hx : ∀ p ∈ x.ptk.parts, p.seq = q → p.lane = n) : ∀ p ∈ y.ptk.parts, p.seq = q → p.lane = n := by
  obtain ⟨⟨f, hf, hy⟩, -⟩ := h
  intro p' hp' hq
  rw [hy] at hp'
  obtain ⟨p, hp, rfl⟩ := List.mem_map.1 hp'
  exact (hf p).lane.trans (hx p hp ((hf p).seq.symm.trans hq))

variable (n x)

theorem Follows.modParts (c : Part → Bool) {f : Part → Part} (hf : ∀ p, SameSpan p (f p)) : Follows n x (x.modParts c f) :=
  ⟨⟨fun p => if c p then f p else p, fun p => by dsimp only; split; exacts [hf p, .refl p], rfl⟩, .of_regs _ rfl⟩

theorem Follows.modPart (q : Nat) {f : Part → Part} (hf : ∀ p, SameSpan p (f p)) : Follows n x (x.modPart q f) := .modParts n x _ hf

theorem Follows.count (off k : Nat) (h : off ∈ followRegs n) : Follows n x (x.count off k) := .of_parts rfl ((RegsOnly.count x off k).mono (by simpa using h))

theorem Follows.setFld (off hi lo v : Nat) (h : off ∈ followRegs n) : Follows n x (x.setFld off hi lo v) :=
  .of_parts rfl ((RegsOnly.setFld x off hi lo v).mono (by simpa using h))

theorem Follows.raise (off b : Nat) (h : off ∈ followRegs n) : Follows n x (x.raise off b) :=
  .of_parts (congrArg Ptk.parts ((OnlyIn.raise x off b).2 .ptk (by decide)))
    ((RegsOnly.raise x off b).mono (List.cons_subset.2 ⟨h, List.subset_append_right _ _⟩))

theorem Follows.uswEvent (u i st : Nat) : Follows n x (x.uswEvent u i st) :=
  .of_parts (congrArg Ptk.parts ((OnlyIn.uswEvent x u i st).2 .ptk (by decide)))
    ((RegsOnly.uswEvent x u i st).mono (List.cons_subset.2 ⟨by simp [followRegs], List.subset_append_right _ _⟩))

theorem Follows.cut (c : Part → Bool) : Follows n x (x.cut c) := .modParts n x _ fun p => (SameSpan.mark p 7).trans ⟨rfl, rfl, rfl, rfl, rfl, rfl, rfl, rfl, rfl⟩

theorem Follows.endTails (c : Part → Bool) : Follows n x (x.endTails c) := .modParts n x _ fun _ => ⟨rfl, rfl, rfl, rfl, rfl, rfl, rfl, rfl, rfl⟩

theorem Follows.laneFault (cause : Nat) : Follows n x (x.laneFault n cause) := by
  unfold DieState.laneFault
  refine .ite _ (.refl _ _) ?_
  have hl : rPTK_LANE + 4 * n ∈ followRegs n := by simp [followRegs]
  exact ((((Follows.setFld n x _ _ _ _ hl).trans (.setFld n _ _ _ _ _ hl)).trans (.uswEvent n _ _ _ _)).trans (.cut n _ _)).trans (.endTails n _ _)

theorem Follows.noDescriptor : Follows n x (x.noDescriptor n) := (Follows.raise n x rPTK_STATUS 6 (by simp [followRegs])).trans (.laneFault n _ _)

theorem Follows.corruptCheck (q : Nat) : Follows n x (x.corruptCheck q) := by
  unfold DieState.corruptCheck
  split
  · exact .refl _ _
  · refine .ite _ ?_ (.refl _ _)
    exact ((Follows.modPart n x q fun p => .mark p 6).trans (.raise n _ rPTK_STATUS 3 (by simp [followRegs]))).trans (.count n _ (rPTK_CNT + 24) 1 (by simp [followRegs]))

theorem Follows.unadmit (q : Nat) : Follows n x (x.unadmit q) := by
  refine .trans (.trans (.trans ?_ (.modPart n _ q ?_)) (.raise n _ rPTK_STATUS 1 (by simp [followRegs]))) (.count n _ (rPTK_CNT + 8) 1 (by simp [followRegs]))
  · exact .of_parts rfl (.of_regs _ rfl)
  · exact fun p => (SameSpan.mark p 4).trans ⟨rfl, rfl, rfl, rfl, rfl, rfl, rfl, rfl, rfl⟩

theorem Follows.enqueuePart (q : Nat) : Follows n x (x.enqueuePart q) :=
  .of_parts rfl (RegsOnly.trans (.of_regs _ rfl) ((RegsOnly.setFld _ rPTK_QUEUE _ _ _).mono (by simp [followRegs])))

/-- The check for OVERSIZE of a part of lane `n` keeps every part's span, and changes no register but those of `followRegs n`; it may add a tail. -/
theorem oversizeCheck_keeps {q : Nat} (hq : ∀ p ∈ x.ptk.parts, p.seq = q → p.lane = n) :
    (∀ p ∈ x.ptk.parts, ∃ p' ∈ (x.oversizeCheck q).ptk.parts, SameSpan p p') ∧ RegsOnly (followRegs n) x (x.oversizeCheck q) := by
  have hf {y : DieState} (h : Follows n x y) : (∀ p ∈ x.ptk.parts, ∃ p' ∈ y.ptk.parts, SameSpan p p') ∧ RegsOnly (followRegs n) x y := ⟨fun _ hp => h.part hp, h.regs⟩
  unfold DieState.oversizeCheck
  split
  · exact hf (.refl n x)
  next p hp =>
    obtain ⟨hmem, hseq⟩ := mem_of_partOf hp
    have hlane : p.lane = n := hq p hmem hseq
    extract_lets c w big y
    have hspan (p : Part) : SameSpan p { p.mark 5 with closing := true } := (SameSpan.mark p 5).trans ⟨rfl, rfl, rfl, rfl, rfl, rfl, rfl, rfl, rfl⟩
    have hy : Follows n x y :=
      ((Follows.modPart n x q hspan).trans (.raise n _ rPTK_STATUS 2 (by simp [followRegs]))).trans (.count n _ (rPTK_CNT + 20) 1 (by simp [followRegs]))
    split
    · exact hf (.refl n x)
    · split
      · rw [hlane]
        exact hf (hy.trans (.noDescriptor n y))
      · refine ⟨fun p hp => ?_, hy.regs.trans (.of_regs _ rfl)⟩
        obtain ⟨p', hp', hs⟩ := hy.part hp
        exact ⟨p', List.mem_append_left _ hp', hs⟩

end

/-- The part that a run (a, b) of line `l` opens in lane `n` of die `x`, as far as its span goes. -/
structure OpenedBy (x : DieState) (n : Nat) (l : Ln) (a b : Nat) (p : Part) : Prop where
  seq : p.seq = x.ptk.seq
  lane : p.lane = n
  num : p.num = x.rd (rPTK_NEXT_PART + 4 * n)
  first : p.first = l.serial
  last : p.last = l.serial
  leadPos : p.leadPos = l.pos
  trailPos : p.trailPos = l.pos
  colA : p.colA = a
  colB : p.colB = b

theorem OpenedBy.span {x : DieState} {n : Nat} {l : Ln} {a b : Nat} {p p' : Part} (h : OpenedBy x n l a b p) (k : SameSpan p p') : OpenedBy x n l a b p' where
  seq := k.seq.trans h.seq
  lane := k.lane.trans h.lane
  num := k.num.trans h.num
  first := k.first.trans h.first
  last := k.last.trans h.last
  leadPos := k.leadPos.trans h.leadPos
  trailPos := k.trailPos.trans h.trailPos
  colA := k.colA.trans h.colA
  colB := k.colB.trans h.colB

/-- Where a part can open, one does, and takes the lane's part number. -/
theorem openPart_opens (x : DieState) (n : Nat) (l : Ln) (a b : Nat) (seg : Int) (hl : x.laneState n = 1) (hn : n < 32) (hd : x.descriptors < 8192)
    (hseq : ∀ p ∈ x.ptk.parts, p.seq < x.ptk.seq) :
    (∃ p ∈ (x.openPart n l a b seg).ptk.parts, OpenedBy x n l a b p) ∧
    (x.openPart n l a b seg).rd (rPTK_NEXT_PART + 4 * n) = (x.rd (rPTK_NEXT_PART + 4 * n) + 1) % 2 ^ 32 ∧
    (x.openPart n l a b seg).rd rPTK_CNT = min 0xFFFFFFFF (x.rd rPTK_CNT + 1) := by
  obtain ⟨hnext, hcnt, hne⟩ := openRegs_apart n hn
  unfold DieState.openPart
  rw [if_neg (not_not.2 hl), if_neg (Nat.not_le.2 hd)]
  extract_lets q ghost blank p₀ p d₁ k d₂ d₃ d₄
  have hp : OpenedBy x n l a b p := by
    refine OpenedBy.span (p := p₀) ⟨rfl, rfl, rfl, rfl, rfl, rfl, rfl, rfl, rfl⟩ ?_
    unfold p
    split
    · exact .mark _ _
    · exact .refl _
  have hd₁ : d₁.ptk = x.ptk ∧ RegsOnly [rCTX_CHG_INCOMPLETE] x d₁ := by
    unfold d₁ DieState.chgIncomplete
    split_ifs
    exacts [⟨rfl, .count x _ _⟩, ⟨rfl, .count x _ _⟩, ⟨rfl, .refl _ _⟩]
  have hparts : d₃.ptk.parts = x.ptk.parts ++ [p] := by
    show d₁.ptk.parts ++ [p] = _
    rw [hd₁.1]
  have hlanes : ∀ p' ∈ d₃.ptk.parts, p'.seq = q → p'.lane = n := by
    intro p' hp' hq
    rw [hparts] at hp'
    rcases List.mem_append.1 hp' with h | h
    · exact absurd hq (hseq p' h).ne
    · rw [List.mem_singleton.1 h, hp.lane]
  have h₄ : Follows n d₃ d₄ := by
    unfold d₄
    exact .ite _ (.refl _ _) (.ite _ ((Follows.raise n d₃ rPTK_STATUS 0 (by simp [followRegs])).trans (.unadmit n _ _)) (.enqueuePart n _ _))
  have h₅ : Follows n d₃ (d₄.corruptCheck q) := h₄.trans (.corruptCheck n d₄ q)
  obtain ⟨hkept, hregs⟩ := oversizeCheck_keeps n (d₄.corruptCheck q) (h₅.lanes hlanes)
  refine ⟨?_, ?_, ?_⟩
  · obtain ⟨p₁, hp₁, hs₁⟩ := h₅.part (p := p) (by rw [hparts]; exact List.mem_append_right _ List.mem_cons_self)
    obtain ⟨p₂, hp₂, hs₂⟩ := hkept p₁ hp₁
    exact ⟨p₂, hp₂, (hp.span hs₁).span hs₂⟩
  · rw [hregs _ hnext, h₅.regs _ hnext, DieState.rd_count_ne _ _ _ _ hne, DieState.rd_wr_same, hp.num]
  · rw [hregs _ hcnt, h₅.regs _ hcnt, DieState.rd_count_same, DieState.rd_wr_ne _ _ _ _ hne.symm]
    show min max32 (d₁.rd rPTK_CNT + 1) = _
    rw [hd₁.2 rPTK_CNT (by decide)]
    rfl

/-- A run that touches no attaching part of its lane opens one. -/
theorem run_of_untouched (x : DieState) (n : Nat) (l : Ln) (r : Nat × Nat) (h : ∀ p ∈ x.attaching n, p.touches r.1 r.2 = false) :
    x.run n l r = x.openPart n l r.1 r.2 0 := by
  have hnone : (x.attaching n).filter (fun p => p.touches r.1 r.2) = [] := List.filter_eq_nil_iff.2 fun p hp => by simp [h p hp]
  rw [DieState.run, hnone]
  rfl

/-- Settles O16: such a run opens a part, and what follows an opening (the queue, CORRUPT, OVERSIZE) keeps its span and both counters. -/
theorem runOpensAPart : Obligations.RunOpensAPart := by
  unfold Obligations.RunOpensAPart
  intro x n l r hl hn hr hd hseq
  rw [run_of_untouched x n l r hr]
  obtain ⟨⟨p, hp, ho⟩, hnext, hcnt⟩ := openPart_opens x n l r.1 r.2 0 hl hn hd hseq
  exact ⟨⟨p, hp, ho.seq, ho.lane, ho.num, ho.first, ho.last, ho.leadPos, ho.trailPos, ho.colA, ho.colB⟩, hnext, hcnt⟩

end Sys2Proof

/-! SUPPORT. PART_CLOSE and UNADMITTED (R131, R139, R140, R143), and the statement on them. -/

namespace Sys2Proof
open Machine

section
variable (x : DieState)

/-! ### PART_CLOSE (R131, R313) -/

theorem OnlyIn.createEvent (p : Part) (i : Nat) : OnlyIn [.nib, .regs, .ink] x (x.createEvent p i) := by
  unfold DieState.createEvent
  dsimp only
  refine .ite _ ?_ (.ite _ ?_ ?_)
  · exact ((OnlyIn.nibCount x _ _).trans (.nibCount _ _ _)).mono (by decide)
  · exact ((OnlyIn.nibCount x _ _).mono (by decide)).trans ((OnlyIn.raise _ _ _).mono (by decide))
  · exact ((OnlyIn.nibCount x _ _).mono (by decide)).trans ((OnlyIn.nib _ _).mono (by decide))

theorem OnlyIn.createEvents (p : Part) : OnlyIn [.nib, .regs, .ink] x (x.createEvents p) :=
  .ite _ (.refl _ _) (.foldl _ (fun y i => .createEvent y p i) _ _)

/-- A part that is closing closes. -/
def closePart (p : Part) : DieState :=
  let y := x.modPart p.seq (fun q => { q with isOpen := false, closing := false, closedAt := some x.seq.step })
  if p.kind = .tail then y.modPart p.seq (fun q => { q with leaving := true }) else (y.createEvents p).send .checker p.descriptor []

variable {x}

theorem partClose_stepping (h : x.stepping = true) : partClose x =
    (sortBy partLt ((x.toCycle 19999).ptk.parts.filter (fun p => p.isOpen && p.closing))).foldl closePart (x.toCycle 19999) := if_neg (by simp [h])

theorem partClose_idle (h : x.stepping = false) : partClose x = x := if_pos (by simp [h])

variable (x)

theorem OnlyIn.closePart (p : Part) : OnlyIn [.ptk, .nib, .regs, .ink, .wire] x (closePart x p) := by
  unfold Sys2Proof.closePart
  extract_lets y
  have hy : OnlyIn [.ptk, .nib, .regs, .ink, .wire] x y := (OnlyIn.modPart x _ _).mono (by decide)
  refine hy.trans (.ite _ ((OnlyIn.modPart y _ _).mono (by decide)) ?_)
  exact ((OnlyIn.createEvents y p).mono (by decide)).trans ((OnlyIn.send _ _ _ _).mono (by decide))

theorem OnlyIn.partClose : OnlyIn [.seq, .ptk, .nib, .regs, .ink, .wire] x (partClose x) :=
  .ite _ (.refl _ _) (((OnlyIn.toCycle x _).mono (by decide)).trans (.foldl _ (fun y p => (OnlyIn.closePart y p).mono (by decide)) _ _))

/-- A part closed in step `st`. -/
def ClosedAt (st : Nat) (p : Part) : Prop := p.isOpen = false ∧ p.closing = false ∧ p.closedAt = some st

/-- Parts of one order stay when one closes, and so does what they have closed. -/
theorem closePart_keeps (p : Part) {q : Nat} {P : Part → Prop} (hP : ∀ y, ClosedAt x.seq.step y → P y) (hl : ∀ y, P y → P { y with leaving := true })
    (h : ∃ y ∈ x.ptk.parts, y.seq = q ∧ (y.seq = p.seq ∨ P y)) : ∃ y ∈ (closePart x p).ptk.parts, y.seq = q ∧ P y := by
  have hy := exists_modParts (c := fun y => y.seq == p.seq) (f := fun y => { y with isOpen := false, closing := false, closedAt := some x.seq.step })
    (Q := fun y => y.seq = q ∧ P y) h (fun y _ hy => ⟨hy.1, hP _ ⟨rfl, rfl, rfl⟩⟩) (fun y hc hy => ⟨hy.1, hy.2.resolve_left (by simpa using hc)⟩)
  unfold closePart
  extract_lets y
  split
  · exact exists_modParts hy (fun z _ hz => ⟨hz.1, hl z hz.2⟩) (fun _ _ hz => hz)
  · have he : ((y.createEvents p).send .checker p.descriptor []).ptk = y.ptk := (OnlyIn.createEvents y p).2 .ptk (by decide)
    rw [he]
    exact hy

variable {x}

/-- PART_CLOSE closes every part that is open and closing. -/
theorem partClose_closes (h : x.stepping = true) {p : Part} (hp : p ∈ x.ptk.parts) (ho : p.isOpen = true) (hc : p.closing = true) :
    ∃ q ∈ (partClose x).ptk.parts, q.seq = p.seq ∧ ClosedAt x.seq.step q := by
  have hseq (y : DieState) (c : Part) : (closePart y c).seq = y.seq := (OnlyIn.closePart y c).2 .seq (by decide)
  rw [partClose_stepping h]
  refine (foldl_attains (f := closePart) (b := x.toCycle 19999) (a := p) (I := fun y => y.seq.step = x.seq.step ∧ ∃ q ∈ y.ptk.parts, q.seq = p.seq ∧ True)
    (P := fun y => y.seq.step = x.seq.step ∧ ∃ q ∈ y.ptk.parts, q.seq = p.seq ∧ ClosedAt x.seq.step q) ?_ ?_ ?_ ?_ ⟨rfl, p, hp, rfl, trivial⟩).2
  · rintro y c ⟨hst, q, hq, hs, -⟩
    exact ⟨by rw [hseq, hst], closePart_keeps y c (fun _ _ => trivial) (fun _ _ => trivial) ⟨q, hq, hs, .inr trivial⟩⟩
  · rintro y ⟨hst, q, hq, hs, -⟩
    exact ⟨by rw [hseq, hst], closePart_keeps y p (fun _ hz => hst ▸ hz) (fun _ hz => hz) ⟨q, hq, hs, .inl hs⟩⟩
  · rintro y c ⟨hst, q, hq, hs, hcl⟩
    exact ⟨by rw [hseq, hst], closePart_keeps y c (fun _ hz => hst ▸ hz) (fun _ hz => hz) ⟨q, hq, hs, .inr hcl⟩⟩
  · exact (mem_sortBy _ _ _).2 (List.mem_filter.2 ⟨hp, by rw [ho, hc]; rfl⟩)

/-! ### UNADMITTED (R139, R140, R143) -/

/-- The parts whose queue entries have waited more than 4 steps. -/
def overdue (x : DieState) : List Part := x.ptk.parts.filter (fun p => x.ptk.queue.contains p.seq && decide (p.queued + 4 < x.seq.step))

theorem mem_overdue {p : Part} : p ∈ overdue x ↔ p ∈ x.ptk.parts ∧ p.seq ∈ x.ptk.queue ∧ p.queued + 4 < x.seq.step := by
  simp [overdue]

theorem unadmitted_stepping (h : x.stepping = true) : unadmitted x = (overdue x).foldl (fun y p => y.unadmit p.seq) x := if_neg (by simp [h])

theorem unadmitted_idle (h : x.stepping = false) : unadmitted x = x := if_pos (by simp [h])

variable (x)

/-- The part of order `q` leaves the queue and is a ghost, before the flag and the count. -/
def ghosted (q : Nat) : DieState :=
  ({ x with ptk := { x.ptk with queue := x.ptk.queue.filter (· ≠ q) } } : DieState).modPart q (fun p => { p.mark 4 with kind := .ghost, ghostAt := x.seq.step, pend := [] })

theorem unadmit_ptk (q : Nat) : (x.unadmit q).ptk = (ghosted x q).ptk := (OnlyIn.raise (ghosted x q) rPTK_STATUS 1).2 .ptk (by decide)

theorem OnlyIn.unadmit (q : Nat) : OnlyIn [.ptk, .regs, .ink] x (x.unadmit q) :=
  (((OnlyIn.ptk x (ghosted x q).ptk).mono (by decide)).trans ((OnlyIn.raise (ghosted x q) _ _).mono (by decide))).trans ((OnlyIn.count _ _ _).mono (by decide))

theorem OnlyIn.unadmitted : OnlyIn [.ptk, .regs, .ink] x (unadmitted x) := .ite _ (.refl _ _) (.foldl _ (fun y _ => .unadmit y _) _ _)

theorem mem_queue_unadmit {q k : Nat} : k ∈ (x.unadmit q).ptk.queue ↔ k ∈ x.ptk.queue ∧ k ≠ q := by
  rw [unadmit_ptk]
  show k ∈ x.ptk.queue.filter (· ≠ q) ↔ _
  simp

/-- A ghost with the outcome UNADMITTED (R65, code 4). -/
def UnadmittedGhost (p : Part) : Prop := p.kind = .ghost ∧ 4 ∈ p.outs

theorem mem_outs_mark (p : Part) (code : Nat) : code ∈ (p.mark code).outs := by
  unfold Part.mark
  split
  next h => simpa using h
  · simp

/-- A part of order `k` stays when order `q` becomes UNADMITTED, and is such a ghost if it was one, or if `q` is `k`. -/
theorem unadmit_ghost {q k : Nat} {P : Part → Prop} (hP : ∀ p, UnadmittedGhost p → P p) (h : ∃ p ∈ x.ptk.parts, p.seq = k ∧ (p.seq = q ∨ P p)) :
    ∃ p ∈ (x.unadmit q).ptk.parts, p.seq = k ∧ P p := by
  rw [unadmit_ptk]
  refine exists_modParts (x := { x with ptk := { x.ptk with queue := x.ptk.queue.filter (· ≠ q) } }) h (fun p _ hp => ⟨?_, ?_⟩)
    fun p hc hp => ⟨hp.1, hp.2.resolve_left (by simpa using hc)⟩
  · exact (SameSpan.mark p 4).seq.trans hp.1
  · exact hP _ ⟨rfl, mem_outs_mark p 4⟩

variable {x}

/-- An overdue entry leaves the queue, and its part becomes an UNADMITTED ghost. -/
theorem unadmitted_overdue (h : x.stepping = true) {p : Part} (hp : p ∈ overdue x) :
    p.seq ∉ (unadmitted x).ptk.queue ∧ ∃ q ∈ (unadmitted x).ptk.parts, q.seq = p.seq ∧ UnadmittedGhost q := by
  rw [unadmitted_stepping h]
  refine foldl_attains (b := x) (a := p) (I := fun y => ∃ q ∈ y.ptk.parts, q.seq = p.seq ∧ True)
    (P := fun y => p.seq ∉ y.ptk.queue ∧ ∃ q ∈ y.ptk.parts, q.seq = p.seq ∧ UnadmittedGhost q) ?_ ?_ ?_ hp ⟨p, (mem_overdue.1 hp).1, rfl, trivial⟩
  · rintro y c ⟨q, hq, hs, -⟩
    exact unadmit_ghost y (fun _ _ => trivial) ⟨q, hq, hs, .inr trivial⟩
  · rintro y ⟨q, hq, hs, -⟩
    exact ⟨fun hm => ((mem_queue_unadmit y).1 hm).2 rfl, unadmit_ghost y (fun _ hg => hg) ⟨q, hq, hs, .inl hs⟩⟩
  · rintro y c ⟨hn, q, hq, hs, hg⟩
    exact ⟨fun hm => hn ((mem_queue_unadmit y).1 hm).1, unadmit_ghost y (fun _ hg => hg) ⟨q, hq, hs, .inr hg⟩⟩

/-- An entry none of whose parts is overdue stays in the queue. -/
theorem unadmitted_queue (h : x.stepping = true) {k : Nat} (hk : k ∈ x.ptk.queue) (hp : ∀ p ∈ overdue x, p.seq ≠ k) : k ∈ (unadmitted x).ptk.queue := by
  rw [unadmitted_stepping h]
  exact List.foldlRecOn (motive := fun y : DieState => k ∈ y.ptk.queue) _ _ hk fun y hy p hm => (mem_queue_unadmit y).2 ⟨hy, (hp p hm).symm⟩

end

/-- Settles O17: both commands go through the parts that close or are overdue one by one; each takes its new state in its own turn and keeps it. -/
theorem partsCloseAndBecomeUnadmitted : Obligations.PartsCloseAndBecomeUnadmitted := by
  unfold Obligations.PartsCloseAndBecomeUnadmitted
  refine ⟨fun s d h => ⟨_, rfl, fun p hp ho hc => ?_, .onDie _ _ _ _ .partClose⟩, fun s d h => ⟨_, rfl, fun p hp hq hw => ?_, fun k hk hw => ?_, .onDie _ _ _ _ .unadmitted⟩,
    fun s d h => ⟨⟨_, rfl, frame_of_here ?_⟩, ⟨_, rfl, frame_of_here ?_⟩⟩⟩
  · rw [State.onDie_dieOf]
    exact partClose_closes (x := s.here d) h hp ho hc
  · rw [State.onDie_dieOf]
    exact unadmitted_overdue (x := s.here d) h (mem_overdue.2 ⟨hp, hq, hw⟩)
  · rw [State.onDie_dieOf]
    refine unadmitted_queue (x := s.here d) h hk fun p hp hs => ?_
    obtain ⟨hmem, -, hlate⟩ := mem_overdue.1 hp
    exact absurd (hw p hmem hs) (Nat.not_le.2 hlate)
  · rw [partClose_idle (x := s.here d) h]
    exact .refl _ _
  · rw [unadmitted_idle (x := s.here d) h]
    exact .refl _ _

end Sys2Proof

/-! SUPPORT. Parts that retire with the head's verdict (R62, R148, R152), and the statement on them. -/

namespace Sys2Proof
open Machine

/-- A part that has retired with the head's result. -/
def withVerdict (st : Nat) (cls : Option Nat) (conf : Nat) (feat : List Byte) (p : Part) : Part :=
  { p with retired := some st, leaving := true, primary := some cls, conf := conf, feat := feat }

section
variable (x : DieState) (p : Part) (cls : Option Nat) (conf : Nat) (feat : List Byte)

/-- The die once part `p` has retired, before the outcomes of its own are looked at. -/
def retiredDie : DieState :=
  let y := (x.count (rPTK_CNT + 4) 1).modPart p.seq (withVerdict x.seq.step cls conf feat)
  if p.final = some 3 then { y with ptk := { y.ptk with lateVerdicts := y.ptk.lateVerdicts + 1 } } else y

theorem retiredDie_parts : (retiredDie x p cls conf feat).ptk.parts = x.ptk.parts.map (fun q => if q.seq == p.seq then withVerdict x.seq.step cls conf feat q else q) := by
  unfold retiredDie
  dsimp only
  split <;> rfl

theorem retiredDie_retiredNow : (retiredDie x p cls conf feat).ptk.retiredNow = x.ptk.retiredNow := by
  unfold retiredDie
  dsimp only
  split <;> rfl

theorem retiredDie_regs : (retiredDie x p cls conf feat).regs = (x.count (rPTK_CNT + 4) 1).regs := by
  unfold retiredDie
  dsimp only
  split <;> rfl

theorem OnlyIn.retiredDie : OnlyIn [.ptk, .regs] x (retiredDie x p cls conf feat) :=
  ((OnlyIn.count x _ _).mono (by decide)).trans
    (.ite _ (((OnlyIn.modPart _ _ _).trans (.ptk _ _)).mono (by decide)) ((OnlyIn.modPart _ _ _).mono (by decide)))

theorem retiredDie_rd : (retiredDie x p cls conf feat).rd (rPTK_CNT + 4) = min 0xFFFFFFFF (x.rd (rPTK_CNT + 4) + 1) :=
  (congrArg (fun r => tget r (rPTK_CNT + 4) (regReset (rPTK_CNT + 4))) (retiredDie_regs x p cls conf feat)).trans (DieState.rd_count_same x _ 1)

theorem RegsOnly.retiredDie : RegsOnly [rPTK_CNT + 4] x (retiredDie x p cls conf feat) :=
  (RegsOnly.count x _ _).trans (.of_regs _ (retiredDie_regs x p cls conf feat))

variable {x p}

/-- A part without outcomes of its own retires and waits for the Comparator. -/
theorem retire_of_no_outcome (h : ∀ q ∈ x.ptk.parts, q.seq = p.seq → q.outs = []) : x.retire p cls conf feat = retiredDie x p cls conf feat := by
  unfold DieState.retire
  extract_lets y k z
  have hz : z = retiredDie x p cls conf feat := rfl
  rw [hz]
  split
  · rfl
  next q hq =>
    obtain ⟨hmem, hseq⟩ := mem_of_partOf hq
    rw [retiredDie_parts] at hmem
    obtain ⟨q₀, hq₀, rfl⟩ := List.mem_map.1 hmem
    have houts : q₀.outs = [] := h q₀ hq₀ (by revert hseq; split <;> exact id)
    refine if_neg ?_
    split <;> simp [withVerdict, houts]

/-- Every part of the order that retires takes the verdict. -/
theorem retiredDie_verdict {q : Part} (hq : q ∈ (retiredDie x p cls conf feat).ptk.parts) (hs : q.seq = p.seq) :
    q.retired = some x.seq.step ∧ q.primary = some cls ∧ q.conf = conf ∧ q.feat = feat := by
  rw [retiredDie_parts] at hq
  obtain ⟨q₀, -, rfl⟩ := List.mem_map.1 hq
  split at hs
  next h => rw [if_pos h]; exact ⟨rfl, rfl, rfl, rfl⟩
  next h => exact absurd (beq_iff_eq.2 hs) h

/-! ### PART_RETIRE (R148) -/

/-- The die with one more retirement in this step. -/
def oneMore (x : DieState) : DieState := { x with ptk := { x.ptk with retiredNow := x.ptk.retiredNow + 1 } }

theorem partRetire_first {r : List Part} (hs : x.stepping = true) (hn : x.ptk.retiredNow < 16) (hr : x.readyParts false = p :: r) :
    partRetire cls conf feat x = (oneMore x).retire p cls conf feat := by
  have hno : ¬(!x.stepping ∨ 16 ≤ x.ptk.retiredNow) := by simp [hs, hn]
  rw [partRetire, if_neg hno, hr]
  rfl

theorem partRetire_full (hn : 16 ≤ x.ptk.retiredNow) : partRetire cls conf feat x = x := if_pos (.inr hn)

/-! ### ASSEMBLED_VERDICT (R152) -/

theorem assembledVerdict_one {b : Nat} (hs : x.stepping = true) (hp : x.ptk.parts = [p]) (hr : p.retired = none) (hb : p.batchAt = some b)
    (hl : b + (x.lane p.lane).asmLatency ≤ x.seq.step) : assembledVerdict cls conf feat x = x.retire p cls conf feat := by
  simp [assembledVerdict, hp, hr, hb, hl, hs, sortBy, insertBy]

end

/-- Settles O18: a part without outcomes of its own retires with the verdict and nothing else of it is decided. -/
theorem retirementAndVerdicts : Obligations.RetirementAndVerdicts := by
  unfold Obligations.RetirementAndVerdicts
  refine ⟨fun s d cls conf feat p r hs hn hr ho => ?_, fun s d cls conf feat hn => ⟨_, rfl, frame_of_here ?_⟩, fun s d cls conf feat p b hs hp hr hb hl ho => ?_⟩
  · have he : partRetire (cls.map (·.val)) conf.toNat feat (s.here d) = retiredDie (oneMore (s.here d)) p (cls.map (·.val)) conf.toNat feat :=
      (partRetire_first _ _ _ (x := s.here d) hs hn hr).trans (retire_of_no_outcome _ _ _ ho)
    have hd : (s.onDie d (partRetire (cls.map (·.val)) conf.toNat feat)).dieOf d = _ := (State.onDie_dieOf _ _ _).trans he
    refine ⟨_, rfl, ?_, ?_, ?_, ?_, frame_of_here ?_⟩
    · rw [hd]
      exact fun q hq hseq => retiredDie_verdict (x := oneMore (s.here d)) _ _ _ hq hseq
    · rw [hd]
      exact retiredDie_retiredNow _ _ _ _ _
    · rw [hd]
      exact retiredDie_rd _ _ _ _ _
    · rw [hd]
      exact RegsOnly.retiredDie (oneMore (s.here d)) _ _ _ _
    · rw [he]
      exact ((OnlyIn.ptk (s.here d) _).mono (by decide)).trans (OnlyIn.retiredDie (oneMore (s.here d)) _ _ _ _)
  · rw [partRetire_full _ _ _ (x := s.here d) hn]
    exact .refl _ _
  · have hparts : (s.here d).ptk.parts = [p] := hp
    have he : assembledVerdict (cls.map (·.val)) conf.toNat feat (s.here d) = retiredDie (s.here d) p (cls.map (·.val)) conf.toNat feat :=
      (assembledVerdict_one _ _ _ (x := s.here d) hs hp hr hb hl).trans (retire_of_no_outcome _ _ _ fun q hq _ => by
        rw [hparts] at hq
        rw [List.mem_singleton.1 hq, ho])
    refine ⟨_, rfl, ?_, frame_of_here ?_⟩
    · rw [State.onDie_dieOf]
      show (assembledVerdict _ _ _ (s.here d)).ptk.parts = _
      rw [he, retiredDie_parts, hparts]
      exact congrArg (· :: []) (if_pos (beq_self_eq_true _))
    · rw [he]
      exact OnlyIn.retiredDie _ _ _ _ _

end Sys2Proof

/-! SUPPORT. A sync record of a word that no tile has: the counterexample to O45. -/

namespace Sys2Proof
open Machine

/-- A word number so high that the word's data stand beyond the tiles' SRAM. -/
def wordBeyond : Nat := 2 ^ 38

/-- Die A in RUN in phase 3 of a changeover, with no group in P1; its one sync record, of the next recipe's program set, makes that word FULL with the value 1. -/
def recordBeyondSram : State :=
  { State.reset with
    a := { DieState.reset .a with
      held := none, dev := .run
      regs := [(rCTX_PART, 16 * 2 ^ 16), (rCTX_CHG, 3 * 256)]
      syn := { (DieState.reset .a).syn with recs := [⟨0, 0, 0, wordBeyond, true, 1, false, 0⟩] } } }

/-- Where that word's data stand. -/
def addrBeyond : Nat := wordAddr .a 0 wordBeyond

/-- The setup of the changeover stores the record's value, and nothing else. -/
theorem changeSetup_stores_beyond : (changeSetup ⟨recordBeyondSram.here .a, recordBeyondSram.mem, []⟩).stores = cellsAt addrBeyond [1, 0, 0, 0] := rfl

theorem byteBeyond_after_setup (t : State) (h : exec (.changeoverSetup .a) recordBeyondSram = .next t) : memGet t.mem addrBeyond = 1 := by
  obtain rfl := Host.Outcome.next.inj h
  have hmem : (recordBeyondSram.onDM .a fun _ => changeSetup).mem = memApply recordBeyondSram.mem (cellsAt addrBeyond [1, 0, 0, 0]) :=
    (State.onDieMem_mem _ _ _).trans (congrArg (memApply recordBeyondSram.mem) changeSetup_stores_beyond)
  have hread := memRead_memApply_cellsAt recordBeyondSram.mem addrBeyond [1, 0, 0, 0] rfl
  rw [← hmem] at hread
  exact (List.cons.inj hread).1

/-- Refutes O45: no hypothesis keeps the word of a sync record, a plain number of the image's, below 256, so the setup of a changeover can store outside the die's tile SRAM. -/
theorem not_changeoverDrainsSetsUpAndSwitches : ¬ Obligations.ChangeoverDrainsSetsUpAndSwitches := by
  unfold Obligations.ChangeoverDrainsSetsUpAndSwitches
  rintro ⟨-, hsetup, -⟩
  obtain ⟨t, ht, -, -, hframe⟩ := hsetup recordBeyondSram .a rfl rfl rfl rfl (by decide) rfl
  have hout : (recordBeyondSram.dieOf .a).notSram addrBeyond := .inr (by decide)
  have hkept : memGet t.mem addrBeyond = 0 := hframe.mem addrBeyond hout
  rw [byteBeyond_after_setup t ht] at hkept
  exact absurd hkept (by decide)

end Sys2Proof
